-- ==== Sys2Proof/Word.lean ====
section
/-! DEFINITION. The widths the manual writes in: bytes of frames and memories, half-words of host addresses,
and the 32-bit register word (00_scope, "Stations and registers"). -/

namespace Sys2Proof

/-- One byte of a frame, of flash or of the Satchel. -/
abbrev Byte := BitVec 8

/-- A 16-bit half-word: a host address, an event code. -/
abbrev Half := BitVec 16

/-- A 32-bit register word. -/
abbrev Word := BitVec 32

end Sys2Proof
end

