-- ==== Sys2Proof/Syntax.lean ====
section
/-! DEFINITION. The commands of the LU848: one constructor of `Instr` for each row of spec/opcode_table.json, in the
table's order, and the operands they carry. The table gives no operands and no bits, so an operand is what the row's
rule says comes from outside the step: a frame's fields, a port or comparator number, a measured quantity, the
outcome of a physical process (a pulse that burned or did not), or a choice the rule leaves to the Pattern's policy.
Log entry 1. -/

namespace Sys2Proof

/-- Who makes an access (R180, R534): the host port, the Graft engine, the Awl, the loader, or a logical stand.
(Log entry 156: DESIGN CHOICE, unsafe.) -/
inductive Requester where
  | host
  | graft
  | awl
  | loader
  | stand (k : Fin 16)
  deriving DecidableEq, Repr

/-- Which power-on cause arrived (Table 3.4): VDD18's POR, both VINs' UVLO, or both together. -/
inductive PorCause where
  | vdd18
  | vin
  | both
  deriving DecidableEq, Repr

/-- A CC line's recognised termination, with the codes of CCSTAT.CC1_SEEN. -/
inductive CcSeen where
  | nothing
  | ra
  | rd
  | rpDefault
  | rp15
  | rp30
  deriving DecidableEq, Repr

/-- The outcomes of a port at a Strap restore (Table 8.6). -/
inductive PortOutcome where
  | held
  | fellBack5v
  | fellBackOff
  | tripped
  | hardReset
  | detached
  | noContract
  | unattached
  deriving DecidableEq, Repr

/-- What the environment shows the start-up of steps 1 and 2 (Table 3.5).
(Log entries 1: DESIGN CHOICE, safe; 29: DESIGN CHOICE, safe.) -/
structure BootEnv where
  /-- The first physical Heartwood row that was not read in the check's time bound (check 6), if any. -/
  lateRow : Option Nat
  /-- The error count of a PUF reconstruction that failed (R481); none when it succeeded. -/
  pufErrors : Option Nat
  /-- The flash answers Graft's journal scan and the journal search. -/
  flashOk : Bool
  /-- The board fits no reserve element (R49). -/
  noReserve : Bool := false
  /-- The flash's write-in-progress bit still reads 1 at the end of step 2 (R627). -/
  flashBusy : Bool := false
  deriving DecidableEq, Repr

/-- What the Pattern's stands do at step 7 of Table 3.5: the manual gives the moment and the registers (R643), the
Pattern's microcode gives the values. (Log entries 1: DESIGN CHOICE, safe; 68: DESIGN CHOICE, safe.) -/
structure PatternStart where
  /-- Register writes in order, as (stand, host address, value): fields marked "Pattern" to which the Pattern states a
  value, Tack stages and commit. -/
  writes : List (Fin 16 × Half × Word)
  /-- Each port's PDO list, Pattern-given (R277, R278). -/
  pdos : List (List Word)
  /-- Each port's own Sink_Capabilities, Pattern-given ("As sink", chapter 10). -/
  sinkPdos : List (List Word)
  /-- Ports whose fast comparator fails the test of R380: (port, voltage comparator). -/
  fastCmpFail : List (Fin 8 × Bool)
  deriving DecidableEq, Repr

/-- The operation of a PORT_CMD frame (Table 8.3). The manual names the frame and the actions Root performs on a
port's balls (R14), not the OP codes. (Log entries 43: DESIGN CHOICE, unsafe; 158: DESIGN CHOICE, unsafe.) -/
inductive PortOp where
  | gatesOn
  | gatesOff
  | fastOff
  | discharge (on : Bool)
  | presentRp (level : Fin 3)
  | presentRd
  | openCc
  | vconn (on : Bool)
  | vset (code : Int)
  | hardReset
  | setFt (ftcfg : Word)
  | setDroop (droopcfg : Word)
  /-- The policy stand's capture request at PGn of the port's number (Table 12.4). (Log entry 158: DEDUCED, unsafe.) -/
  | capture
  deriving DecidableEq, Repr

/-- A cable's Discover Identity answer, as Table 10.3 reads it. (Log entry 107: DESIGN CHOICE, safe.) -/
structure CableInfo where
  fiveAmp : Bool
  eprCapable : Bool
  max50V : Bool
  active : Bool
  deriving DecidableEq, Repr

/-- The messages of Table 10.2, and the VDMs the LU848 knows.
(Log entries 107: DESIGN CHOICE, safe; 157: DESIGN CHOICE, safe; 204: DESIGN CHOICE, safe.) -/
inductive PdMsg where
  | sourceCaps (pdos : List Word)
  | request (rdo : Word)
  | eprRequest (rdo : Word) (pdo : Word)
  | accept
  | reject
  | wait
  | psRdy
  | getSourceCap
  | getSinkCap
  | sinkCaps (frsCurrent : BitVec 2) (pdos : List Word)
  | softReset
  | ping
  | prSwap
  | drSwap
  | vconnSwap
  | frSwap
  | getStatus
  | status
  | alert
  | getPpsStatus
  /-- The four bytes of the PPS Status Data Block (log entry 7). -/
  | ppsStatus (block : Word)
  | getSourceCapExt
  | sourceCapExt
  | getRevision
  | revision (major : Nat)
  | getSourceInfo
  | sourceInfo
  | getManufacturerInfo
  | manufacturerInfo
  | getSinkCapExt
  | sinkCapExt
  | eprModeEnter
  | eprModeExit
  | eprModeAck
  | eprModeEnterFailed
  | eprModeEntered
  | eprSourceCaps (pdos : List Word)
  | eprKeepAlive
  | eprKeepAliveAck
  /-- A Security_Request: for DIGESTS (0), for `len` bytes of the certificate chain from `offset` (1), or a challenge (2),
  with the digest that its answer signs. (Log entry 204: DESIGN CHOICE, safe.) -/
  | securityRequest (kind : Fin 3) (offset len : Nat) (digest : List Byte)
  /-- DIGESTS (0), a part of the chain (1) with the certificates it completes and the largest of them, or the
  challenge's answer (2), its signature; `last` with the chain's last part. (Log entry 204: DESIGN CHOICE, safe.) -/
  | securityResponse (phase : Fin 3) (data : List Byte) (certs largest : Nat) (last : Bool)
  | notSupported
  /-- Any message of Table 10.2's Not_Supported row. -/
  | unsupported
  | discoverIdentity
  | discoverIdentityAck (cable : CableInfo)
  | discoverSvids
  | discoverModes (svid : Half)
  | enterMode (svid : Half)
  | exitMode (svid : Half)
  | modeAck (svid : Half) (entered : Bool)
  | discoverSvidsAck (svids : List Half)
  | discoverModesAck (svid : Half) (modes : List Word)
  | vdmNak
  /-- A structured VDM request to a mode that is not entered (class 19). -/
  | vdmUnentered
  /-- A VDM response with no request outstanding (class 20). -/
  | vdmUnsolicited
  /-- The Hush VDMs of Table 9.5: the VDM header, and the VDO where there is one. -/
  | hushReq (header vdo : Word)
  | hushAck (header vdo : Word)
  | hushNak (header : Word)
  | hushBusy (header : Word)
  | bistCarrier
  | bistTestData
  | goodCrc
  /-- A reserved message type (class 18). -/
  | reservedType
  deriving DecidableEq, Repr

/-- A fault of a packet's own form (classes 2, 13 to 15 and 17 of Table 10.5), decided on the message header, whose
layout USB PD fixes. (Log entry 159: DESIGN CHOICE, safe.) -/
inductive PdFlaw where
  | msgIdRepeat
  | badHeader
  | badExtHeader
  | chunkOrder
  | extTooLong
  deriving DecidableEq, Repr

/-- Which ordered set a packet carries. -/
inductive Sop where
  | sop
  | sopPrime
  | sopDouble
  deriving DecidableEq, Repr

/-- What the rules leave to the Pattern's policy at a received message (R281, R286, R291, "As sink").
(Log entries 1: DESIGN CHOICE, safe; 106: DEDUCED, unsafe; 156: DESIGN CHOICE, unsafe.) -/
structure PdPolicy where
  /-- The policy holds the group's power budget: the engine answers Wait (R281). -/
  holdBudget : Bool
  /-- The policy's answer to a swap that PDCFG leaves to it (code 0b10). -/
  acceptSwap : Bool
  /-- The policy accepts the partner's FRS current (R291). -/
  frsAccept : Bool
  /-- A PDO position other than 1 that the policy selects as sink, with its operating current in 10 mA units. -/
  sinkPick : Option (Nat × Nat)
  /-- The port is allowed an authentication again after a Soft_Reset (R304). -/
  restartAuth : Bool
  /-- The reduced offer that follows nBusyCount Wait answers (R281). -/
  reducedOffer : List Word
  /-- The message's header names Revision 2.0 (R271). -/
  rev2 : Bool
  deriving DecidableEq, Repr

/-- A packet as Root sees it end (R250 to R256), with the policy's answers to its message.
(Log entry 159: DESIGN CHOICE, safe.) -/
structure BmcPacket where
  crcOk : Bool
  sop : Sop
  flaw : Option PdFlaw
  msg : PdMsg
  pol : PdPolicy
  deriving DecidableEq, Repr

/-- What a Pattern asks its engine to start (R286; Discovery and Enter Mode of Table 10.1; Soft_Reset toward the cable).
(Log entry 174: DESIGN CHOICE, safe.) -/
inductive PdOwn where
  | prSwap
  | drSwap
  | vconnSwap
  | discoverSvids
  | discoverModes (svid : Half)
  | enterMode (svid : Half)
  | exitMode (svid : Half)
  | cableSoftReset
  | getStatus
  | getPpsStatus
  | discoverIdentity
  /-- New Source_Capabilities from these PDOs (R353). -/
  | offer (pdos : List Word)
  deriving DecidableEq, Repr

/-- The Try.SRC path timers (Table 9.3). -/
inductive TryTimer where
  | drpTry
  | tryCcDebounce
  | drpTryWait
  | tryTimeout
  deriving DecidableEq, Repr

/-- The debounce timers of R261, with its codes 0, 1 and 2. -/
inductive DebTimer where
  | cc
  | pd
  | tryCc
  deriving DecidableEq, Repr

/-- Fast trip kinds (Table 11.2), with LAST_TRIP's codes 1 to 3. -/
inductive TripKind where
  | forward
  | reverse
  | overVoltage
  deriving DecidableEq, Repr

/-- The Hard Reset timers of the source engine (Table 10.9). -/
inductive HrTimer where
  | psHardReset
  | srcRecover
  | hardResetComplete
  deriving DecidableEq, Repr

/-- The source-capability timers. -/
inductive CapTimer where
  | sendSourceCap
  | noResponse
  deriving DecidableEq, Repr

/-- A channel's calibration window (R389 to R391). -/
structure CalWin where
  /-- The result's difference from the correction in force, in ppm of full scale. -/
  dev : Int
  /-- The Kelvin node's shift under 10 µA, in mV (zero windows). -/
  shiftMv : Nat
  deriving DecidableEq, Repr

/-- One 1 ms window's pair of inputs at a port (R381 to R385). -/
structure Reading where
  /-- Average of Pn_VBUS against Pn_VBUSK, in 0.25 mV units. -/
  vbus : Nat
  /-- Average of Pn_ISP − Pn_ISN, in nV. -/
  shuntNv : Int
  calV : Option CalWin
  calI : Option CalWin
  /-- The group's VIN in mV, as the loop reads it (R348). -/
  vinMv : Nat
  /-- A channel that gave no result in the window: 0 voltage, 1 current (CAUSE 0x6). -/
  silent : Option (Fin 2) := none
  deriving DecidableEq, Repr

/-- A Rein frame's header (Table 14.2). (Log entry 157: DESIGN CHOICE, safe.) -/
structure ReinHdr where
  hops : Fin 16
  src : Fin 8
  bcast : Bool
  dest : Fin 8
  seq : Byte
  deriving DecidableEq, Repr

/-- What one 1 s (or 8 s) gauge sample measures (R448 to R450). (Log entry 157: DESIGN CHOICE, safe.) -/
structure GaugeIn where
  /-- Reserve voltage, mV. -/
  rsvMv : Nat
  /-- Charge counted into the reserve since the last sample, µC. -/
  chargeUc : Nat
  /-- Charge drawn from the reserve since the last sample, µC. -/
  drawUc : Nat
  /-- A charging rise that has just ended: its rise in mV and the charge counted over it in µC (R449). -/
  rise : Option (Nat × Nat)
  /-- Harvested power, µW, and whether the harvester delivers. -/
  harvestUw : Nat
  /-- The sample finds the element open (R465, charger idle). -/
  openRsv : Bool
  deriving DecidableEq, Repr

/-- What one Bark sample shows (R511 to R514, R518): the sampled sensors' conditions, the continuous sensors' events of the
same instant, and which sampled sensor ran a self-test that did not show its forced condition. Bits of Table 17.1.
(Log entry 157: DESIGN CHOICE, safe.) -/
structure BarkIn where
  cond : BitVec 7
  selfTestFail : BitVec 7
  deriving DecidableEq, Repr

/-- The two outcomes of a flash operation that matter to its requester. (Log entry 138: DESIGN CHOICE, unsafe.) -/
inductive FlashRes where
  | ok
  | fail
  deriving DecidableEq, Repr

/-- A RESYNC frame: one port's, or the ending one (Table 8.3). -/
inductive ResyncFrame where
  | port (p : Fin 8)
  | ending
  deriving DecidableEq, Repr

/-- A reliable Strap frame (Table 8.3), by what the sender puts into it; the rest of its contents stands in the sender's
state. (Log entry 40: DESIGN CHOICE, unsafe.) -/
inductive StrapBody where
  | trip (p : Fin 8)
  | alarm
  | resync (f : ResyncFrame)
  | ccEvent (p : Fin 8)
  | pdRx (p : Fin 8)
  | pdTx (p : Fin 8) (own : Option PdOwn)
  | portCmd (p : Fin 8) (op : PortOp)
  | portRsp (p : Fin 8)
  | fallbackSet (p : Fin 8) (off : Bool)
  | params
  | load (offset : Half)
  deriving DecidableEq, Repr

/-- What a receiver sees of a frame of the Strap or of Rein (R196, R199, R201, R411, R415): its data characters in order, and whether a character had a parity
error, a control character was invalid, or the frame ended with EEF. -/
structure StrapLine where
  chars : List Byte
  parityErr : Bool
  badControl : Bool
  eef : Bool
  deriving DecidableEq, Repr

/-- How a Hush request ended (R267). -/
inductive HushRefusal where
  | nak
  | busy
  | timeout
  deriving DecidableEq, Repr

/-- The read-back of a pulsed Heartwood cell: 1 at the tightened margin, 1 at the normal margin only, or 0. -/
inductive CellOutcome where
  | pass
  | weak
  | blank
  deriving DecidableEq, Repr

/-- The commands, one per row of spec/opcode_table.json, in its order.
(Log entries 1: DESIGN CHOICE, safe; 157: DESIGN CHOICE, safe.) -/
inductive Instr where
  -- Supplies, reset and boot (chapter 3)
  | powerOnReset (c : PorCause)
  | rstNAssert (lowNs : Nat)
  | bootStart (env : BootEnv)
  | patternFetchDone (rootOk patOk : Bool)
  | signatureVerified
  | grainSelftestDone (fails : BitVec 16) (pat : PatternStart)
  | groupUnpowered (g : Fin 2) (vinMv : Nat)
  | groupPowered (g : Fin 2) (vinMv : Nat)
  | vddioLevelSample (mv : Nat)
  | vddioUv
  | vcoreUv (meas : Byte) (lasted : Bool)
  | refoscStop
  | vcoreLoopEval (floor meas : Byte) (slack : List Int) (vdd18Mv : Nat)
  | vcoreStepUp (slack : Int) (vdd18Mv : Nat)
  | vcctlWrite (who : Requester) (v : Word)
  -- Register access and the host port (chapter 6)
  | registerWrite (who : Requester) (addr : Half) (v : Word)
  | hostRead (n : Nat)
  | ident (seq : Byte)
  | regRead (seq : Byte) (addr : Half) (count : Byte)
  | regWrite (seq : Byte) (addr : Half) (vals : List Word)
  | regModify (seq : Byte) (addr : Half) (mask v : Word)
  | summary (seq : Byte) (tempCrown tempRoot : Int)
  | ringRead (seq index count : Byte)
  | journalRead (seq : Byte) (index : Half) (count : Byte)
  | flashRead (seq : Byte) (addr : Word) (len : Half)
  | flashWrite (seq : Byte) (addr : Word) (data : List Byte)
  | flashErase (seq : Byte) (addr : Word)
  | hwBurn (seq row source pulse flags : Byte) (mask : BitVec 64) (vppMv : Nat) (tempC : Int)
  | hwLock (seq wregions rregions : Byte)
  | hwEvalLock (seq : Byte) (key sig : List Byte)
  | nonceGet (seq : Byte)
  | signed (seq inner : Byte) (key sig payload : List Byte)
  | keyProvision (seq : Byte) (key sig : List Byte) (item : Byte) (value : List Byte)
  | keyReprovision (seq : Byte) (key sig confirm : List Byte)
  | patternKeySet (seq : Byte) (key sig eph ct tag : List Byte)
  | graftOpen (seq : Byte) (manifest : List Byte) (start : Byte) (r : FlashRes)
  | graftPiece (seq : Byte) (index : Half) (crc : Word) (data : List Byte) (r : FlashRes)
  | graftState (seq : Byte)
  | graftVerify (seq : Byte) (r : FlashRes)
  | graftDiscard (seq : Byte) (r : FlashRes)
  | reinRelay (seq dest : Byte) (frame : List Byte)
  | reset (seq : Byte) (magic : List Byte)
  | resetTimeout
  | nonceExpire
  | jobDone
  | flashOpDone (r : FlashRes) (markOk : Bool)
  -- Seam (chapter 7)
  | seamClaim (who : Requester) (alg : BitVec 2) (release : Bool)
  | seamRelease (who : Requester)
  | seamGrant
  | seamLeaseRevoked
  | seamDataWrite (who : Requester) (width : Fin 3) (v : Word)
  | seamFoldWrite (who : Requester) (width : Fin 3) (v : Word)
  | seamCompare (who : Requester) (expect : Word)
  -- Strap (chapter 8)
  | tick (gap : Bool)
  | rootHeartbeatSend
  | heartbeat (fromRoot : Bool) (missed : Nat)
  | ack (atCrown : Bool)
  | strapFrameBad (atCrown : Bool) (line : StrapLine) (sent : Option StrapBody)
  | strapRetransmit (byCrown : Bool)
  | trip (p : Fin 8)
  | alarm
  | resync (f : ResyncFrame)
  | ccEvent (p : Fin 8)
  | pdRx (p : Fin 8)
  | pdTx (p : Fin 8) (own : Option PdOwn)
  | portCmd (p : Fin 8) (op : PortOp)
  | portRsp (p : Fin 8)
  | fallbackSet (p : Fin 8) (off : Bool)
  | params
  | load (offset : Half)
  | metroFrame (ports : List (Fin 8))
  | stats (laneRate : Byte)
  | rootStrapLoss
  | crownStrapLoss (byHeartbeat : Bool)
  | crownResetWireAssert
  | crownResetWireRelease
  | holdExpire (p : Fin 8)
  -- Type-C front end (chapter 9)
  | ccDebounceExpire (p : Fin 8)
  | pdDebounceExpire (p : Fin 8)
  | debounceExtended (p : Fin 8) (timer : DebTimer)
  | drpToggle (p : Fin 8)
  | tryTimerExpire (p : Fin 8) (t : TryTimer)
  | vbusDisconnect (p : Fin 8)
  | vconnOcTrip (p : Fin 8)
  | ccOvpTrip (p : Fin 8) (line : Bool)
  | errorRecoveryEnd (p : Fin 8) (ccLow : Bool)
  | ccConfigWrite (who : Requester) (p : Fin 8) (reg : Fin 3) (v : Word)
  | bmcPacketRx (p : Fin 8) (pkt : BmcPacket)
  | floodSet (p : Fin 8) (high : Bool) (inPacket : Option Nat)
  | floodClear (p : Fin 8) (inPacket : Bool)
  | hushRequest (p : Fin 8) (w : Option (Requester × Word))
  | hushRefused (p : Fin 8) (cause : HushRefusal)
  | hushWindowOpen (p : Fin 8)
  | hushWindowEnd (p : Fin 8)
  -- Power Delivery (chapter 10)
  | hardResetSignal (p : Fin 8)
  | srcTransitionExpire (p : Fin 8)
  | pdTransitionFail (p : Fin 8)
  | ppsTimeout (p : Fin 8)
  | eprKeepaliveTimeout (p : Fin 8)
  | senderResponseTimeout (p : Fin 8)
  | goodcrcTimeout (p : Fin 8)
  | swapTimeout (p : Fin 8)
  | vconnSourceOnTimeout (p : Fin 8)
  | authWaitExpire (p : Fin 8)
  | discoverIdentityTimer (p : Fin 8)
  | sinkTxExpire (p : Fin 8)
  | chunkTimeout (p : Fin 8)
  | sourceCapTimer (p : Fin 8) (t : CapTimer)
  | backfeedEnd (p : Fin 8) (detach : Bool)
  -- Cinch (chapter 11)
  | inrushSlewEnd (p : Fin 8)
  | inrushFail (p : Fin 8) (vbusMv : Nat)
  | gateFault (p : Fin 8) (gateB : Bool) (mv : Nat)
  | fastTrip (p : Fin 8) (kind : TripKind) (measured : Nat)
  | unlatch (who : Requester) (p : Fin 8)
  | forceOff (who : Requester) (p : Fin 8) (on : Bool)
  | dischargeEnd (p : Fin 8) (vbusMv : Nat)
  | rearm (who : Requester) (g : Fin 2)
  | inputDroop (p : Fin 8) (vinMv : Nat) (droopUs : Nat)
  | droopRecover (p : Fin 8)
  | backfeedGcutClose (g : Fin 2)
  | complianceEnter (p : Fin 8)
  | compliancePersist (p : Fin 8)
  | complianceExit (p : Fin 8)
  -- Comparators and generators (chapter 12)
  | cmpLatch (n : Fin 8) (inputUv : Int)
  | blankEnd (n : Fin 8) (inputUv : Int)
  | cmpSelftest (who : Requester) (test : BitVec 3) (cmp : Fin 8)
  | cmpSelftestDone (sample exchanged : Bool)
  | pgRun (who : Requester) (n : Fin 8)
  | pgStop (who : Requester) (n : Fin 8)
  | pgPeriodStart (n : Fin 8)
  | pgWidthEnd (n : Fin 8)
  | captureRead (seq : Byte) (n : Fin 8) (second : Bool)
  -- Metrology (chapter 13)
  | metroReading (p : Fin 8) (r : Reading)
  | ppsClFloor (p : Fin 8)
  | refCheck (dev : Int)
  -- Rein (chapter 14)
  | groupEvent (own : Bool) (h : ReinHdr) (code : Half) (data : BitVec 48)
  | enum (h : ReinHdr) (id : Nat) (calGen : Half) (participant : Bool)
  | reinEnumStart
  | enumResend
  | reinFrameBad (line : StrapLine)
  | reinSilence
  | reinLoopbackDone (ok : Bool) (devices : Fin 9)
  | brk (head : Fin 8) (cause : BitVec 2) (before : Bool) (position : Nat)
  | mark (k : Nat) (sampleUv : Nat)
  | veto (addr : Fin 8)
  | announce (h : ReinHdr) (gen : Half) (src segment : Bool)
  | sweepData (h : ReinHdr) (gen : Half) (reading : Nat)
  | commit (h : ReinHdr) (gen : Half) (mask : Byte) (readings : List Nat)
  | abort (h : ReinHdr) (gen : Half) (reason : Byte)
  | sweepTimer
  | sweepNow (who : Requester)
  | sweepMarkSend (sampleUv : Nat)
  | sweepAdopt
  | relayReq (h : ReinHdr) (chunk : Byte) (last : Bool) (bytes : List Byte)
  | relayRsp (h : ReinHdr) (chunk : Byte) (last : Bool) (bytes : List Byte)
  | relayTimeout
  -- Sap (chapter 15)
  | sapStart
  | sapStop
  | mpptSample (vocMv : Nat)
  | chargeEnd (rsvMv : Nat)
  | chargeRestart (rsvMv : Nat)
  | sapChgTemp (tenthsC : Int)
  | chgTempResume
  | gaugeSample (g : GaugeIn)
  | sapClockCarry
  | thresholdWrite (who : Requester) (which : Fin 4) (v : Word)
  | wakeBall
  | wakeTimer
  | wakeHoldEnd
  | reserveLost (rsvMv : Nat)
  | sapBridgeZeroize (bridgeMs : Nat)
  | reserveReturned (bridgeMs : Nat)
  -- Pocket and Awl (chapter 16)
  | awlUnitStart
  | awlUnitDone (ok : Bool) (awlUs : Nat)
  | recordReadDone
  | recordWriteDone
  | wcSatZeroize (who : Requester)
  | awlRngFail (test : Byte)
  | awlwaitRead (seq : Byte)
  -- Bark, Satchel, Tack (chapter 17)
  | barkSample (b : BarkIn)
  | barkGlitch (sensor : Fin 7)
  | barkActiveClear (sensor : Fin 7)
  | bkraiseWrite (who : Requester) (v : Word)
  | satchelRead (who : Requester) (line : Nat) (found : Option (BitVec 256))
  | satchelPartialWrite (who : Requester) (addr : Nat) (bytes : List Byte) (found : Option (BitVec 256))
  | satchelLineWrite (who : Requester) (line : Nat) (bytes : List Byte)
  | satwinWrite (who : Requester) (k : Fin 8) (isB : Bool) (v : Word)
  | tkcommit (who : Requester) (next : Half)
  | tackCommit
  | epochSatClear (who : Requester)
  -- Watchdogs (chapter 18)
  | wdAArmed (who : Requester) (v : Word)
  | wdaService (who : Requester) (v : Word)
  | wdaWindowOpen
  | wdAExpired
  | wdbWindowOpen
  | wdbService
  | wdBExpired (early : Bool)
  | wdbStormClear
  | wdClockMonitorTrip (isB : Bool)
  | wdMonLost (isB : Bool)
  | wdClockReturn (isB : Bool)
  | supervisorTick (tokens : BitVec 16)
  | standReloaded (k : Fin 16) (badLine : Option Nat)
  -- Graft (chapter 19)
  | confirm (who : Requester) (v : Word)
  | graftCopyBlock (r : FlashRes)
  | graftTrialTimeout
  -- Heartwood engine (chapter 4)
  | hwBurnStart (tempC : Int) (vppMv : Nat)
  | hwCellPulse (outcome : CellOutcome) (vppMv : Nat)
  | hwShadowApply (who : Requester) (v : Word)
  | hwShadowRemove (who : Requester) (v : Word)
  -- Ring and journal (chapter 20)
  | journalSearch (r : FlashRes)
  | journalDrop
  | ringTimeCarry
  | uptimeCarry
  | hostFrameBad (mosi : List Byte)
  | ccRecognitionChange (p : Fin 8) (cc1 cc2 : CcSeen)
  | hardResetTimer (p : Fin 8) (t : HrTimer)
  deriving DecidableEq, Repr
end Sys2Proof
end

