-- ==== Sys2Proof/Decode.lean ====
section
/-! DEFINITION. The command that a word spells by the bits of spec/opcode_table.json. Every row's list of fields is empty:
a command is a bus frame, a pin's event or a moment, and none has a word. The bytes of host frames are read in
Machine/HostCmd.lean. -/

namespace Sys2Proof

/-- No row gives bits, so no word spells a command. (Log entry 1: DESIGN CHOICE, safe.) -/
def decodeTableWord (_nbits _w : Nat) : Option Instr := none

end Sys2Proof
end

