-- ==== Sys2Proof/Machine/State.lean ====
section
/-! DEFINITION. The state of the LU848 as plain data: every register, counter, queue, pin-facing latch and memory
that chapters 03 to 20 of spec/ give the two dies, and the queue of waiting commands. INVENTORY.md lists each piece
with its rule and its reset value. `State.reset` is the device just after a VDD18 power-on (Table 3.4), before t0. -/

namespace Sys2Proof.Machine

/-- An event or statistics counter of R11 (Table 0.4): it stops at all-ones, and SAT sets at the first event that
arrives while it already reads all-ones. The width is given where it counts (`EvCount.bump`). -/
structure EvCount where
  n : Nat := 0
  sat : Bool := false
  deriving DecidableEq, Repr

/-! ### Supplies, reset and boot (chapter 03) -/

/-- Where the boot stands (Tables 3.5 and 3.6). -/
inductive Phase where
  /-- Power-on or RST_N reset: waiting for t0 (R55). -/
  | resetHold
  /-- Crown reset or WD-B expiry: Crown is in reset and its boot starts next. -/
  | crownReset
  /-- The Heartwood integrity hold (R90). -/
  | integrityHold
  /-- Step 3: the slot's images are being read. -/
  | fetch
  /-- Step 4: the last byte is read and the signatures are being verified. -/
  | verify
  /-- Step 5: the RESYNC exchange, PARAMS and the Root code load. -/
  | rootLoad
  /-- Step 6: the Grain self-test. -/
  | selftest
  /-- Step 7 reached. -/
  | ready
  /-- Limp (R71, R144). -/
  | limp
  deriving DecidableEq, Repr

/-- The supplies, the core-voltage loop and the oscillators. (Log entry 161: DESIGN CHOICE, unsafe.) -/
structure Power where
  vdd18 : Bool := false
  vddio : Bool := false
  vddio33 : Bool := false
  rstNHigh : Bool := false
  groupUp : Vector Bool 2 := .replicate 2 true
  /-- GROUP_UNPOWERED has been raised for the group that is down (R56). -/
  groupTold : Vector Bool 2 := .replicate 2 false
  vinMv : Vector Nat 2 := .replicate 2 0
  vcctl : Word := 0x00FA0001
  setpoint : Nat := 0x6E
  timingFloor : Nat := 0
  vcoreMeas : Byte := 0
  atMax : Bool := false
  override : Bool := false
  ovrSeen : Bool := false
  /-- VDD18 in mV as last measured (R79). (Log entry 161: DESIGN CHOICE, unsafe.) -/
  vdd18Mv : Nat := 1800
  refoscRunning : Bool := true
  /-- Root has restarted a stopped oscillator, which does not run within Table 21.6 yet (R645). -/
  refoscRestart : Bool := false
  /-- Root's report of a stop, the number of ports that took their fallback, kept until Crown has acknowledged it (R646). -/
  refoscReport : Option Nat := none
  deriving DecidableEq, Repr

/-- The reset causes that could still arrive in the instant of the reset that stands (R66): WD-B's, WD-A's, the host
RESET's, the trial's and VCORE undervoltage. -/
structure Together where
  wdb : Bool := false
  wda : Bool := false
  host : Bool := false
  graft : Bool := false
  vcore : Bool := false
  deriving DecidableEq, Repr

/-- RSTCAUSE, BOOTSTAT and the progress of a boot. -/
structure Boot where
  phase : Phase := .resetHold
  t0 : Nat := 0
  /-- The slot being tried: 0 rootstock, 1 trial. -/
  slot : Fin 2 := 0
  second : Bool := false
  cause : BitVec 14 := 1
  resetCount : EvCount := {}
  bootTime : Nat := 0
  bootSlot : BitVec 2 := 0
  rootReloaded : Bool := false
  limp : Bool := false
  failFirst : BitVec 3 := 0
  ready : Bool := false
  /-- The device is in the evaluated configuration: EVAL_LOCK read 1 at this boot's start (R115). -/
  evaluated : Bool := false
  /-- Root has not left its Reset hold yet: from a power-on or RST_N, or the integrity hold, until the boot completes (R62). -/
  cold : Bool := true
  together : Together := {}
  /-- RSTCAUSE bits of the Crown reset that stands (R66). -/
  arrived : BitVec 14 := 0
  deriving DecidableEq, Repr

/-! ### Heartwood (chapter 04) -/

/-- One physical row: 64 data cells as read at the normal margin, which of those read 0 at the tightened margin
(undetermined, R649), eight parity cells and CLOSED. -/
structure HwRow where
  data : BitVec 64 := 0
  weak : BitVec 64 := 0
  parity : Byte := 0
  closed : Bool := false
  deriving DecidableEq, Repr

/-- One cell of the array: physical row, and 0–63 data, 64–71 parity, 72 CLOSED. -/
structure HwCell where
  row : Nat
  bit : Nat
  deriving DecidableEq, Repr

/-- What a burn does. -/
inductive BurnKind where
  | row (row : Byte) (vpp : Bool) (pulse : Nat) (close : Bool) (mask : BitVec 64)
  | lock (w r : Byte)
  | evalLock
  | arb (v : Nat)
  deriving DecidableEq, Repr

/-- A burn waiting for the programming engine (R97), with the conditions measured when it starts (R98). -/
structure BurnJob where
  kind : BurnKind
  /-- The host's long job waits for it. -/
  host : Bool
  deriving DecidableEq, Repr

/-- The running burn. -/
structure RunBurn where
  job : BurnJob
  /-- Cells still to burn, the first being pulsed. -/
  todo : List HwCell
  /-- Pulses that the first cell has failed (R100). -/
  fails : Nat := 0
  /-- The physical row the burn writes now: the main row's, or a spare's (R102). -/
  target : Nat := 0
  repaired : Bool := false
  /-- The spares this burn has taken; one that failed wholly blank is not taken again (R102). -/
  tried : List Nat := []
  /-- Spares whose redirection entries are still to be burned. -/
  owed : List Nat := []
  /-- Failed copies of an anti-rollback advance (R118): H0, H1. -/
  fail0 : Bool := false
  fail1 : Bool := false
  /-- Parity and CLOSED have been appended (R101). -/
  closing : Bool := false
  deriving DecidableEq, Repr

structure Heart where
  cells : List (Nat × HwRow) := []
  shadows : List (Nat × BitVec 64) := []
  shFull : Bool := false
  rdSel : Byte := 0
  shSel : Byte := 0
  shLo : Word := 0
  shHi : Word := 0
  burnRes : Word := 0
  waiting : List BurnJob := []
  running : Option RunBurn := none
  failRow : Nat := 0
  failKind : Nat := 0
  openRows : Nat := 0
  sparesUsed : Nat := 0
  voteFixed : Bool := false
  pendingLock : Bool := false
  integrityOk : Bool := false
  deriving DecidableEq, Repr

/-! ### The Grain and the Pattern (chapter 05) -/

/-- One logical stand. (Log entry 10: DEDUCED, unsafe.) -/
structure Stand where
  role : Byte := 0
  port : Byte := 0xFF
  tackClass : Fin 8 := 0
  phys : Nat := 0
  slack : Int := 0
  reloads : EvCount := {}
  missed : Nat := 0
  live : Bool := false
  /-- Times of the stalls counted by R130. -/
  stalls : List Nat := []
  reloading : Bool := false
  /-- Not reloaded again (R130), or failed self-test with no spare (R144). -/
  out : Bool := false
  deriving DecidableEq, Repr

structure Grain where
  stands : Vector Stand 16 := Vector.ofFn (fun k => { phys := k.val : Stand })
  present : BitVec 16 := 0
  fault : BitVec 16 := 0
  portStand : Word := 0x76543210
  stallCount : EvCount := {}
  /-- The supervisor has stopped servicing WD-B (R130, the poisoned-line collision of chapter 05). -/
  supStopped : Bool := false
  /-- The supervisor's own stand has stalled: no token is collected any more (R131). -/
  supStalled : Bool := false
  deriving DecidableEq, Repr

/-- The running Pattern's identity and loader status. -/
structure Pattern where
  id : Word := 0
  ver : Word := 0
  stamp : Word := 0
  secVer : Byte := 0
  standCount : Byte := 0
  portMask : Byte := 0
  encrypted : Bool := false
  unowned : Bool := false
  signer : BitVec 2 := 0
  reasonFirst : Byte := 0
  reasonSecond : Byte := 0
  relocations : Nat := 0
  stolx : Word := 0
  digest : List Byte := List.replicate 32 0
  hushSvid : Half := 0
  fallback : List Byte := List.replicate 8 0
  classes : Vector Word 24 := .replicate 24 0
  deriving DecidableEq, Repr

/-! ### The host port (chapter 06) -/

/-- LAST_CMD to LAST_TIME of SUMMARY (R178). -/
structure LastCmd where
  cmd : Byte := 0
  seq : Byte := 0
  rsp : Byte := 0
  station : Byte := 0
  detail : Word := 0
  time : Word := 0
  deriving DecidableEq, Repr

/-- The command holding the slot (R155). -/
structure HostJob where
  cmd : Byte
  seq : Byte
  station : Nat
  long : Bool
  /-- The long job's completion, once its work is done: RSP and payload. -/
  result : Option (Byte × List Byte) := none
  /-- A response that waits for Seam (R181): RSP and payload. -/
  answer : Option (Byte × List Byte) := none
  /-- The completion waits for Seam. -/
  due : Bool := false
  /-- The command whose work waits for Seam, for the Awl or for the flash port (Table 1.4). -/
  work : Option Instr := none
  deriving DecidableEq, Repr

/-- A frame in the response buffer (Table 6.3): RSP, SEQ, payload and the station its CRC folds in; and CMD of the command
it answers. -/
structure RspFrame where
  cmd : Byte := 0
  rsp : Byte := 0
  seq : Byte := 0
  payload : List Byte := []
  station : Nat := 0
  deriving DecidableEq, Repr

structure HostPort where
  verdict : Byte := 0
  verdictSeq : Byte := 0
  takenSeq : Byte := 0
  /-- SEQ and CRC of the last TAKEN request; none since the port opened. -/
  taken : Option (Byte × Word) := none
  buf : RspFrame := {}
  /-- The buffer holds a complete response not yet read in full. -/
  rspReady : Bool := false
  job : Option HostJob := none
  jobDone : Bool := false
  /-- A RESET whose OK response has not been read to its last CRC byte (R168). -/
  resetArmed : Bool := false
  nonce : Option (List Byte) := none
  crcErrs : EvCount := {}
  busyCount : EvCount := {}
  formatSeen : Bool := false
  irqStat : BitVec 12 := 0
  irqEn : BitVec 12 := 0xFFF
  sevThreshold : BitVec 3 := 3
  sumGen : EvCount := {}
  last : LastCmd := {}
  devAlarms : BitVec 11 := 0
  devAlarmsLatched : BitVec 11 := 0
  /-- The request whose check waits for Seam (R181, R185). -/
  asked : Option Instr := none
  /-- Ring time of the last HOST_FRAME_BAD entry (at most one per 100 ms). -/
  badEntryAt : Option Nat := none
  /-- The MISO bytes of the last transaction. -/
  miso : List Byte := []
  deriving DecidableEq, Repr

/-! ### Seam (chapter 07) -/

structure Seam where
  alg : BitVec 2 := 0
  holder : Option Requester := none
  holderAlg : BitVec 2 := 0
  run : Word := 0
  foldDone : Bool := false
  dataSeen : Bool := false
  resultValid : Bool := false
  isMatch : Bool := false
  mismatch : Bool := false
  invalid : Bool := false
  waiting : List (Requester × BitVec 2) := []
  revoked : List Requester := []
  mismatches : EvCount := {}
  revocations : EvCount := {}
  /-- Mismatch interrupts raised and not yet taken: requester, and whether marked INVALID. -/
  irqs : List (Requester × Bool) := []
  deriving DecidableEq, Repr

/-! ### The Strap (chapter 08) -/

/-- A heartbeat on its way (Table 8.3): TIME and FLAGS. -/
structure Beat where
  time : Word
  lost : Bool
  code : Bool
  /-- ACKSEQ of its header, where ACKV is set (R202). -/
  ack : Option (BitVec 4) := none
  deriving DecidableEq, Repr

/-- A reliable frame on its way: its header (Table 8.2), what it carries, and its payload bytes where Table 8.3 gives their
coding. -/
structure SentFrame where
  hdr : Half
  body : StrapBody
  payload : Option (List Byte) := none
  deriving DecidableEq, Repr

inductive LinkState where
  | up
  | lost
  | resync
  | notYetUp
  deriving DecidableEq, Repr

/-- A frame as the lanes carry it (R199): toward Crown or not, its header, and its data characters where the spec gives the
payload's coding. -/
structure LaneFrame where
  toCrown : Bool
  hdr : Half
  chars : Option (List Byte)
  deriving DecidableEq, Repr

/-- One end's reliable frames (R202, R203). -/
structure Window where
  nextSeq : BitVec 4 := 0
  /-- Sent and not acknowledged, oldest first; at most 8. -/
  unacked : List SentFrame := []
  /-- Frames that wait because 8 are unacknowledged, in service-class order (R200), with their payloads. -/
  held : List (StrapBody × Option (List Byte)) := []
  /-- The next SEQ this end accepts from the other. -/
  rxNext : BitVec 4 := 0
  /-- A received reliable frame has not been acknowledged yet. -/
  ackDue : Bool := false
  deriving DecidableEq, Repr

/-- An event as raised: code, byte 8 of its Ring entry, severity, and event data (R603). -/
structure Event where
  code : Half
  src : Byte := 0xFF
  sev : Nat
  data : List Byte := []
  deriving DecidableEq, Repr

/-- A port's Root hold (R218 to R221, R224, R648, R127). -/
structure HoldPort where
  /-- The port is in hold: the loss is declared and the hold has not ended. -/
  inHold : Bool := false
  timerRunning : Bool := false
  frozen : Bool := false
  /-- What has happened since the loss began, for R648. -/
  tripped : Bool := false
  /-- KIND and VALUE of a trip that Root has not reported yet (TRIP). -/
  tripDue : Option (Byte × Half) := none
  detached : Bool := false
  hardReset : Bool := false
  fellBack : Bool := false
  /-- The fallback taken was 0x01. -/
  fellBackOff : Bool := false
  hadContract : Bool := false
  wasAttached : Bool := false
  wasSource : Bool := false
  /-- The OUTCOME sent in this loss's RESYNC (R224). -/
  outcome : Option PortOutcome := none
  /-- The fallback Root applies (R222): true for 0x01. -/
  fallbackOff : Bool := false
  /-- The Rp level of the port's Type-C current, as Root held it when the hold or the fallback began (R220). -/
  rpLevel : Fin 3 := 0
  /-- HOLD_Pn in 2 ms units, as PARAMS gave it. -/
  holdCode : Nat := 0
  /-- The port alone is in hold for its stalled stand (R127). -/
  standHold : Bool := false
  /-- Ready came while the Strap was lost: the stand takes the port up, as at a boot, with the restore (R227). -/
  bootDue : Bool := false
  deriving DecidableEq, Repr

structure Strap where
  link : LinkState := .notYetUp
  crownLost : Bool := false
  rootLost : Bool := false
  /-- The Crown-reset wire (R198). -/
  wire : Bool := false
  /-- This loss is one R227 records: by the Crown-reset wire. -/
  wireLoss : Bool := false
  codeRunning : Bool := false
  laneRate : Nat := 0
  rootReason : BitVec 4 := 0
  lossCount : EvCount := {}
  lastCause : BitVec 3 := 0
  lastDuration : Nat := 0
  lossStart : Nat := 0
  rxCrown : EvCount := {}
  rxRoot : EvCount := {}
  /-- Root's own count of discarded frames, reported by STATS. -/
  rootErrs : EvCount := {}
  retx : EvCount := {}
  slips : EvCount := {}
  /-- Root's 1 µs count, the TIME of its heartbeats. -/
  rootTime : Word := 0
  /-- The last TIME Crown received, and the TICKs counted since. -/
  lastTime : Word := 0
  ticksSince : Nat := 0
  /-- TICKs since Crown's last heartbeat (R205); none before the first. -/
  hbTicks : Option Nat := none
  /-- Crown heartbeats sent and not yet received by Root, and Root's toward Crown, oldest first. -/
  crownHb : List Beat := []
  rootHb : List Beat := []
  /-- Consecutive valid Crown heartbeats during a loss (R223). -/
  goodHb : Nat := 0
  compareNext : Bool := false
  crownTx : Window := {}
  rootTx : Window := {}
  /-- Root's loading state: PARAMS received, CODE_SIZE, the DATA of each OFFSET that has arrived. -/
  params : Bool := false
  loadSize : Nat := 0
  loadVer : Word := 0
  loadData : List (Nat × List Byte) := []
  /-- The lowest OFFSET that Crown's next LOAD may carry: they ascend (R209). -/
  loadNext : Nat := 0
  /-- The incomplete load has been repeated once (R210). -/
  retried : Bool := false
  rootCode : List Byte := []
  rootVer : Word := 0
  rootStamp : Word := 0
  codeDigest : List Byte := List.replicate 32 0
  /-- STFALLBK: the acknowledged fallbacks. -/
  fallbackAck : Byte := 0
  /-- Fallbacks that Root has accepted and not yet acknowledged: SEQ, port, and true for 0x01 (R222). -/
  fallbackDue : List (BitVec 4 × Fin 8 × Bool) := []
  /-- Events of what Root did or measured alone: their entries follow the restore. -/
  due : List Event := []
  /-- The port of the next RESYNC frame (R223); 8 when the ending one is due. -/
  resyncNext : Nat := 0
  /-- Crown takes part in a resynchronisation that it has not seen end (R214). -/
  crownResync : Bool := false
  /-- What the last Strap command put on the lanes, in service order (R200). -/
  lanes : List LaneFrame := []
  /-- A load that Root discarded (R210): the highest OFFSET that arrived with every lower one, 0xFFFF if none. -/
  loadFailed : Option Nat := none
  holds : Vector HoldPort 8 := .replicate 8 {}
  deriving DecidableEq, Repr

/-! ### Type-C (chapter 09) -/

/-- STATE of Table 6.10, with its codes in order. -/
inductive CcState where
  | outOfService
  | unattachedSrc
  | unattachedSnk
  | attachWaitSrc
  | attachWaitSnk
  | trySrc
  | tryWaitSnk
  | attachedSrc
  | attachedSnk
  | debugAcc
  | errorRecovery
  | rootHold
  | groupUnpowered
  deriving DecidableEq, Repr

/-- What Root presents on the CC lines (Table 2.8). -/
inductive CcTerm where
  | opened
  | rp (level : Fin 3)
  | rd
  deriving DecidableEq, Repr

/-- HUSHCTL.STATUS, with its codes in order. -/
inductive HushStatus where
  | idle
  | pending
  | granted
  | opened
  | refused
  | notAvailable
  deriving DecidableEq, Repr

/-- A running debounce (R260, R261). -/
structure Debounce where
  timer : DebTimer
  startAt : Nat
  /-- When the flood flag was first set in it (R260). -/
  firstFlood : Option Nat
  deriving DecidableEq, Repr

/-- What a CC_EVENT carries (Table 8.3): the levels, and the attach and the orientation that they show. -/
structure CcReport where
  cc1 : CcSeen
  cc2 : CcSeen
  attach : Bool
  orient : Bool
  deriving DecidableEq, Repr

structure CcPort where
  /-- CCCFG, CCTIME0 and CCTIME1 as written, and as in force (R234). -/
  cfgW : Word := 0
  cfg : Word := 0
  time0W : Word := 0
  time0 : Word := 0
  time1W : Word := 0
  time1 : Word := 0
  state : CcState := .outOfService
  /-- Root's recognised terminations, and what CCSTAT shows of them. -/
  rootCc1 : CcSeen := .nothing
  rootCc2 : CcSeen := .nothing
  cc1 : CcSeen := .nothing
  cc2 : CcSeen := .nothing
  /-- Changes of recognition that Root has not delivered in CC_EVENT frames yet. -/
  events : List CcReport := []
  term : CcTerm := .opened
  orient : Bool := false
  vconnOn : Bool := false
  vconnOc : Bool := false
  /-- Turned off by R244: off until the port next passes through an Unattached state (R245). -/
  vconnLatched : Bool := false
  ccDischarge : Bool := false
  ccOvp : Bool := false
  ovpTrip : Bool := false
  floodNow : Bool := false
  /-- The high band set the flag. -/
  floodHigh : Bool := false
  /-- The flag has been set since the present packet's preamble began: the band and the bit position (R255). -/
  pktFlood : Option (Bool × Nat) := none
  /-- When the flag last cleared. -/
  lastFlood : Option Nat := none
  /-- The DEB_EXTENDED bit and the debounce that runs. -/
  debExtended : Bool := false
  debounce : Option Debounce := none
  /-- Ra was seen on the other CC during debounce (R242). -/
  raSeen : Bool := false
  floodCfg : Word := 0
  floodPkts : EvCount := {}
  floodIdle : EvCount := {}
  debExts : EvCount := {}
  floodEntryAt : Option Nat := none
  floodUnlogged : Nat := 0
  floodTimes : List Nat := []
  hushAutoAt : Option Nat := none
  hushStatus : HushStatus := .idle
  hushReg : Word := 0
  /-- WINDOW of the request that is out (R263). -/
  hushAsked : Half := 0
  hushOpenAt : Nat := 0
  drpSrcPhase : Bool := true
  debugSource : Bool := false
  deriving DecidableEq, Repr

/-! ### Power Delivery (chapter 10) -/

/-- One violation class at one port (R308). -/
structure VClass where
  count : EvCount := {}
  inWindow : Nat := 0
  level : Nat := 0
  winEnd : Option Nat := none
  last : Option Nat := none
  deriving DecidableEq, Repr

/-- What the engine of a port is doing. -/
inductive PdStep where
  | idle
  /-- Attached as source, before the first Source_Capabilities. -/
  | srcStartup
  /-- Source_Capabilities sent, GoodCRC or Request awaited. -/
  | srcCaps
  /-- Accept sent, tSrcTransition running (R283). -/
  | srcTransition
  /-- The level is moving and PS_RDY is pending. -/
  | srcSettling
  /-- An explicit contract stands. -/
  | ready
  /-- As sink: capabilities awaited. -/
  | snkWaitCaps
  /-- As sink: Request sent. -/
  | snkRequested
  /-- As sink: Accept received, PS_RDY awaited. -/
  | snkTransition
  /-- PR_Swap from source: Accept sent, tSrcTransition to gates off. -/
  | prsSrcAccepted
  /-- PR_Swap from source: gates off, VBUS falling to vSafe0V. -/
  | prsSrcOff
  /-- PR_Swap from source: PS_RDY sent, the partner's awaited (tPSSourceOn). -/
  | prsSrcWait
  /-- PR_Swap from sink: the partner's PS_RDY awaited (tPSSourceOff). -/
  | prsSnkWait
  /-- PR_Swap from sink: VBUS turning on before PS_RDY. -/
  | prsSnkOn
  /-- VCONN_Swap toward the LU848, VCONN turning on. -/
  | vcsOn
  /-- VCONN_Swap away, the partner's PS_RDY awaited. -/
  | vcsOff
  /-- FRS signalled, FR_Swap awaited (tFRSwapInit). -/
  | frsWait
  /-- A Soft_Reset was sent and Accept is awaited. -/
  | softReset
  /-- A swap that this port initiates awaits its answer. -/
  | prsSent
  | drsSent
  | vcsSent
  /-- FR_Swap answered with Accept and PS_RDY, the partner's PS_RDY awaited (R293). -/
  | frsPsWait
  /-- Hard Reset: VBUS held until tPSHardReset, then at vSafe0V. -/
  | hardResetHold
  | hardResetOff
  /-- As sink: the VBUS transitions of a Hard Reset, up to the next Source_Capabilities. -/
  | snkHardReset
  deriving DecidableEq, Repr

/-- AUTHSTAT.STATE, with its codes in order. -/
inductive AuthState where
  | none
  | leasing
  | digests
  | certificates
  | verifying
  | challenge
  | authenticated
  | failed
  | noSlot
  deriving DecidableEq, Repr

/-- A message with its ordered set. -/
structure TxMsg where
  sop : Sop
  msg : PdMsg
  deriving DecidableEq, Repr

/-- A received packet whose CRC verified, for its PD_RX frame (R251). -/
structure RxPacket where
  flooded : Bool
  sop : Sop
  flaw : Option PdFlaw
  msg : PdMsg
  pol : PdPolicy
  deriving DecidableEq, Repr

structure PdPort where
  cfg : Word := 0
  rev : BitVec 2 := 0
  eprMode : Bool := false
  cable : BitVec 2 := 0
  activeCable : Bool := false
  frsArmed : Bool := false
  frsSignalled : Bool := false
  ams : Byte := 0
  waits : Nat := 0
  source : Bool := false
  dfp : Bool := false
  explicit : Bool := false
  pdo : Word := 0
  rdo : Word := 0
  step : PdStep := .idle
  /-- The Pattern's PDO list (R277, R278). -/
  pdoList : List Word := []
  /-- The last capabilities sent, and those that received GoodCRC (R280). -/
  sentCaps : List Word := []
  caps : List Word := []
  partnerCaps : List Word := []
  pendPdo : Word := 0
  pendRdo : Word := 0
  /-- The Pattern's own Sink_Capabilities. -/
  sinkPdos : List Word := []
  /-- Messages for Root's PD_TX frames that are not transmitted yet. -/
  txq : List TxMsg := []
  /-- The transmitted message awaiting its GoodCRC, and its retries. -/
  await : Option TxMsg := none
  /-- Received packets that Root has not delivered in PD_RX frames yet. -/
  rxq : List RxPacket := []
  /-- What Root has last put on the CC line: a message, or the GoodCRC to a received packet (R250). -/
  line : Option TxMsg := none
  /-- A Structured VDM request of the port's own awaits its answer. -/
  vdmOut : Bool := false
  /-- Authentication follows the AMS that runs (R296). -/
  authDue : Bool := false
  /-- BIST as receiver: Test Data mode, and the end of Carrier Mode on Crown's count. -/
  bistTest : Bool := false
  bistUntil : Nat := 0
  retry : Nat := 0
  msgIdTx : BitVec 3 := 0
  capsCount : Nat := 0
  hardResetTries : Nat := 0
  discTries : Nat := 0
  discWaiting : Bool := false
  /-- Rp is at SinkTxNG and tSinkTx runs before an AMS (R279). -/
  sinkTxWait : Bool := false
  /-- Received messages that start a negotiation, and an offer of the port's own, waiting for a shared stand (R129). -/
  held : List (PdMsg × PdPolicy) := []
  capsHeld : Bool := false
  hushMode : Bool := false
  /-- An Alert with Operating Condition Change is due or sent since attach. -/
  alertSent : Bool := false
  auth : AuthState := .none
  authReason : BitVec 4 := 0
  authChain : List Byte := []
  authCerts : Nat := 0
  /-- Certificates whose verify is still to come. -/
  authLeft : Nat := 0
  authTime : Nat := 0
  /-- A Security_Response is awaited (R301). -/
  authAwait : Bool := false
  /-- The status of an earlier authentication stands while a new one runs (R296, R303). -/
  authHeld : Bool := false
  /-- A Soft_Reset has abandoned an authentication that the policy does not want started again (R304). -/
  authHalt : Bool := false
  authFailedAlarm : Bool := false
  crcErrs : EvCount := {}
  retries : EvCount := {}
  softResets : EvCount := {}
  hardResets : EvCount := {}
  violCount : EvCount := {}
  lastClass : Byte := 0xFF
  lastLevel : Nat := 0
  lastAnswer : Nat := 0
  classes : Vector VClass 24 := .replicate 24 {}
  lastEvent : Half := 0
  deriving DecidableEq, Repr

/-! ### Cinch (chapter 11) -/

/-- CINCH of Table 6.10, with its codes in order. -/
inductive CinchSt where
  | off
  | inrush
  | on
  | compliance
  | fastTrip
  | otherTrip
  | discharging
  | stuckOn
  | backfeed
  | holdKept
  | fallback5v
  deriving DecidableEq, Repr

structure CinchPort where
  cfg : Word := 0
  ft : Word := 0
  i2tCfg : Word := 0
  droopCfg : Word := 0
  /-- FTCFG and DROOPCFG as Root holds them in force. -/
  rootFt : Word := 0
  rootDroop : Word := 0
  st : CinchSt := .off
  latched : Bool := false
  stuck : Bool := false
  compliance : Bool := false
  ceiling : Bool := false
  ew : Bool := false
  pumpOk : Bool := false
  lastTrip : BitVec 3 := 0
  tripTimes : List Nat := []
  /-- Pn_GA and Pn_GB, always switched together (R316). -/
  gates : Bool := false
  dsch : Bool := false
  forceOff : Bool := false
  vset : Int := 0
  vsetLim : Word := 0
  /-- The I²t accumulator, in units of 10⁻¹¹/256 A²s: the square of a sample in sixteenths of 0.1 mA, times 1 ms. -/
  i2t : Nat := 0
  trips : EvCount := {}
  compliances : EvCount := {}
  /-- The contract voltage, and the highest one of a transition that metrology has not confirmed yet (R324), in mV. -/
  contractMv : Nat := 5000
  oldMv : Nat := 5000
  alarmFast : Bool := false
  alarmI2t : Bool := false
  backfeed : Bool := false
  /-- Out of service for a failed test or stand (R130, R144, R380). -/
  faultOut : Bool := false
  /-- Held out of service by an open GCUT (R334). -/
  groupOut : Bool := false
  /-- The discharge that runs is a stuck test of R337. -/
  stuckTest : Bool := false
  complianceAt : Nat := 0
  droopEntryAt : Option Nat := none
  /-- An input droop during a Strap loss, its VIN in mV: INPUT_DROOP follows the restore. -/
  droopDue : Option Nat := none
  inrushReadings : Nat := 0
  /-- VBUS that Root alone found up with both gates low (R333), in mV: STUCK_ON follows the restore. -/
  stuckDue : Option Nat := none
  deriving DecidableEq, Repr

/-- A group's cut-off (R334 to R338, R343, R345). -/
structure Group where
  cfg : Word := 0
  rootCfg : Word := 0
  gcutOpen : Bool := true
  cause : BitVec 3 := 3
  /-- A test of R337 runs on the group's ports. -/
  rearming : Bool := false
  /-- A REARM written while no request reached Root: it follows the restore (R14). -/
  rearmDue : Bool := false
  deriving DecidableEq, Repr

/-! ### Comparators and generators (chapter 12) -/

structure Cmp where
  cfg : Word := 0
  count : EvCount := {}
  /-- CMPnP over CMPnN in µV, as last seen, and the raw output it gives (R356). -/
  input : Int := 0
  raw : Bool := false
  blanking : Bool := false
  latch : Bool := false
  entryAt : Option Nat := none
  unlogged : Nat := 0
  /-- It latched while the Strap was lost: its entry follows the restore. -/
  deferred : Bool := false
  deriving DecidableEq, Repr

structure CmpTest where
  test : BitVec 3 := 0
  result : BitVec 4 := 0
  cmp : Fin 8 := 0
  /-- The comparator and test that run. -/
  runCmp : Fin 8 := 0
  runTest : BitVec 3 := 0
  deriving DecidableEq, Repr

structure Capture where
  value : Half := 0
  valid : Bool := false
  overrun : Bool := false
  deriving DecidableEq, Repr

structure Pg where
  cfg : Word := 0
  /-- A MODE written while the generator runs an inrush (R375). -/
  modeNext : Option (BitVec 3) := none
  /-- PGnTIME as written, and as in force since the last period start (R371). -/
  timeW : Word := 0
  time : Word := 0
  run : Bool := false
  count : Half := 0
  burstLeft : Nat := 0
  owned : Bool := false
  tripped : Bool := false
  out : Bool := false
  cap0 : Capture := {}
  cap1 : Capture := {}
  deriving DecidableEq, Repr

/-! ### Metrology (chapter 13) -/

structure MetroPort where
  loopCfg : Word := 0
  shuntCfg : Word := 0
  /-- The reading: VBUS in 0.25 mV, IBUS in 0.1 mA, and its marks. -/
  vbus : Nat := 0
  ibus : Int := 0
  seq : BitVec 6 := 0
  vCal : Bool := false
  iCal : Bool := false
  /-- The voltage channel gave the next window to a cross-calibration sweep (R431). -/
  sampled : Bool := false
  ovr : Bool := false
  stale : Bool := false
  fault : Bool := false
  cause : BitVec 4 := 0
  faultAt : Nat := 0
  faultCount : EvCount := {}
  /-- Clean windows since the fault (R395), and a failed calibration whose repeat is next (R390). -/
  vZero : Bool := false
  vGain : Bool := false
  iZero : Bool := false
  iGain : Bool := false
  vBad : Bool := false
  iBad : Bool := false
  /-- The channel's next calibration window is a gain window (the divided reference), not a zero window. -/
  vGainNext : Bool := false
  iGainNext : Bool := false
  /-- Corrections in force, in units of 1/4 ppm of full scale. -/
  vCorr : Int := 0
  iCorr : Int := 0
  /-- Energy, in mJ, with the remainders below 1 mJ in units of 0.25 mV × 0.1 mA × 1 ms (25 pJ). -/
  eout : Word := 0
  ein : Word := 0
  eoutRem : Nat := 0
  einRem : Nat := 0
  /-- Effective target and the target the loop works toward, in µV. -/
  targetUv : Nat := 5000000
  workUv : Nat := 5000000
  /-- The PPS current limit's target, in µV; none when it does not act (R405). -/
  clUv : Option Nat := none
  mode : BitVec 3 := 0
  confirmed : Bool := false
  confCount : Nat := 0
  codeChanged : Bool := false
  ovCount : Nat := 0
  uvCount : Nat := 0
  ov : Bool := false
  uv : Bool := false
  deriving DecidableEq, Repr

structure Metro where
  calCfg : Word := 0
  refDev : Int := 0
  refFault : Bool := false
  refClean : Nat := 0
  calGen : Half := 0
  segment : Bool := false
  /-- Cross-calibration constants in force: the gain as a fraction of that of the factory trims (R393, R432). -/
  crossGain : Nat × Nat := (1, 1)
  deriving DecidableEq, Repr

/-- Everything one port holds. -/
structure Port where
  cc : CcPort := {}
  pd : PdPort := {}
  cinch : CinchPort := {}
  metro : MetroPort := {}
  deriving DecidableEq, Repr

/-! ### Rein (chapter 14) -/

/-- What a device puts on its Rein output. -/
inductive ReinOut where
  | frame (ty : Nat) (h : ReinHdr) (payload : List Byte)
  | brk (head : Fin 8) (cause : BitVec 2) (before : Bool)
  | mark (k : Nat)
  | veto (addr : Fin 8)
  deriving DecidableEq, Repr

/-- An ENUM received in the present enumeration: DEVICE_ID as a number, the HOPS it arrived with, its CAL_GEN and
whether it participates. -/
structure EnumSeen where
  id : Nat
  hops : Nat
  calGen : Half
  participant : Bool
  deriving DecidableEq, Repr

/-- A sweep in progress (R431 to R435). -/
structure Sweep where
  gen : Half
  src : Bool
  segment : Bool
  leader : Bool
  /-- The next MARK the leader sends. -/
  nextMark : Nat := 1
  /-- Sum and number of the device's own sample windows, in µV. -/
  sum : Nat := 0
  samples : Nat := 0
  /-- The leader's collected readings by address. -/
  readings : List (Nat × Nat) := []
  /-- The new gain correction as a fraction, held by Root once COMMIT has been used. -/
  correction : Option (Nat × Nat) := none
  committed : Bool := false
  /-- MARK 21 has been seen (D). -/
  decided : Bool := false
  deriving DecidableEq, Repr

/-- The chunks of one relayed frame received so far (Table 14.3): its source, the next CHUNK and the bytes. -/
structure RelayPart where
  src : Fin 8
  next : Nat
  bytes : List Byte
  deriving DecidableEq, Repr

structure Rein where
  cfg : Word := 0
  /-- STATE: 0 closed, 1 broken, 2 chain of one, 3 enumerating. -/
  state : BitVec 2 := 3
  count : Nat := 0
  addr : Fin 8 := 0
  head : Fin 8 := 0
  position : Nat := 0
  cause : BitVec 2 := 0
  lastResult : BitVec 3 := 0
  genSat : Bool := false
  rxErrs : EvCount := {}
  breaks : EvCount := {}
  ownDev : Int := 0
  accepted : Nat := 0
  used : Nat := 0
  seen : List EnumSeen := []
  /-- The device's own ENUM is out and has not returned (R417). -/
  enumerating : Bool := false
  /-- The loop-back test of R420 runs. -/
  looping : Bool := false
  oversize : Bool := false
  /-- When the ring last closed at this device. -/
  closedAt : Nat := 0
  /-- The number of devices of the segment that this device heads, as its loop-back found the ring (R421). -/
  segmentLen : Nat := 0
  sweep : Option Sweep := none
  /-- Notices already forwarded (R413): the BRK of the present break, MARK indexes and VETO addresses of the sweep. -/
  brkSeen : Bool := false
  marksSeen : List Nat := []
  vetoesSeen : List (Fin 8) := []
  seq : Byte := 0
  /-- A relay this device waits for: DEST (R425). -/
  relayDest : Option (Fin 8) := none
  /-- Relayed requests and answers of which chunks are still to come. -/
  relayReqs : List RelayPart := []
  relayRsps : List RelayPart := []
  /-- SEQ and CRC of the last relayed request TAKEN here (R424, Table 6.4). -/
  relayTaken : Option (Byte × Word) := none
  /-- What the last Rein command put on the output. -/
  sent : List ReinOut := []
  deriving DecidableEq, Repr

/-! ### Sap (chapter 15) -/

structure Sap where
  running : Bool := false
  cfg : Word := 0x20510845
  level : Fin 4 := 0
  charging : Bool := false
  harvestActive : Bool := false
  rsvPresent : Bool := true
  /-- The board fits no reserve element (R49), as the last start found. -/
  noReserve : Bool := false
  bridge : Bool := false
  keepalive : Bool := false
  tempHold : Bool := false
  orderErr : Bool := false
  wakeHolding : Bool := false
  gauge : Nat := 0
  rsvMv : Nat := 0
  harvestUw : Nat := 0
  thrFull : Nat := 1000000
  thrLean : Nat := 200000
  thrScant : Nat := 20000
  thrDry : Nat := 1000
  hyst : Nat := 10000
  capNom : Half := 1000
  capEst : Nat := 1000
  /-- CAP_EST has been learned since the Sap start (R449, R451). -/
  learned : Bool := false
  /-- Lithium gauge: stored energy above V_STOP (R450). -/
  liUj : Nat := 0
  ein : Word := 0
  /-- The part of EIN below 1 µJ, in nJ. -/
  einRem : Nat := 0
  clock : Word := 0
  wake : Word := 0x00000A80
  lastSrc : BitVec 4 := 0
  zeroCount : EvCount := {}
  recLost : EvCount := {}
  /-- The parked record: each entry with its SAPCLOCK (R463). -/
  record : List (Event × Word) := []
  /-- The first gauge sample after the Sap start has not been taken (SAP_COLD_START). -/
  cold : Bool := false
  /-- SAPIN's regulation point, in mV (R440). -/
  sapinMv : Nat := 0
  /-- Whether the charge of the present profile has ended (Table 15.3). -/
  ended : Bool := false
  deriving DecidableEq, Repr

/-! ### The Pocket and the Awl (chapter 16) -/

/-- PKITEM STATE, with its codes in order. -/
inductive ItemState where
  | absent
  | empty
  | resident
  | pressed
  | lost
  deriving DecidableEq, Repr

structure PkItem where
  state : ItemState := .absent
  slot : Option (Fin 16) := none
  current : Bool := false
  busy : Bool := false
  record : Nat := 0
  /-- WRITE_COUNT of the current record, in the lease map (R499). -/
  wc : Nat := 0
  /-- Last use, for the least recently used order (R486). -/
  lastUse : Nat := 0
  deriving DecidableEq, Repr

/-- A record in the record buffer whose flash write has not verified (R496). -/
structure Buffered where
  item : Fin 20
  index : Nat
  wc : Nat
  deriving DecidableEq, Repr

structure Pocket where
  powered : Bool := false
  slots : Vector (BitVec 256) 16 := .replicate 16 0
  items : Vector PkItem 20 := .replicate 20 {}
  nonce : Option (BitVec 128) := none
  writeCount : Nat := 0
  wcSat : Bool := false
  k3Locked : Bool := false
  k3Cause : BitVec 3 := 0
  pufOk : Bool := false
  chainOk : Bool := false
  presses : EvCount := {}
  unpresses : EvCount := {}
  idPub : List Byte := List.replicate 64 0
  useClock : Nat := 0
  logPos : Nat := 0
  buffer : List Buffered := []
  deriving DecidableEq, Repr

/-- What an Awl unit is for. -/
inductive AwlUse where
  | authHash (p : Fin 8)
  | authCert (p : Fin 8)
  | authResponse (p : Fin 8)
  | authEcdh (p : Fin 8)
  /-- The signature of a digest. -/
  | responder (p : Fin 8) (digest : List Byte)
  /-- The Pocket's own, the record of a provisioned item. -/
  | pocket (i : Fin 20) (value : BitVec 256)
  /-- The host port's SIGNED command, and Graft's verification. -/
  | signed
  | graftVerify
  deriving DecidableEq, Repr

/-- A unit of the Awl queue (R502). -/
structure AwlUnit where
  use : AwlUse
  /-- The item it reads, and the item whose slot it writes. -/
  needs : Option (Fin 20)
  output : Option (Fin 20)
  /-- Crown's 1 µs count at its arrival. -/
  arrivedAt : Nat
  /-- Its holder still wants the result (R506). -/
  wanted : Bool := true
  /-- The flash read of the record it needs is complete (R498). -/
  readDone : Bool := false
  deriving DecidableEq, Repr

structure Awl where
  queue : List AwlUnit := []
  head : Option AwlUnit := none
  /-- Units of a holder whose present unit is still queued or in service (R503). -/
  behind : List AwlUnit := []
  rngOk : Bool := true
  units : EvCount := {}
  fails : EvCount := {}
  maxWait : Nat := 0
  deriving DecidableEq, Repr

/-! ### Bark, the Satchel and the Tack (chapter 17) -/

structure Bark where
  active : BitVec 7 := 0
  latched : BitVec 7 := 0
  counts : Vector EvCount 7 := .replicate 7 {}
  sfValid : Bool := false
  selfTestFail : BitVec 3 := 0
  lastValid : Bool := false
  lastClass : BitVec 2 := 0
  raise : BitVec 14 := 0
  sensorEn : BitVec 7 := 0x7F
  /-- The copy of BARK_CLASS (R521); none before the first copy after a Sap start. -/
  classCopy : Option (BitVec 14) := none
  /-- The evaluated configuration, as the last boot that copied BARK_CLASS found it (R520, R545). -/
  evalCopy : Bool := false
  /-- Consecutive clean samples of each sampled sensor (R514). -/
  clean : Vector Nat 7 := .replicate 7 0
  /-- Samples since the last self-test (R513). -/
  samples : Nat := 0
  deriving DecidableEq, Repr

structure Satchel where
  mem : List Host.Cell := []
  /-- The tag key of this Crown boot (R524). -/
  key : BitVec 128 := 0
  /-- The stored tags of lines whose cells a disturbance has changed since; any other line holds the tag of its bytes. -/
  tags : List (Nat × BitVec 64) := []
  poisoned : List Nat := []
  /-- SATWINk_A and _B. -/
  winA : Vector Word 8 := .replicate 8 0
  winB : Vector Word 8 := .replicate 8 0
  winErr : Bool := false
  poisonCount : EvCount := {}
  lastWindow : BitVec 3 := 0
  lastLine : Nat := 0
  /-- Poison errors and data of the last access: what its requester received. -/
  lastData : List Byte := []
  lastError : Bool := false
  deriving DecidableEq, Repr

/-- A rule's two words (Table 17.5). -/
structure Rule where
  a : Word := 0
  b : Word := 0
  deriving DecidableEq, Repr

/-- The default set of Table 17.6. -/
def defaultRules : Vector Rule 32 :=
  Vector.ofFn fun k => match k.val with
    | 0 => { a := 0xCC0000FF, b := 0xFFFF0000 }
    | 1 => { a := 0xDC0000FF, b := 0x1FFF0000 }
    | 2 => { a := 0xEC0000FF, b := 0xFFFF0000 }
    | 3 => { a := 0xFC0000C0, b := 0x00FF0000 }
    | _ => {}

structure Tack where
  staged : Vector Rule 32 := .replicate 32 {}
  rules : Vector Rule 32 := defaultRules
  /-- The copy taken at the start of a commit, and when it started (R541, R543). -/
  draining : Option (Vector Rule 32 × Nat) := none
  epoch : Half := 0
  epochSat : Bool := false
  result : BitVec 3 := 0
  /-- A commit has become active since this Crown boot (Table 17.8). -/
  committed : Bool := false
  denyCount : EvCount := {}
  lastClass : Fin 8 := 0
  lastSpace : BitVec 2 := 0
  lastRule : Nat := 0
  entryAt : Vector (Option Nat) 8 := .replicate 8 none
  unlogged : Vector Nat 8 := .replicate 8 0
  deriving DecidableEq, Repr

/-! ### Watchdogs (chapter 18) -/

structure WdA where
  cfg : Word := 0
  /-- STATE: 0 off, 1 running, 2 expired. -/
  state : BitVec 2 := 0
  nextKey : Bool := false
  inWindow : Bool := false
  lastCause : BitVec 3 := 0
  expiries : EvCount := {}
  policy : Half := 0
  /-- Root's 1 µs count at the period start and at the expiry. -/
  startAt : Nat := 0
  expiredAt : Nat := 0
  /-- The policy has not reached the ports because the Strap is lost (R562). -/
  policyDue : Bool := false
  /-- Ports that the policy turned off, and ports that offer PDO 1 only. -/
  offPorts : BitVec 8 := 0
  safePorts : BitVec 8 := 0
  /-- The channel counts the reference oscillator in the LF oscillator's place (R473). -/
  fallbackClk : Bool := false
  deriving DecidableEq, Repr

structure WdB where
  running : Bool := false
  bootMode : Bool := true
  inWindow : Bool := false
  periodCode : BitVec 4 := 4
  openN : BitVec 3 := 4
  clkLf : Bool := false
  lastCause : BitVec 3 := 0
  storm : Nat := 0
  monLost : Bool := false
  expiries : EvCount := {}
  fallbackClk : Bool := false
  /-- A WD_B_EXPIRED entry to write at the next ready (R569). -/
  entryDue : Option (BitVec 3 × Nat) := none
  deriving DecidableEq, Repr

/-! ### Graft (chapter 19) -/

/-- The states of Table 19.2, with their codes in order. -/
inductive GraftState where
  | unprepared
  | empty
  | receiving
  | complete
  | verified
  | installing
  | installed
  | trial
  | promoting
  | settled
  | fellBack
  deriving DecidableEq, Repr

structure Graft where
  st : GraftState := .unprepared
  result : Byte := 0
  start : BitVec 2 := 0
  trialLeft : Nat := 0
  digestInPocket : Bool := false
  trialNow : Bool := false
  /-- Crown's count, `time.now`, at which a trial boot's budget is spent (R595); the count stops with Root's ticks. -/
  runEnd : Nat := 0
  blocksDone : Nat := 0
  blocksTotal : Nat := 0
  pieceFails : EvCount := {}
  fallbacks : EvCount := {}
  /-- The piece bitmap kept in the Satchel (R580). -/
  bitmap : BitVec 2048 := 0
  /-- Index of the next state record. -/
  logNext : Nat := 0
  /-- SECURITY_VERSION of the newest CONFIRMED record whose advance has not succeeded (R598). -/
  arbWanted : Option Nat := none
  deriving DecidableEq, Repr

/-! ### Flash, the Ring, the journal and time (chapter 20, chapter 21) -/

/-- An operation at the flash port, in the classes of Table 1.4. -/
inductive FlashOp where
  | recordRead (item : Fin 20)
  | recordWrite (item : Fin 20)
  | journal
  | hostWrite (addr : Nat) (data : List Byte)
  | hostErase (addr : Nat)
  | hostRead (addr len : Nat)
  /-- A relayed FLASH_READ, by its source and SEQ. -/
  | relayRead (src : Fin 8) (seq : Byte) (addr len : Nat)
  /-- A Graft job's programs and reads, or its verification reads alone. -/
  | graft (programs : Bool)
  /-- A block of Graft's background copies. -/
  | copy
  deriving DecidableEq, Repr

structure Flash where
  mem : List Host.Cell := []
  /-- The device answers. -/
  ok : Bool := true
  current : Option FlashOp := none
  /-- The write-in-progress bit that a boot polls after its Reset (R627). -/
  wip : Bool := false
  /-- A program or erase suspended for a record read. -/
  suspended : Option FlashOp := none
  waiting : List FlashOp := []
  deriving DecidableEq, Repr

/-- Crown's count of ticks, the Ring timestamp base and UPTIME. -/
structure Time where
  /-- 1 µs ticks Crown has counted, a count that does not wrap: the base of every interval the model measures. -/
  now : Nat := 0
  /-- The Ring timestamp. -/
  stamp : Word := 0
  uptime : Word := 0
  /-- Microseconds since the last whole second of UPTIME. -/
  uptimeUs : Nat := 0
  deriving DecidableEq, Repr

structure Ring where
  /-- Entry i as a 128-bit number, byte 0 lowest; 0 where not written (R606). -/
  entries : Vector (BitVec 128) 256 := .replicate 256 0
  newest : Byte := 0xFF
  gen : Half := 0
  /-- An entry has been written since power-on or RST_N (R605). -/
  used : Bool := false
  sevCounts : Vector EvCount 8 := .replicate 8 {}
  found : Bool := false
  jIndex : Nat := 0xFFF
  jGen : Half := 0
  jEmpty : Bool := true
  /-- The index the next journal entry takes. -/
  jNext : Nat := 0
  /-- Journal copies waiting: Ring index and the entry. -/
  copies : List (Byte × BitVec 128) := []
  drops : EvCount := {}
  dropEntryAt : Option Nat := none
  deriving DecidableEq, Repr

/-- Something delivered to the Pattern's policy stand. -/
inductive PolicyEvent where
  | comparator (n : Fin 8)
  | generator (n : Fin 8)
  | group (code : Half) (data : BitVec 48)
  | capMismatch (p : Fin 8)
  | hostLoss (p : Fin 8)
  | contractUnauthenticated (p : Fin 8)
  deriving DecidableEq, Repr

/-- Why a step stops. No meaning of this model raises a fault: every command the spec lists has an effect, and an
event that cannot arise in a state leaves it unchanged. (Log entry 2: DEDUCED, unsafe.) -/
inductive Fault where
  /-- Raised by no meaning; kept because the interface needs a closed type of reasons. Safe. -/
  | none
  deriving DecidableEq, Repr

/-- Why a command has no meaning. -/
inductive Refusal where
  /-- Raised by Dispatch alone, for a command without a meaning. Safe: the run stops. -/
  | notModelled (mnemonic : String)
  deriving DecidableEq, Repr

/-- What Crown shows of Root's ports and groups in a loss, as it stood when Crown declared the loss (R217). -/
structure Shown where
  ports : Vector Port 8
  groups : Vector Group 2
  groupUp : Vector Bool 2
  vinMv : Vector Nat 2
  deriving DecidableEq, Repr

/-- The whole machine. (Log entry 155: DESIGN CHOICE, unsafe.) -/
structure State where
  pending : List Instr := []
  power : Power := {}
  boot : Boot := {}
  heart : Heart := {}
  grain : Grain := {}
  pattern : Pattern := {}
  host : HostPort := {}
  seam : Seam := {}
  strap : Strap := {}
  ports : Vector Port 8 := .replicate 8 {}
  /-- The ports as Crown last saw them, while a Strap loss hides Root's later steps (R217). -/
  shown : Option Shown := none
  groups : Vector Group 2 := .replicate 2 {}
  cmps : Vector Cmp 8 := .replicate 8 {}
  cmpTest : CmpTest := {}
  pgs : Vector Pg 8 := .replicate 8 {}
  metro : Metro := {}
  rein : Rein := {}
  sap : Sap := {}
  pocket : Pocket := {}
  awl : Awl := {}
  bark : Bark := {}
  satchel : Satchel := {}
  tack : Tack := {}
  wda : WdA := {}
  wdb : WdB := {}
  graft : Graft := {}
  flash : Flash := {}
  time : Time := {}
  ring : Ring := {}
  policy : List PolicyEvent := []
  /-- Events raised by the running command, written to the Ring at its end in station order (R604). -/
  raised : List Event := []
  /-- The model's own: how many free values have been drawn (log entry 6). -/
  freeCtr : Nat := 0
  deriving DecidableEq, Repr

/-- Heartwood as Malren ships it (chapter 04): A and B write-locked, B read-locked, and ledger entry L0 closed over
A and B. The per-device fields are blank, and L0's digest is that of the blank regions A and B.
(Log entry 4: DESIGN CHOICE, unsafe.) -/
def shippedHeartwood : List (Nat × HwRow) :=
  [(0x110, { data := 0x3800003f }), (0x11D, { data := 0x311c061733f78b4, parity := 0xe7, closed := true })]

/-- The machine right after a power-on from VDD18, before t0 (Tables 3.4, 3.8 and every chapter's Power-on column): the
ports are in Reset hold, with discharge on (R62, Table 2.8). (Log entry 4: DESIGN CHOICE, unsafe.) -/
def State.reset : State :=
  { heart := { cells := shippedHeartwood }, ports := .replicate 8 { cinch := { dsch := true } } }

end Sys2Proof.Machine
end

