-- ==== Sys2Proof/Machine/Bits.lean ====
section
/-! DEFINITION. Bit fields, little-endian byte strings (R5), saturating values (R644) and event counters (R11). -/

namespace Sys2Proof.Machine

/-- Bits [hi:lo] of a register word, as a number. -/
def field (w : Word) (hi lo : Nat) : Nat := (w.toNat >>> lo) % 2 ^ (hi + 1 - lo)

/-- A one-bit field. -/
def flag (w : Word) (i : Nat) : Bool := w.getLsbD i

def b2n (b : Bool) : Nat := if b then 1 else 0

/-- A register word from its fields, each with the number of its lowest bit. -/
def mkWord (fs : List (Nat × Nat)) : Word :=
  BitVec.ofNat 32 (fs.foldl (fun acc f => acc + f.2 <<< f.1) 0)

/-- The mask of bits [hi:lo]. -/
def maskOf (hi lo : Nat) : Word := BitVec.ofNat 32 ((2 ^ (hi + 1 - lo) - 1) <<< lo)

/-- R644: a value above the field's largest reads as that largest value. -/
def satTo (w n : Nat) : Nat := min n (2 ^ w - 1)

/-- R644 for a signed value in a field of `w` bits, as its two's complement code. -/
def satSigned (w : Nat) (v : Int) : Nat :=
  let lo : Int := -(2 ^ (w - 1) : Nat)
  let hi : Int := (2 ^ (w - 1) : Nat) - 1
  ((max lo (min hi v)) % (2 ^ w : Nat)).toNat

/-- `k` bytes of `n`, lowest first (R5). -/
def le (k n : Nat) : List Byte :=
  match k with
  | 0 => []
  | k + 1 => BitVec.ofNat 8 (n % 256) :: le k (n / 256)

/-- The number that bytes spell, lowest first (R5). -/
def ofLe : List Byte → Nat
  | [] => 0
  | b :: t => b.toNat + 256 * ofLe t

/-- The number that bytes spell, highest first (SEC 1, FIPS 180-4). -/
def ofBe (bs : List Byte) : Nat := bs.foldl (fun acc b => acc * 256 + b.toNat) 0

/-- `k` bytes of `n`, highest first. -/
def be (k n : Nat) : List Byte := (le k n).reverse

/-- Bytes [off, off + n) of a string; bytes past its end read 0. -/
def slice (bs : List Byte) (off n : Nat) : List Byte :=
  let t := (bs.drop off).take n
  t ++ List.replicate (n - t.length) 0

/-- The little-endian number at an offset. -/
def numAt (bs : List Byte) (off n : Nat) : Nat := ofLe (slice bs off n)

def allZero (bs : List Byte) : Bool := bs.all (· == 0)

/-- One event of an event counter of `w` bits (R11, Table 0.4). -/
def bump (w : Nat) (c : EvCount) : EvCount :=
  if c.n < 2 ^ w - 1 then { c with n := c.n + 1 } else { c with sat := true }

end Sys2Proof.Machine
end

