-- ==== Sys2Proof/Machine/Crypto.lean ====
section
/-! DEFINITION. The algorithms that the spec names and published standards fix: SHA-256 (FIPS 180-4), HMAC and
HKDF-SHA-256 (RFC 2104, RFC 5869), AES-256 and GCM (FIPS 197, SP 800-38D), and P-256 point arithmetic with ECDSA
verification, deterministic ECDSA (RFC 6979) and ECDH (FIPS 186-5, SEC 1). Log entry 8. -/

namespace Sys2Proof.Machine

/-! ### SHA-256 -/

def shaK0 : List Word :=
  [0x428A2F98, 0x71374491, 0xB5C0FBCF, 0xE9B5DBA5, 0x3956C25B, 0x59F111F1,
   0x923F82A4, 0xAB1C5ED5, 0xD807AA98, 0x12835B01, 0x243185BE, 0x550C7DC3,
   0x72BE5D74, 0x80DEB1FE, 0x9BDC06A7, 0xC19BF174]

def shaK1 : List Word :=
  [0xE49B69C1, 0xEFBE4786, 0x0FC19DC6, 0x240CA1CC, 0x2DE92C6F, 0x4A7484AA,
   0x5CB0A9DC, 0x76F988DA, 0x983E5152, 0xA831C66D, 0xB00327C8, 0xBF597FC7,
   0xC6E00BF3, 0xD5A79147, 0x06CA6351, 0x14292967]

def shaK2 : List Word :=
  [0x27B70A85, 0x2E1B2138, 0x4D2C6DFC, 0x53380D13, 0x650A7354, 0x766A0ABB,
   0x81C2C92E, 0x92722C85, 0xA2BFE8A1, 0xA81A664B, 0xC24B8B70, 0xC76C51A3,
   0xD192E819, 0xD6990624, 0xF40E3585, 0x106AA070]

def shaK3 : List Word :=
  [0x19A4C116, 0x1E376C08, 0x2748774C, 0x34B0BCB5, 0x391C0CB3, 0x4ED8AA4A,
   0x5B9CCA4F, 0x682E6FF3, 0x748F82EE, 0x78A5636F, 0x84C87814, 0x8CC70208,
   0x90BEFFFA, 0xA4506CEB, 0xBEF9A3F7, 0xC67178F2]

def shaK : List Word := shaK0 ++ shaK1 ++ shaK2 ++ shaK3

structure ShaRegs where
  a : Word
  b : Word
  c : Word
  d : Word
  e : Word
  f : Word
  g : Word
  h : Word

def shaInit : ShaRegs :=
  { a := 0x6A09E667, b := 0xBB67AE85, c := 0x3C6EF372, d := 0xA54FF53A,
    e := 0x510E527F, f := 0x9B05688C, g := 0x1F83D9AB, h := 0x5BE0CD19 }

def rotr (w : Word) (n : Nat) : Word := (w >>> n) ||| (w <<< (32 - n))

/-- The next `n` words of the message schedule; `w` holds the last sixteen, oldest first. -/
def shaSchedule : Nat → List Word → List Word
  | 0, _ => []
  | n + 1, w =>
    match w with
    | w0 :: rest =>
      let w1 := rest.getD 0 0
      let w9 := rest.getD 8 0
      let w14 := rest.getD 13 0
      let s0 := rotr w1 7 ^^^ rotr w1 18 ^^^ (w1 >>> 3)
      let s1 := rotr w14 17 ^^^ rotr w14 19 ^^^ (w14 >>> 10)
      let x := w0 + s0 + w9 + s1
      x :: shaSchedule n (rest ++ [x])
    | [] => []

def shaRound (r : ShaRegs) (kw : Word × Word) : ShaRegs :=
  let s1 := rotr r.e 6 ^^^ rotr r.e 11 ^^^ rotr r.e 25
  let ch := (r.e &&& r.f) ^^^ (~~~r.e &&& r.g)
  let t1 := r.h + s1 + ch + kw.1 + kw.2
  let s0 := rotr r.a 2 ^^^ rotr r.a 13 ^^^ rotr r.a 22
  let maj := (r.a &&& r.b) ^^^ (r.a &&& r.c) ^^^ (r.b &&& r.c)
  { a := t1 + (s0 + maj), b := r.a, c := r.b, d := r.c, e := r.d + t1, f := r.e, g := r.f, h := r.g }

def beWord (bs : List Byte) : Word := BitVec.ofNat 32 (ofBe bs)

/-- `n` big-endian words of a string. -/
def beWords : Nat → List Byte → List Word
  | 0, _ => []
  | n + 1, bs => beWord (bs.take 4) :: beWords n (bs.drop 4)

def shaBlock (h : ShaRegs) (blk : List Byte) : ShaRegs :=
  let w := beWords 16 blk
  let ws := w ++ shaSchedule 48 w
  let r := (shaK.zip ws).foldl shaRound h
  { a := h.a + r.a, b := h.b + r.b, c := h.c + r.c, d := h.d + r.d,
    e := h.e + r.e, f := h.f + r.f, g := h.g + r.g, h := h.h + r.h }

def shaBlocks : Nat → ShaRegs → List Byte → ShaRegs
  | 0, h, _ => h
  | n + 1, h, bs => shaBlocks n (shaBlock h (bs.take 64)) (bs.drop 64)

/-- (Log entry 8: PRESUMED, unsafe.) -/
def sha256 (m : List Byte) : List Byte :=
  let pad := (119 - m.length % 64) % 64
  let p := m ++ [0x80] ++ List.replicate pad 0 ++ be 8 (8 * m.length)
  let r := shaBlocks (p.length / 64) shaInit p
  [r.a, r.b, r.c, r.d, r.e, r.f, r.g, r.h].flatMap fun w => be 4 w.toNat

/-! ### HMAC and HKDF -/

def hmac (key m : List Byte) : List Byte :=
  let k0 := if key.length ≤ 64 then key else sha256 key
  let k := k0 ++ List.replicate (64 - k0.length) 0
  sha256 (k.map (· ^^^ 0x5C) ++ sha256 (k.map (· ^^^ 0x36) ++ m))

/-- HKDF-SHA-256 with an output of 32 bytes: extract with `salt`, expand with `info`.
(Log entry 8: PRESUMED, unsafe.) -/
def hkdf32 (salt ikm info : List Byte) : List Byte :=
  let prk := hmac (if salt.isEmpty then List.replicate 32 0 else salt) ikm
  hmac prk (info ++ [1])

/-! ### AES-256 and GCM -/

def aesS0 : List Byte :=
  [0x63, 0x7C, 0x77, 0x7B, 0xF2, 0x6B, 0x6F, 0xC5, 0x30, 0x01, 0x67, 0x2B, 0xFE, 0xD7, 0xAB, 0x76,
   0xCA, 0x82, 0xC9, 0x7D, 0xFA, 0x59, 0x47, 0xF0, 0xAD, 0xD4, 0xA2, 0xAF, 0x9C, 0xA4, 0x72, 0xC0]

def aesS1 : List Byte :=
  [0xB7, 0xFD, 0x93, 0x26, 0x36, 0x3F, 0xF7, 0xCC, 0x34, 0xA5, 0xE5, 0xF1, 0x71, 0xD8, 0x31, 0x15,
   0x04, 0xC7, 0x23, 0xC3, 0x18, 0x96, 0x05, 0x9A, 0x07, 0x12, 0x80, 0xE2, 0xEB, 0x27, 0xB2, 0x75]

def aesS2 : List Byte :=
  [0x09, 0x83, 0x2C, 0x1A, 0x1B, 0x6E, 0x5A, 0xA0, 0x52, 0x3B, 0xD6, 0xB3, 0x29, 0xE3, 0x2F, 0x84,
   0x53, 0xD1, 0x00, 0xED, 0x20, 0xFC, 0xB1, 0x5B, 0x6A, 0xCB, 0xBE, 0x39, 0x4A, 0x4C, 0x58, 0xCF]

def aesS3 : List Byte :=
  [0xD0, 0xEF, 0xAA, 0xFB, 0x43, 0x4D, 0x33, 0x85, 0x45, 0xF9, 0x02, 0x7F, 0x50, 0x3C, 0x9F, 0xA8,
   0x51, 0xA3, 0x40, 0x8F, 0x92, 0x9D, 0x38, 0xF5, 0xBC, 0xB6, 0xDA, 0x21, 0x10, 0xFF, 0xF3, 0xD2]

def aesS4 : List Byte :=
  [0xCD, 0x0C, 0x13, 0xEC, 0x5F, 0x97, 0x44, 0x17, 0xC4, 0xA7, 0x7E, 0x3D, 0x64, 0x5D, 0x19, 0x73,
   0x60, 0x81, 0x4F, 0xDC, 0x22, 0x2A, 0x90, 0x88, 0x46, 0xEE, 0xB8, 0x14, 0xDE, 0x5E, 0x0B, 0xDB]

def aesS5 : List Byte :=
  [0xE0, 0x32, 0x3A, 0x0A, 0x49, 0x06, 0x24, 0x5C, 0xC2, 0xD3, 0xAC, 0x62, 0x91, 0x95, 0xE4, 0x79,
   0xE7, 0xC8, 0x37, 0x6D, 0x8D, 0xD5, 0x4E, 0xA9, 0x6C, 0x56, 0xF4, 0xEA, 0x65, 0x7A, 0xAE, 0x08]

def aesS6 : List Byte :=
  [0xBA, 0x78, 0x25, 0x2E, 0x1C, 0xA6, 0xB4, 0xC6, 0xE8, 0xDD, 0x74, 0x1F, 0x4B, 0xBD, 0x8B, 0x8A,
   0x70, 0x3E, 0xB5, 0x66, 0x48, 0x03, 0xF6, 0x0E, 0x61, 0x35, 0x57, 0xB9, 0x86, 0xC1, 0x1D, 0x9E]

def aesS7 : List Byte :=
  [0xE1, 0xF8, 0x98, 0x11, 0x69, 0xD9, 0x8E, 0x94, 0x9B, 0x1E, 0x87, 0xE9, 0xCE, 0x55, 0x28, 0xDF,
   0x8C, 0xA1, 0x89, 0x0D, 0xBF, 0xE6, 0x42, 0x68, 0x41, 0x99, 0x2D, 0x0F, 0xB0, 0x54, 0xBB, 0x16]

def aesS : Array Byte := (aesS0 ++ aesS1 ++ aesS2 ++ aesS3 ++ aesS4 ++ aesS5 ++ aesS6 ++ aesS7).toArray

def subByte (b : Byte) : Byte := aesS.getD b.toNat 0

def xtime (b : Byte) : Byte := if b.getLsbD 7 then (b <<< 1) ^^^ 0x1B else b <<< 1

def xorBytes (a b : List Byte) : List Byte := (a.zip b).map fun p => p.1 ^^^ p.2

/-- The key words that follow: `prev` holds the last eight words (four bytes each), oldest first. -/
def aesExpand : Nat → Nat → Byte → List (List Byte) → List (List Byte)
  | 0, _, _, _ => []
  | n + 1, i, rcon, prev =>
    let last := prev.getD 7 []
    let t :=
      if i % 8 = 0 then
        let r := (last.drop 1 ++ last.take 1).map subByte
        xorBytes r [rcon, 0, 0, 0]
      else if i % 8 = 4 then last.map subByte else last
    let w := xorBytes (prev.getD 0 []) t
    w :: aesExpand n (i + 1) (if i % 8 = 0 then xtime rcon else rcon) (prev.drop 1 ++ [w])

def chunks (k : Nat) : Nat → List Byte → List (List Byte)
  | 0, _ => []
  | n + 1, bs => bs.take k :: chunks k n (bs.drop k)

/-- The fifteen round keys of AES-256. -/
def aesKeys (key : List Byte) : List (List Byte) :=
  let w := chunks 4 8 key
  chunks 16 15 (w ++ aesExpand 52 8 1 w).flatten

def shiftRows (s : List Byte) : List Byte :=
  [0, 5, 10, 15, 4, 9, 14, 3, 8, 13, 2, 7, 12, 1, 6, 11].map fun i => s.getD i 0

def mixCol (c : List Byte) : List Byte :=
  let a := c.getD 0 0
  let b := c.getD 1 0
  let d := c.getD 2 0
  let e := c.getD 3 0
  [xtime a ^^^ (xtime b ^^^ b) ^^^ d ^^^ e, a ^^^ xtime b ^^^ (xtime d ^^^ d) ^^^ e,
   a ^^^ b ^^^ xtime d ^^^ (xtime e ^^^ e), (xtime a ^^^ a) ^^^ b ^^^ d ^^^ xtime e]

def aesRound (s k : List Byte) : List Byte :=
  xorBytes ((chunks 4 4 (shiftRows (s.map subByte))).flatMap mixCol) k

def aesEncrypt (keys : List (List Byte)) (blk : List Byte) : List Byte :=
  let s := ((keys.drop 1).take 13).foldl aesRound (xorBytes blk (keys.getD 0 []))
  xorBytes (shiftRows (s.map subByte)) (keys.getD 14 [])

/-- Multiplication in GF(2^128) of SP 800-38D, bit 0 leftmost. -/
def gfMul (x y : BitVec 128) : BitVec 128 :=
  ((List.range 128).foldl (fun (zv : BitVec 128 × BitVec 128) i =>
    let z := if x.getLsbD (127 - i) then zv.1 ^^^ zv.2 else zv.1
    let v := if zv.2.getLsbD 0 then (zv.2 >>> 1) ^^^ (0xE1 : BitVec 128) <<< 120 else zv.2 >>> 1
    (z, v)) (0, y)).1

def ghash (h : BitVec 128) (blocks : List (List Byte)) : BitVec 128 :=
  blocks.foldl (fun y b => gfMul (y ^^^ BitVec.ofNat 128 (ofBe b)) h) 0

def padBlocks (bs : List Byte) : List (List Byte) :=
  let n := (bs.length + 15) / 16
  chunks 16 n (bs ++ List.replicate (16 * n - bs.length) 0)

/-- CTR keystream XOR over a string, from counter `ctr` of the 12-byte IV. -/
def gcmCtr (keys : List (List Byte)) (iv : List Byte) : Nat → Nat → List Byte → List Byte
  | 0, _, _ => []
  | n + 1, ctr, bs =>
    xorBytes (bs.take 16) (aesEncrypt keys (iv ++ be 4 ctr)) ++ gcmCtr keys iv n (ctr + 1) (bs.drop 16)

def gcmTag (keys : List (List Byte)) (iv aad ct : List Byte) : List Byte :=
  let h := BitVec.ofNat 128 (ofBe (aesEncrypt keys (List.replicate 16 0)))
  let lens := be 8 (8 * aad.length) ++ be 8 (8 * ct.length)
  let s := ghash h (padBlocks aad ++ padBlocks ct ++ [lens])
  xorBytes (be 16 s.toNat) (aesEncrypt keys (iv ++ be 4 1))

/-- AES-256-GCM encryption: ciphertext and tag. (Log entry 8: PRESUMED, unsafe.) -/
def gcmEncrypt (key iv aad pt : List Byte) : List Byte × List Byte :=
  let keys := aesKeys key
  let ct := gcmCtr keys iv ((pt.length + 15) / 16) 2 pt
  (ct, gcmTag keys iv aad ct)

/-- AES-256-GCM decryption: the plaintext where the tag verifies. (Log entry 8: PRESUMED, unsafe.) -/
def gcmDecrypt (key iv aad ct tag : List Byte) : Option (List Byte) :=
  let keys := aesKeys key
  if gcmTag keys iv aad ct = tag then some (gcmCtr keys iv ((ct.length + 15) / 16) 2 ct) else none

/-! ### P-256 -/

def p256p : Nat := 0xFFFFFFFF00000001000000000000000000000000FFFFFFFFFFFFFFFFFFFFFFFF
def p256n : Nat := 0xFFFFFFFF00000000FFFFFFFFFFFFFFFFBCE6FAADA7179E84F3B9CAC2FC632551
def p256b : Nat := 0x5AC635D8AA3A93E7B3EBBD55769886BC651D06B0CC53B0F63BCE3C3E27D2604B
def p256gx : Nat := 0x6B17D1F2E12C4247F8BCE6E563A440F277037D812DEB33A0F4A13945D898C296
def p256gy : Nat := 0x4FE342E2FE1A7F9B8EE7EB4A7C0F9E162BCE33576B315ECECBB6406837BF51F5

/-- `b ^ e mod m`, the exponent taken over `n` bits, highest first. -/
def powMod (b m : Nat) : Nat → Nat → Nat → Nat
  | 0, _, acc => acc
  | n + 1, e, acc =>
    let sq := acc * acc % m
    powMod b m n e (if e.testBit n then sq * b % m else sq)

/-- The inverse modulo a prime of 256 bits. -/
def invMod (a m : Nat) : Nat := powMod (a % m) m 256 (m - 2) 1

def subMod (a b m : Nat) : Nat := (a % m + m - b % m) % m

/-- A point in Jacobian coordinates; Z = 0 is the point at infinity. -/
structure JPoint where
  x : Nat
  y : Nat
  z : Nat

def jInf : JPoint := { x := 1, y := 1, z := 0 }

def jDouble (q : JPoint) : JPoint :=
  if q.z = 0 ∨ q.y = 0 then jInf else
  let p := p256p
  let z2 := q.z * q.z % p
  let m := 3 * (subMod q.x z2 p * ((q.x + z2) % p) % p) % p
  let y2 := q.y * q.y % p
  let s := 4 * (q.x * y2 % p) % p
  let x' := subMod (m * m % p) (2 * s) p
  { x := x', y := subMod (m * subMod s x' p % p) (8 * (y2 * y2 % p)) p, z := 2 * (q.y * q.z % p) % p }

def jAdd (a b : JPoint) : JPoint :=
  if a.z = 0 then b else if b.z = 0 then a else
  let p := p256p
  let z1 := a.z * a.z % p
  let z2 := b.z * b.z % p
  let u1 := a.x * z2 % p
  let u2 := b.x * z1 % p
  let s1 := a.y * (z2 * b.z % p) % p
  let s2 := b.y * (z1 * a.z % p) % p
  if u1 = u2 then (if s1 = s2 then jDouble a else jInf) else
  let h := subMod u2 u1 p
  let r := subMod s2 s1 p
  let h2 := h * h % p
  let h3 := h2 * h % p
  let v := u1 * h2 % p
  let x' := subMod (subMod (r * r % p) h3 p) (2 * v) p
  { x := x', y := subMod (r * subMod v x' p % p) (s1 * h3 % p) p, z := a.z * b.z % p * h % p }

/-- Scalar multiplication over `n` bits of `k`, highest first. -/
def jMul (k : Nat) (q : JPoint) : Nat → JPoint → JPoint
  | 0, acc => acc
  | n + 1, acc =>
    let d := jDouble acc
    jMul k q n (if k.testBit n then jAdd d q else d)

/-- The affine coordinates; none at infinity. -/
def jAffine (q : JPoint) : Option (Nat × Nat) :=
  if q.z = 0 then none else
  let zi := invMod q.z p256p
  let z2 := zi * zi % p256p
  some (q.x * z2 % p256p, q.y * (z2 * zi % p256p) % p256p)

/-- A point of the curve from its 64-byte X‖Y. -/
def pointOf (xy : List Byte) : Option JPoint :=
  let x := ofBe (slice xy 0 32)
  let y := ofBe (slice xy 32 32)
  if x < p256p ∧ y < p256p ∧ y * y % p256p = (subMod (x * x % p256p * x % p256p) (3 * x) p256p + p256b) % p256p
  then some { x := x, y := y, z := 1 } else none

def p256g : JPoint := { x := p256gx, y := p256gy, z := 1 }

/-- ECDSA P-256 verification of `sig` = r‖s over a SHA-256 digest under key X‖Y (R135).
(Log entry 8: PRESUMED, unsafe.) -/
def ecdsaVerify (key digest sig : List Byte) : Bool :=
  let r := ofBe (slice sig 0 32)
  let t := ofBe (slice sig 32 32)
  if r = 0 ∨ t = 0 ∨ p256n ≤ r ∨ p256n ≤ t then false else
  match pointOf key with
  | none => false
  | some q =>
    let w := invMod t p256n
    let u1 := ofBe digest * w % p256n
    let u2 := r * w % p256n
    match jAffine (jAdd (jMul u1 p256g 256 jInf) (jMul u2 q 256 jInf)) with
    | none => false
    | some (x, _) => decide (x % p256n = r)

/-- The candidates for ECDSA's k that the generator of RFC 6979 gives from its key and value, tried until one signs. -/
def ecdsaTry (x h : Nat) (key v : List Byte) : Nat → List Byte
  | 0 => []
  | fuel + 1 =>
    let v := hmac key v
    let k := ofBe v
    let r := match jAffine (jMul k p256g 256 jInf) with
      | some (px, _) => px % p256n
      | none => 0
    let t := invMod k p256n * (h + r * x) % p256n
    if 1 ≤ k ∧ k < p256n ∧ r ≠ 0 ∧ t ≠ 0 then be 32 r ++ be 32 t
    else
      let key := hmac key (v ++ [0])
      ecdsaTry x h key (hmac key v) fuel

/-- The ECDSA P-256 signature r‖s of a SHA-256 digest under scalar `x`, with the nonce of RFC 6979 (Table 16.3).
(Log entry 8: PRESUMED, unsafe.) -/
def ecdsaSign (x : Nat) (digest : List Byte) : List Byte :=
  let h := ofBe digest % p256n
  let seed := be 32 x ++ be 32 h
  let v := List.replicate 32 (1 : Byte)
  let key := hmac (List.replicate 32 0) (v ++ [0] ++ seed)
  let v := hmac key v
  let key := hmac key (v ++ [1] ++ seed)
  ecdsaTry x h key (hmac key v) 0x100000000

/-- The public key X‖Y of a scalar. (Log entry 8: PRESUMED, unsafe.) -/
def pubKey (k : Nat) : List Byte :=
  match jAffine (jMul k p256g 256 jInf) with
  | none => List.replicate 64 0
  | some (x, y) => be 32 x ++ be 32 y

/-- The ECDH shared secret, the 32-byte X of k × Q. (Log entry 8: PRESUMED, unsafe.) -/
def ecdh (k : Nat) (xy : List Byte) : Option (List Byte) :=
  match pointOf xy with
  | none => none
  | some q => (jAffine (jMul k q 256 jInf)).map fun p => be 32 p.1

end Sys2Proof.Machine
end

