-- ==== Sys2Proof/Config.lean ====
section
/-! DEFINITION. What one device fixes and what the manual leaves free. Each constant has no body, so no proof can see
its value; a claim holds for every value (log entry 6). -/

namespace Sys2Proof

/-- The variant that IDENT answers (Table 6.5): bit 0 is 1 on an LU848-G1. (Log entry 6: DESIGN CHOICE, safe.) -/
opaque Config.variantG1 : Bool

/-- The mask-ROM level of Root that STSTAT shows ("Fixed"). (Log entry 6: DESIGN CHOICE, safe.) -/
opaque Config.romLevel : Byte

/-- Random values: draw `n` of the noise sources behind nonces (R169), the Sap nonce (R478), the tag key (R524) and
session keys (R299). Applied to the counter `freeCtr` of the state. (Log entry 6: DESIGN CHOICE, safe.) -/
opaque Config.random : Nat → BitVec 256

/-- Satchel's tag unit (R524): the 64-bit tag of a line's index and its 32 bytes under a 128-bit key.
(Log entry 6: DESIGN CHOICE, safe.) -/
opaque Config.satTag : BitVec 128 → Nat → BitVec 256 → BitVec 64

/-- The response of the unclonable function after reconstruction (R475). (Log entry 6: DESIGN CHOICE, safe.) -/
opaque Config.pufResponse : BitVec 256

/-- R42: whether a RST_N low of a length between 100 ns and 1.0 µs is recognised as a reset. -/
opaque Config.rstnSeen : Nat → Bool

/-- The shared secret of the ECDH with a partner, drawn per session (R296): the partner's key is outside the model.
(Log entry 6: DESIGN CHOICE, safe.) -/
opaque Config.sharedSecret : Nat → BitVec 256

/-- The byte that stands for alternative `n` of a field whose table names its alternatives and gives them no codes
(an event's cause, an AMS, an engine state); `what` is the event code or the field.
(Log entries 6: DESIGN CHOICE, safe; 16: DESIGN CHOICE, safe.) -/
opaque Config.codeByte (what : Half) (n : Nat) : Byte

end Sys2Proof
end

