-- ==== Sys2Proof/Machine/Mem.lean ====
section
/-! DEFINITION. Sparse memory in one canonical form: a list of (address, value) pairs with strictly rising addresses and
no entry equal to what an unlisted address reads as. The flash (unlisted bytes 0xFF), the Satchel (0) and the rows of
Heartwood (blank) are held so. -/

namespace Sys2Proof.Machine

/-- What address `a` holds; `d` where nothing is listed. (Log entry 5: DEDUCED, safe.) -/
def mget {α : Type} (d : α) (m : List (Nat × α)) (a : Nat) : α :=
  match m with
  | [] => d
  | (k, v) :: t => if k = a then v else mget d t a

/-- `m` with `v` at address `a`, in canonical form. (Log entry 5: DEDUCED, safe.) -/
def mput {α : Type} [DecidableEq α] (d : α) (m : List (Nat × α)) (a : Nat) (v : α) : List (Nat × α) :=
  match m with
  | [] => if v = d then [] else [(a, v)]
  | (k, w) :: t =>
    if a < k then (if v = d then (k, w) :: t else (a, v) :: (k, w) :: t)
    else if a = k then (if v = d then t else (a, v) :: t)
    else (k, w) :: mput d t a v

/-- Every listed address is at or above `lo`, they rise strictly, and no entry equals the default. -/
def mwfFrom {α : Type} [DecidableEq α] (d : α) (lo : Nat) : List (Nat × α) → Bool
  | [] => true
  | (k, v) :: t => decide (lo ≤ k) && decide (v ≠ d) && mwfFrom d (k + 1) t

/-- The canonical form. (Log entry 5: DEDUCED, safe.) -/
def mwf {α : Type} [DecidableEq α] (d : α) (m : List (Nat × α)) : Bool := mwfFrom d 0 m

/-- Values laid out from address `a` up, in front of what lies above them. -/
def mplace {α : Type} [DecidableEq α] (d : α) (a : Nat) (vs : List α) (above : List (Nat × α)) : List (Nat × α) :=
  match vs with
  | [] => above
  | v :: t => if v = d then mplace d (a + 1) t above else (a, v) :: mplace d (a + 1) t above

/-- `n` values from address `a` up. -/
def mread {α : Type} (d : α) (m : List (Nat × α)) (a n : Nat) : List α :=
  match n with
  | 0 => []
  | n + 1 => mget d m a :: mread d m (a + 1) n

/-- Values stored from address `a` up. -/
def mwrite {α : Type} [DecidableEq α] (d : α) (m : List (Nat × α)) (a : Nat) (vs : List α) : List (Nat × α) :=
  match vs with
  | [] => m
  | v :: t => mwrite d (mput d m a v) (a + 1) t

/-- `m` without the addresses from `a` to `a + n - 1`. -/
def mclear {α : Type} (m : List (Nat × α)) (a n : Nat) : List (Nat × α) :=
  m.filter fun e => decide (e.1 < a) || decide (a + n ≤ e.1)

/-- An erased flash byte. (Log entry 5: DEDUCED, safe.) -/
abbrev erased : Byte := 0xFF

/-- Programming NOR flash only clears bits (R580). -/
def mprogram (m : List Host.Cell) (a : Nat) (vs : List Byte) : List Host.Cell :=
  match vs with
  | [] => m
  | v :: t => mprogram (mput erased m a (mget erased m a &&& v)) (a + 1) t

end Sys2Proof.Machine
end

