-- ==== Sys2Proof/Machine/Ring.lean ====
section
/-! DEFINITION. Events: how a step raises one, how the entries of one step are put in order and written to the Ring
(R603 to R606, R610, R176), and which of them wait in the Sap domain's parked record (R463, R464). -/

namespace Sys2Proof.Machine

/-- Crown is out of reset and past step 2 of Table 3.5: the Ring accepts entries (chapter 20, "Start-up and reset"). -/
def crownUp (s : State) : Bool :=
  match s.boot.phase with
  | .resetHold | .crownReset | .integrityHold => false
  | _ => true

/-- Crown is out of reset: from step 1 of Table 3.5, and in Limp and the integrity hold. -/
def crownRuns (s : State) : Bool :=
  match s.boot.phase with
  | .resetHold | .crownReset => false
  | _ => true

/-- Crown counts Root's ticks: it runs, Root's oscillator runs, and no loss freezes its timer cells (R122, R204). -/
def ticksCount (s : State) : Bool :=
  crownRuns s && s.power.refoscRunning && match s.strap.link with
    | .lost | .resync => false
    | _ => true

/-- Ready has been reached. -/
def isReady (s : State) : Bool := s.boot.phase = .ready

/-- The host port answers frames: ready, Limp or the integrity hold. -/
def isOpen (s : State) : Bool :=
  match s.boot.phase with
  | .ready | .limp | .integrityHold => true
  | _ => false

/-- Raise an event: it is written at the end of the step. An event while Crown is in reset is not raised. -/
def emit (e : Event) (s : State) : State :=
  if crownUp s then { s with raised := s.raised ++ [e] } else s

def emitIf (c : Bool) (e : Event) (s : State) : State := if c then emit e s else s

/-- A device event: source 0xFF. -/
def devEv (code : Half) (sev : Nat) (data : List Byte) : Event := { code, sev, data }

/-- A port event of code P0 code + 0x100 × n (R612), source the port. -/
def portEv (p : Fin 8) (code : Nat) (sev : Nat) (data : List Byte) : Event :=
  { code := BitVec.ofNat 16 (code + 0x100 * p.val), src := BitVec.ofNat 8 p.val, sev, data }

/-- The oldest parked entry of severity below 5 taken out (R464); none if there is no such entry. -/
def dropMinor : List (Event × Word) → Option (List (Event × Word))
  | [] => none
  | e :: t => if e.1.sev < 5 then some t else (dropMinor t).map (e :: ·)

/-- R463, R464: an entry into the eight-entry record of the Sap domain. -/
def park (e : Event) (s : State) : State :=
  if s.sap.record.length < 8 then { s with sap := { s.sap with record := s.sap.record ++ [(e, s.sap.clock)] } }
  else match dropMinor s.sap.record with
    | some r => { s with sap := { s.sap with record := r ++ [(e, s.sap.clock)] } }
    | none => { s with sap := { s.sap with recLost := bump 8 s.sap.recLost } }

/-- An event of the Sap domain: to the Ring while Crown runs, otherwise to the parked record (R463). -/
def emitSap (e : Event) (s : State) : State := if crownUp s then emit e s else park e s

/-- SAPCLOCK in whole minutes, modulo 65,536, the 2-byte field of R603. -/
def clockMin (c : Word) : List Byte := le 2 (c.toNat / 60)

/-- One entry of Table 20.4 as a number, byte 0 lowest. -/
def entryBytes (e : Event) (gen : Half) (stamp : Word) : BitVec 128 :=
  BitVec.ofNat 128 (ofLe (le 2 e.code.toNat ++ le 2 gen.toNat ++ le 4 stamp.toNat ++ [e.src, BitVec.ofNat 8 e.sev]
    ++ slice e.data 0 6))

/-- The port whose station a code names. -/
def codePort (code : Half) : Option (Fin 8) :=
  let st := code.toNat / 256
  if h : 0x20 ≤ st ∧ st < 0x28 then some ⟨st - 0x20, by omega⟩ else none

/-- R604, R605: the ring after one more entry. -/
def ringPut (e : Event) (stamp : Word) (r : Ring) : Ring :=
  let idx := r.newest + 1
  let gen := if idx = 0 ∧ r.used then r.gen + 1 else r.gen
  let ent := entryBytes e gen stamp
  { r with
    entries := r.entries.set (idx.toNat % 256) ent (Nat.mod_lt _ (by decide))
    newest := idx, gen := gen, used := true
    sevCounts := r.sevCounts.set (e.sev % 8) (bump 8 (r.sevCounts[e.sev % 8]'(Nat.mod_lt _ (by decide))))
      (Nat.mod_lt _ (by decide))
    copies := if 3 ≤ e.sev then r.copies ++ [(idx, ent)] else r.copies }

/-- An entry into the Ring. -/
def ringEntry (e : Event) (s : State) : State := { s with ring := ringPut e s.time.stamp s.ring }

/-- R176. (Log entry 65: DEDUCED, unsafe.) -/
def irqEntry (e : Event) (s : State) : State :=
  if isOpen s && decide (s.host.sevThreshold.toNat ≤ e.sev) then
    { s with host := { s.host with irqStat := s.host.irqStat ||| 2 } }
  else s

/-- LAST_EVENT of the port that an entry names (Table 6.10). -/
def lastEntry (e : Event) (s : State) : State :=
  match codePort e.code with
  | none => s
  | some p =>
    let q := s.ports[p]
    { s with ports := s.ports.set p { q with pd := { q.pd with lastEvent := e.code } } }

/-- One entry written: the Ring, its interrupt and the port's LAST_EVENT. -/
def writeEntry (s : State) (e : Event) : State := lastEntry e (irqEntry e (ringEntry e s))

/-- An event put behind those of its own and of lower stations. -/
def insertEv (e : Event) : List Event → List Event
  | [] => [e]
  | f :: t => if f.code.toNat / 256 ≤ e.code.toNat / 256 then f :: insertEv e t else e :: f :: t

/-- R604: the events of one instant in ascending station number, each station's in the order raised. -/
def sortEvents (es : List Event) : List Event := es.foldl (fun acc e => insertEv e acc) []

/-- Write what the step has raised. -/
def flush (s : State) : State :=
  let es := sortEvents s.raised
  es.foldl writeEntry { s with raised := [] }

/-- R610: waiting copies whose Ring index holds another entry now are lost and counted; JOURNAL_DROP is raised at most
once per second. -/
def dropOverwritten (s : State) : State :=
  let alive (c : Byte × BitVec 128) : Bool := decide (s.ring.entries[c.1.toNat]'(c.1.isLt) = c.2)
  let lost := (s.ring.copies.filter fun c => !alive c).length
  if lost = 0 then s else
  let drops := (List.range lost).foldl (fun c _ => bump 16 c) s.ring.drops
  let due := match s.ring.dropEntryAt with
    | none => true
    | some t => decide (t + 1000000 ≤ s.time.now)
  let s := { s with ring := { s.ring with copies := s.ring.copies.filter alive, drops := drops } }
  if due then
    emit (devEv 0x0A02 3 (le 2 drops.n)) { s with ring := { s.ring with dropEntryAt := some s.time.now } }
  else s

end Sys2Proof.Machine
end

