-- ==== Sys2Proof/Machine/Ops.lean ====
section
/-! DEFINITION. The named operations every family shares: updates of one port's parts, free values, intervals measured on
Crown's count, the alarm word and interrupt bits (Table 6.8, IRQSTAT), and the host's waiting completion. -/

namespace Sys2Proof.Machine

/-! ### Parts of the state -/

/-- What Crown shows while it cannot observe Root. -/
def shownNow (s : State) : Shown :=
  { ports := s.ports, groups := s.groups, groupUp := s.power.groupUp, vinMv := s.power.vinMv }

def modPort (p : Fin 8) (f : Port → Port) (s : State) : State :=
  { s with ports := s.ports.set p (f s.ports[p]) }

def modCc (p : Fin 8) (f : CcPort → CcPort) (s : State) : State := modPort p (fun q => { q with cc := f q.cc }) s

def modPd (p : Fin 8) (f : PdPort → PdPort) (s : State) : State := modPort p (fun q => { q with pd := f q.pd }) s

def modCinch (p : Fin 8) (f : CinchPort → CinchPort) (s : State) : State :=
  modPort p (fun q => { q with cinch := f q.cinch }) s

def modMetro (p : Fin 8) (f : MetroPort → MetroPort) (s : State) : State :=
  modPort p (fun q => { q with metro := f q.metro }) s

def modHold (p : Fin 8) (f : HoldPort → HoldPort) (s : State) : State :=
  { s with strap := { s.strap with holds := s.strap.holds.set p (f s.strap.holds[p]) } }

def modGroup (g : Fin 2) (f : Group → Group) (s : State) : State :=
  { s with groups := s.groups.set g (f s.groups[g]) }

def modCmp (n : Fin 8) (f : Cmp → Cmp) (s : State) : State := { s with cmps := s.cmps.set n (f s.cmps[n]) }

def modPg (n : Fin 8) (f : Pg → Pg) (s : State) : State := { s with pgs := s.pgs.set n (f s.pgs[n]) }

def modStand (k : Fin 16) (f : Stand → Stand) (s : State) : State :=
  { s with grain := { s.grain with stands := s.grain.stands.set k (f s.grain.stands[k]) } }

def modItem (i : Fin 20) (f : PkItem → PkItem) (s : State) : State :=
  { s with pocket := { s.pocket with items := s.pocket.items.set i (f s.pocket.items[i]) } }

def portCc (s : State) (p : Fin 8) : CcPort := s.ports[p].cc

def portPd (s : State) (p : Fin 8) : PdPort := s.ports[p].pd

def portCinch (s : State) (p : Fin 8) : CinchPort := s.ports[p].cinch

def portMetro (s : State) (p : Fin 8) : MetroPort := s.ports[p].metro

/-- A port as Crown sees it: in a loss, what Root alone moves stands as it stood when Crown declared the loss (R217). -/
def seenPort (s : State) (p : Fin 8) : Port :=
  match s.shown with
  | none => s.ports[p]
  | some v =>
    let q := s.ports[p]
    let k := v.ports[p]
    { q with
      cc := { q.cc with
        state := k.cc.state, orient := k.cc.orient, vconnOn := k.cc.vconnOn, vconnOc := k.cc.vconnOc, ccOvp := k.cc.ccOvp
        floodNow := k.cc.floodNow, floodPkts := k.cc.floodPkts, floodIdle := k.cc.floodIdle }
      cinch := { q.cinch with
        st := k.cinch.st, stuck := k.cinch.stuck, compliance := k.cinch.compliance, ceiling := k.cinch.ceiling
        ew := k.cinch.ew, pumpOk := k.cinch.pumpOk, lastTrip := k.cinch.lastTrip, tripTimes := k.cinch.tripTimes
        gates := k.cinch.gates, trips := k.cinch.trips, vset := k.cinch.vset }
      metro := { q.metro with
        vbus := k.metro.vbus, ibus := k.metro.ibus, seq := k.metro.seq, vCal := k.metro.vCal, iCal := k.metro.iCal
        ovr := k.metro.ovr, fault := k.metro.fault, cause := k.metro.cause } }

/-- A group, its supply and its VIN in mV, as Crown sees them (R217). -/
def seenGroup (s : State) (g : Fin 2) : Group := (s.shown.map fun v => v.groups[g]).getD s.groups[g]
def seenUp (s : State) (g : Fin 2) : Bool := (s.shown.map fun v => v.groupUp[g]).getD s.power.groupUp[g]
def seenVin (s : State) (g : Fin 2) : Nat := (s.shown.map fun v => v.vinMv[g]).getD s.power.vinMv[g]

def allPorts : List (Fin 8) := List.finRange 8

/-- VBUS in mV, to the nearest. (Log entry 21: DEDUCED, unsafe.) -/
def vbusMv (m : MetroPort) : Nat := (m.vbus + 2) / 4

/-- Ports of group A are P0 to P3, of group B P4 to P7 (chapter 02). -/
def groupOf (p : Fin 8) : Fin 2 := if p.val < 4 then 0 else 1

def groupPorts (g : Fin 2) : List (Fin 8) := allPorts.filter fun p => groupOf p = g

/-- One operation on each of some ports, in order. -/
def onPorts (ps : List (Fin 8)) (f : Fin 8 → State → State) (s : State) : State := ps.foldl (fun s p => f p s) s

/-! ### Time and free values -/

/-- Crown's count has advanced by at least `us` microseconds since `t`. (Log entry 155: DESIGN CHOICE, unsafe.) -/
def passed (s : State) (t us : Nat) : Bool := decide (t + us ≤ s.time.now)

/-- An entry limit: none before, or the last one at least `us` ago. (Log entry 155: DESIGN CHOICE, unsafe.) -/
def due (s : State) (last : Option Nat) (us : Nat) : Bool :=
  match last with
  | none => true
  | some t => passed s t us

/-- The times of a list that lie less than `us` back. -/
def recent (s : State) (us : Nat) (ts : List Nat) : List Nat := ts.filter fun t => !passed s t us

/-- A free value, and the state with the next one. (Log entry 6: DESIGN CHOICE, safe.) -/
def freeValue (s : State) : BitVec 256 := Config.random s.freeCtr

/-- (Log entry 6: DESIGN CHOICE, safe.) -/
def drawn (s : State) : State := { s with freeCtr := s.freeCtr + 1 }

/-! ### Alarms and interrupts -/

def irq (bit : Nat) (s : State) : State :=
  { s with host := { s.host with irqStat := s.host.irqStat ||| (1 <<< bit) } }

/-- Set or clear one of the DEV_ALARMS bits that no other state shows: 1 REFOSC_FAIL, 2 FLASH_FAIL, 3 POCKET_SHORT,
10 SWEEP_ABORTED. (Log entry 11: DEDUCED, unsafe.) -/
def alarmBit (i : Nat) (on : Bool) (s : State) : State :=
  let m : BitVec 11 := 1 <<< i
  { s with host := { s.host with devAlarms := if on then s.host.devAlarms ||| m else s.host.devAlarms &&& ~~~m } }

/-- GCUT_x is off: held open, or off by its resistor while its group is unpowered (R39, Table 2.8). -/
def gcutOff (s : State) (g : Fin 2) : Bool := s.groups[g].gcutOpen || !s.power.groupUp[g]

/-- The same, as Crown sees it. -/
def gcutSeenOff (s : State) (g : Fin 2) : Bool := (seenGroup s g).gcutOpen || !seenUp s g

/-- DEV_ALARMS of Table 6.8: the present conditions. (Log entry 11: DEDUCED, unsafe.) -/
def devAlarms (s : State) : BitVec 11 :=
  s.host.devAlarms |||
  BitVec.ofNat 11 (b2n s.strap.crownLost + (b2n (!s.satchel.poisoned.isEmpty)) <<< 4
    + (b2n (!seenUp s 0)) <<< 5 + (b2n (!seenUp s 1)) <<< 6
    + (b2n (gcutSeenOff s 0)) <<< 7 + (b2n (gcutSeenOff s 1)) <<< 8
    + (b2n (s.sap.running && !s.sap.rsvPresent)) <<< 9)

/-- SUMMARY ROLES of a port (Table 6.10). -/
def rolesOf (q : Port) : Byte :=
  let pps := q.pd.explicit && field q.pd.pdo 31 30 == 3
  BitVec.ofNat 8 (b2n q.cc.orient + (b2n q.pd.source) <<< 1 + (b2n q.pd.dfp) <<< 2 + (b2n q.cc.vconnOn) <<< 3
    + (b2n q.pd.explicit) <<< 4 + (b2n q.pd.eprMode) <<< 5 + (b2n pps) <<< 6
    + (b2n (q.pd.auth = .authenticated || q.pd.authHeld)) <<< 7)

/-- The interrupt bits that a comparison of the states before and after a step sets: ALARM, PORT, REIN, GRAFT, SAP. -/
def noticeBits (a b : State) : BitVec 12 :=
  let port := allPorts.any fun p => decide ((seenPort a p).cc.state ≠ (seenPort b p).cc.state)
    || decide (rolesOf (seenPort a p) ≠ rolesOf (seenPort b p)) || decide ((seenPort a p).cinch.st ≠ (seenPort b p).cinch.st)
  let alarm := decide (devAlarms b &&& ~~~devAlarms a ≠ 0) || decide (b.bark.active &&& ~~~a.bark.active ≠ 0)
    || decide (b.bark.latched &&& ~~~a.bark.latched ≠ 0)
  let rein := decide (a.rein.state ≠ b.rein.state) || decide (a.rein.lastResult ≠ b.rein.lastResult)
  BitVec.ofNat 12 ((b2n alarm) <<< 2 + (b2n port) <<< 8 + (b2n rein) <<< 9
    + (b2n (a.graft.st ≠ b.graft.st)) <<< 10 + (b2n (a.sap.level ≠ b.sap.level)) <<< 11)

/-- IRQSTAT and DEV_ALARMS_LATCHED after a step from `a` to `b`: both follow while the host port is open.
(Log entries 65: DEDUCED, unsafe; 101: DEDUCED, unsafe.) -/
def notice (a b : State) : State :=
  if isOpen b then
    { b with host := { b.host with
        irqStat := b.host.irqStat ||| noticeBits a b
        devAlarmsLatched := b.host.devAlarmsLatched ||| devAlarms b } }
  else b

/-- The work of the host's long job is done: its completion waits for JOB_DONE (R157).
(Log entry 76: DEDUCED, unsafe.) -/
def jobResult (rsp : Byte) (payload : List Byte) (s : State) : State :=
  match s.host.job with
  | some j => if j.long && j.result.isNone then
      { s with host := { s.host with job := some { j with result := some (rsp, payload) } } } else s
  | none => s

/-- DONE with an empty payload, and JOB_FAIL with a DETAIL (Table 6.6). -/
def jobOk (s : State) : State := jobResult 0x03 [] s
def jobFail (detail : Nat) (s : State) : State := jobResult 0x04 (le 4 detail) s

/-- IRQ_N is asserted (R175). -/
def irqAsserted (s : State) : Bool :=
  decide ((s.host.irqStat ||| BitVec.ofNat 12 (b2n s.host.jobDone)) &&& s.host.irqEn ≠ 0)

/-! ### The Strap, as either end sees it -/

def strapUp (s : State) : Bool := s.strap.link = .up

/-- Crown sees what Root does, and its requests reach Root. -/
def rootSeen (s : State) : Bool := strapUp s && !s.strap.rootLost

/-- An event of what Root does or measures itself; while Crown cannot be told, its entry follows the restore.
(Log entry 181: DEDUCED, unsafe.) -/
def rootEv (e : Event) (s : State) : State :=
  if rootSeen s then emit e s else { s with strap := { s.strap with due := s.strap.due ++ [e] } }

/-- The entries that waited for the restore. -/
def rootEvents (s : State) : State :=
  s.strap.due.foldl (fun s e => emit e s) { s with strap := { s.strap with due := [] } }

/-- Crown's requests reach the port: neither end has declared a loss, and its stand is not being reloaded (R14, R127). -/
def portReach (s : State) (p : Fin 8) : Bool := rootSeen s && !s.strap.holds[p].standHold

/-- The port's group is powered (R56). -/
def portPowered (s : State) (p : Fin 8) : Bool := s.power.groupUp[groupOf p]

/-! ### What Crown asks of Root at a port -/

/-- What Root presents on the CC lines; those of an unpowered group are open (Table 2.8).
(Log entry 118: DEDUCED, safe.) -/
def present (p : Fin 8) (t : CcTerm) (s : State) : State :=
  modCc p (fun c => { c with term := if portPowered s p then t else .opened }) s

/-- A message to Root for a PD_TX frame, on an ordered set; none is sent while the link is down (R216).
(Log entries 102: DEDUCED, unsafe; 118: DEDUCED, safe.) -/
def pdSendOn (p : Fin 8) (on : Sop) (m : PdMsg) (s : State) : State :=
  if strapUp s then modPd p (fun q => { q with txq := q.txq ++ [{ sop := on, msg := m }] }) s else s

def pdSend (p : Fin 8) (m : PdMsg) (s : State) : State := pdSendOn p .sop m s

/-- The kinds of AMS that PDSTAT.AMS tells apart; the codes are free (Config.codeByte).
(Log entry 103: DESIGN CHOICE, safe.) -/
def amsNegotiation : Byte := 1
/-- (Log entry 103: DESIGN CHOICE, safe.) -/
def amsPrSwap : Byte := 2
def amsDrSwap : Byte := 3
def amsVconnSwap : Byte := 4
def amsFrSwap : Byte := 5
def amsReset : Byte := 6
/-- (Log entry 103: DESIGN CHOICE, safe.) -/
def amsVdm : Byte := 7
/-- (Log entry 103: DESIGN CHOICE, safe.) -/
def amsSecurity : Byte := 8
def amsEpr : Byte := 9
def amsSinkCap : Byte := 10
def amsAlert : Byte := 11
/-- (Log entry 103: DESIGN CHOICE, safe.) -/
def amsHush : Byte := 12

/-- AMS as PDSTAT and SOFT_RESET show it: 0x00 for none, otherwise a non-zero code the manual does not give.
(Log entry 103: DESIGN CHOICE, safe.) -/
def amsByte (k : Byte) : Byte := if k = 0 then 0 else BitVec.ofNat 8 (1 + (Config.codeByte 0x0204 k.toNat).toNat % 255)

/-- An AMS that this port starts: as source with a contract, Rp goes to SinkTxNG and tSinkTx runs (R279).
(Log entry 104: DEDUCED, unsafe.) -/
def amsStart (p : Fin 8) (k : Byte) (s : State) : State :=
  let q := portPd s p
  let s := modPd p (fun q => { q with ams := k }) s
  if q.source && q.explicit then present p (.rp 1) (modPd p (fun q => { q with sinkTxWait := true }) s) else s

/-- The AMS has ended: SinkTxOK (R279), which reaches the port once it can be told (R14).
(Log entry 104: DEDUCED, unsafe.) -/
def amsEnd (p : Fin 8) (s : State) : State :=
  let q := portPd s p
  let s := modPd p (fun q => { q with ams := 0, sinkTxWait := false }) s
  if q.source && q.explicit && portReach s p then present p (.rp 2) s else s

/-- A message that starts an AMS of the port's own, or goes out within the one that runs (R279). -/
def amsSend (p : Fin 8) (k : Byte) (m : PdMsg) (s : State) : State :=
  pdSend p m (if (portPd s p).ams = 0 then amsStart p k s else s)

end Sys2Proof.Machine
end

