-- ==== Sys2Proof/Machine/Heart.lean ====
section
/-! DEFINITION. Heartwood as it is read: rows after redirection, voted flags, locks, the ledger, shadows, the fuse map
(Table 4.2) and the start check (Table 4.3). -/

namespace Sys2Proof.Machine

def hwRow (cells : List (Nat × HwRow)) (r : Nat) : HwRow := mget {} cells r

/-- The start check's vote: two of three copies determined and in agreement, bit by bit (R649): the bits that read 1, and
those decided. -/
def vote3 {w : Nat} (v1 k1 v2 k2 v3 k3 : BitVec w) : BitVec w × BitVec w :=
  let o1 := v1 &&& ~~~k1
  let o2 := v2 &&& ~~~k2
  let o3 := v3 &&& ~~~k3
  let ones := (o1 &&& o2) ||| (o1 &&& o3) ||| (o2 &&& o3)
  let zeros := (~~~v1 &&& ~~~v2) ||| (~~~v1 &&& ~~~v3) ||| (~~~v2 &&& ~~~v3)
  (ones, ones ||| zeros)

/-- The start check's reading of a flag of three cells from cell `i` of a row: its value and whether it is decided. -/
def vote (r : HwRow) (i : Nat) : Bool × Bool :=
  let v := vote3 (r.data.extractLsb' i 1) (r.weak.extractLsb' i 1) (r.data.extractLsb' (i + 1) 1)
    (r.weak.extractLsb' (i + 1) 1) (r.data.extractLsb' (i + 2) 1) (r.weak.extractLsb' (i + 2) 1)
  (v.1 = 1, v.2 = 1)

/-- The majority of a flag's cells at the normal margin (R85). -/
def flag3 (d : BitVec 64) (i : Nat) : Bool :=
  let n := b2n (d.getLsbD i) + b2n (d.getLsbD (i + 1)) + b2n (d.getLsbD (i + 2))
  decide (2 ≤ n)

def lockRow : Nat := 0x110

/-- The write-lock and read-lock fuses of region `k`, at the normal margin (R85, R649). -/
def wlockFuse (cells : List (Nat × HwRow)) (k : Nat) : Bool := flag3 (hwRow cells lockRow).data (3 * k)
def rlockFuse (cells : List (Nat × HwRow)) (k : Nat) : Bool := flag3 (hwRow cells lockRow).data (24 + 3 * k)

/-- Copy `c` of redirection entry `k`, its 16 bits and which are undetermined. -/
def redirCopy (cells : List (Nat × HwRow)) (c k : Nat) : BitVec 16 × BitVec 16 :=
  let r := hwRow cells (0x111 + 4 * c + k / 4)
  (r.data.extractLsb' (16 * (k % 4)) 16, r.weak.extractLsb' (16 * (k % 4)) 16)

/-- The bits of entry `k` that the start check decides (R96, R649). -/
def redirDecided (cells : List (Nat × HwRow)) (k : Nat) : BitVec 16 :=
  let a := redirCopy cells 0 k
  let b := redirCopy cells 1 k
  let c := redirCopy cells 2 k
  (vote3 a.1 a.2 b.1 b.2 c.1 c.2).2

/-- R96: entry `k` as voted bit by bit, at the normal margin. -/
def redirEntry (cells : List (Nat × HwRow)) (k : Nat) : BitVec 16 :=
  let a := (redirCopy cells 0 k).1
  let b := (redirCopy cells 1 k).1
  let c := (redirCopy cells 2 k).1
  (a &&& b) ||| (a &&& c) ||| (b &&& c)

def redirValid (cells : List (Nat × HwRow)) (k : Nat) : Bool := (redirEntry cells k).getLsbD 7

/-- R94: the spare that serves a main row, by the highest valid entry that names it. -/
def spareOf (cells : List (Nat × HwRow)) (row : Nat) : Option Nat :=
  ((List.range 16).filter fun k => redirValid cells k && (redirEntry cells k).toNat / 256 == row).getLast?

/-- The physical row a main row is served from. -/
def physRow (cells : List (Nat × HwRow)) (row : Nat) : Nat :=
  match spareOf cells row with
  | some k => 0x100 + k
  | none => row

def servedRow (cells : List (Nat × HwRow)) (row : Nat) : HwRow := hwRow cells (physRow cells row)

def flagRow (row : Nat) : Bool := row = 0x00 || row = 0xC0 || row = lockRow
def thermoRow (row : Nat) : Bool := row = 0xE0 || row = 0xE1
def plainRow (row : Nat) : Bool := !flagRow row && !thermoRow row

/-- Open: a data cell is burned and CLOSED is not. -/
def isOpenRow (r : HwRow) : Bool := decide (r.data ≠ 0) && !r.closed

/-- R88: an open row acts as blank. -/
def usedData (cells : List (Nat × HwRow)) (row : Nat) : BitVec 64 :=
  let r := servedRow cells row
  if plainRow row && isOpenRow r then 0 else r.data

/-- The latest ledger entry: the closed ledger row with the highest index. -/
def ledgerRow (cells : List (Nat × HwRow)) : Option Nat :=
  ((List.range 8).map (· + 0x11D)).filter (fun r => (hwRow cells r).closed) |>.getLast?

def ledgerMask (cells : List (Nat × HwRow)) : BitVec 8 :=
  match ledgerRow cells with
  | some r => (hwRow cells r).data.extractLsb' 56 8
  | none => 0

/-- HWLOCK.WLOCK (R92): the fuse, or the latest entry's MASK. -/
def wlocked (cells : List (Nat × HwRow)) (k : Nat) : Bool := wlockFuse cells k || (ledgerMask cells).getLsbD k

def wlockByte (cells : List (Nat × HwRow)) : Nat :=
  (List.range 8).foldl (fun acc k => acc + (b2n (wlocked cells k)) <<< k) 0

def rlockByte (cells : List (Nat × HwRow)) : Nat :=
  (List.range 8).foldl (fun acc k => acc + (b2n (rlockFuse cells k)) <<< k) 0

def regionOf (row : Nat) : Nat := row / 32

/-- The bytes of one region that the ledger digest takes. -/
def regionBytes (cells : List (Nat × HwRow)) (k : Nat) : List Byte :=
  BitVec.ofNat 8 k :: (List.range 32).flatMap fun i =>
    let row := 32 * k + i
    le 8 (if plainRow row then usedData cells row else 0).toNat

/-- The seven bytes of a ledger digest over a mask, as bits [55:0]. -/
def ledgerDigest (cells : List (Nat × HwRow)) (mask : BitVec 8) : Nat :=
  ofLe ((sha256 (((List.range 8).filter fun k => mask.getLsbD k).flatMap (regionBytes cells))).take 7)

/-- Odd parity over each data byte. -/
def parityOf (d : BitVec 64) : Byte :=
  BitVec.ofNat 8 ((List.range 8).foldl (fun acc k =>
    let ones := (List.range 8).foldl (fun n j => n + b2n (d.getLsbD (8 * k + j))) 0
    acc + (1 - ones % 2) <<< k) 0)

/-! ### The fuse map -/

/-- EVAL_LOCK, voted in row G0. -/
def evalFuse (s : State) : Bool := flag3 (usedData s.heart.cells 0xC0) 0
/-- (Log entry 160: DESIGN CHOICE, safe.) -/
def debugCloseFuse (s : State) : Bool := flag3 (usedData s.heart.cells 0xC0) 3

/-- The value a function uses for a row: its shadow (R105, R109) or its fuses. -/
def fuseRow (s : State) (row : Nat) : BitVec 64 :=
  match s.heart.shadows.find? (·.1 = row) with
  | some sh => if wlocked s.heart.cells (regionOf row) || evalFuse s then usedData s.heart.cells row else sh.2
  | none => usedData s.heart.cells row

/-- Bits [hi:lo] of a row, and R87: a field of all zeros takes its default. -/
def fuseField (s : State) (row hi lo default : Nat) : Nat :=
  let v := (fuseRow s row).toNat >>> lo % 2 ^ (hi + 1 - lo)
  if v = 0 then default else v

/-- A multi-row field as bytes (R86). -/
def fuseBytes (s : State) (row rows : Nat) : List Byte :=
  (List.range rows).flatMap fun i => le 8 (fuseRow s (row + i)).toNat

def deviceId (s : State) : List Byte := fuseBytes s 0x01 2
def malrenCaDigest (s : State) : List Byte := fuseBytes s 0x04 4
def canaryMargin (s : State) : Nat := fuseField s 0x10 7 0 0x1A
def hwSeed (s : State) : List Byte := fuseBytes s 0x20 4

def flash4Byte (s : State) : Bool := (fuseRow s 0x40).getLsbD 0

/-- The read command of FLASH_CFG [3:1] as its opcode (Table 21.9): codes 0b010 to 0b111 act as 0b000. -/
def flashReadOp (s : State) : Byte :=
  match decide ((fuseRow s 0x40).extractLsb' 1 3 = 1), flash4Byte s with
  | false, false => 0xEB
  | false, true => 0xEC
  | true, false => 0x6B
  | true, true => 0x6C

/-- The clocks between the last address clock and the first data clock of a read (FLASH_CFG [7:4], default 6). -/
def flashDummies (s : State) : Nat := fuseField s 0x40 7 4 6
/-- Page Program, 4 KiB Sector Erase and 64 KiB Block Erase of Table 21.9. -/
def flashProgramOp (s : State) : Byte := if flash4Byte s then 0x12 else 0x02
def flashSectorOp (s : State) : Byte := if flash4Byte s then 0x21 else 0x20
def flashBlockOp (s : State) : Byte := if flash4Byte s then 0xDC else 0xD8
def rootstockBase (s : State) : Nat := 0x10000 * fuseField s 0x40 23 8 0
def trialBase (s : State) : Nat := 0x10000 * fuseField s 0x40 39 24 0x10
def stagingBase (s : State) : Nat := 0x10000 * fuseField s 0x41 15 0 0x20
def journalBase (s : State) : Nat := 0x10000 * fuseField s 0x41 31 16 0x30
def recordBase (s : State) : Nat := 0x10000 * fuseField s 0x41 47 32 0x31

/-- HOLD_Pn as its code, at most 250. -/
def holdCode (s : State) (p : Fin 8) : Nat := min 250 ((fuseRow s 0x42).extractLsb' (8 * p.val) 8).toNat

def wdbPeriod (s : State) : Nat := fuseField s 0x60 3 0 4
def wdbOpen (s : State) : Nat := fuseField s 0x60 6 4 4
def wdbClkLf (s : State) : Bool := (fuseRow s 0x60).getLsbD 7
/-- R90: in the integrity hold no Heartwood field is used. -/
def fusesUsed (s : State) : Bool := decide (s.boot.phase ≠ .integrityHold)

def trickleFuse (s : State) : Bool := fusesUsed s && (fuseRow s 0x61).getLsbD 0
def vconnFuse (s : State) (g : Fin 2) : Bool := (fuseRow s 0x61).getLsbD (1 + g.val)
/-- RESERVE_CFG; in the integrity hold, where R90 uses no field, the kind of a blank row and no fused Dry floor.
(Log entry 163: DESIGN CHOICE, unsafe.) -/
def reserveLithium (s : State) : Bool := fusesUsed s && (fuseRow s 0x80).getLsbD 0

/-- (Log entry 163: DESIGN CHOICE, unsafe.) -/
def dryFloorUj (s : State) : Nat := if fusesUsed s then 10 * fuseField s 0x80 23 8 0x64 else 0
def barkClassRow (s : State) : BitVec 64 := fuseRow s 0x81
def trialBoots (s : State) : Nat := fuseField s 0xA0 3 0 3
def trialSeconds (s : State) : Nat := fuseField s 0xA0 15 4 60
def ownerKeyDigest (s : State) (k : Nat) : List Byte := fuseBytes s (0xC1 + 4 * k) 4
def keyRevoked (s : State) (k : Nat) : Bool := flag3 (usedData s.heart.cells 0xC9) (3 * k)

/-- R116: the anti-rollback count. (Log entry 13: DEDUCED, unsafe.) -/
def arbCount (s : State) : Nat :=
  let v := (servedRow s.heart.cells 0xE0).data ||| (servedRow s.heart.cells 0xE1).data
  match ((List.range 64).filter fun i => v.getLsbD i).getLast? with
  | some i => i + 1
  | none => 0

/-! ### The start check (Table 4.3) -/

/-- The first failure as (FAIL_KIND, FAIL_ROW). -/
def startCheck (cells : List (Nat × HwRow)) (late : Option Nat) : Option (Nat × Nat) :=
  let lr := hwRow cells lockRow
  if !((List.range 16).all fun i => (vote lr (3 * i)).2) then some (3, lockRow)
  else match (List.range 16).find? fun k => decide (redirDecided cells k ≠ 0xFFFF) with
  | some k => some (2, 0x111 + k / 4)
  | none =>
  let rows := (List.range 0x110).filter plainRow ++ (List.range 8).map (· + 0x11D)
  match rows.find? fun r => let h := hwRow cells r; h.closed && decide (h.parity ≠ parityOf h.data) with
  | some r => some (1, r)
  | none =>
  let mask := ledgerMask cells
  let ledger := (ledgerRow cells).getD lockRow
  let covered := (List.range 8).all fun k => !wlockFuse cells k || mask.getLsbD k
  let missing := ((List.range 8).filter fun k => mask.getLsbD k && !wlockFuse cells k).length
  if !covered || decide (1 < missing) then some (5, ledger)
  else match ledgerRow cells with
    | some r =>
      if ledgerDigest cells mask ≠ ((hwRow cells r).data.extractLsb' 0 56).toNat then some (4, r)
      else late.map fun l => (6, l)
    | none => late.map fun l => (6, l)

/-- A redirection entry whose copies disagree on some bit (R96); an undetermined copy counts as disagreeing.
(Log entry 166: DESIGN CHOICE, unsafe.) -/
def voteFixed (cells : List (Nat × HwRow)) : Bool :=
  (List.range 16).any fun k =>
    let a := redirCopy cells 0 k
    let b := redirCopy cells 1 k
    let c := redirCopy cells 2 k
    decide (a ≠ b) || decide (b ≠ c) || decide (a.2 ≠ 0)

/-- R92: a MASK region lacks its write-lock fuse. -/
def pendingLock (cells : List (Nat × HwRow)) : Bool :=
  (List.range 8).any fun k => (ledgerMask cells).getLsbD k && !wlockFuse cells k

/-- R93: main rows open as served. -/
def openRows (cells : List (Nat × HwRow)) : Nat :=
  ((List.range 256).filter fun r => plainRow r && isOpenRow (servedRow cells r)).length

/-- A spare is in use once its entry is valid or any of its cells is burned. (Log entry 12: DEDUCED, unsafe.) -/
def spareUsed (cells : List (Nat × HwRow)) (k : Nat) : Bool :=
  redirValid cells k || decide (hwRow cells (0x100 + k) ≠ {})

/-- (Log entry 12: DEDUCED, unsafe.) -/
def sparesUsed (cells : List (Nat × HwRow)) : Nat := ((List.range 16).filter (spareUsed cells)).length

/-- The evaluated configuration is in force, or EVAL_LOCK has just been burned: shadows are off (R109, R115). -/
def shadowsOff (s : State) : Bool := evalFuse s

end Sys2Proof.Machine
end

