-- ==== Sys2Proof/Machine/Journal.lean ====
section
/-! DEFINITION. The flash port's queue (Table 1.4), the flash journal of the Ring (R608 to R610, R652, R653), and the time
accumulators (R602, R611). -/

namespace Sys2Proof.Machine

/-! ### The flash port -/

/-- The order in which Table 1.4 serves waiting transfers. -/
def flashRank : FlashOp → Nat
  | .recordRead _ => 0
  | .recordWrite _ => 1
  | .journal => 2
  | .hostWrite _ _ => 3
  | .hostErase _ => 3
  | .hostRead _ _ => 3
  | .relayRead _ _ _ _ => 3
  | .graft _ => 3
  | .copy => 4

/-- A program or erase, which a record read suspends (R23). -/
def flashSuspends : FlashOp → Bool
  | .recordRead _ => false
  | .hostRead _ _ => false
  | .relayRead _ _ _ _ => false
  | .graft programs => programs
  | _ => true

/-- The first waiting transfer of the best rank, and the others. -/
def flashPick : List FlashOp → Option (FlashOp × List FlashOp)
  | [] => none
  | o :: t =>
    match flashPick t with
    | none => some (o, t)
    | some (b, r) => if flashRank b < flashRank o then some (b, o :: r) else some (o, t)

/-- The port takes its next transfer: a suspended one first, unless a record read waits. -/
def flashServe (s : State) : State :=
  let f := s.flash
  match f.current with
  | some c =>
    match flashPick f.waiting with
    | some (b, r) =>
      if flashRank b = 0 && flashSuspends c && f.suspended.isNone then
        { s with flash := { f with current := some b, suspended := some c, waiting := r } } else s
    | none => s
  | none =>
    match flashPick f.waiting, f.suspended with
    | some (b, r), some p =>
      if flashRank b = 0 then { s with flash := { f with current := some b, waiting := r } }
      else { s with flash := { f with current := some p, suspended := none } }
    | some (b, r), none => { s with flash := { f with current := some b, waiting := r } }
    | none, some p => { s with flash := { f with current := some p, suspended := none } }
    | none, none => s

/-- No transfer is in progress, suspended or waiting. -/
def flashIdle (s : State) : Bool :=
  s.flash.current.isNone && s.flash.suspended.isNone && s.flash.waiting.isEmpty

def flashQueue (o : FlashOp) (s : State) : State :=
  flashServe { s with flash := { s.flash with waiting := s.flash.waiting ++ [o] } }

/-- The present transfer is over. -/
def flashNext (s : State) : State := flashServe { s with flash := { s.flash with current := none } }

/-- FLASH_FAIL: the failing operation (0 read, 1 program, 2 erase) and the address. -/
def flashFailed (op addr : Nat) (s : State) : State :=
  alarmBit 2 true (emit (devEv 0x0007 5 (le 1 op ++ le 4 addr)) s)

/-- The flash has answered. (Log entry 11: DEDUCED, unsafe.) -/
def flashGood (s : State) : State := alarmBit 2 false { s with flash := { s.flash with ok := true } }

def flashBytes (s : State) (addr n : Nat) : List Byte := mread erased s.flash.mem addr n

def flashSize : Nat := 0x100000000

/-- The byte addresses that programming wraps into: the address space ends at 4 GiB. -/
def flashProgram (addr : Nat) (bs : List Byte) (s : State) : State :=
  { s with flash := { s.flash with mem := mprogram s.flash.mem (addr % flashSize) bs } }

def flashEraseRange (addr n : Nat) (s : State) : State :=
  { s with flash := { s.flash with mem := mclear s.flash.mem addr n } }

/-! ### The journal -/

/-- The highest code of each station's list in Table 20.6. -/
def lastCode (station : Nat) : Nat :=
  ([8, 5, 5, 3, 2, 6, 10, 8, 1, 3, 2, 3, 11, 6, 7, 2, 3, 1, 11, 3, 2] : List Nat).getD station 0

/-- A code of Table 20.6, or one that a Pattern defines (R612). -/
def allocated (code : Nat) : Bool :=
  let st := code / 256
  let lo := code % 256
  if st < 0x15 then decide (1 ≤ lo && lo ≤ lastCode st) || (decide (st = 3) && decide (0x80 ≤ lo))
  else if 0x20 ≤ st && st < 0x28 then
    decide ((1 ≤ lo && lo ≤ 0x0A) || (0x10 ≤ lo && lo ≤ 0x1C) || (0x20 ≤ lo && lo ≤ 0x2B) || (0x30 ≤ lo && lo ≤ 0x35)
      || (0x40 ≤ lo && lo ≤ 0x57))
  else false

def journalAddr (s : State) (i : Nat) : Nat := journalBase s + 16 * i

/-- Code and generation of journal position `i`. -/
def journalHead (s : State) (i : Nat) : Nat × Nat :=
  let b := flashBytes s (journalAddr s i) 4
  (numAt b 0 2, numAt b 2 2)

/-- A position that is neither erased nor valid (R609). -/
def journalTorn (s : State) (i : Nat) : Bool :=
  !allocated (journalHead s i).1 && (flashBytes s (journalAddr s i) 16).any (· ≠ erased)

/-- R609: the valid entries as (index, generation). -/
def journalValid (s : State) : List (Nat × Nat) :=
  (List.range 4096).filterMap fun i =>
    let h := journalHead s i
    if allocated h.1 then some (i, h.2) else none

/-- R609: the newest entry of a list of valid entries. -/
def journalNewest (es : List (Nat × Nat)) : Option (Nat × Nat) :=
  match es with
  | [] => none
  | e :: t =>
    let later := match t.find? fun f => f.2 ≠ e.2 with
      | some f => if e.2 = (f.2 + 1) % 65536 then e.2 else f.2
      | none => e.2
    (es.filter fun f => f.2 = later).getLast?

/-- R609, R652: the search has run on a flash that answered. -/
def journalFound (s : State) : State :=
  if s.ring.found then s else
  match journalNewest (journalValid s) with
  | none => { s with ring := { s.ring with found := true, jEmpty := true, jIndex := 0xFFF, jGen := 0, jNext := 0 } }
  | some (i, g) =>
    let n := (i + 1) % 4096
    let n := if journalTorn s n then (n + 1) % 4096 else n
    { s with ring := { s.ring with
        found := true, jEmpty := false, jIndex := i, jGen := BitVec.ofNat 16 g, jNext := n } }

/-- A waiting copy asks for the flash port, once the newest entry is known. -/
def journalKick (s : State) : State :=
  let busy := decide (s.flash.current = some .journal) || decide (s.flash.suspended = some .journal)
    || s.flash.waiting.any (· = .journal)
  if s.ring.found && !s.ring.copies.isEmpty && !busy then flashQueue .journal s else s

/-- The generation the entry at the next index carries (R608, R609). -/
def journalNextGen (r : Ring) : Half := if r.jEmpty then 0 else if r.jNext ≤ r.jIndex then r.jGen + 1 else r.jGen

/-- A journal entry: its Ring entry with bytes 2–3 the journal generation. -/
def journalBytes (ent : BitVec 128) (gen : Half) : List Byte :=
  let b := le 16 ent.toNat
  b.take 2 ++ le 2 gen.toNat ++ b.drop 4

/-- R608: the journal transfer has succeeded: the sector erased before its first entry, the entry programmed. -/
def journalWritten (s : State) : State :=
  let s := dropOverwritten s
  match s.ring.copies with
  | [] => s
  | c :: t =>
    let i := s.ring.jNext
    let gen := journalNextGen s.ring
    let s := if i % 256 = 0 then flashEraseRange (journalAddr s i) 4096 s else s
    let s := flashProgram (journalAddr s i) (journalBytes c.2 gen) s
    { s with ring := { s.ring with copies := t, jEmpty := false, jIndex := i, jGen := gen, jNext := (i + 1) % 4096 } }

/-- R653: the journal program has failed, its sector's erase done (R608): the position is marked torn where that succeeds,
and skipped. -/
def journalFailed (markOk : Bool) (s : State) : State :=
  let i := s.ring.jNext
  let s := if i % 256 = 0 then flashEraseRange (journalAddr s i) 4096 s else s
  let s := flashFailed 1 (journalAddr s i) s
  let s := if markOk then flashProgram (journalAddr s i) [0, 0] s else s
  { s with ring := { s.ring with jNext := (i + 1) % 4096 } }

/-! ### Time -/

/-- One second more of UPTIME, with its carry (R602). -/
def uptimeStep (s : State) : State :=
  let s' := { s with time := { s.time with uptime := s.time.uptime + 1 } }
  if s.time.uptime = 0xFFFFFFFF then emit (devEv 0x0008 1 []) s' else s'

/-- `us` more on the Ring timestamp, with its carry (R611). -/
def stampStep (us : Nat) (s : State) : State :=
  let n := s.time.stamp.toNat + us
  let s' := { s with time := { s.time with stamp := BitVec.ofNat 32 n } }
  if 2 ^ 32 ≤ n then emit (devEv 0x0A01 1 []) s' else s'

/-- Crown's count advances by `us` ticks of the reference oscillator. -/
def advanceTime (us : Nat) (s : State) : State :=
  let s := stampStep us s
  let u := s.time.uptimeUs + us
  let s := { s with time := { s.time with now := s.time.now + us, uptimeUs := u % 1000000 } }
  (List.range (u / 1000000)).foldl (fun s _ => uptimeStep s) s

/-! ### The end of every meaning -/

/-- The step that opens the host port leaves IRQSTAT as it sets it, READY only (Table 6.12).
(Log entry 65: DEDUCED, unsafe.) -/
def openIrq (a b s : State) : State :=
  if isOpen a then s else { s with host := { s.host with irqStat := b.host.irqStat } }

/-- The step's interrupts noticed, its entries written, and their journal copies asked for. -/
def finish (a b : State) : State := journalKick (openIrq a b (flush (notice a b)))

/-- What every meaning answers: the next state. (Log entry 2: DEDUCED, unsafe.) -/
def complete (a b : State) : Host.Outcome State Fault Refusal := .next (finish a b)

/-! ### The family's meanings -/

/-- JOURNAL_SEARCH. -/
def execJournalSearch (r : FlashRes) (s : State) : Host.Outcome State Fault Refusal :=
  complete s <|
    if crownUp s && (isReady s || s.boot.phase = .limp) then
      match r with
      | .ok => journalFound (flashGood s)
      | .fail => { flashFailed 0 (journalBase s) s with flash := { s.flash with ok := false } }
    else s

/-- JOURNAL_DROP. -/
def execJournalDrop (s : State) : Host.Outcome State Fault Refusal := complete s (dropOverwritten s)

/-- RING_TIME_CARRY: the tick that wraps the timestamp (R611). -/
def execRingTimeCarry (s : State) : Host.Outcome State Fault Refusal :=
  complete s (if ticksCount s && decide (s.time.stamp = 0xFFFFFFFF) then advanceTime 1 s else s)

/-- UPTIME_CARRY: the second that wraps UPTIME (R602). -/
def execUptimeCarry (s : State) : Host.Outcome State Fault Refusal :=
  complete s (if ticksCount s && decide (s.time.uptime = 0xFFFFFFFF) then advanceTime (1000000 - s.time.uptimeUs) s else s)

end Sys2Proof.Machine
end

