-- ==== Sys2Proof/Machine/Pocket.lean ====
section
/-! DEFINITION. The Pocket (chapter 16): its items and leases, erasing and zeroizing, the derivation of slots 0 and 1, and
what the end of a session key does to a port's authentication (R303). -/

namespace Sys2Proof.Machine

/-! ### Items (Table 16.1) -/

def anchorItem (p : Fin 8) : Fin 20 := ⟨2 + p.val, by omega⟩
def sessionItem (p : Fin 8) : Fin 20 := ⟨10 + p.val, by omega⟩
def patternKeyItem : Fin 20 := 18
def graftDigestItem : Fin 20 := 19

/-- CLASS: 0 device, 1 pinned, 2 kept, 3 spare. -/
def itemClass (i : Fin 20) : Nat :=
  if i.val < 2 then 0 else if i.val < 10 then 2 else if i.val < 18 then 3 else if i.val = 18 then 1 else 2

/-- HOLDER, in the codes of SUMMARY LEASES. -/
def itemHolder (i : Fin 20) : Nat :=
  if i.val < 2 then 0 else if i.val < 10 then i.val - 1 else if i.val < 18 then i.val - 9
  else if i.val = 18 then 0xA else 9

def allItems : List (Fin 20) := List.finRange 20

def item (s : State) (i : Fin 20) : PkItem := s.pocket.items[i]

/-- The item has a content: resident or pressed. -/
def itemHeld (s : State) (i : Fin 20) : Bool := (item s i).state = .resident || (item s i).state = .pressed

def toSlot (bs : List Byte) : BitVec 256 := BitVec.ofNat 256 (ofLe bs)
def slotBytes (v : BitVec 256) : List Byte := le 32 v.toNat

def setSlot (k : Fin 16) (v : BitVec 256) (s : State) : State :=
  { s with pocket := { s.pocket with slots := s.pocket.slots.set k v } }

/-- The item resident in a slot. -/
def slotItem (s : State) (k : Fin 16) : Option (Fin 20) := allItems.find? fun i => (item s i).slot = some k

/-- Leasable slots that are free: slots 2 to 15 without an item. (Log entry 96: DEDUCED, unsafe.) -/
def freeSlots (s : State) : List (Fin 16) :=
  (List.finRange 16).filter fun k => decide (2 ≤ k.val) && (slotItem s k).isNone

/-- R490: one item erased, its slot overwritten with zeros, its lease released. -/
def eraseItem (i : Fin 20) (s : State) : State :=
  let s := match (item s i).slot with
    | some k => setSlot k 0 s
    | none => s
  let s := { s with pocket := { s.pocket with buffer := s.pocket.buffer.filter fun b => b.item ≠ i } }
  modItem i (fun t => { t with state := .absent, slot := none, current := false }) s

/-- R489, R485: a content for an item in a slot; its record is no longer current. -/
def placeItem (i : Fin 20) (k : Fin 16) (v : BitVec 256) (s : State) : State :=
  let s := setSlot k v s
  let n := s.pocket.useClock + 1
  modItem i (fun t => { t with state := .resident, slot := some k, current := false, lastUse := n })
    { s with pocket := { s.pocket with useClock := n } }

/-! ### Authentication status of a port -/

def authBusy (a : AuthState) : Bool :=
  match a with
  | .leasing | .digests | .certificates | .verifying | .challenge => true
  | _ => false

/-- The port that holds a unit; none of the Pocket's, the host port's and Graft's (R503). -/
def usePort : AwlUse → Option (Fin 8)
  | .authHash p => some p
  | .authCert p => some p
  | .authResponse p => some p
  | .authEcdh p => some p
  | .responder p _ => some p
  | .pocket _ _ => none
  | .signed => none
  | .graftVerify => none

/-- The port whose authentication as initiator a unit belongs to. -/
def authPort : AwlUse → Option (Fin 8)
  | .responder _ _ => none
  | u => usePort u

/-- The units of an initiator's authentication. -/
def useAuth (u : AwlUse) : Bool := (authPort u).isSome

/-- The units that `gone` picks are not wanted any more: one queued or in service completes all the same, and one that
waits behind it is never queued (R506). -/
def unwantBy (gone : AwlUse → Bool) (s : State) : State :=
  let f (u : AwlUnit) : AwlUnit := if gone u.use then { u with wanted := false } else u
  { s with awl := { s.awl with
      queue := s.awl.queue.map f, head := s.awl.head.map f, behind := s.awl.behind.filter fun u => !gone u.use } }

/-- R304, R506: no unit of port `p`'s authentication is wanted any more. -/
def unwant (p : Fin 8) (s : State) : State := unwantBy (fun u => authPort u = some p) s

/-- R128, R304: no operation that the port's stand has queued is wanted any more. -/
def unwantAll (p : Fin 8) (s : State) : State := unwantBy (fun u => usePort u = some p) s

/-- An authentication's progress cleared, its state `st`. -/
def authClear (st : AuthState) (p : Fin 8) (s : State) : State :=
  modPd p (fun q => { q with
    auth := st, authReason := 0, authChain := [], authCerts := 0, authTime := 0, authAwait := false, authHeld := false }) s

/-- R303, R304: authentication of port `p` is over, the spare lease erased and released. -/
def authEnd (p : Fin 8) (s : State) : State := authClear .none p (eraseItem (sessionItem p) (unwant p s))

/-- An authentication in progress that ends without a violation: AUTHSTAT and AUTH_FAILED; its AMS ends with it, and so
does an earlier status, whose lease is released (R302). (Log entry 202: DEDUCED, unsafe.) -/
def authStop (st : AuthState) (reason : BitVec 4) (p : Fin 8) (s : State) : State :=
  let s := if (portPd s p).ams = amsSecurity then amsEnd p s else s
  let s := eraseItem (sessionItem p) (unwant p s)
  let s := modPd p (fun q => { q with
    auth := st, authReason := reason, authFailedAlarm := true, authAwait := false, authHeld := false }) s
  emit (portEv p 0x201B 4 (le 1 reason.toNat)) s

/-- R490 for a holder code: every item of the holder erased; a port's authentication ends.
(Log entry 123: DEDUCED, unsafe.) -/
def eraseHolder (h : Nat) (s : State) : State :=
  let s := onPorts allPorts (fun p s =>
    if h = p.val + 1 then
      if authBusy (portPd s p).auth then authStop .noSlot 0 p s
      else if (portPd s p).auth = .authenticated then authEnd p s else s
    else s) s
  (allItems.filter fun i => itemHolder i = h && decide (2 ≤ i.val)).foldl (fun s i => eraseItem i s) s

/-- R517: every spare item erased. -/
def eraseSpares (s : State) : State :=
  onPorts allPorts (fun p s =>
    let a := (portPd s p).auth
    if authBusy a then authStop .noSlot 0 p s
    else if a = .authenticated then authEnd p s else eraseItem (sessionItem p) s) s

/-! ### Derivation of slots 0 and 1 (R475 to R478) -/

/-- The ASCII bytes of a label. -/
def asciiBytes (t : String) : List Byte := t.toList.map fun c => BitVec.ofNat 8 c.toNat

/-- R475: HW_SEED ‖ response. -/
def deviceIkm (s : State) : List Byte := hwSeed s ++ le 32 Config.pufResponse.toNat

/-- R476: the first candidate of the 32-bit counter's derivations that lies within 1 to n − 1.
(Log entry 132: DEDUCED, unsafe.) -/
def identityScalar (ikm : List Byte) : Nat → Nat → Nat
  | 0, _ => 1
  | fuel + 1, c =>
    let info := asciiBytes "LU848-ID" ++ (if c = 0 then [] else le 4 c)
    let v := ofBe (hkdf32 [] ikm info)
    if 1 ≤ v ∧ v < p256n then v else identityScalar ikm fuel (c + 1)

/-- R477, R478: slots 0 and 1 derived while the Pocket is powered; a destroyed nonce is drawn anew, and WRITE_COUNT
restarts (R495); with RNG_OK 0 no nonce can be drawn, and slot 1 is not derived (R505).
(Log entries 56: DEDUCED, unsafe; 189: DEDUCED, unsafe.) -/
def deriveSlots (s : State) : State :=
  if s.pocket.powered && s.pocket.pufOk then
    let s := if s.pocket.nonce.isSome || !s.awl.rngOk then s
      else drawn { s with pocket := { s.pocket with
        nonce := some ((freeValue s).extractLsb' 0 128), writeCount := 0 } }
    let ikm := deviceIkm s
    let k := identityScalar ikm 0x100000000 0
    let s := placeItem 0 0 (BitVec.ofNat 256 k) s
    let s := match s.pocket.nonce with
      | some n => placeItem 1 1 (toSlot (hkdf32 (le 16 n.toNat) ikm (asciiBytes "LU848-WRAP"))) s
      | none => s
    { s with pocket := { s.pocket with idPub := pubKey k } }
  else s

/-! ### A unit of the host port or of Graft that fails -/

/-- INNER of the SIGNED command whose work waits for the Awl. -/
def workInner (s : State) : Byte :=
  match s.host.job.bind HostJob.work with
  | some (.signed _ inner _ _ _) => inner
  | some (.keyProvision _ _ _ _ _) => 0x50
  | some (.keyReprovision _ _ _ _) => 0x51
  | some (.patternKeySet _ _ _ _ _ _) => 0x52
  | _ => 0x22

/-- The work of the host's job waits no longer. -/
def workDone (s : State) : State :=
  { s with host := { s.host with job := s.host.job.map fun j => { j with work := none } } }

/-- A SIGNED command that is refused (0x13 SIG_FAIL, 0x14 NONCE_STALE). -/
def signedFail (inner rsp : Nat) (s : State) : State :=
  jobResult (BitVec.ofNat 8 rsp) [] (emit (devEv 0x0104 5 [BitVec.ofNat 8 inner, BitVec.ofNat 8 rsp]) s)

def graftResult (code : Nat) (s : State) : State :=
  { s with graft := { s.graft with result := BitVec.ofNat 8 code } }

/-- GRAFT_VERIFY_FAIL with its RESULT. -/
def graftVerifyFail (code : Nat) (s : State) : State :=
  emit (devEv 0x1204 4 [BitVec.ofNat 8 code]) (graftResult code s)

/-- A unit that fails for the Pocket, the host port or Graft: the record cannot be written, or the signature has not
verified, and a nonce is used up (R170). A port's units are the others'. (Log entry 134: DEDUCED, unsafe.) -/
def ownerFail (u : AwlUse) (s : State) : State :=
  match u with
  | .pocket _ _ => jobFail 3 s
  | .signed => workDone (signedFail (workInner s).toNat 0x13 { s with host := { s.host with nonce := none } })
  | .graftVerify => workDone (jobFail (0x0B + 256 * 5) (graftVerifyFail 5 s))
  | _ => s

/-! ### The Awl's queue (R502, R503) -/

/-- Two uses have one holder. -/
def sameHolder (a b : AwlUse) : Bool :=
  match usePort a, a, b with
  | some p, _, _ => decide (usePort b = some p)
  | none, .pocket _ _, .pocket _ _ => true
  | none, _, _ => decide (a = b)

/-- The holder of a unit already has one (R503). -/
def awlHas (s : State) (use : AwlUse) : Bool :=
  s.awl.queue.any (fun u => sameHolder use u.use) || s.awl.head.any (fun u => sameHolder use u.use)

/-- No unit is in service or waits. -/
def awlIdle (s : State) : Bool := s.awl.head.isNone && s.awl.queue.isEmpty

/-- A spare item's record that has no flash copy yet, from which its unpress is served (R496). A kept item's waiting record
is of its next content, which its present record still serves (R487). -/
def buffered (s : State) (i : Fin 20) : Bool := itemClass i = 3 && s.pocket.buffer.any fun b => b.item = i

/-- R498: the read of a pressed record starts when its unit joins the queue. -/
def awlJoin (u : AwlUnit) (s : State) : State :=
  let s := { s with awl := { s.awl with queue := s.awl.queue ++ [{ u with arrivedAt := s.time.now }] } }
  match u.needs with
  | some i =>
    if (item s i).state = .pressed ∧ !buffered s i then flashQueue (.recordRead i) s else s
  | none => s

/-- A unit asked for: it joins the queue, behind its holder's present one (R299, R503). -/
def awlQueue (use : AwlUse) (needs output : Option (Fin 20)) (s : State) : State :=
  let u : AwlUnit := { use, needs, output, arrivedAt := s.time.now }
  if awlHas s use then { s with awl := { s.awl with behind := s.awl.behind ++ [u] } } else awlJoin u s

/-- A holder's unit has ended: its next one joins the queue. -/
def awlNext (use : AwlUse) (s : State) : State :=
  if awlHas s use then s else
  match s.awl.behind.find? (fun u => sameHolder use u.use) with
  | some u => awlJoin u { s with awl := { s.awl with behind := s.awl.behind.erase u } }
  | none => s

/-- BUSY of a unit's items. -/
def headItem (u : AwlUnit) (busy : Bool) (s : State) : State :=
  let f (o : Option (Fin 20)) (s : State) : State :=
    match o with
    | some i => modItem i (fun t => { t with busy := busy }) s
    | none => s
  f u.needs (f u.output s)

/-- What a failed unit means to its holder, if it still wants the result: an authentication ends, a responder answers
Not_Supported. -/
def holderFail (st : AuthState) (u : AwlUnit) (s : State) : State :=
  if !u.wanted then s
  else match authPort u.use, usePort u.use with
    | some p, _ => authStop st 0 p s
    | none, some p => pdSend p .notSupported s
    | none, none => ownerFail u.use s

/-- The unit in service fails at once. -/
def headFail (st : AuthState) (s : State) : State :=
  match s.awl.head with
  | none => s
  | some u =>
    awlNext u.use (holderFail st u (headItem u false { s with awl := { s.awl with head := none, fails := bump 12 s.awl.fails } }))

/-! ### Zeroize (R491) -/

/-- The unit in service ends with ZEROIZED when a zeroize falls (chapter 16, "When things collide"). -/
def awlZeroized (s : State) : State := headFail .noSlot s

/-- All sixteen slots erased, the Sap nonce destroyed, every item ABSENT, authenticated status ended (R303). -/
def pocketClear (s : State) : State :=
  let s := awlZeroized s
  let s := onPorts allPorts (fun p s => if (portPd s p).auth = .authenticated then authEnd p s else s) s
  let items := s.pocket.items.map fun (t : PkItem) =>
    { t with state := .absent, slot := none, current := false, busy := false }
  { s with
    pocket := { s.pocket with slots := .replicate 16 0, items := items, nonce := none, buffer := [] },
    graft := { s.graft with digestInPocket := false } }

/-- A zeroize that leaves the allowance above Dry: POCKET_ZEROIZE with the byte of its cause (alarm, WC_SAT and
KEY_REPROVISION in this order; the codes are free), and the derivation of R480 while Crown runs.
(Log entry 14: DESIGN CHOICE, safe.) -/
def zeroize (cause : Nat) (s : State) : State :=
  let s := emit (devEv 0x0702 5 [Config.codeByte 0x0702 cause]) (pocketClear s)
  if crownUp s then deriveSlots s else s

/-- (Log entry 96: DEDUCED, unsafe.) -/
def pkStatWord (s : State) : Word :=
  let pressed := (allItems.filter fun i => (item s i).state = .pressed).length
  mkWord [(31, b2n s.pocket.k3Locked), (28, s.pocket.k3Cause.toNat), (27, b2n s.pocket.pufOk),
    (26, b2n s.pocket.powered), (25, b2n s.pocket.chainOk), (24, b2n s.pocket.wcSat),
    (20, (freeSlots s).length), (15, pressed)]

def pkCountWord (s : State) : Word :=
  mkWord [(16, s.pocket.presses.n), (4, s.pocket.unpresses.n), (1, b2n s.pocket.unpresses.sat),
    (0, b2n s.pocket.presses.sat)]

def itemStateCode : ItemState → Nat
  | .absent => 0
  | .empty => 1
  | .resident => 2
  | .pressed => 3
  | .lost => 4

def slotCode : Option (Fin 16) → Nat
  | some k => k.val
  | none => 0xF

def pkItemWord (s : State) (i : Fin 20) : Word :=
  let t := item s i
  mkWord [(29, itemStateCode t.state), (27, itemClass i), (26, b2n t.current), (25, b2n t.busy),
    (21, slotCode t.slot), (17, itemHolder i), (7, if t.current then t.record else 0)]

/-- SUMMARY LEASES for one slot (Table 6.8). (Log entry 89: DEDUCED, unsafe.) -/
def leaseByte (s : State) (k : Fin 16) : Byte :=
  match slotItem s k with
  | none => 0xF0
  | some i =>
    let cls := if itemClass i = 0 then 1 else itemClass i
    BitVec.ofNat 8 (cls + (b2n (item s i).current) <<< 2 + (itemHolder i) <<< 4)

/-- LEASE_COUNT of a port: its leases (R484), pressed ones included (Table 6.10). -/
def leaseCount (s : State) (p : Fin 8) : Nat :=
  ([anchorItem p, sessionItem p].filter fun i => itemHeld s i || decide ((item s i).state = .empty)).length

end Sys2Proof.Machine
end

