-- ==== Sys2Proof/Machine/Bark.lean ====
section
/-! DEFINITION. Bark (chapter 17): effective classes, alarms and what they do to the Pocket, sampling and self-tests. -/

namespace Sys2Proof.Machine

/-! ### Classes (R516 to R522) -/

/-- The Malren defaults of Table 17.3, two bits per sensor. -/
def barkDefaults : BitVec 14 := 0x956

/-- The fixed minimums of Table 17.3. -/
def barkMin (evaluated : Bool) : BitVec 14 := if evaluated then 0x956 else 0x802

def code2 (v : BitVec 14) (b : Nat) : Nat := (v.extractLsb' (2 * b) 2).toNat

/-- The copy of BARK_CLASS that governs (R521, R87). -/
def classCopy (s : State) : BitVec 14 := s.bark.classCopy.getD barkDefaults

/-- The evaluated configuration at the Bark, which keeps it while Crown is unpowered, as it keeps BARK_CLASS (R521, R545). -/
def barkEval (s : State) : Bool := s.boot.evaluated || s.bark.evalCopy

/-- R520: the effective class of a sensor. -/
def effClass (s : State) (b : Nat) : Nat :=
  max (code2 (classCopy s) b) (max (code2 s.bark.raise b) (code2 (barkMin (barkEval s)) b))

def effClassWord (s : State) : Word :=
  BitVec.ofNat 32 ((List.range 7).foldl (fun acc b => acc + (effClass s b) <<< (2 * b)) 0)

/-- What a Crown boot copies to the Sap domain (R521): the fused row, or the defaults while it is blank (R87). -/
def fusedClasses (s : State) : BitVec 14 :=
  let r := barkClassRow s
  if r = 0 then barkDefaults else r.extractLsb' 0 14

/-! ### Alarms (R515 to R519) -/

/-- The action of a class (Table 17.2) for a sensor alarm; `spares` says how K1 erases. -/
def classAction (c : Nat) (k1 : State → State) (s : State) : State :=
  let s := { s with bark := { s.bark with lastValid := true, lastClass := BitVec.ofNat 2 c } }
  match c with
  | 0 => s
  | 1 => k1 s
  | 2 => zeroize 0 s
  | _ =>
    let s := zeroize 0 s
    { s with pocket := { s.pocket with k3Locked := true, k3Cause := 1 } }

/-- One sensor's alarm logged: LATCHED, its count, BARK_ALARM (R515, R519). -/
def logAlarm (b : Fin 7) (s : State) : State :=
  let s := { s with bark := { s.bark with
    latched := s.bark.latched ||| (1 <<< b.val), counts := s.bark.counts.set b (bump 8 s.bark.counts[b]) } }
  let s := if isOpen s then irq 2 s else s
  emitSap (devEv 0x0901 5 ([BitVec.ofNat 8 b.val, BitVec.ofNat 8 (effClass s b.val), BitVec.ofNat 8 s.sap.level.val]
    ++ clockMin s.sap.clock)) s

/-- R518: alarms raised together act once, at the highest class among them. -/
def raiseAlarms (bs : List (Fin 7)) (s : State) : State :=
  match bs with
  | [] => s
  | _ =>
    let s' := bs.foldl (fun s b => logAlarm b s) s
    classAction (bs.foldl (fun m b => max m (effClass s b.val)) 0) eraseSpares s'

/-- SENSOR_EN in force: all in the evaluated configuration (Table 17.8). (Log entry 97: DEDUCED, unsafe.) -/
def sensorMask (s : State) : BitVec 7 := if barkEval s then 0x7F else s.bark.sensorEn

/-- A sensor raises alarms: enabled, and the Sap domain runs (R523, R474). -/
def sensorOn (s : State) (b : Fin 7) : Bool := s.sap.running && (sensorMask s).getLsbD b.val

/-- R514: of some sensors that show their condition, those whose ACTIVE rises. -/
def rising (s : State) (bs : List (Fin 7)) : List (Fin 7) :=
  bs.filter fun b => sensorOn s b && !s.bark.active.getLsbD b.val

/-- ACTIVE bits set. -/
def activeSet (bs : List (Fin 7)) (s : State) : State :=
  { s with bark := { s.bark with active := bs.foldl (fun (m : BitVec 7) b => m ||| (1 <<< b.val)) s.bark.active } }

/-- R514, R515: ACTIVE bits that rise, and their alarms. -/
def senseRise (bs : List (Fin 7)) (s : State) : State := raiseAlarms (rising s bs) (activeSet (rising s bs) s)

/-- An integrity alarm of class K1 for a holder code (R531); none loses no item. (Log entry 123: DEDUCED, unsafe.) -/
def integrityAlarm (holder : Nat) (s : State) : State :=
  let s := if s.sap.running then { s with bark := { s.bark with lastValid := true, lastClass := 1 } } else s
  if holder = 0xF then s else eraseHolder holder s

/-! ### Sampling (R512 to R514) -/

/-- BARK_RATE of SUMMARY. -/
def barkRate (s : State) : Nat :=
  if !s.sap.running then 0 else if s.sap.wakeHolding then 3 else s.sap.level.val

def sampledSensors : List (Fin 7) := [0, 3, 5]
def continuousSensors : List (Fin 7) := [1, 2, 4]

/-- R514: a sampled sensor without its condition clears at the second clean sample; one that is disabled sees none (R523). -/
def sampleClear (cond : BitVec 7) (b : Fin 7) (s : State) : State :=
  if cond.getLsbD b.val && sensorOn s b || !s.bark.active.getLsbD b.val then
    { s with bark := { s.bark with clean := s.bark.clean.set b 0 } }
  else
    let n := s.bark.clean[b] + 1
    if 2 ≤ n then { s with bark := { s.bark with
        active := s.bark.active &&& ~~~((1 : BitVec 7) <<< b.val), clean := s.bark.clean.set b 0 } }
    else { s with bark := { s.bark with clean := s.bark.clean.set b n } }

/-- R513: the sensors whose self-test falls due with this sample and does not show their condition. -/
def testsFailed (fail : BitVec 7) (s : State) : List (Fin 7) :=
  if s.bark.samples = 0 then sampledSensors.filter fun b => sensorOn s b && fail.getLsbD b.val else []

/-- R513: failed self-tests recorded. -/
def testsRecord (bs : List (Fin 7)) (s : State) : State :=
  bs.foldl (fun s b => emitSap (devEv 0x0902 5 [BitVec.ofNat 8 b.val])
    { s with bark := { s.bark with sfValid := true, selfTestFail := BitVec.ofNat 3 b.val } }) s

/-- The continuous sensors' supplies (Table 17.1). -/
def glitchSeen (s : State) (b : Fin 7) : Bool :=
  if b = 1 then s.power.vdd18 else if b = 2 then crownUp s else b = 4

/-- A sensor that may show its condition at the instant of a sample: a sampled one, or a continuous one that is supplied. -/
def sampleSees (s : State) (b : Fin 7) : Bool :=
  sampledSensors.contains b || (continuousSensors.contains b && glitchSeen s b)

/-- R512 to R515, R518: one sample; its conditions, the continuous sensors' events of that instant and failed self-tests raise
their alarms together. -/
def barkSample (b : BarkIn) (s : State) : State :=
  let s := { s with bark := { s.bark with samples := (s.bark.samples + 1) % 4096 } }
  let s := sampledSensors.foldl (fun s k => sampleClear b.cond k s) s
  let up := rising s ((List.finRange 7).filter fun k => b.cond.getLsbD k.val && sampleSees s k)
  let bad := testsFailed b.selfTestFail s
  raiseAlarms (up ++ bad) (testsRecord bad (activeSet up s))

def bkStatWord (s : State) : Word :=
  mkWord [(24, s.bark.latched.toNat), (16, s.bark.active.toNat), (15, b2n s.bark.sfValid),
    (12, s.bark.selfTestFail.toNat), (6, barkRate s), (2, b2n s.bark.lastValid), (0, s.bark.lastClass.toNat)]

def bkCount0Word (s : State) : Word :=
  mkWord [(0, s.bark.counts[0].n), (8, s.bark.counts[1].n), (16, s.bark.counts[2].n), (24, s.bark.counts[3].n)]

def bkCount1Word (s : State) : Word :=
  mkWord ([(8, s.bark.counts[4].n), (16, s.bark.counts[5].n), (24, s.bark.counts[6].n)]
    ++ (List.finRange 7).map fun b => (b.val, b2n s.bark.counts[b].sat))

/-- R522: a write of BKRAISE; in the evaluated configuration a field only rises. -/
def bkRaise (v : Word) (s : State) : State :=
  if s.sap.running then
    let new : BitVec 14 := v.extractLsb' 0 14
    let up := (List.range 7).foldl (fun acc b =>
      acc + (max (code2 new b) (code2 s.bark.raise b)) <<< (2 * b)) 0
    { s with bark := { s.bark with raise := if barkEval s then BitVec.ofNat 14 up else new } }
  else s

/-- R523: a write of SENSOR_EN; mesh and light stay 1, and the evaluated configuration freezes all (Table 17.8).
(Log entry 97: DEDUCED, unsafe.) -/
def sensorEnWrite (v : Word) (s : State) : State :=
  if s.sap.running && !barkEval s then
    { s with bark := { s.bark with sensorEn := v.extractLsb' 0 7 ||| 0x21 } }
  else s

/-! ### The family's meanings -/

/-- BARK_SAMPLE. -/
def execBarkSample (b : BarkIn) (s : State) : Host.Outcome State Fault Refusal :=
  complete s (if barkRate s = 0 then s else barkSample b s)

/-- BARK_GLITCH. -/
def execBarkGlitch (sensor : Fin 7) (s : State) : Host.Outcome State Fault Refusal :=
  complete s (if continuousSensors.contains sensor && glitchSeen s sensor && decide (barkRate s ≠ 0) then
    senseRise [sensor] s else s)

/-- BARK_ACTIVE_CLEAR. -/
def execBarkActiveClear (sensor : Fin 7) (s : State) : Host.Outcome State Fault Refusal :=
  complete s (if continuousSensors.contains sensor then
    { s with bark := { s.bark with active := s.bark.active &&& ~~~((1 : BitVec 7) <<< sensor.val) } } else s)

end Sys2Proof.Machine
end

