-- ==== Sys2Proof/Machine/Tack.lean ====
section
/-! DEFINITION. The Tack (R534 to R545): how an access is decided and counted, and how a commit changes the rules; and
the Satchel (R524 to R532): windows, tags, poisoned lines. -/

namespace Sys2Proof.Machine

/-! ### Deciding an access -/

/-- The requester class (R534); the loader has none. -/
def classOf (s : State) : Requester → Option (Fin 8)
  | .host => some 7
  | .graft => some 6
  | .awl => some 5
  | .stand k => some s.grain.stands[k].tackClass
  | .loader => none

/-- The rules a new access is checked under: during a drain it stalls until the new epoch is active (R542).
(Log entry 210: DEDUCED, unsafe.) -/
def rulesNow (s : State) : Vector Rule 32 :=
  match s.tack.draining with
  | some d => d.1
  | none => s.tack.rules

/-- One access: its space (Table 17.4), whether it writes, and its unit. -/
structure Access where
  space : Nat
  wr : Bool
  unit : Nat
  deriving DecidableEq, Repr

/-- R535 and the last row of Table 17.8. -/
def ruleMatches (evaluated : Bool) (cls : Fin 8) (a : Access) (r : Rule) : Bool :=
  flag r.a 31 && field r.a 29 28 = a.space && flag r.a cls.val && flag r.a (if a.wr then 26 else 27)
    && decide (field r.b 15 0 ≤ a.unit) && decide (a.unit ≤ field r.b 31 16)
    && !(evaluated && a.space = 3 && a.wr && flag r.a 30 && decide (cls.val < 6))

/-- R536: allowed, and the deciding rule (0x3F for none). -/
def decideAccess (s : State) (cls : Fin 8) (a : Access) : Bool × Nat :=
  let rules := rulesNow s
  match (List.finRange 32).find? fun k => ruleMatches s.boot.evaluated cls a rules[k] with
  | some k => (flag rules[k].a 30, k.val)
  | none => (false, 0x3F)

/-- The first denied unit of an access that spans several, with the deciding rule. -/
def firstDenied (s : State) (cls : Fin 8) : List Access → Option (Access × Nat)
  | [] => none
  | a :: t => let d := decideAccess s cls a; if d.1 then firstDenied s cls t else some (a, d.2)

/-- R537: one denied access counted, described in TKDENY and recorded at most once per class in 10 ms. -/
def countDenial (cls : Fin 8) (a : Access) (rule : Nat) (s : State) : State :=
  let s := { s with tack := { s.tack with
    denyCount := bump 16 s.tack.denyCount, lastClass := cls, lastSpace := BitVec.ofNat 2 a.space, lastRule := rule } }
  if due s s.tack.entryAt[cls] 10000 then
    let n := s.tack.unlogged[cls]
    emit (devEv 0x0B02 3 ([BitVec.ofNat 8 cls.val, BitVec.ofNat 8 a.space] ++ le 2 (satTo 16 a.unit)
        ++ [BitVec.ofNat 8 rule, BitVec.ofNat 8 (satTo 8 n)]))
      { s with tack := { s.tack with
          entryAt := s.tack.entryAt.set cls (some s.time.now), unlogged := s.tack.unlogged.set cls 0 } }
  else { s with tack := { s.tack with unlogged := s.tack.unlogged.set cls (s.tack.unlogged[cls] + 1) } }

/-- Every access of a request is checked and each denied one counted (R537): the index of the first denied one. Each
access is the list of its units. -/
def tackCheck (who : Requester) (accs : List (List Access)) (s : State) : State × Option Nat :=
  match classOf s who with
  | none => (s, none)
  | some cls =>
    let step (acc : State × Option Nat × Nat) (units : List Access) : State × Option Nat × Nat :=
      match firstDenied acc.1 cls units with
      | none => (acc.1, acc.2.1, acc.2.2 + 1)
      | some (a, r) => (countDenial cls a r acc.1, acc.2.1 <|> some acc.2.2, acc.2.2 + 1)
    let r := accs.foldl step (s, none, 0)
    (r.1, r.2.1)

def regAccess (wr : Bool) (addr : Nat) : List Access := [{ space := 0, wr, unit := addr }]
def satAccess (wr : Bool) (line : Nat) : List Access := [{ space := 1, wr, unit := line }]
/-- The 4 KiB sectors of a byte range. -/
def flashAccess (wr : Bool) (addr n : Nat) : List Access :=
  (List.range ((addr + n - 1) / 4096 - addr / 4096 + 1)).map fun i => { space := 2, wr, unit := addr / 4096 + i }
def heartAccess (wr : Bool) (row : Nat) : List Access := [{ space := 3, wr, unit := row }]

/-- One access, allowed or counted as denied. -/
def allowed (who : Requester) (units : List Access) (s : State) : State × Bool :=
  let r := tackCheck who [units] s
  (r.1, r.2.isNone)

/-- Run a write under the Tack; a denied one is not performed. (Log entry 100: DEDUCED, unsafe.) -/
def guarded (who : Requester) (units : List Access) (f : State → State) (s : State) : State :=
  let r := allowed who units s
  if r.2 then f r.1 else r.1

/-! ### Commits -/

/-- R540. -/
def ruleInvalid (r : Rule) : Bool :=
  flag r.a 31 && (decide (field r.b 31 16 < field r.b 15 0) || decide (field r.a 25 8 ≠ 0)
    || (decide (field r.a 29 28 = 3) && decide (255 < field r.b 31 16)))

def validRules (rs : Vector Rule 32) : Nat := (rs.toList.filter fun r => flag r.a 31).length

/-- R539: the first reason that applies; a commit that arrives at EPOCH 0xFFFF can no longer be counted. -/
def commitRefusal (s : State) (next : Half) : Option Nat :=
  if s.tack.draining.isSome then some 3
  else if s.tack.epochSat || decide (s.tack.epoch = 0xFFFF) then some 4
  else if next ≠ s.tack.epoch + 1 then some 2
  else if s.tack.staged.toList.any ruleInvalid then some 5
  else none

/-- A write of TKCOMMIT (R539, R541); the one that finds EPOCH at 0xFFFF sets EPOCH_SAT (R11, R544). -/
def tkCommit (who : Requester) (next : Half) (s : State) : State :=
  match commitRefusal s next with
  | some r =>
    let cls := match classOf s who with
      | some c => BitVec.ofNat 8 c.val
      | none => 0xFF
    emit (devEv 0x0B03 3 [BitVec.ofNat 8 r, cls]) { s with tack := { s.tack with
      result := BitVec.ofNat 3 r, epochSat := s.tack.epochSat || decide (r = 4) } }
  | none => { s with tack := { s.tack with draining := some (s.tack.staged, s.time.now) } }

/-- R543: the new epoch becomes active; Table 17.8's windows are frozen from then. (Log entry 211: DEDUCED, unsafe.) -/
def tackActivate (s : State) : State :=
  match s.tack.draining with
  | none => s
  | some (rs, at0) =>
    let e := s.tack.epoch + 1
    emit (devEv 0x0B01 2 (le 2 e.toNat ++ le 1 (validRules rs) ++ le 2 (satTo 16 (s.time.now - at0))))
      { s with tack := { s.tack with
          rules := rs, draining := none, epoch := e, result := 1, committed := true } }

/-- R544: a write of 1 to EPOCH_SAT. (Log entry 133: DEDUCED, unsafe.) -/
def epochSatClear (s : State) : State :=
  if s.tack.draining.isNone && s.tack.epochSat then
    { s with tack := { s.tack with epochSat := false, epoch := 1 } }
  else s

def tkStatWord (s : State) : Word :=
  mkWord [(16, s.tack.epoch.toNat), (15, b2n s.tack.draining.isSome), (14, b2n s.tack.epochSat),
    (8, validRules s.tack.rules), (0, s.tack.result.toNat)]

def tkDenyWord (s : State) : Word :=
  mkWord [(16, s.tack.denyCount.n), (15, b2n s.tack.denyCount.sat), (8, s.tack.lastClass.val),
    (6, s.tack.lastSpace.toNat), (0, s.tack.lastRule)]

/-! ### The Satchel -/

/-- A window that covers lines: enabled with FIRST at or below LAST (R526). -/
def winCovers (a b : Word) : Bool := flag a 31 && decide (field b 12 0 ≤ field a 12 0)

/-- The window that protects a line. -/
def windowOf (s : State) (line : Nat) : Option (Fin 8) :=
  (List.finRange 8).find? fun k => winCovers s.satchel.winA[k] s.satchel.winB[k]
    && decide (field s.satchel.winB[k] 12 0 ≤ line) && decide (line ≤ field s.satchel.winA[k] 12 0)

/-- R526: two windows share a line. -/
def winsOverlap (as bs : Vector Word 8) : Bool :=
  (List.finRange 8).any fun i => (List.finRange 8).any fun j =>
    decide (i < j) && winCovers as[i] bs[i] && winCovers as[j] bs[j]
      && decide (field bs[i] 12 0 ≤ field as[j] 12 0) && decide (field bs[j] 12 0 ≤ field as[i] 12 0)

/-- A write of SATWINk_A or _B, by a requester that may (R525, R526, Table 17.8). (Log entry 211: DEDUCED, unsafe.) -/
def satWinWrite (k : Fin 8) (isB : Bool) (v : Word) (s : State) : State :=
  if k.val < 2 ∨ (s.boot.evaluated ∧ s.tack.committed) then s
  else
    let as := if isB then s.satchel.winA else s.satchel.winA.set k (v &&& 0x8F001FFF)
    let bs := if isB then s.satchel.winB.set k (v &&& 0x1FFF) else s.satchel.winB
    if winsOverlap as bs then { s with satchel := { s.satchel with winErr := true } }
    else { s with satchel := { s.satchel with winA := as, winB := bs } }

/-- (Log entry 5: DEDUCED, safe.) -/
def lineBytes (s : State) (line : Nat) : List Byte := mread 0 s.satchel.mem (32 * line) 32

/-- A line as one value, its first byte lowest. -/
def lineValue (s : State) (line : Nat) : BitVec 256 := BitVec.ofNat 256 (numAt (lineBytes s line) 0 32)

/-- The tag that the tag unit computes over a line's present bytes (R524). -/
def lineTag (s : State) (line : Nat) : BitVec 64 := Config.satTag s.satchel.key line (lineValue s line)

/-- The tag stored with a line. -/
def storedTag (s : State) (line : Nat) : BitVec 64 :=
  match s.satchel.tags.find? (fun e => e.1 = line) with
  | some e => e.2
  | none => lineTag s line

/-- R527: a line's stored tag does not verify. -/
def tagBad (s : State) (line : Nat) : Bool := decide (storedTag s line ≠ lineTag s line)

/-- A disturbance has left other bytes in a line's cells; its tag stays as it was stored.
(Log entry 6: DESIGN CHOICE, safe.) -/
def disturb (line : Nat) (found : Option (BitVec 256)) (s : State) : State :=
  match found with
  | none => s
  | some v =>
    let t := storedTag s line
    { s with satchel := { s.satchel with
        mem := mwrite 0 s.satchel.mem (32 * line) (le 32 v.toNat)
        tags := (line, t) :: s.satchel.tags.filter fun e => e.1 ≠ line } }

/-- Bytes stored within a line, with a new tag of what it then holds (R528, R530). A line that no window covers takes the
tag with the window. (Log entry 185: DESIGN CHOICE, unsafe.) -/
def satStore (addr : Nat) (bs : List Byte) (s : State) : State :=
  { s with satchel := { s.satchel with
      mem := mwrite 0 s.satchel.mem addr bs, tags := s.satchel.tags.filter fun e => e.1 ≠ addr / 32 } }

def satAnswer (data : List Byte) (err : Bool) (s : State) : State :=
  { s with satchel := { s.satchel with lastData := data, lastError := err } }

/-- The first of the two lines of window 1 that hold an item's record until the flash does (R496).
(Log entry 15: DEDUCED, unsafe.) -/
def bufferLine (i : Fin 20) : Nat := 4096 + 2 * i.val

/-- A record in the buffer. -/
def bufferBytes (s : State) (i : Fin 20) : List Byte := lineBytes s (bufferLine i) ++ lineBytes s (bufferLine i + 1)

/-- A record written to the buffer, as two line writes (R496, R530). -/
def bufferStore (i : Fin 20) (bs : List Byte) (s : State) : State :=
  let n := bufferLine i
  let s := satStore (32 * (n + 1)) (bs.drop 32) (satStore (32 * n) (bs.take 32) s)
  { s with satchel := { s.satchel with poisoned := s.satchel.poisoned.filter fun l => decide (l ≠ n) && decide (l ≠ n + 1) } }

/-- R531: a line of the record buffer that is poisoned loses its record's item. -/
def loseBuffered (line : Nat) (s : State) : State :=
  match s.pocket.buffer.find? fun b => decide (bufferLine b.item = line) || decide (bufferLine b.item + 1 = line) with
  | some b =>
    let s := modItem b.item (fun t => { t with state := .lost, slot := none, current := false }) s
    { s with pocket := { s.pocket with buffer := s.pocket.buffer.filter fun c => c.item ≠ b.item } }
  | none => s

/-- R531: a line becomes poisoned at an access of kind 0 read or 1 write. -/
def poisonLine (who : Requester) (w : Fin 8) (line kind : Nat) (s : State) : State :=
  let cls := match classOf s who with
    | some c => BitVec.ofNat 8 c.val
    | none => 0xFF
  let s := { s with satchel := { s.satchel with
    poisoned := if s.satchel.poisoned.contains line then s.satchel.poisoned else line :: s.satchel.poisoned
    poisonCount := bump 8 s.satchel.poisonCount, lastWindow := BitVec.ofNat 3 w.val, lastLine := line } }
  let s := emit (devEv 0x0903 5 ([BitVec.ofNat 8 w.val] ++ le 2 line ++ [cls, BitVec.ofNat 8 kind])) s
  let s := integrityAlarm (field s.satchel.winA[w] 27 24) s
  if w = 1 then loseBuffered line s else s

/-- What a poison error does to its requester: the Awl fails its unit, and a stand whose reload the loader was running
is not reloaded (R531 and chapter 05). -/
def poisonError (who : Requester) (line : Nat) (s : State) : State :=
  match who with
  | .awl => headFail .failed s
  | .loader =>
    match (List.finRange 16).find? fun k => s.grain.stands[k].reloading with
    | some k =>
      let s := modStand k (fun t => { t with reloading := false, out := true }) s
      emit (devEv 0x0205 6 (BitVec.ofNat 8 k.val :: le 2 line)) { s with grain := { s.grain with supStopped := true } }
    | none => s
  | _ => s

/-- R527, R529: a read of a line by a requester. -/
def satRead (who : Requester) (line : Nat) (found : Option (BitVec 256)) (s : State) : State :=
  let r := allowed who (satAccess false line) s
  let s := if line < 8192 then disturb line found r.1 else r.1
  if !r.2 || decide (8192 ≤ line) then satAnswer (List.replicate 32 0) true s
  else match windowOf s line with
    | none => satAnswer (lineBytes s line) false s
    | some w =>
      if s.satchel.poisoned.contains line then poisonError who line (satAnswer (List.replicate 32 0) true s)
      else if tagBad s line then poisonError who line (satAnswer (List.replicate 32 0) true (poisonLine who w line 0 s))
      else satAnswer (lineBytes s line) false s

/-- R528, R529: a partial write within one line. -/
def satPartial (who : Requester) (addr : Nat) (bytes : List Byte) (found : Option (BitVec 256)) (s : State) : State :=
  let line := addr / 32
  let bs := bytes.take (32 - addr % 32)
  let r := allowed who (satAccess true line) s
  let s := if line < 8192 then disturb line found r.1 else r.1
  if !r.2 || decide (8192 ≤ line) then satAnswer [] true s
  else match windowOf s line with
    | none => satAnswer [] false (satStore addr bs s)
    | some w =>
      if s.satchel.poisoned.contains line then poisonError who line (satAnswer [] true s)
      else if tagBad s line then poisonError who line (satAnswer [] true (poisonLine who w line 1 s))
      else satAnswer [] false (satStore addr bs s)

/-- R530: a whole-line write clears the poison. -/
def satLine (who : Requester) (line : Nat) (bytes : List Byte) (s : State) : State :=
  let r := allowed who (satAccess true line) s
  let s := r.1
  if !r.2 || decide (8192 ≤ line) then satAnswer [] true s
  else
    let s := satStore (32 * line) (slice bytes 0 32) s
    satAnswer [] false { s with satchel := { s.satchel with poisoned := s.satchel.poisoned.filter (· ≠ line) } }

def satStatWord (s : State) : Word :=
  mkWord [(24, s.satchel.poisonCount.n), (23, b2n s.satchel.poisonCount.sat), (20, s.satchel.lastWindow.toNat),
    (14, b2n s.satchel.winErr), (13, b2n (!s.satchel.poisoned.isEmpty)), (0, s.satchel.lastLine)]

/-! ### The family's meanings -/

/-- BKRAISE_WRITE, under the Tack (BARK+0x008). -/
def execBkraiseWrite (who : Requester) (v : Word) (s : State) : Host.Outcome State Fault Refusal :=
  complete s (guarded who (regAccess true 0x2408) (bkRaise v) s)

/-- SATCHEL_READ; `found` is what a disturbance has left in the line's cells, if one did. -/
def execSatchelRead (who : Requester) (line : Nat) (found : Option (BitVec 256)) (s : State) :
    Host.Outcome State Fault Refusal := complete s (satRead who line found s)

/-- SATCHEL_PARTIAL_WRITE; `found` as in SATCHEL_READ. -/
def execSatchelPartialWrite (who : Requester) (addr : Nat) (bytes : List Byte) (found : Option (BitVec 256))
    (s : State) : Host.Outcome State Fault Refusal := complete s (satPartial who addr bytes found s)

/-- SATCHEL_LINE_WRITE. -/
def execSatchelLineWrite (who : Requester) (line : Nat) (bytes : List Byte) (s : State) :
    Host.Outcome State Fault Refusal := complete s (satLine who line bytes s)

/-- SATWIN_WRITE. -/
def execSatwinWrite (who : Requester) (k : Fin 8) (isB : Bool) (v : Word) (s : State) :
    Host.Outcome State Fault Refusal :=
  complete s (guarded who (regAccess true (0x2F00 + 8 * k.val + 4 * b2n isB)) (satWinWrite k isB v) s)

/-- TKCOMMIT. -/
def execTkcommit (who : Requester) (next : Half) (s : State) : Host.Outcome State Fault Refusal :=
  complete s (guarded who (regAccess true 0x2C04) (tkCommit who next) s)

/-- TACK_COMMIT. -/
def execTackCommit (s : State) : Host.Outcome State Fault Refusal := complete s (tackActivate s)

/-- EPOCH_SAT_CLEAR. -/
def execEpochSatClear (who : Requester) (s : State) : Host.Outcome State Fault Refusal :=
  complete s (guarded who (regAccess true 0x2C00) epochSatClear s)

end Sys2Proof.Machine
end

