-- ==== Sys2Proof/Machine/Sap.lean ====
section
/-! DEFINITION. The Sap domain (chapter 15): its start and stop, the harvester and charger, the gauge and the allowance,
wake requests, and the loss and return of the reserve. -/

namespace Sys2Proof.Machine

/-! ### Fields and thresholds -/

def sapSrcKind (s : State) : Nat := if field s.sap.cfg 31 30 = 3 then 0 else field s.sap.cfg 31 30

/-- MPPT_FRAC in force: 13 to 29 thirty-seconds. (Log entry 97: DEDUCED, unsafe.) -/
def mpptFrac (s : State) : Nat := max 13 (min 29 (field s.sap.cfg 29 25))

/-- R445: the charge voltage of the present kind, mV. -/
def chargeMv (s : State) : Nat :=
  if reserveLithium s then (if flag s.sap.cfg 13 then 4200 else 4100)
  else min 3600 (2500 + 100 * field s.sap.cfg 12 8)

def restartMv (s : State) : Nat := chargeMv s - (if reserveLithium s then 100 else 50)
def stopMv (s : State) : Nat := if reserveLithium s then 3000 else 1800

/-- The temperature window in 0.1 °C (Table 15.3). -/
def chgTmin (s : State) : Int := -200 + 50 * (field s.sap.cfg 7 4 : Nat)
def chgTmax (s : State) : Int := 200 + 50 * (field s.sap.cfg 3 0 : Nat)

/-- R456: the effective Dry threshold, µJ. -/
def dryEff (s : State) : Nat := max s.sap.thrDry (max 500 (dryFloorUj s))

/-- R441: the VIN trickle may charge. -/
def trickleOn (s : State) : Bool :=
  trickleFuse s && flag s.sap.cfg 14 && s.power.vdd18 && crownUp s && s.sap.running

/-- TRICKLE_I in µA: 1 to 20 times 0.5 mA (R441). (Log entry 97: DEDUCED, unsafe.) -/
def trickleUa (s : State) : Nat := 500 * max 1 (min 20 (field s.sap.cfg 19 15))

/-- CHG_I in µA, the charge current limit (Table 15.3). (Log entry 97: DEDUCED, unsafe.) -/
def chargeLimitUa (s : State) : Nat := 1000 * max 1 (min 20 (field s.sap.cfg 24 20))

/-- The current drawn from VIN into the reserve: TRICKLE_I while the trickle charges (R441).
(Log entry 209: DEDUCED, unsafe.) -/
def vinChargeUa (s : State) : Nat := if trickleOn s && s.sap.charging then min (trickleUa s) (chargeLimitUa s) else 0

/-- R18, Table 15.1: a path by which charge reaches the reserve is open: the harvester's, or the VIN trickle's. -/
def chargePath (s : State) : Bool := decide (sapSrcKind s ≠ 0) || trickleOn s

/-- The charger runs: CHARGING, while a path is open. -/
def chargesNow (s : State) : Bool := s.sap.charging && chargePath s

/-- The end of an operation on a 24-bit gauge value. -/
def gaugeBytes (s : State) : List Byte := le 3 (satTo 24 s.sap.gauge)

/-! ### Start and stop (R436, R437, R472 to R474) -/

/-- R437, R478, R509, and none on a board without a reserve (R49): every SAP and BARK register at its reset value, an empty Pocket, K3_LOCKED with cause Sap start. -/
def sapStart (s : State) : State :=
  if s.sap.running || s.sap.noReserve then s else
  let s := pocketClear s
  { s with
    sap := { running := true, cold := true }
    bark := {}
    pocket := { s.pocket with k3Locked := true, k3Cause := 2, powered := false, writeCount := 0, wcSat := false }
    cmps := s.cmps.set 0 { s.cmps[0] with cfg := 0 } }

/-- R436, R473: the domain stops and holds no state; a watchdog channel on the LF oscillator changes clock. -/
def sapStop (s : State) : State :=
  if !s.sap.running then s else
  let s := pocketClear s
  { s with
    sap := {}
    bark := {}
    pocket := { s.pocket with k3Locked := false, k3Cause := 0, powered := false, writeCount := 0, wcSat := false }
    cmps := s.cmps.set 0 { s.cmps[0] with cfg := 0, raw := false, blanking := false }
    wda := { s.wda with fallbackClk := s.wda.fallbackClk || flag s.wda.cfg 4 }
    wdb := { s.wdb with fallbackClk := s.wdb.fallbackClk || s.wdb.clkLf } }

/-! ### Wake requests (R462, R364) -/

/-- An armed wake request of source `src`: the Bark at 1 kHz for WAKE_HOLD. -/
def sapWake (src : Nat) (s : State) : State :=
  let s := { s with sap := { s.sap with wakeHolding := true, lastSrc := BitVec.ofNat 4 src } }
  let s := emitSap (devEv 0x0C09 2 ([BitVec.ofNat 8 src, BitVec.ofNat 8 s.sap.level.val] ++ clockMin s.sap.clock)) s
  if crownUp s then irq 11 s else s

/-- The wake sources that a level arms (Table 15.4): source codes of LAST_SRC. -/
def wakeArmed (s : State) (src : Nat) : Bool :=
  s.sap.running && match s.sap.level.val with
    | 0 => false
    | 1 => src = 1 || src = 2
    | _ => true

/-! ### The reserve (R465 to R470) -/

/-- R467: with VDD18 good the charger keeps CHOLD from VIN. -/
def keepAlive (s : State) : State :=
  { s with sap := { s.sap with keepalive := s.sap.running && !s.sap.rsvPresent && s.power.vdd18 } }

def levelEvent (up : Bool) (lvl : Nat) (s : State) : State :=
  emitSap (devEv (if up then 0x0C02 else 0x0C01) (if up then 1 else 2)
    ([BitVec.ofNat 8 lvl] ++ gaugeBytes s ++ clockMin s.sap.clock)) s

/-- R467: while the reserve is lost and VDD18 is good, the level is at most Lean. -/
def freezeLevel (s : State) : State :=
  if s.power.vdd18 && s.sap.running && !s.sap.rsvPresent && decide (2 < s.sap.level.val) then
    levelEvent false 2 { s with sap := { s.sap with level := 2 } }
  else s

/-- R465, R466: the open element is detected. (Log entry 131: DEDUCED, unsafe.) -/
def reserveLost (rsvMv : Nat) (s : State) : State :=
  if s.sap.running && s.sap.rsvPresent then
    let s := keepAlive { s with sap := { s.sap with rsvPresent := false, bridge := true, charging := false } }
    let s := emitSap (devEv 0x0C04 5 (le 2 (satTo 16 rsvMv) ++ [BitVec.ofNat 8 (b2n s.power.vdd18)]
      ++ clockMin s.sap.clock)) s
    -- BARK_ACTIVE[6] shows the loss whether or not its sensor raises an alarm
    activeSet [6] (senseRise [6] (freezeLevel s))
  else s

/-- R470: the element returns; the bridge ends. -/
def reserveReturned (bridgeMs : Nat) (s : State) : State :=
  if s.sap.running && !s.sap.rsvPresent then
    let s := keepAlive { s with
      sap := { s.sap with rsvPresent := true, bridge := false }
      bark := { s.bark with active := s.bark.active &&& ~~~((1 : BitVec 7) <<< 6) } }
    emitSap (devEv 0x0C05 2 (le 2 (satTo 16 bridgeMs))) s
  else s

/-- R468: the zeroize of the bridge. -/
def bridgeZeroize (bridgeMs : Nat) (s : State) : State :=
  if s.sap.running && !s.sap.rsvPresent && !s.power.vdd18 then
    let s := pocketClear s
    let s := { s with sap := { s.sap with zeroCount := bump 8 s.sap.zeroCount } }
    emitSap (devEv 0x0C06 6 (le 2 (satTo 16 bridgeMs) ++ clockMin s.sap.clock)) s
  else s

/-! ### The gauge (R448 to R461) -/

/-- `n` more seconds on SAPCLOCK, with its carry (R453). -/
def clockStep (n : Nat) (s : State) : State :=
  let c := s.sap.clock.toNat + n
  let s' := { s with sap := { s.sap with clock := BitVec.ofNat 32 c } }
  if 2 ^ 32 ≤ c then emitSap (devEv 0x0C0B 1 []) s' else s'

/-- R452: energy into the reserve, with its carry. -/
def einStep (nj : Nat) (s : State) : State :=
  let n := s.sap.einRem + nj
  let e := s.sap.ein.toNat + n / 1000
  let s' := { s with sap := { s.sap with ein := BitVec.ofNat 32 e, einRem := n % 1000 } }
  if 2 ^ 32 ≤ e then emitSap (devEv 0x0C0A 1 []) s' else s'

/-- R449: the learned capacitance after a charging rise of at least 200 mV; 1 µC over 1 mV is 1 mF. -/
def learnCap (rise : Option (Nat × Nat)) (cap : Nat) : Nat :=
  match rise with
  | some (mv, uc) => if 200 ≤ mv then satTo 16 ((3 * cap + uc / mv) / 4) else cap
  | none => cap

/-- R449: ½ × C × (V² − V_STOP²) in µJ, with C in mF and V in mV. -/
def capEnergy (cap mv : Nat) : Nat := cap * (mv * mv - 1800 * 1800) / 2000

/-- The stored energy after a sample (R448 to R450). -/
def gaugeMeasure (g : GaugeIn) (s : State) : State :=
  if reserveLithium s then
    let e := s.sap.liUj + g.chargeUc * g.rsvMv / 1000 - g.drawUc * g.rsvMv / 1000
    let e := if g.rsvMv ≤ 3000 then 0 else e
    { s with sap := { s.sap with liUj := e, gauge := satTo 24 e } }
  else
    let cap := learnCap g.rise s.sap.capEst
    let learns := match g.rise with
      | some r => decide (200 ≤ r.1)
      | none => false
    { s with sap := { s.sap with capEst := cap, learned := s.sap.learned || learns, gauge := satTo 24 (capEnergy cap g.rsvMv) } }

/-- The highest level whose entry condition is not met (R455, Table 15.4). -/
def levelAtMost (s : State) : Fin 4 :=
  if s.sap.thrFull ≤ s.sap.gauge then 3
  else if s.sap.thrLean ≤ s.sap.gauge then 2
  else if s.sap.gauge < s.sap.thrScant ∧ s.sap.gauge < dryEff s then 0
  else 1

/-- The threshold to pass, plus HYST, to rise above a level. -/
def riseThreshold (s : State) (l : Fin 4) : Nat :=
  (match l.val with
    | 0 => s.sap.thrScant
    | 1 => s.sap.thrLean
    | _ => s.sap.thrFull) + s.sap.hyst

/-- R458: on entry to Dry. -/
def dryEntry (s : State) : State :=
  let s := pocketClear s
  let s := { s with
    pocket := { s.pocket with powered := false }
    sap := { s.sap with wakeHolding := false, zeroCount := bump 8 s.sap.zeroCount } }
  emitSap (devEv 0x0C03 5 (gaugeBytes s ++ clockMin s.sap.clock)) s

/-- R460, R480: the Pocket is powered empty, and slots 0 and 1 are derived while Crown runs. -/
def dryLeave (s : State) : State :=
  let s := { s with pocket := { s.pocket with powered := true } }
  if crownUp s then deriveSlots s else s

/-- R455: the level at a gauge sample; frozen while the reserve is lost (R467). (Log entry 131: DEDUCED, unsafe.) -/
def levelStep (s : State) : State :=
  if !s.sap.rsvPresent then s else
  let top := levelAtMost s
  if top < s.sap.level then
    let s := levelEvent false top.val { s with sap := { s.sap with level := top } }
    if top = 0 then dryEntry s else s
  else if s.sap.level < 3 ∧ riseThreshold s s.sap.level ≤ s.sap.gauge then
    let wasDry := decide (s.sap.level = 0)
    let up : Fin 4 := s.sap.level + 1
    let s := levelEvent true up.val { s with sap := { s.sap with level := up } }
    if wasDry then dryLeave s else s
  else s

/-- The first sample after a Sap start (Table 15.2). -/
def coldStart (s : State) : State :=
  if s.sap.cold then emitSap (devEv 0x0C07 3 [BitVec.ofNat 8 (sapSrcKind s)]) { s with sap := { s.sap with cold := false } }
  else s

/-- The time since the last sample: 8 s at Dry, and 1 s at a higher level or after the Sap start (R448, Table 15.2). -/
def sampleSeconds (s : State) : Nat := if s.sap.level = 0 && !s.sap.cold then 8 else 1

/-- What a sample measures, with what no open path can bring left out (R18): power of a source that SRC_KIND does not
select, charge, and a charging rise. Over a sample the trickle alone brings no more than TRICKLE_I (R441).
(Log entry 209: DEDUCED, unsafe.) -/
def gaugeSeen (s : State) (g : GaugeIn) : GaugeIn :=
  { g with
    harvestUw := if sapSrcKind s ≠ 0 then g.harvestUw else 0
    chargeUc := if sapSrcKind s ≠ 0 then g.chargeUc
      else if trickleOn s then min g.chargeUc (min (trickleUa s) (chargeLimitUa s) * sampleSeconds s) else 0
    rise := if chargePath s then g.rise else none }

/-- One gauge sample. -/
def gaugeSample (g : GaugeIn) (s : State) : State :=
  if !s.sap.running then s else
  let g := gaugeSeen s g
  let s := clockStep (sampleSeconds s) s
  let s := { s with sap := { s.sap with
    rsvMv := g.rsvMv, harvestUw := g.harvestUw, harvestActive := decide (0 < g.harvestUw) } }
  let s := coldStart (gaugeMeasure g (einStep (g.chargeUc * g.rsvMv) s))
  let s := if g.openRsv && !chargesNow s then reserveLost g.rsvMv s else s
  levelStep s

/-! ### Thresholds (R457) -/

/-- The four thresholds with one replaced. -/
def withThreshold (which : Fin 4) (v : Nat) (t : Sap) : Sap :=
  match which with
  | 0 => { t with thrFull := v }
  | 1 => { t with thrLean := v }
  | 2 => { t with thrScant := v }
  | 3 => { t with thrDry := v }

def thresholdsOrdered (s : State) : Bool :=
  decide (s.sap.thrLean < s.sap.thrFull) && decide (s.sap.thrScant < s.sap.thrLean) && decide (dryEff s < s.sap.thrScant)

/-- A threshold write. -/
def thresholdWrite (which : Fin 4) (v : Word) (s : State) : State :=
  if !s.sap.running then s else
  let t := { s with sap := withThreshold which (field v 23 0) s.sap }
  if thresholdsOrdered t then t else { s with sap := { s.sap with orderErr := true } }

/-- SAP+0x004 (R474 while the domain does not run). (Log entry 9: DESIGN CHOICE, unsafe.) -/
def sapStatWord (s : State) : Word :=
  if !s.sap.running then mkWord [(20, 1)] else
  mkWord [(30, s.sap.level.val), (29, b2n (reserveLithium s)), (28, b2n (chargesNow s)), (27, b2n s.sap.harvestActive),
    (26, b2n s.sap.rsvPresent), (25, b2n s.sap.bridge), (24, b2n s.sap.keepalive), (23, b2n s.sap.tempHold),
    (22, b2n s.sap.orderErr), (21, b2n s.sap.wakeHolding)]

def sapRecWord (s : State) : Word :=
  mkWord [(24, s.sap.zeroCount.n), (23, b2n s.sap.zeroCount.sat), (8, s.sap.recLost.n), (7, b2n s.sap.recLost.sat),
    (0, s.sap.record.length)]

/-! ### The family's meanings -/

/-- SAP_START. -/
def execSapStart (s : State) : Host.Outcome State Fault Refusal := complete s (sapStart s)

/-- SAP_STOP. -/
def execSapStop (s : State) : Host.Outcome State Fault Refusal := complete s (sapStop s)

/-- MPPT_SAMPLE (R440). -/
def execMpptSample (vocMv : Nat) (s : State) : Host.Outcome State Fault Refusal :=
  complete s (if s.sap.running then
    { s with sap := { s.sap with sapinMv := vocMv * mpptFrac s / 32 } } else s)

/-- CHARGE_END (Table 15.3, R450). -/
def execChargeEnd (rsvMv : Nat) (s : State) : Host.Outcome State Fault Refusal :=
  complete s <|
    if s.sap.running && s.sap.charging && (reserveLithium s || decide (chargeMv s ≤ rsvMv)) then
      { s with sap := { s.sap with
          charging := false, ended := true, rsvMv := rsvMv
          capEst := if reserveLithium s then satTo 16 (s.sap.liUj / 100000) else s.sap.capEst
          learned := s.sap.learned || reserveLithium s } }
    else s

/-- CHARGE_RESTART. -/
def execChargeRestart (rsvMv : Nat) (s : State) : Host.Outcome State Fault Refusal :=
  complete s <|
    if s.sap.running && s.sap.rsvPresent && !s.sap.tempHold && chargePath s && decide (rsvMv < restartMv s) then
      { s with sap := { s.sap with charging := true, ended := false, rsvMv := rsvMv } }
    else s

/-- SAP_CHG_TEMP (R446). -/
def execSapChgTemp (tenthsC : Int) (s : State) : Host.Outcome State Fault Refusal :=
  complete s <|
    if s.sap.running && reserveLithium s && !s.sap.tempHold
        && (decide (tenthsC < chgTmin s) || decide (chgTmax s < tenthsC)) then
      emitSap (devEv 0x0C08 2 (le 2 (satSigned 16 tenthsC)))
        { s with sap := { s.sap with tempHold := true, charging := false } }
    else s

/-- CHG_TEMP_RESUME (R446). -/
def execChgTempResume (s : State) : Host.Outcome State Fault Refusal :=
  complete s <|
    if s.sap.running && s.sap.tempHold then
      { s with sap := { s.sap with tempHold := false, charging := !s.sap.ended && s.sap.rsvPresent && chargePath s } }
    else s

/-- GAUGE_SAMPLE. -/
def execGaugeSample (g : GaugeIn) (s : State) : Host.Outcome State Fault Refusal := complete s (gaugeSample g s)

/-- SAP_CLOCK_CARRY: the second that wraps SAPCLOCK (R453). -/
def execSapClockCarry (s : State) : Host.Outcome State Fault Refusal :=
  complete s (if s.sap.running && decide (s.sap.clock = 0xFFFFFFFF) then clockStep 1 s else s)

/-- THRESHOLD_WRITE, under the Tack: THR_FULL, THR_LEAN, THR_SCANT, THR_DRY. -/
def execThresholdWrite (who : Requester) (which : Fin 4) (v : Word) (s : State) : Host.Outcome State Fault Refusal :=
  complete s (guarded who (regAccess true (0x3010 + 4 * which.val)) (thresholdWrite which v) s)

/-- WAKE_BALL. -/
def execWakeBall (s : State) : Host.Outcome State Fault Refusal :=
  complete s (if flag s.sap.wake 7 && wakeArmed s 1 then sapWake 1 s else s)

/-- WAKE_TIMER. -/
def execWakeTimer (s : State) : Host.Outcome State Fault Refusal :=
  complete s (if decide (field s.sap.wake 31 16 ≠ 0) && wakeArmed s 0xA then sapWake 0xA s else s)

/-- WAKE_HOLD_END. -/
def execWakeHoldEnd (s : State) : Host.Outcome State Fault Refusal :=
  complete s { s with sap := { s.sap with wakeHolding := false } }

/-- RESERVE_LOST. -/
def execReserveLost (rsvMv : Nat) (s : State) : Host.Outcome State Fault Refusal := complete s (reserveLost rsvMv s)

/-- SAP_BRIDGE_ZEROIZE. -/
def execSapBridgeZeroize (bridgeMs : Nat) (s : State) : Host.Outcome State Fault Refusal :=
  complete s (bridgeZeroize bridgeMs s)

/-- RESERVE_RETURNED. -/
def execReserveReturned (bridgeMs : Nat) (s : State) : Host.Outcome State Fault Refusal :=
  complete s (reserveReturned bridgeMs s)

end Sys2Proof.Machine
end

