-- ==== Sys2Proof/Machine/CmpPg.lean ====
section
/-! DEFINITION. Comparators CMP0 to CMP7, pulse generators PG0 to PG7, capture and the self-check (chapter 12). -/

namespace Sys2Proof.Machine

/-! ### Generators -/

/-- R370. -/
def pgPeriod (g : Pg) : Nat := max 2 (field g.time 31 16)
def pgWidth (g : Pg) : Nat := min (field g.time 15 0) (pgPeriod g - 1)

/-- MODE of Table 12.3. -/
def pgMode (g : Pg) : Nat := field g.cfg 31 29

/-- The present count: 0 while stopped; while it runs, a free value below PERIOD.
(Log entries 6: DESIGN CHOICE, safe; 126: DESIGN CHOICE, safe.) -/
def countNow (n : Fin 8) (s : State) : Half × State :=
  let g := s.pgs[n]
  if g.run then (BitVec.ofNat 16 ((freeValue s).toNat % pgPeriod g), drawn s) else (0, s)

/-- One capture (R378). -/
def capPut (v : Half) (c : Capture) : Capture := { value := v, valid := true, overrun := c.overrun || c.valid }

def capSrc0 (g : Pg) : Nat := field g.cfg 4 0
def capSrc1 (g : Pg) : Nat := field g.cfg 12 8

/-- R378: source `code` fires with value `v` at generator `n`. (Log entry 158: DESIGN CHOICE, unsafe.) -/
def captureAt (code : Nat) (v : Half) (n : Fin 8) (s : State) : State :=
  modPg n (fun g => { g with
    cap0 := if capSrc0 g = code then capPut v g.cap0 else g.cap0
    cap1 := if capSrc1 g = code then capPut v g.cap1 else g.cap1 }) s

/-- Source `code` fires at generator `n`: the present count is captured (R379: 0 while it is stopped).
(Log entries 126: DESIGN CHOICE, safe; 158: DESIGN CHOICE, unsafe.) -/
def capture (code : Nat) (n : Fin 8) (s : State) : State :=
  if capSrc0 s.pgs[n] = code ∨ capSrc1 s.pgs[n] = code then
    let c := countNow n s
    captureAt code c.1 n c.2
  else s

/-- A source that any generator may name. -/
def captureAll (code : Nat) (s : State) : State := (List.finRange 8).foldl (fun s n => capture code n s) s

/-- RUN 0: stopped at once with the output inactive (R372). -/
def pgStop (n : Fin 8) (s : State) : State :=
  modPg n (fun g => { g with run := false, out := false, count := 0, burstLeft := 0 }) s

/-- R367: a self-check with its guard holds the comparator's routes. (Log entry 192: DESIGN CHOICE, unsafe.) -/
def cmpHeld (s : State) (n : Fin 8) : Bool := decide (s.cmpTest.runCmp = n) && decide (s.cmpTest.result = 1)

/-- The trip input of PGn from the latches (R376); the fast comparator of an inrush trips by `pgTrip` itself.
(Log entry 193: DEDUCED, unsafe.) -/
def tripInput (s : State) (n : Fin 8) : Bool :=
  (List.finRange 8).any fun k => s.cmps[k].latch && field s.cmps[k].cfg 31 24 >>> n.val % 2 == 1 && !cmpHeld s k

/-- R377: a trip reaches a running generator. -/
def pgTrip (n : Fin 8) (s : State) : State :=
  let g := s.pgs[n]
  if !g.run then s else
  let c := countNow n s
  let s := if g.out then captureAt 0x12 c.1 n c.2 else c.2
  if flag g.cfg 26 then
    let s := modPg n (fun g => { g with tripped := true }) (pgStop n s)
    rootEv (devEv 0x1101 3 ([BitVec.ofNat 8 n.val] ++ le 2 c.1.toNat)) s
  else modPg n (fun g => { g with out := false }) s

/-- The generators whose trip input has risen since `was` take the trip (R377). -/
def pgTripsNew (was : Fin 8 → Bool) (s : State) : State :=
  (List.finRange 8).foldl (fun s k => if tripInput s k && !was k then pgTrip k s else s) s

/-! ### Comparators -/

/-- HYST in µV. -/
def cmpHystUv (cfg : Word) : Int :=
  match field cfg 6 5 with
  | 0 => 0
  | 1 => 10000
  | 2 => 30000
  | _ => 60000

/-- R356: the raw output for an input difference; between the two thresholds it stays as it was.
(Log entry 194: DEDUCED, unsafe.) -/
def cmpSense (c : Cmp) (uv : Int) : Bool :=
  let d := if flag c.cfg 4 then -uv else uv
  let h := cmpHystUv c.cfg
  if h < 2 * d then true else if 2 * d < -h ∨ h = 0 then false else c.raw

def cmpPowered (s : State) (n : Fin 8) : Bool := if n = 0 then s.sap.running else s.power.vdd18
def cmpOn (s : State) (n : Fin 8) : Bool := flag s.cmps[n].cfg 0 && cmpPowered s n

/-- R361: the policy stand's event and the Ring entry of a latch. -/
def cmpReport (n : Fin 8) (s : State) : State :=
  let c := s.cmps[n]
  let s := if flag c.cfg 12 && isReady s then { s with policy := s.policy ++ [.comparator n] } else s
  if flag c.cfg 11 then
    if due s c.entryAt 10000 then
      emit (devEv 0x1001 2 [BitVec.ofNat 8 n.val, BitVec.ofNat 8 (satTo 8 c.unlogged)])
        (modCmp n (fun c => { c with entryAt := some s.time.now, unlogged := 0 }) s)
    else modCmp n (fun c => { c with unlogged := c.unlogged + 1 }) s
  else s

/-- R361, R364: the wake request of a latch. -/
def cmpWake (n : Fin 8) (s : State) : State :=
  if flag s.cmps[n].cfg 13 && wakeArmed s (2 + n.val) && (decide (n = 0) || s.power.vdd18) then
    sapWake (2 + n.val) (emit (devEv 0x1003 2 [BitVec.ofNat 8 n.val, BitVec.ofNat 8 s.sap.level.val]) s)
  else s

/-- R358, R361, R363: LATCH sets, if it is not set already. -/
def cmpLatchSet (n : Fin 8) (s : State) : State :=
  if s.cmps[n].latch || cmpHeld s n then s else
  let s := modCmp n (fun c => { c with latch := true, count := bump 16 c.count }) s
  let mask := field s.cmps[n].cfg 31 24
  let s := captureAll (1 + n.val) s
  let s := (List.finRange 8).foldl (fun s k => if mask >>> k.val % 2 = 1 then pgTrip k s else s) s
  let s := cmpWake n s
  if rootSeen s then cmpReport n s
  else modCmp n (fun c => { c with
    deferred := true, unlogged := c.unlogged + b2n (c.deferred && flag c.cfg 11) }) s

/-- R358: the raw output at 1 outside a window sets LATCH. -/
def cmpLevel (n : Fin 8) (s : State) : State :=
  let c := s.cmps[n]
  if cmpOn s n && c.raw && !c.blanking then cmpLatchSet n s else s

/-- R359: LATCH cleared; R10 and R358 set it again at once while the raw output holds it. -/
def cmpClear (n : Fin 8) (s : State) : State := cmpLevel n (modCmp n (fun c => { c with latch := false }) s)

/-- The deferred reports of the comparators that latched while the Strap was lost, given after its restore. -/
def cmpDeferred (s : State) : State :=
  (List.finRange 8).foldl (fun s n =>
    if s.cmps[n].deferred then cmpReport n (modCmp n (fun c => { c with deferred := false }) s) else s) s

/-- R365: CMP0 has no blanking and no period clear while VDD18 is absent. -/
def cmpSynced (s : State) (n : Fin 8) (g : Fin 8) : Bool :=
  s.power.vdd18 && cmpOn s n && decide (field s.cmps[n].cfg 9 7 = g.val)

/-- R357, R360: what a period start of generator `g` does to comparator `n`. -/
def cmpPeriod (g n : Fin 8) (s : State) : State :=
  if cmpSynced s n g then
    let c := s.cmps[n]
    cmpLevel n (modCmp n (fun _ => { c with
      latch := c.latch && !flag c.cfg 10, blanking := decide (field c.cfg 23 14 ≠ 0) }) s)
  else s

/-! ### Periods -/

/-- A period of PGn begins: new timing in force, latches cleared and windows opened, the output active unless tripped
(R360, R370, R371, R377), and code 0x11 captured; but for an inrush the policy stand has its event (R373).
(Log entry 195: DEDUCED, unsafe.) -/
def pgBegin (n : Fin 8) (s : State) : State :=
  let s := modPg n (fun g => { g with run := true, count := 0, out := false, time := g.timeW }) s
  let s := (List.finRange 8).foldl (fun s k => cmpPeriod n k s) s
  let s := captureAt 0x11 0 n s
  let s := if !s.pgs[n].owned && isReady s && rootSeen s then { s with policy := s.policy ++ [.generator n] } else s
  if tripInput s n then pgTrip n s
  else modPg n (fun g => { g with out := g.run && decide (pgWidth g ≠ 0) }) s

/-- RUN 1 (R372, Table 12.3): modes Off and Inrush do not start so. -/
def pgRunWrite (n : Fin 8) (s : State) : State :=
  let g := s.pgs[n]
  if !s.power.refoscRunning || g.owned then s else
  match pgMode g with
  | 1 => pgBegin n s
  | 2 => pgBegin n s
  | 3 => pgBegin n (modPg n (fun g => { g with burstLeft := max 1 (field g.cfg 23 16) }) s)
  | _ => s

/-- A write of PGnCTL. -/
def pgCtlWrite (n : Fin 8) (v : Word) (s : State) : State := if flag v 0 then pgRunWrite n s else pgStop n s

/-- The counter reaches PERIOD (Table 12.3). -/
def pgPeriodEnd (n : Fin 8) (s : State) : State :=
  let g := s.pgs[n]
  if !g.run then s else
  match pgMode g with
  | 2 => pgStop n s
  | 3 => if g.burstLeft ≤ 1 then pgStop n s else pgBegin n (modPg n (fun g => { g with burstLeft := g.burstLeft - 1 }) s)
  | _ => pgBegin n s

/-- The count reaches WIDTH. -/
def pgWidthEnd (n : Fin 8) (s : State) : State :=
  if s.pgs[n].run then modPg n (fun g => { g with out := false, count := BitVec.ofNat 16 (pgWidth g) }) s else s

/-- Cinch starts PGn for a pulsed inrush of port n (R320, R373). (Log entry 109: DESIGN CHOICE, safe.) -/
def pgOwn (n : Fin 8) (s : State) : State := modPg n (fun g => { g with owned := true }) (pgBegin n s)

/-- The inrush ends: PGn stops, and a waiting MODE takes effect (R375). -/
def pgDisown (n : Fin 8) (s : State) : State :=
  if s.pgs[n].owned then
    modPg n (fun g =>
      match g.modeNext with
      | some m => { g with
          owned := false, modeNext := none, cfg := (g.cfg &&& 0x1FFFFFFF) ||| BitVec.ofNat 32 (m.toNat * 2 ^ 29) }
      | none => { g with owned := false }) (pgStop n s)
  else s

/-! ### Register writes -/

/-- A write of PGnCFG: MODE waits while an inrush runs (R375); a mode that acts as Off stops the generator. -/
def pgCfgWrite (n : Fin 8) (v : Word) (s : State) : State :=
  let v := v &&& 0xFCFF1F1F
  let g := s.pgs[n]
  if g.owned then
    modPg n (fun g => { g with cfg := (g.cfg &&& 0xE0000000) ||| (v &&& 0x1FFFFFFF), modeNext := some (v.extractLsb' 29 3) }) s
  else
    let s := modPg n (fun g => { g with cfg := v }) s
    if decide (pgMode s.pgs[n] = 0) || decide (4 ≤ pgMode s.pgs[n]) then pgStop n s else s

/-- A write of PGnTIME (R371). -/
def pgTimeWrite (n : Fin 8) (v : Word) (s : State) : State := modPg n (fun g => { g with timeW := v }) s

/-- R356, R378: the raw output becomes `raw`, and its rise is captured. -/
def cmpRaw (n : Fin 8) (raw : Bool) (s : State) : State :=
  let rising := raw && !s.cmps[n].raw && !cmpHeld s n
  let s := modCmp n (fun c => { c with raw := raw }) s
  if rising then captureAll (9 + n.val) s else s

/-- A write of CMPnCFG: an enabled comparator's raw output follows its input by the new POL and HYST (R356), and a LATCH
that stands trips the generators it is now routed to (R376, R377). -/
def cmpCfgWrite (n : Fin 8) (v : Word) (s : State) : State :=
  let was := tripInput s
  let turned := decide (flag s.cmps[n].cfg 4 ≠ flag v 4)
  let s := modCmp n (fun c => { c with
    cfg := v &&& 0xFFFFFFF1, raw := c.raw && flag v 0, blanking := c.blanking && flag v 0 }) s
  let c := s.cmps[n]
  let s := if cmpOn s n then cmpLevel n (cmpRaw n (cmpSense { c with raw := c.raw != turned } c.input) s) else s
  pgTripsNew was s

/-- A write of CMPnSTAT: LATCH (R359) and SAT (R11). -/
def cmpStatWrite (n : Fin 8) (v : Word) (s : State) : State :=
  let s := if flag v 15 then modCmp n (fun c => { c with count := {} }) s else s
  if flag v 0 then cmpClear n s else s

def cmpStatWord (c : Cmp) : Word :=
  mkWord [(16, c.count.n), (15, b2n c.count.sat), (2, b2n c.raw), (1, b2n c.blanking), (0, b2n c.latch)]

/-- R368: a comparator that can trip a running generator. -/
def cmpTestRefused (s : State) (n : Fin 8) : Bool :=
  (List.finRange 8).any fun k => field s.cmps[n].cfg 31 24 >>> k.val % 2 == 1 && s.pgs[k].run

/-- A START of CMPTEST (R366, R368); a TEST that Table 12.2 does not list starts nothing.
(Log entry 17: DEDUCED, unsafe.) -/
def cmpTestStart (test : BitVec 3) (n : Fin 8) (s : State) : State :=
  if s.cmpTest.result = 1 then s
  else if test = 0 ∨ 3 < test then s
  else if cmpTestRefused s n then { s with cmpTest := { s.cmpTest with result := 4 } }
  else { s with cmpTest := { s.cmpTest with result := 1, runCmp := n, runTest := test } }

/-- A write of CMPTEST. -/
def cmpTestWrite (v : Word) (s : State) : State :=
  let n : Fin 8 := ⟨field v 2 0, Nat.mod_lt _ (by decide)⟩
  let s := { s with cmpTest := { s.cmpTest with test := v.extractLsb' 28 3, cmp := n } }
  if flag v 31 then cmpTestStart (v.extractLsb' 28 3) n s else s

/-- The value that starts TEST on a comparator. -/
def cmpTestValue (test : BitVec 3) (n : Fin 8) : Word := mkWord [(31, 1), (28, test.toNat), (0, n.val)]

def cmpTestWord (s : State) : Word :=
  mkWord [(28, s.cmpTest.test.toNat), (20, s.cmpTest.result.toNat), (0, s.cmpTest.cmp.val)]

/-- PGnSTAT; COUNT of a running generator is a free value. (Log entry 126: DESIGN CHOICE, safe.) -/
def pgStatRead (n : Fin 8) (s : State) : Word × State :=
  let c := countNow n s
  let g := s.pgs[n]
  (mkWord [(16, c.1.toNat), (8, satTo 8 g.burstLeft), (3, b2n g.owned), (2, b2n g.tripped), (1, b2n g.out), (0, b2n g.run)],
    c.2)

def capWord (c : Capture) : Word := mkWord [(17, b2n c.overrun), (16, b2n c.valid), (0, c.value.toNat)]

/-- A read of PGnCAP0 or PGnCAP1: VALID and OVERRUN clear (RC). -/
def capRead (n : Fin 8) (second : Bool) (s : State) : Word × State :=
  let g := s.pgs[n]
  let clear (c : Capture) : Capture := { c with valid := false, overrun := false }
  if second then (capWord g.cap1, modPg n (fun g => { g with cap1 := clear g.cap1 }) s)
  else (capWord g.cap0, modPg n (fun g => { g with cap0 := clear g.cap0 }) s)

/-- R643 at step 7: PGnCFG and PGnTIME hold 0 where the Pattern states no value; what an inrush runs under stays until it
ends (R375), and a period runs out under the timing it began with (R371). -/
def pgUnset (n : Fin 8) (s : State) : State :=
  let s := modPg n (fun g => { g with timeW := 0 }) s
  if s.pgs[n].owned then pgCfgWrite n 0 s else modPg n (fun g => { g with cfg := 0 }) s

/-- R371: a generator that runs in a mode that acts as Off stops. -/
def pgSettle (n : Fin 8) (s : State) : State :=
  if !s.pgs[n].owned && (decide (pgMode s.pgs[n] = 0) || decide (4 ≤ pgMode s.pgs[n])) then pgStop n s else s

/-- R643 in Limp: the generator is stopped and its fields that the Pattern gives read 0. -/
def pgLimp (n : Fin 8) (s : State) : State :=
  modPg n (fun g => { g with cfg := 0, timeW := 0, time := 0, modeNext := none, owned := false }) (pgStop n s)

/-- Table 12.7, power-on and RST_N: CMP0CFG is kept, and while VDD18 is absent CMP0's LATCH too, which only a host write
clears (R365); what stands at the balls stays. (Log entry 196: DEDUCED, unsafe.) -/
def cmpPgReset (s : State) : State :=
  let c := s.cmps[0]
  let kept : Cmp := { cfg := c.cfg, input := c.input, raw := c.raw, latch := c.latch && !s.power.vdd18 }
  cmpLevel 0 { s with
    cmps := (s.cmps.map fun c => ({ input := c.input } : Cmp)).set 0 kept
    cmpTest := {}
    pgs := .replicate 8 {} }

/-- The reference oscillator stops: every generator with it, and no window is open. -/
def pgAllStop (s : State) : State :=
  let s := (List.finRange 8).foldl (fun s n => pgStop n s) s
  (List.finRange 8).foldl (fun s n => cmpLevel n (modCmp n (fun c => { c with blanking := false }) s)) s

/-! ### The family's meanings -/

/-- CMP_LATCH: CMPnP comes to lie `inputUv` over CMPnN. -/
def execCmpLatch (n : Fin 8) (inputUv : Int) (s : State) : Host.Outcome State Fault Refusal :=
  complete s <|
    let s := modCmp n (fun c => { c with input := inputUv }) s
    if cmpOn s n then cmpLevel n (cmpRaw n (cmpSense s.cmps[n] inputUv) s) else s

/-- BLANK_END: the window closes with CMPnP `inputUv` over CMPnN. -/
def execBlankEnd (n : Fin 8) (inputUv : Int) (s : State) : Host.Outcome State Fault Refusal :=
  complete s <|
    if cmpOn s n && s.cmps[n].blanking then
      let s := modCmp n (fun c => { c with input := inputUv }) s
      cmpLevel n (modCmp n (fun c => { c with blanking := false }) (cmpRaw n (cmpSense s.cmps[n] inputUv) s))
    else s

/-- CMP_SELFTEST: a write of CMPTEST with START, under the Tack. -/
def execCmpSelftest (who : Requester) (test : BitVec 3) (cmp : Fin 8) (s : State) : Host.Outcome State Fault Refusal :=
  complete s (guarded who (regAccess true 0x4040) (cmpTestWrite (cmpTestValue test cmp)) s)

/-- Table 12.2: the test passes by the raw output sampled, and for a swap by that with the inputs exchanged. -/
def cmpTestPass (test : BitVec 3) (pol sample exchanged : Bool) : Bool :=
  match test with
  | 1 => exchanged == !sample
  | 2 => sample == pol
  | _ => sample == !pol

/-- CMP_SELFTEST_DONE: the test and its guard are over, and the comparator's routes act again (R366, R367).
(Log entry 192: DESIGN CHOICE, unsafe.) -/
def execCmpSelftestDone (sample exchanged : Bool) (s : State) : Host.Outcome State Fault Refusal :=
  complete s <|
    if s.cmpTest.result = 1 then
      let n := s.cmpTest.runCmp
      let was := tripInput s
      let pass := cmpTestPass s.cmpTest.runTest (flag s.cmps[n].cfg 4) sample exchanged
      let s := { s with cmpTest := { s.cmpTest with result := if pass then 2 else 3 } }
      let s := if pass then s
        else rootEv (devEv 0x1002 4 [BitVec.ofNat 8 n.val, BitVec.ofNat 8 s.cmpTest.runTest.toNat]) s
      pgTripsNew was (cmpLevel n s)
    else s

/-- PG_RUN: a write of PGnCTL with RUN 1, under the Tack. -/
def execPgRun (who : Requester) (n : Fin 8) (s : State) : Host.Outcome State Fault Refusal :=
  complete s (guarded who (regAccess true (0x4408 + 0x20 * n.val)) (pgRunWrite n) s)

/-- PG_STOP: a write of PGnCTL with RUN 0, under the Tack. -/
def execPgStop (who : Requester) (n : Fin 8) (s : State) : Host.Outcome State Fault Refusal :=
  complete s (guarded who (regAccess true (0x4408 + 0x20 * n.val)) (pgStop n) s)

/-- PG_PERIOD_START. -/
def execPgPeriodStart (n : Fin 8) (s : State) : Host.Outcome State Fault Refusal := complete s (pgPeriodEnd n s)

/-- PG_WIDTH_END. -/
def execPgWidthEnd (n : Fin 8) (s : State) : Host.Outcome State Fault Refusal := complete s (pgWidthEnd n s)

end Sys2Proof.Machine
end

