-- ==== Sys2Proof/Machine/PortOps.lean ====
section
/-! DEFINITION. What the port families share: who may act on a port, the CC terminations and VCONN, gates and discharge,
turning on and the after-trip path, detach, ErrorRecovery and out of service, the group cut-off, and the PD engine's
sending, resets and violations (chapters 09 to 11). -/

namespace Sys2Proof.Machine

/-! ### Conditions -/

/-- Timers count: Root's ticks run (R16) and reach Crown's timer cells (R122, R216). -/
def timersRun (s : State) : Bool := s.power.refoscRunning && strapUp s

/-- The running Pattern does not mark the port unused (Table 2.9, R125). -/
def portUsed (s : State) (p : Fin 8) : Bool := !isReady s || s.pattern.portMask.getLsbD p.val

def evp (p : Fin 8) (code sev : Nat) (data : List Byte) (s : State) : State := emit (portEv p code sev data) s

/-- Inrush: the gates are on and not at full pump yet (R318). -/
def inrushing (c : CinchPort) : Bool := c.gates && !c.pumpOk

/-- The port may be in service: in PORT_MASK (every port in Limp), not forced off, latched, stuck, cut off or faulty, and
not turned off by WD-A's policy. -/
def serviceable (s : State) (p : Fin 8) : Bool :=
  let c := portCinch s p
  (s.boot.phase = .limp || s.pattern.portMask.getLsbD p.val) && !c.forceOff && !c.latched && !c.stuck && !c.groupOut
    && !c.faultOut && !s.wda.offPorts.getLsbD p.val

/-- A stalled stand that no port owns is not back yet: new negotiations wait for it (R129, R131).
(Log entry 72: DEDUCED, unsafe.) -/
def sharedStalled (s : State) : Bool :=
  s.grain.supStalled || s.grain.stands.toList.any fun t => decide (t.role ≠ 0) && decide (t.role ≠ 1) && (t.reloading || t.out)

/-- The port's stand runs and reaches its port. -/
def standActs (s : State) (p : Fin 8) : Bool :=
  isReady s && portReach s p && match (portCc s p).state with
    | .outOfService | .rootHold | .groupUnpowered => false
    | _ => true

/-- The stand acts on its port, and its timers and Root's count (R16, R122). -/
def standTimes (s : State) (p : Fin 8) : Bool := standActs s p && s.power.refoscRunning

def isAttached (c : CcState) : Bool :=
  match c with
  | .attachedSrc | .attachedSnk => true
  | _ => false

def isUnattached (c : CcState) : Bool :=
  match c with
  | .unattachedSrc | .unattachedSnk => true
  | _ => false

/-- ROLE in force: 0 source, 1 sink, 2 DRP. -/
def ccRole (c : CcPort) : Nat := field c.cfg 5 4

/-- (Log entry 104: DEDUCED, unsafe.) -/
def rpLevel (c : CcPort) : Fin 3 :=
  match field c.cfg 7 6 with
  | 1 => 1
  | 2 => 2
  | _ => 0

/-- R242 without its Ra condition: VCONN_EN, the fuse, and VIN above its rising UVLO of 5.5 V (R61, R290). -/
def vconnSupply (s : State) (p : Fin 8) : Bool :=
  flag (portCc s p).cfg 10 && vconnFuse s (groupOf p) && portPowered s p && decide (5500 < s.power.vinMv[groupOf p])

/-- The switch may be turned on: also not held off by R245. -/
def vconnAllowed (s : State) (p : Fin 8) : Bool := vconnSupply s p && !(portCc s p).vconnLatched

/-- STATE and CINCH bytes: the codes stand in order in Table 6.10. -/
def stateByte (c : CcState) : Byte := BitVec.ofNat 8 c.ctorIdx
def cinchByte (c : CinchSt) : Byte := BitVec.ofNat 8 c.ctorIdx

/-! ### CC lines and VCONN -/

/-- R246: VCONN off, its line discharged. -/
def vconnOff (p : Fin 8) (s : State) : State :=
  if (portCc s p).vconnOn then modCc p (fun c => { c with vconnOn := false, ccDischarge := true }) s else s

def vconnTurnOn (p : Fin 8) (s : State) : State :=
  modCc p (fun c => { c with vconnOn := true, ccDischarge := false }) s

/-- A debounce's programmed time in ms (R235, R236); the mask ROM's in Limp is 150 ms.
(Log entry 25: DEDUCED, unsafe.) -/
def debounceMs (s : State) (p : Fin 8) (t : DebTimer) : Nat :=
  let c := portCc s p
  if s.boot.phase = .limp then (match t with | .cc => 150 | _ => 15) else
  match t with
  | .cc => max 100 (min 200 (field c.time0 31 24))
  | .pd => max 10 (min 20 (field c.time1 31 24))
  | .tryCc => max 10 (min 20 (field c.time1 23 16))

def debTimerCode (t : DebTimer) : Byte := BitVec.ofNat 8 t.ctorIdx

/-- R261: a lengthened debounce is reported with the time it ran beyond its programmed time. -/
def debReport (p : Fin 8) (t : DebTimer) (extMs : Nat) (s : State) : State :=
  evp p 0x2004 2 (debTimerCode t :: le 2 (satTo 16 extMs))
    (modCc p (fun c => { c with debExtended := false, debExts := bump 6 c.debExts }) s)

/-- The running debounce ends without completing. -/
def debounceDrop (p : Fin 8) (s : State) : State :=
  let c := portCc s p
  let s' := modCc p (fun c => { c with debounce := none, debExtended := false }) s
  match c.debounce with
  | some d => if c.debExtended then
      debReport p d.timer ((s.time.now - d.startAt) / 1000 - debounceMs s p d.timer) s' else s'
  | none => s'

/-- A debounce starts; a flag already set counts as first set at its start (R260). -/
def debounceStart (p : Fin 8) (t : DebTimer) (s : State) : State :=
  modCc p (fun c => { c with
    debounce := some { timer := t, startAt := s.time.now, firstFlood := if c.floodNow then some s.time.now else none } })
    (debounceDrop p s)

def isRp (c : CcSeen) : Bool :=
  match c with
  | .rpDefault | .rp15 | .rp30 => true
  | _ => false

/-- Exactly one line shows Rd, or Rp: what the Try.SRC path attaches on (R238). -/
def oneRd (c : CcPort) : Bool := decide (c.cc1 = .rd) != decide (c.cc2 = .rd)
def oneRp (c : CcPort) : Bool := isRp c.cc1 != isRp c.cc2

/-- What a source sees as a partner: Rd on one line, or on both with Debug Accessory enabled (R239). -/
def srcSees (c : CcPort) : Bool :=
  oneRd c || (decide (c.cc1 = .rd) && decide (c.cc2 = .rd) && flag c.cfg 11)

/-- What a sink sees: Rp on one line, or on both with Debug Accessory enabled (R240). -/
def snkSees (c : CcPort) : Bool := oneRp c || (isRp c.cc1 && isRp c.cc2 && flag c.cfg 11)

def bothOpen (c : CcPort) : Bool := decide (c.cc1 = .nothing) && decide (c.cc2 = .nothing)

/-- The attached line's termination. -/
def attachedSeen (c : CcPort) : CcSeen := if c.orient then c.cc2 else c.cc1

def setCcState (p : Fin 8) (st : CcState) (s : State) : State := modCc p (fun c => { c with state := st }) s

/-- Ra on the line opposite the one that shows Rd (R242). -/
def raOpposite (c : CcPort) : Bool :=
  (decide (c.cc1 = .rd) && decide (c.cc2 = .ra)) || (decide (c.cc1 = .ra) && decide (c.cc2 = .rd))

/-- A source's debounce starts: Ra counts as seen by what stands while it runs (R242). -/
def srcDebounce (p : Fin 8) (t : DebTimer) (s : State) : State :=
  debounceStart p t (modCc p (fun c => { c with raSeen := raOpposite c }) s)

/-- What the stand's Type-C machine does at a change of recognition (R237, R238, R241, R242, R650).
(Log entry 200: DESIGN CHOICE, unsafe.) -/
def ccEvaluate (p : Fin 8) (s : State) : State :=
  let c := portCc s p
  match c.state with
  | .unattachedSrc => if srcSees c then srcDebounce p .cc (setCcState p .attachWaitSrc s) else s
  | .unattachedSnk => if snkSees c then debounceStart p .cc (setCcState p .attachWaitSnk s) else s
  | .attachWaitSrc => if bothOpen c then srcDebounce p .pd s else srcDebounce p .cc s
  | .attachWaitSnk => if bothOpen c then debounceStart p .pd s else debounceStart p .cc s
  | .trySrc => if oneRd c then srcDebounce p .tryCc s else debounceDrop p s
  | .tryWaitSnk =>
    if oneRp c then debounceStart p .cc s
    else if bothOpen c then debounceStart p .pd s
    else debounceDrop p s
  | .attachedSrc => if attachedSeen c = .rd then debounceDrop p s else debounceStart p .pd s
  | .debugAcc =>
    if c.debugSource then (if c.cc1 = .rd ∧ c.cc2 = .rd then debounceDrop p s else debounceStart p .pd s) else s
  | _ => s

/-! ### Gates and discharge -/

/-- Both gates off; an inrush on PGn ends with them, and so does COMPLIANCE. (Log entry 105: DEDUCED, unsafe.) -/
def gatesLow (p : Fin 8) (s : State) : State :=
  modCinch p (fun c => { c with gates := false, compliance := false, ceiling := false, inrushReadings := 0 }) (pgDisown p s)

/-- A discharge interval begins (R330); Pn_DSCH of an unpowered group is open (Table 2.8). -/
def dischargeOn (p : Fin 8) (s : State) : State :=
  modCinch p (fun c => { c with
    dsch := portPowered s p
    st := match c.st with
      | .fastTrip | .otherTrip | .stuckOn => c.st
      | _ => .discharging }) s

/-- Gates off; at a source port a discharge interval begins (R330).
(Log entries 112: DEDUCED, unsafe; 118: DEDUCED, safe.) -/
def gatesOff (p : Fin 8) (s : State) : State :=
  if (portCinch s p).gates then
    if (portPd s p).source then dischargeOn p (gatesLow p s)
    else modCinch p (fun c => { c with st := .off }) (gatesLow p s)
  else s

/-- Gates off with discharge on, whatever the role. -/
def gatesDark (p : Fin 8) (s : State) : State := dischargeOn p (gatesLow p s)

/-! ### Contracts and targets -/

/-- The loop's target moves to a voltage in mV (R283, R324, R403).
(Log entries 95: DEDUCED, unsafe; 124: DEDUCED, unsafe.) -/
def setTarget (p : Fin 8) (mv : Nat) (s : State) : State :=
  if (portCinch s p).contractMv = mv then s else
  let s := modCinch p (fun c => { c with oldMv := max c.oldMv c.contractMv, contractMv := mv }) s
  modMetro p (fun m => { m with clUv := none, confirmed := false, confCount := 0 }) s

/-- No contract stands: 5 V, and no PPS limit. -/
def contractOver (p : Fin 8) (s : State) : State := modMetro p (fun m => { m with clUv := none }) (setTarget p 5000 s)

/-- Pn_VSET's code changes; the loop's next hold-band step waits for a reading (R402). -/
def setCode (p : Fin 8) (v : Int) (s : State) : State :=
  if (portCinch s p).vset = v then s
  else modMetro p (fun m => { m with codeChanged := true }) (modCinch p (fun c => { c with vset := v }) s)

/-- The port's contract and engine state end. -/
def pdEnd (p : Fin 8) (s : State) : State :=
  let s := modPd p (fun q => { q with
    source := false, dfp := false, explicit := false, pdo := 0, rdo := 0, step := .idle, eprMode := false
    frsArmed := false, frsSignalled := false, ams := 0, waits := 0, txq := [], await := none, retry := 0
    sentCaps := [], caps := [], partnerCaps := [], pendPdo := 0, pendRdo := 0, msgIdTx := 0, capsCount := 0
    hardResetTries := 0, discTries := 0, discWaiting := false, sinkTxWait := false, held := [], capsHeld := false
    hushMode := false, alertSent := false, rev := 0, cable := 0, activeCable := false, authFailedAlarm := false
    vdmOut := false, authDue := false, authHalt := false, bistTest := false, bistUntil := 0 }) s
  contractOver p s

/-- R309. -/
def clearLevels (p : Fin 8) (s : State) : State :=
  modPd p (fun q => { q with classes := q.classes.map fun (c : VClass) =>
    { c with inWindow := 0, level := 0, winEnd := none, last := none } }) s

/-! ### The group cut-off -/

def backfeedIn (s : State) (g : Fin 2) : Bool := (groupPorts g).any fun p => (portCinch s p).backfeed

/-- STUCK bits of a group. -/
def stuckMask (s : State) (g : Fin 2) : Nat :=
  (groupPorts g).foldl (fun acc p => acc + (b2n (portCinch s p).stuck) <<< (p.val % 4)) 0

/-- (Log entry 127: DEDUCED, unsafe.) -/
def gcutOpen (g : Fin 2) (cause : Nat) (s : State) : State :=
  emit (devEv 0x1401 5 [BitVec.ofNat 8 g.val, BitVec.ofNat 8 cause, BitVec.ofNat 8 (stuckMask s g)])
    (modGroup g (fun t => { t with gcutOpen := true, cause := BitVec.ofNat 3 cause }) s)

/-- (Log entry 127: DEDUCED, unsafe.) -/
def gcutClose (g : Fin 2) (s : State) : State :=
  rootEv (devEv 0x1402 2 [BitVec.ofNat 8 g.val]) (modGroup g (fun t => { t with gcutOpen := false, cause := 0 }) s)

/-- The k-th port of a group is shed (R342). -/
def shedPort (s : State) (p : Fin 8) : Bool := field s.groups[groupOf p].rootCfg 7 4 >>> (p.val % 4) % 2 == 1

/-- Backfeed at a port ends (R295); CINCH keeps showing a trip, a discharge or STUCK_ON.
(Log entries 16: DESIGN CHOICE, safe; 116: DEDUCED, unsafe.) -/
def backfeedEnd (p : Fin 8) (cause : Nat) (s : State) : State :=
  if (portCinch s p).backfeed then
    evp p 0x2017 3 [Config.codeByte 0x2017 cause] (modCinch p (fun c => { c with
      backfeed := false
      st := match c.st with
        | .fastTrip | .otherTrip | .stuckOn | .discharging => c.st
        | _ => .off }) s)
  else s

/-- What every way out of an attach has in common. (Log entry 119: DEDUCED, unsafe.) -/
def portLeave (p : Fin 8) (cause : Nat) (s : State) : State :=
  clearLevels p (authEnd p (pdEnd p (unwantAll p (vconnOff p (debounceDrop p (backfeedEnd p cause s))))))

/-- The port has left the ErrorRecovery of a CC_OVP trip (R248). -/
def ovpOver (p : Fin 8) (s : State) : State := modCc p (fun c => { c with ovpTrip := false }) s

/-- Out of service: gates off, discharge on, CC open, STATE 0x00 (R81, R329, R334). (Log entry 115: DEDUCED, unsafe.) -/
def outOfService (p : Fin 8) (s : State) : State :=
  present p .opened (ovpOver p (setCcState p .outOfService (portLeave p 2 (gatesDark p s))))

/-- A port held out by an open GCUT (R334). -/
def groupHoldOut (p : Fin 8) (s : State) : State :=
  modCinch p (fun c => { c with groupOut := true }) (outOfService p s)

/-- R334's last bullet: the group's other ports go out of service; while one is in backfeed, it and the ports outside
SHED_MASK keep running. -/
def groupOutAll (g : Fin 2) (s : State) : State :=
  let bf := backfeedIn s g
  onPorts (groupPorts g) (fun p s =>
    if (portCinch s p).stuck || (portCinch s p).groupOut || (bf && ((portCinch s p).backfeed || !shedPort s p)) then s
    else groupHoldOut p s) s

/-- When backfeed ends, an open GCUT of cause STUCK_ON takes the rest of the group out (R334). -/
def groupAfterBackfeed (g : Fin 2) (s : State) : State :=
  if s.groups[g].gcutOpen && decide (s.groups[g].cause = 1) && !backfeedIn s g then groupOutAll g s else s

/-- Out of service by request, with what a backfeed's end brings. -/
def takeOut (p : Fin 8) (s : State) : State := groupAfterBackfeed (groupOf p) (outOfService p s)

/-! ### Entering and leaving the attach states -/

/-- A written configuration is not in force yet (R234). -/
def ccPending (c : CcPort) : Bool :=
  decide (c.cfg ≠ c.cfgW) || decide (c.time0 ≠ c.time0W) || decide (c.time1 ≠ c.time1W)

/-- Which Unattached state a port enters: the one its ROLE selects, a DRP port's source or sink one, or Unattached.SNK
whatever its ROLE, after a sink's detach (R651). -/
inductive UnattachedAs where
  | src
  | snk
  | detachedSink
  deriving DecidableEq, Repr

def unattachedSink (how : UnattachedAs) (c : CcPort) : Bool :=
  match how with
  | .src => ccRole c = 1
  | .snk => ccRole c = 1 || ccRole c = 2
  | .detachedSink => true

/-- An Unattached state, with the configuration as written (R234, R237, R245, R651). -/
def enterUnattached (p : Fin 8) (how : UnattachedAs) (s : State) : State :=
  let s := modCc p (fun c =>
    let c := { c with cfg := c.cfgW, time0 := c.time0W, time1 := c.time1W }
    let sink := unattachedSink how c
    { c with
      state := if sink then .unattachedSnk else .unattachedSrc
      term := if sink then .rd else .rp (rpLevel c)
      vconnLatched := false, raSeen := false, debugSource := false, drpSrcPhase := !sink }) s
  ccEvaluate p s

/-- In Limp the mask ROM presents Rp at 1.5 A. (Log entry 25: DEDUCED, unsafe.) -/
def enterLimp (p : Fin 8) (s : State) : State :=
  present p (.rp 1) (setCcState p .unattachedSrc s)

/-- To Unattached, if the port may be in service and its group is powered (R56). (Log entry 117: DEDUCED, unsafe.) -/
def goUnattachedAs (p : Fin 8) (how : UnattachedAs) (s : State) : State :=
  let s := ovpOver p s
  if !serviceable s p then present p .opened (setCcState p .outOfService s)
  else if !s.power.groupUp[groupOf p] then present p .opened (setCcState p .groupUnpowered s)
  else if s.boot.phase = .limp then enterLimp p s
  else enterUnattached p how s

def goUnattached (p : Fin 8) (s : State) : State := goUnattachedAs p .src s

/-- The port confirms its detach from VBUS: Attached.SNK, Debug Accessory as sink, or backfeed (R651). -/
def vbusDetaches (s : State) (p : Fin 8) : Bool :=
  let c := portCc s p
  decide (c.state = .attachedSnk) || (decide (c.state = .debugAcc) && !c.debugSource) || (portCinch s p).backfeed

/-- R651 and the source's confirmed detach. (Log entry 176: DEDUCED, unsafe.) -/
def detach (p : Fin 8) (s : State) : State :=
  let prev := (portCc s p).state
  let how : UnattachedAs := if vbusDetaches s p then .detachedSink else .src
  let s := evp p 0x2002 1 [stateByte prev] s
  groupAfterBackfeed (groupOf p) (goUnattachedAs p how (portLeave p 0 (gatesOff p s)))

/-- ErrorRecovery: gates off, VCONN off, CC open, the contract and its leases ended (R226, R303, R309). -/
def errorRecovery (p : Fin 8) (s : State) : State :=
  if (portCc s p).state = .outOfService then s
  else groupAfterBackfeed (groupOf p)
    (present p .opened (setCcState p .errorRecovery (portLeave p 1 (gatesOff p s))))

/-! ### Trips -/

/-- R327, R328: a trip counted: fast (code 1 to 3), I²t (4), an inrush failure (5) or a gate fault (6); with LIMIT of them in
10 s the port is latched. -/
def tripCount (p : Fin 8) (code : Nat) (s : State) : State :=
  let fast := decide (code ≤ 3)
  let limit := field (portCinch s p).ft 5 3
  let s := modCinch p (fun c => { c with
    lastTrip := BitVec.ofNat 3 code, trips := bump 8 c.trips
    tripTimes := recent s 10000000 c.tripTimes ++ [s.time.now]
    alarmFast := c.alarmFast || fast, alarmI2t := c.alarmI2t || !fast }) s
  if limit ≠ 0 ∧ limit ≤ (portCinch s p).tripTimes.length then
    evp p 0x2023 5 [BitVec.ofNat 8 code] (modCinch p (fun c => { c with latched := true }) s)
  else s

/-- CINCH after a trip: 0x04 or 0x05 (R327); a stuck port keeps STUCK_ON. -/
def tripShown (code : Nat) (c : CinchPort) : CinchPort :=
  { c with st := if c.stuck then c.st else if code ≤ 3 then .fastTrip else .otherTrip }

/-- R327, R328: what follows a trip of the kinds of `tripCount`. (Log entry 113: DEDUCED, unsafe.) -/
def afterTrip (p : Fin 8) (code : Nat) (s : State) : State :=
  let s := modCinch p (tripShown code) (gatesDark p s)
  let s := tripCount p code s
  if (portCinch s p).latched then
    groupAfterBackfeed (groupOf p) (present p .opened (setCcState p .outOfService (portLeave p 1 s)))
  else errorRecovery p s

/-- R321, R374. -/
def inrushFail (p : Fin 8) (vbusMv : Nat) (s : State) : State :=
  let mode := field (portCinch s p).cfg 24 24
  afterTrip p 5 (evp p 0x2020 4 (BitVec.ofNat 8 mode :: le 2 (satTo 16 vbusMv)) s)

/-- A turn-on under the port's inrush setting (R319, R320, R374).
(Log entries 113: DEDUCED, unsafe; 118: DEDUCED, safe.) -/
def turnOn (p : Fin 8) (s : State) : State :=
  if !serviceable s p || !s.power.groupUp[groupOf p] then s else
  let s := modCinch p (fun c => { c with
    gates := true, st := if c.backfeed then .backfeed else .inrush, pumpOk := false, dsch := false, alarmFast := false
    alarmI2t := false, inrushReadings := 0, oldMv := c.contractMv }) s
  if flag (portCinch s p).cfg 24 then
    if pgMode s.pgs[p] = 4 then pgOwn p s else inrushFail p (vbusMv (portMetro s p)) s
  else s

/-! ### Sending and messages -/

def setStep (p : Fin 8) (st : PdStep) (s : State) : State := modPd p (fun q => { q with step := st }) s

/-- A Hush request's own AMS ends; one that a swap has begun meanwhile runs on. -/
def hushAmsEnd (p : Fin 8) (s : State) : State := if (portPd s p).ams = amsHush then amsEnd p s else s

/-- The end of a Hush request or window with REFUSED (R289); a request's AMS ends with it.
(Log entry 119: DEDUCED, unsafe.) -/
def hushEnd (p : Fin 8) (s : State) : State :=
  match (portCc s p).hushStatus with
  | .pending => hushAmsEnd p (modCc p (fun c => { c with hushStatus := .refused }) s)
  | .granted | .opened => modCc p (fun c => { c with hushStatus := .refused }) s
  | _ => s

/-! ### The offer (R276 to R278); PDO layouts as USB PD gives them (log entry 7) -/

/-- The cable limit in 10 mA units (Table 10.3). -/
def cableLimit (q : PdPort) : Nat := if q.cable.toNat ≤ 1 then 300 else 500

def eprOffered (q : PdPort) : Bool := decide (q.cable = 3) && flag q.cfg 15 && decide (q.rev ≠ 1)

/-- (Log entry 7: PRESUMED, unsafe.) -/
def pdoFixed (w : Word) : Bool := field w 31 30 = 0
/-- (Log entry 7: PRESUMED, unsafe.) -/
def pdoPps (w : Word) : Bool := field w 31 28 = 0xC
/-- (Log entry 7: PRESUMED, unsafe.) -/
def pdoAvs (w : Word) : Bool := field w 31 28 = 0xD
/-- A fixed PDO's voltage in mV. (Log entry 7: PRESUMED, unsafe.) -/
def pdoMv (w : Word) : Nat := 50 * field w 19 10
/-- A PDO that only EPR carries. -/
def pdoEpr (w : Word) : Bool := pdoAvs w || (pdoFixed w && decide (20000 < pdoMv w))

/-- A PDO with its current lowered to the cable limit. -/
def pdoLower (limit : Nat) (w : Word) : Word :=
  if pdoFixed w then (w &&& ~~~(0x3FF : Word)) ||| BitVec.ofNat 32 (min (field w 9 0) limit)
  else if pdoPps w then (w &&& ~~~(0x7F : Word)) ||| BitVec.ofNat 32 (min (field w 6 0) (limit / 5))
  else w

/-- EPR Mode Capable of PDO 1 as R278 says. (Log entry 7: PRESUMED, unsafe.) -/
def pdoCapable (on : Bool) (w : Word) : Word := (w &&& ~~~(0x00800000 : Word)) ||| (if on then 0x00800000 else 0)

/-- Fixed 5 V. (Log entry 7: PRESUMED, unsafe.) -/
def pdoFive (w : Word) : Bool := pdoFixed w && decide (pdoMv w = 5000)

/-- An SPR PDO past the first that Table 10.1 supports: fixed 9, 15 or 20 V, or PPS within 3.3 V to 21 V, toward a partner
above Revision 2.0 and with PPS_EN (R271). -/
def pdoSpr (q : PdPort) (w : Word) : Bool :=
  (pdoFixed w && (decide (pdoMv w = 9000) || decide (pdoMv w = 15000) || decide (pdoMv w = 20000)))
    || (pdoPps w && flag q.cfg 14 && decide (q.rev ≠ 1) && decide (33 ≤ field w 15 8) && decide (field w 24 17 ≤ 210))

/-- An EPR PDO that Table 10.1 supports: fixed 28, 36 or 48 V, or AVS within 15 V to 48 V.
(Log entry 7: PRESUMED, unsafe.) -/
def pdoEprOk (w : Word) : Bool :=
  (pdoAvs w && decide (150 ≤ field w 15 8) && decide (field w 25 17 ≤ 480))
    || (pdoFixed w && (decide (pdoMv w = 28000) || decide (pdoMv w = 36000) || decide (pdoMv w = 48000)))

/-- R277's PDO 1 of a list: its fixed 5 V PDO; where the Pattern states none, one whose current is free.
(Log entry 175: DESIGN CHOICE, safe.) -/
def pdoFirst (p : Fin 8) (l : List Word) : Word :=
  match l.find? pdoFive with
  | some w => w
  | none => 0x00019000 ||| (Config.codeByte 0x0277 p.val).zeroExtend 32

/-- R277, R278, R271: the SPR part of an offer from a PDO list; PDO 1 alone while WD-A's policy says so. -/
def sprFrom (s : State) (p : Fin 8) (l : List Word) : List Word :=
  let q := portPd s p
  let lower := pdoLower (cableLimit q)
  pdoCapable (eprOffered q) (lower (pdoFirst p l))
    :: (if s.wda.safePorts.getLsbD p.val then [] else ((l.filter (pdoSpr q)).map lower).take 6)

/-- An offer from a PDO list: with its EPR PDOs in EPR mode, where the cable permits them (Table 10.3). -/
def offerFrom (s : State) (p : Fin 8) (l : List Word) : List Word :=
  let q := portPd s p
  if q.eprMode && eprOffered q && !s.wda.safePorts.getLsbD p.val then
    sprFrom s p l ++ ((l.filter pdoEprOk).take 4).map (pdoLower (cableLimit q))
  else sprFrom s p l

/-- The port's offer from the Pattern's PDO list. -/
def portOffer (s : State) (p : Fin 8) : List Word := offerFrom s p (portPd s p).pdoList

/-- Source_Capabilities sent; the list becomes the offer once it receives GoodCRC (R280). On the port's own account it is
an AMS (R279). -/
def sendOffer (p : Fin 8) (own : Bool) (pdos : List Word) (s : State) : State :=
  let s := modPd p (fun q => { q with sentCaps := pdos, capsCount := q.capsCount + 1 }) s
  let s := if own && (portPd s p).source && (portPd s p).explicit then amsStart p amsNegotiation s else s
  if (portPd s p).eprMode then pdSend p (.eprSourceCaps pdos) s else pdSend p (.sourceCaps pdos) s

/-- A new offer; it waits for a stalled shared stand (R129). (Log entries 72: DEDUCED, unsafe; 120: DEDUCED, unsafe.) -/
def sendCapsAs (p : Fin 8) (own : Bool) (s : State) : State :=
  if sharedStalled s then modPd p (fun q => { q with capsHeld := true }) s
  else sendOffer p own (portOffer s p) (modPd p (fun q => { q with capsHeld := false }) s)

def sendCaps (p : Fin 8) (s : State) : State := sendCapsAs p true s

/-- A source with vSafe5V on: Discover Identity to the cable first where it supplies VCONN (R275); without VCONN the cable
limit is that of Table 10.3's first row (R276). -/
def startSource (p : Fin 8) (s : State) : State :=
  let s := modPd p (fun q => { q with step := .srcStartup, capsCount := 0, cable := 0, activeCable := false }) s
  if (portCc s p).vconnOn then
    pdSendOn p .sopPrime .discoverIdentity (modPd p (fun q => { q with discWaiting := true, discTries := 1 }) s)
  else sendCaps p s

/-- Inrush has ended and the gates are at full pump; a source starts its engine from vSafe5V (R319, R320).
(Log entry 114: DEDUCED, unsafe.) -/
def inrushEnd (p : Fin 8) (s : State) : State :=
  let c := portCinch s p
  if !inrushing c then s else
  let s := pgDisown p s
  let bf := (portCinch s p).backfeed
  let s := modCinch p (fun c => { c with
    st := if bf then .backfeed else if c.st = .inrush then .on else c.st, pumpOk := true, inrushReadings := 0 }) s
  let q := portPd s p
  if q.source && decide (q.step = .prsSnkOn) then
    -- R287: PS_RDY once VBUS is on
    startSource p (pdSend p .psRdy s)
  else if q.source && standActs s p && decide ((portCc s p).state = .attachedSrc) then startSource p s
  else s

/-! ### Resets -/

/-- An authentication in progress at a port that keeps its leases (R226) is given up; an earlier one's status stands on
(R303). (Log entry 202: DEDUCED, unsafe.) -/
def authDrop (p : Fin 8) (s : State) : State :=
  if authBusy (portPd s p).auth then authClear (if (portPd s p).authHeld then .authenticated else .none) p (unwant p s) else s

/-- The end of an authentication that a reset abandons: one in progress ends (R304), but for an earlier one's status. -/
def authAbandon (p : Fin 8) (s : State) : State :=
  if authBusy (portPd s p).auth && !(portPd s p).authHeld then authEnd p s else authDrop p s

/-- (Log entry 16: DESIGN CHOICE, safe.) -/
def sentByte (sent : Bool) (code : Half) : Byte := Config.codeByte code (if sent then 0 else 1)

/-- Soft_Reset sent (true) or received; what `give` does to an authentication in progress. No queued operation is wanted any
more (R304), and whether an authentication starts again is the policy's to say. -/
def softResetWith (give : Fin 8 → State → State) (p : Fin 8) (sent : Bool) (s : State) : State :=
  let ams := (portPd s p).ams
  let was := authBusy (portPd s p).auth
  let s := unwantAll p (give p s)
  let s := modPd p (fun q => { q with
    authHalt := was
    softResets := bump 8 q.softResets, msgIdTx := 0, txq := [], await := none, retry := 0, ams := amsReset
    waits := 0, pendPdo := 0, pendRdo := 0, sinkTxWait := false, held := [], capsHeld := false, vdmOut := false
    authDue := false }) s
  let s := evp p 0x2011 2 [sentByte sent 0x2011, amsByte ams] s
  if sent then setStep p .softReset (pdSend p .softReset s) else s

def softReset (p : Fin 8) (sent : Bool) (s : State) : State := softResetWith authAbandon p sent s

/-- Hard Reset signalled (true) or received: the contract and its authentication end (R303); LEVEL stays (R309). -/
def hardReset (p : Fin 8) (sent : Bool) (cause : Nat) (s : State) : State :=
  let q := portPd s p
  let s := modPd p (fun q => { q with hardResets := bump 8 q.hardResets }) s
  let s := evp p 0x2012 4 [sentByte sent 0x2012, Config.codeByte 0x2012 (2 + cause)] s
  let s := if q.eprMode then evp p 0x2019 2 [Config.codeByte 0x2019 0] s else s
  let s := authEnd p (unwantAll p s)
  let s := modPd p (fun t => { t with
    authHalt := false, explicit := false, pdo := 0, rdo := 0, eprMode := false, frsArmed := false, ams := amsReset, waits := 0, txq := []
    await := none, retry := 0, sentCaps := [], caps := [], partnerCaps := [], pendPdo := 0, pendRdo := 0, msgIdTx := 0
    capsCount := 0, discTries := 0, discWaiting := false, sinkTxWait := false, held := [], capsHeld := false
    hushMode := false, vdmOut := false, authDue := false, bistTest := false, bistUntil := 0
    hardResetTries := t.hardResetTries + 1
    step := if t.source then .hardResetHold else .snkHardReset }) s
  contractOver p s

/-! ### Violations (R308 to R310) -/

/-- The floors of Table 10.5. -/
def classFloor (k : Nat) : Nat :=
  ([3, 4, 0, 2, 2, 2, 2, 4, 4, 4, 0, 3, 4, 0, 0, 3, 0, 1, 1, 1, 0, 0, 3, 5] : List Nat).getD k 0

/-- WINDOW of Table 10.7 in µs. -/
def classWindow (code : Nat) : Nat :=
  ([100000, 250000, 500000, 1000000, 2000000, 5000000, 10000000, 30000000] : List Nat).getD code 60000000

/-- R308: the class's counters after one more event, with the answer and the count it is answered at. -/
def classEvent (w : Word) (k now : Nat) (v : VClass) : VClass × Nat × Nat :=
  let win := classWindow (field w 15 12)
  let thresh := field w 11 8
  let open1 := match v.winEnd with
    | some e => decide (now < e)
    | none => false
  let level1 := match v.last with
    | some t => if 0 < v.level ∧ t + win ≤ now then 0 else v.level
    | none => v.level
  let winEnd2 := if open1 then v.winEnd else some (now + win)
  let n := (if open1 then v.inWindow else 0) + 1
  let rise := decide (thresh ≠ 0) && decide (n = thresh)
  let level := if rise then min 5 (level1 + 1) else level1
  let answer := max (classFloor k) (min (field w 5 3) (field w 2 0 + level))
  ({ count := bump 16 v.count, inWindow := if rise then 0 else n, level, winEnd := if rise then none else winEnd2,
     last := some now }, answer, n)

/-- The message type byte of a violation's event data; the codes are free. (Log entry 18: DESIGN CHOICE, safe.) -/
def msgByte (m : Option PdMsg) : Byte :=
  match m with
  | some m => Config.codeByte 0x2040 (1 + m.ctorIdx)
  | none => Config.codeByte 0x2040 0

def isVdm (m : PdMsg) : Bool :=
  match m with
  | .discoverIdentity | .discoverIdentityAck _ | .discoverSvids | .discoverModes _ | .enterMode _ | .exitMode _
  | .modeAck _ _ | .vdmNak | .vdmUnentered | .vdmUnsolicited | .hushReq _ _ | .discoverSvidsAck _
  | .discoverModesAck _ _ => true
  | _ => false

/-- A1 of Table 10.6. -/
def answerA1 (p : Fin 8) (m : Option PdMsg) (s : State) : State :=
  match m with
  | none => s
  | some m => pdSend p (if isVdm m then .vdmNak else .notSupported) s

/-- A2 of Table 10.6. -/
def answerA2 (p : Fin 8) (k : Nat) (m : Option PdMsg) (s : State) : State :=
  match m with
  | some (.request _) | some (.eprRequest _ _) | some .prSwap | some .drSwap | some .vconnSwap | some .frSwap =>
    pdSend p .reject s
  | some .eprModeEnter => pdSend p (if k = 6 then .eprModeEnterFailed else .reject) s
  | _ => answerA1 p m s

/-- One violation of class `k` at port `p`, with the message it is in, and the answer applied.
(Log entry 18: DESIGN CHOICE, safe.) -/
def violate (p : Fin 8) (k : Fin 24) (on : Sop) (m : Option PdMsg) (s : State) : State :=
  let w := s.pattern.classes[k]
  let q := portPd s p
  let r := classEvent w k.val s.time.now q.classes[k]
  let s := modPd p (fun q => { q with
    classes := q.classes.set k r.1, violCount := bump 16 q.violCount, lastClass := BitVec.ofNat 8 k.val
    lastLevel := r.1.level, lastAnswer := r.2.1 }) s
  let s := evp p (0x2040 + k.val) (field w 18 16)
    [msgByte m, Config.codeByte 0x0210 on.ctorIdx, Config.codeByte 0x0211 q.step.ctorIdx, BitVec.ofNat 8 r.2.1,
     BitVec.ofNat 8 r.1.level, BitVec.ofNat 8 (satTo 8 r.2.2)] s
  match r.2.1 with
  | 0 => s
  | 1 => answerA1 p m s
  | 2 => answerA2 p k.val m s
  | 3 => softReset p true s
  | 4 => hardReset p true 0 s
  | _ => errorRecovery p s

/-- A power transition is under way (classes 0 and 1). (Log entry 125: DEDUCED, unsafe.) -/
def inTransition (st : PdStep) : Bool :=
  match st with
  | .srcTransition | .srcSettling | .snkTransition | .prsSrcAccepted | .prsSrcOff | .prsSrcWait | .prsSnkWait | .prsSnkOn
  | .hardResetHold | .hardResetOff | .snkHardReset | .frsWait | .frsPsWait => true
  | _ => false

/-- A message not valid in the present state. (Log entry 125: DEDUCED, unsafe.) -/
def unexpected (p : Fin 8) (on : Sop) (m : PdMsg) (s : State) : State :=
  violate p (if inTransition (portPd s p).step then 1 else 0) on (some m) s

end Sys2Proof.Machine
end

