-- ==== Sys2Proof/Machine/Awl.lean ====
section
/-! DEFINITION. Pressed records (R493 to R500), the Awl's queue (R501 to R506) and what it does for a port's
authentication (R296 to R304, Table 16.5). -/

namespace Sys2Proof.Machine

/-! ### Records -/

def recordAddr (s : State) (i : Nat) : Nat := recordBase s + 64 * i

/-- Bytes 0 to 15 of a record (Table 16.2). -/
def recordHead (i : Fin 20) (wc : Nat) : List Byte :=
  [BitVec.ofNat 8 i.val, BitVec.ofNat 8 (itemClass i)] ++ le 6 wc ++ List.replicate 8 0

/-- R494: WRITE_COUNT, ITEM and five zero bytes. -/
def recordIv (i : Fin 20) (wc : Nat) : List Byte := le 6 wc ++ [BitVec.ofNat 8 i.val] ++ List.replicate 5 0

/-- A record of an item's content under slot 1 (R494). -/
def recordBytes (s : State) (i : Fin 20) (wc : Nat) (v : BitVec 256) : List Byte :=
  let h := recordHead i wc
  let e := gcmEncrypt (slotBytes s.pocket.slots[1]) (recordIv i wc) (h ++ deviceId s) (slotBytes v)
  h ++ e.1 ++ e.2

/-- R499: the content of a record, if ITEM and WRITE_COUNT match and the tag verifies. -/
def recordOpen (s : State) (i : Fin 20) (wc : Nat) (bs : List Byte) : Option (BitVec 256) :=
  if numAt bs 0 1 = i.val ∧ numAt bs 2 6 = wc then
    (gcmDecrypt (slotBytes s.pocket.slots[1]) (recordIv i wc) (slice bs 0 16 ++ deviceId s) (slice bs 16 32)
      (slice bs 48 16)).map toSlot
  else none

/-- A current record in sector `k` of the log. -/
def currentIn (s : State) (k : Nat) (i : Fin 20) : Bool := (item s i).current && decide ((item s i).record / 64 = k)

/-- The flash port still has a record of sector `k` to read. -/
def sectorRead (s : State) (k : Nat) : Bool :=
  (allItems.filter (currentIn s k)).any fun i =>
    let o : FlashOp := .recordRead i
    decide (s.flash.current = some o) || s.flash.waiting.contains o

/-- R493: sector `k` of the log made blank, its current records copied forward; not yet while one of them has still to be
read (chapter 16, "When things collide"). It belongs to the transfer of a record. (Log entry 19: DEDUCED, unsafe.) -/
def sectorClear (k : Nat) (s : State) : State :=
  let a := recordAddr s (64 * k)
  if (flashBytes s a 4096).all (· = erased) || sectorRead s k then s
  else
    let kept := (allItems.filter (currentIn s k)).map fun i => (i, flashBytes s (recordAddr s (item s i).record) 64)
    kept.foldl (fun s e =>
      let n := s.pocket.logPos
      modItem e.1 (fun t => { t with record := n })
        (flashProgram (recordAddr s n) e.2 { s with pocket := { s.pocket with logPos := (n + 1) % 960 } }))
      (flashEraseRange a 4096 s)

/-- The wrapping key is derived: records can be pressed and opened (R481). -/
def wrapReady (s : State) : Bool := (item s 1).slot.isSome

/-- R537: the Awl's accesses of a press, to the record buffer and to the record's place in the flash. -/
def pressAllowed (i : Fin 20) (s : State) : State × Bool :=
  let r := tackCheck .awl [satAccess true (bufferLine i), satAccess true (bufferLine i + 1),
    flashAccess true (recordAddr s s.pocket.logPos) 64] s
  (r.1, r.2.isNone)

/-- R495, R496: a record of a content goes into the buffer and asks for the flash port; none while the flash is
unavailable or WRITE_COUNT is at all-ones (R500), or without a wrapping key (R481). (Log entry 94: DEDUCED, unsafe.) -/
def pressRecord (i : Fin 20) (v : BitVec 256) (s : State) : Option State :=
  if !s.flash.ok || !wrapReady s then none
  else if s.pocket.wcSat ∨ s.pocket.writeCount = 2 ^ 48 - 1 then none
  else
    let n := s.pocket.logPos
    let wc := s.pocket.writeCount + 1
    let b : Buffered := { item := i, index := n, wc }
    let s := bufferStore i (recordBytes s i wc v) s
    let s := { s with pocket := { s.pocket with
      writeCount := wc, logPos := (n + 1) % 960, buffer := s.pocket.buffer.filter (fun c => c.item ≠ i) ++ [b] } }
    some (flashQueue (.recordWrite i) s)

/-- A press was asked for with WRITE_COUNT at all-ones (R495, R11). (Log entry 94: DEDUCED, unsafe.) -/
def wcSaturate (s : State) : State :=
  if s.pocket.writeCount = 2 ^ 48 - 1 then { s with pocket := { s.pocket with wcSat := true } } else s

/-! ### Slots (R486 to R488, R500) -/

/-- The least recently used resident leasable item of a class, other than those in `keep`. -/
def lruItem (s : State) (cls : Nat) (keep : List (Fin 20)) (ok : PkItem → Bool) : Option (Fin 20) :=
  (allItems.filter fun i => itemClass i = cls && (item s i).slot.isSome && !keep.contains i && ok (item s i)).foldl
    (fun best i => match best with
      | none => some i
      | some b => if (item s i).lastUse < (item s b).lastUse then some i else some b) none

/-- The slot of an item freed; its content stays in its record. -/
def vacate (i : Fin 20) (s : State) : State :=
  let s := match (item s i).slot with
    | some k => setSlot k 0 s
    | none => s
  modItem i (fun t => { t with state := .pressed, slot := none }) s

/-- A spare item without a current record pressed out. -/
def pressOut (i : Fin 20) (s : State) : Option State :=
  let v := match (item s i).slot with
    | some k => s.pocket.slots[k]
    | none => 0
  (pressRecord i v s).map fun s =>
    vacate i { s with pocket := { s.pocket with presses := bump 16 s.pocket.presses } }

/-- A free slot for an item of the unit in service; none with R500's SHORT, or where the Tack denies the press (R537). -/
def takeSlot (keep : List (Fin 20)) (s : State) : State × Option (Fin 16) :=
  let free (s : State) : State × Option (Fin 16) := (s, (freeSlots s).head?)
  match (freeSlots s).head? with
  | some k => (s, some k)
  | none =>
    let any (_ : PkItem) : Bool := true
    let cur (t : PkItem) : Bool := t.current
    match lruItem s 3 keep any with
    | some i =>
      if (item s i).current then free (vacate i s)
      else
        let a := pressAllowed i s
        if !a.2 then (a.1, none)
        else match pressOut i a.1 with
        | some s' => free s'
        | none =>
          let s := wcSaturate a.1
          match lruItem s 3 keep cur <|> lruItem s 2 keep cur with
          | some j => free (vacate j s)
          | none => (s, none)
    | none => match lruItem s 2 keep cur with
      | some j => free (vacate j s)
      | none => (s, none)

/-- POCKET_SHORT for a holder and item (causes: no slot or record, K3 locked, no anchor, Dry; free codes).
(Log entry 135: DESIGN CHOICE, safe.) -/
def pocketShort (i : Fin 20) (cause : Nat) (s : State) : State :=
  let h := BitVec.ofNat 8 (itemHolder i)
  alarmBit 3 true (emit
    { code := 0x0701, src := 0x10 + h, sev := 3, data := [h, BitVec.ofNat 8 i.val, Config.codeByte 0x0701 cause] } s)

/-! ### Authentication as initiator -/

/-- A contract stands unauthenticated, which the policy learns (Table 1.2). -/
def unauthenticated (p : Fin 8) (s : State) : State := { s with policy := s.policy ++ [.contractUnauthenticated p] }

/-- An initiator's Security_Request, whose answer AUTH_WAIT awaits (R301). -/
def authAsk (p : Fin 8) (kind : Fin 3) (offset len : Nat) (s : State) : State :=
  pdSend p (.securityRequest kind offset len []) (modPd p (fun q => { q with authAwait := true }) s)

/-- R297, R510: the leases of port `p`, or POCKET_SHORT and an unauthenticated contract. An earlier authentication's status
and session key stand until the new one ends (R303). (Log entry 202: DEDUCED, unsafe.) -/
def authLease (p : Fin 8) (s : State) : State :=
  let a := anchorItem p
  let short (i : Fin 20) (cause : Nat) (s : State) : State :=
    unauthenticated p (authClear .noSlot p (eraseItem (sessionItem p) (pocketShort i cause s)))
  if s.pocket.k3Locked then short a 1 s
  else if !s.pocket.powered then short a 3 s
  else if !itemHeld s a then short a 2 s
  else
    let keep := (portPd s p).authHeld || decide ((portPd s p).auth = .authenticated)
    let s := if keep then s
      else modItem (sessionItem p) (fun t => { t with state := .empty }) (eraseItem (sessionItem p) s)
    let s := modPd p (fun q => { q with
      auth := .digests, authReason := 0, authChain := [], authCerts := 0, authLeft := 0, authTime := 0, authHeld := keep
      authAwait := true }) s
    amsSend p amsSecurity (.securityRequest 0 0 0 []) s

/-- R296, R271: after each new explicit contract, with AUTH_INIT, toward a partner above Revision 2.0; what an earlier
authentication still has queued is not wanted any more. -/
def authBegin (p : Fin 8) (s : State) : State :=
  if flag (portPd s p).cfg 17 && decide ((portPd s p).rev ≠ 1) then authLease p (unwant p s) else s

/-- R302: the authentication fails, a violation of class 21. -/
def authFail (p : Fin 8) (reason : BitVec 4) (s : State) : State :=
  violate p 21 .sop none (authStop .failed reason p (amsEnd p s))

/-- AUTHSTAT's progress at each answer of the partner (R298, R299). -/
def authResponse (p : Fin 8) (phase : Fin 3) (data : List Byte) (certs largest : Nat) (last : Bool) (s : State) :
    State :=
  let q := portPd s p
  match q.auth, phase with
  | .digests, 0 => authAsk p 1 0 256 (modPd p (fun q => { q with auth := .certificates }) s)
  | .certificates, 1 =>
    let n := q.authCerts + certs
    let s := modPd p (fun q => { q with
      authChain := q.authChain ++ data, authCerts := n, authLeft := n, authAwait := false }) s
    if 4 < n ∨ 1024 < largest then authFail p 2 s
    else if last then
      awlQueue (.authHash p) (some (anchorItem p)) none (modPd p (fun q => { q with auth := .verifying }) s)
    else authAsk p 1 (portPd s p).authChain.length 256 s
  | .challenge, 2 =>
    if q.authAwait then awlQueue (.authResponse p) none none (modPd p (fun q => { q with authAwait := false }) s) else s
  | _, _ => s

/-- The responder's chain: in the chain area, the last 4 KiB of the record area, behind its 2-byte length. -/
def chainBytes (s : State) : List Byte :=
  let a := flashBytes s (recordBase s + 0xF000) 4096
  slice a 2 (min 4094 (numAt a 0 2))

/-- The responder's answer with a part of its chain: at most 256 bytes from an offset, so that
a message stays within Table 10.1's 260. -/
def chainPart (s : State) (offset len : Nat) : PdMsg :=
  let c := chainBytes s
  let d := (c.drop offset).take (min len 256)
  .securityResponse 1 d 0 0 (decide (c.length ≤ offset + d.length))

/-- R296, R299, R300, R482, R510: the answer to a partner's Security_Request. (Log entry 204: DESIGN CHOICE, safe.) -/
def authAnswer (p : Fin 8) (kind : Fin 3) (offset len : Nat) (digest : List Byte) (s : State) : State :=
  if flag (portPd s p).cfg 18 && s.pocket.chainOk && !s.pocket.k3Locked && s.pocket.pufOk
      && decide ((portPd s p).rev ≠ 1) then
    match kind with
    | 0 => pdSend p (.securityResponse 0 (sha256 (chainBytes s)) 0 0 true) s
    | 1 => pdSend p (chainPart s offset len) s
    | 2 =>
      let ahead := s.awl.queue.length + b2n s.awl.head.isSome
      let s := awlQueue (.responder p digest) (some 0) none s
      if 3 < ahead then pdSend p .wait s else s
  else pdSend p .notSupported s

/-! ### Units -/

/-- Why a unit cannot run: no slot or record for it (SHORT, R500), its record or the device's own keys (R481, R499), or the
generator (R505). -/
inductive UnitFault where
  | short
  | record
  | random
  deriving DecidableEq, Repr

/-- A unit that fails (R499, R500, R505). An initiator's contract then stands unauthenticated, with POCKET_SHORT where the
Awl, a slot or the flash is what it lacked (Table 1.2). -/
def unitFail (u : AwlUnit) (f : UnitFault) (s : State) : State :=
  let s := headItem u false { s with awl := { s.awl with
    head := if s.awl.head = some u then none else s.awl.head, fails := bump 12 s.awl.fails } }
  let i := u.needs.getD (u.output.getD 0)
  let s := match f with
    | .short => pocketShort i 0 s
    | .record => s
    | .random => pocketShort i 4 s
  let s := match authPort u.use with
    | some p => if u.wanted then unauthenticated p s else s
    | none => s
  awlNext u.use (holderFail (if f = .short then .noSlot else .failed) u s)

/-- The record of a pressed item and its WRITE_COUNT: the buffer's, or the flash's (R496). -/
def pressedRecord (s : State) (i : Fin 20) : List Byte × Nat :=
  match s.pocket.buffer.find? (fun b => b.item = i) with
  | some b => if itemClass i = 3 then (bufferBytes s i, b.wc)
    else (flashBytes s (recordAddr s (item s i).record) 64, (item s i).wc)
  | none => (flashBytes s (recordAddr s (item s i).record) 64, (item s i).wc)

/-- R537: the Awl's accesses of an unpress. -/
def unpressAllowed (i : Fin 20) (s : State) : State × Bool :=
  let r := tackCheck .awl (if buffered s i then [satAccess false (bufferLine i), satAccess false (bufferLine i + 1)]
    else [flashAccess false (recordAddr s (item s i).record) 64]) s
  (r.1, r.2.isNone)

/-- R499: a record that is refused. -/
def recordBad (i : Fin 20) (s : State) : State :=
  let t := item s i
  let s := modItem i (fun t => { t with state := .lost, slot := none, current := false }) s
  emit (devEv 0x0703 5 (BitVec.ofNat 8 i.val :: le 2 t.record)) s

/-- The item a unit needs stands in a slot: unpressed if it was pressed (R498, R499). None when the unit cannot run, with
the reason. -/
def bringIn (u : AwlUnit) (i : Fin 20) (s : State) : State × Option UnitFault :=
  let t := item s i
  match t.state with
  | .resident =>
    let n := s.pocket.useClock + 1
    (modItem i (fun t => { t with lastUse := n }) { s with pocket := { s.pocket with useClock := n } }, none)
  | .pressed =>
    let a := unpressAllowed i s
    let s := a.1
    if !a.2 || !wrapReady s then (s, some .record)
    else match recordOpen s i (pressedRecord s i).2 (pressedRecord s i).1 with
    | none => (recordBad i s, some .record)
    | some v =>
      let r := takeSlot ([i] ++ u.output.toList) s
      match r.2 with
      | none => (r.1, some .short)
      | some k =>
        let s := placeItem i k v r.1
        (modItem i (fun x => { x with current := t.current })
          { s with pocket := { s.pocket with unpresses := bump 12 s.pocket.unpresses } }, none)
  | _ => (s, some .record)

/-- The head unit's record read is still out (R498). -/
def readPending (s : State) (u : AwlUnit) : Bool :=
  match u.needs with
  | some i => decide ((item s i).state = .pressed) && !buffered s i && !u.readDone
  | none => false

/-- R505: an ECDH with the generator failed. -/
def rngNeeded (u : AwlUse) : Bool :=
  match u with
  | .authEcdh _ => true
  | _ => false

/-- The read of the record that the next unit waits for: it starts now, where the item was pressed after the unit joined the
queue (R498). -/
def readStart (u : AwlUnit) (s : State) : State :=
  match u.needs with
  | some i =>
    let o : FlashOp := .recordRead i
    if s.flash.current = some o ∨ s.flash.suspended = some o ∨ s.flash.waiting.contains o then s else flashQueue o s
  | none => s

/-- A unit's presses, unpresses and operation start (R502, R504). (Log entry 134: DEDUCED, unsafe.) -/
def unitStart (s : State) : State :=
  match s.awl.head, s.awl.queue with
  | none, u :: t =>
    if readPending s u then readStart u s else
    let wait := satTo 16 ((s.time.now - u.arrivedAt) / 10)
    let s := headItem u true { s with awl := { s.awl with
      queue := t, head := some u, maxWait := max s.awl.maxWait wait } }
    if rngNeeded u.use && !s.awl.rngOk then unitFail u .random s else
    let r := match u.needs with
      | some i => if i.val < 2 then (s, if s.pocket.pufOk then none else some UnitFault.record) else bringIn u i s
      | none => (s, none)
    match r.2 with
    | some f => unitFail u f r.1
    | none =>
      match u.output with
      | some o =>
        -- R506: an output item erased meanwhile gets no slot, and one that stands in a slot needs no other
        if (item r.1 o).state = .absent ∨ (item r.1 o).slot.isSome then r.1 else
        let k := takeSlot ([o] ++ u.needs.toList) r.1
        if k.2.isSome then k.1 else unitFail u .short k.1
      | none => r.1
  | _, _ => s

/-- AUTH_OK and the authenticated status. -/
def authOk (p : Fin 8) (s : State) : State :=
  let q := portPd s p
  let s := modPd p (fun q => { q with auth := .authenticated, authFailedAlarm := false, authHeld := false }) (amsEnd p s)
  evp p 0x201A 1 (BitVec.ofNat 8 (satTo 8 q.authCerts) :: le 2 (satTo 16 (q.authTime / 10))) s

/-- The session key of an ECDH goes into its slot; the unit has freed one for it (R502). -/
def placeSession (p : Fin 8) (s : State) : State :=
  let i := sessionItem p
  let v := Config.sharedSecret s.freeCtr
  let s := drawn { s with pocket := { s.pocket with buffer := s.pocket.buffer.filter fun b => b.item ≠ i } }
  match (item s i).slot <|> (freeSlots s).head? with
  | some k => placeItem i k v s
  | none => s

/-- The digest that a hash unit gives over the chain is the one in the port's trust-anchor slot (R302, Table 16.5). -/
def rootOk (s : State) (p : Fin 8) : Bool :=
  match (item s (anchorItem p)).slot with
  | some k => decide (sha256 (portPd s p).authChain = slotBytes s.pocket.slots[k])
  | none => false

/-- What the end of a unit means to its holder; `ok` is whether a signature verifies whose layout the manual leaves to
another one. (Log entry 204: DESIGN CHOICE, safe.) -/
def unitResult (u : AwlUnit) (ok : Bool) (s : State) : State :=
  match u.use with
  | .authHash p =>
    if rootOk s p then awlQueue (.authCert p) none none s else authFail p 3 s
  | .authCert p =>
    if ok then
      let s := modPd p (fun q => { q with authLeft := q.authLeft - 1 }) s
      if (portPd s p).authLeft = 0 then
        authAsk p 2 0 0 (modPd p (fun q => { q with auth := .challenge }) s)
      else awlQueue (.authCert p) none none s
    else authFail p 4 s
  | .authResponse p =>
    if ok then awlQueue (.authEcdh p) none (some (sessionItem p)) s else authFail p 5 s
  | .authEcdh p =>
    if !ok then authFail p 0 s
    else if (item s (sessionItem p)).state = .absent then authStop .noSlot 0 p s
    else authOk p (placeSession p s)
  | .responder p digest =>
    pdSend p (if ok then .securityResponse 2 (ecdsaSign s.pocket.slots[0].toNat digest) 0 0 true else .notSupported) s
  | .pocket _ _ | .signed | .graftVerify => if ok then s else ownerFail u.use s

/-- UNITS and FAILS (AWLCOUNT). (Log entry 134: DEDUCED, unsafe.) -/
def unitServed (ok : Bool) (s : State) : State :=
  let a := { s.awl with units := bump 16 s.awl.units }
  { s with awl := if ok then a else { a with fails := bump 12 a.fails } }

/-- Whether a unit's operation succeeds. -/
def unitOk (s : State) (u : AwlUnit) (ok : Bool) : Bool :=
  match u.use with
  | .authHash p => rootOk s p
  | _ => ok

/-- The operation in service completes; what a unit of the Pocket, the host port or Graft then does is HostCmd.lean's.
(Log entries 11: DEDUCED, unsafe; 109: DESIGN CHOICE, safe.) -/
def unitDone (ok : Bool) (us : Nat) (s : State) : State :=
  match s.awl.head with
  | none => s
  | some u =>
    let ok := unitOk s u ok
    let s := headItem u false (unitServed ok { s with awl := { s.awl with head := none } })
    let s := if ok then alarmBit 3 false s else s
    let s := match authPort u.use with
      | some p => modPd p (fun q => { q with authTime := q.authTime + us }) s
      | none => s
    awlNext u.use (if u.wanted then unitResult u ok s else s)

/-- R505. -/
def rngFail (test : Byte) (s : State) : State :=
  emit (devEv 0x0801 6 [test]) { s with awl := { s.awl with rngOk := false } }

/-! ### Record transfers -/

/-- The flash read of a record is complete. -/
def recordReadDone (s : State) : State :=
  match s.flash.current with
  | some (.recordRead i) =>
    let f (u : AwlUnit) : AwlUnit := if u.needs = some i then { u with readDone := true } else u
    flashNext { s with awl := { s.awl with queue := s.awl.queue.map f } }
  | _ => s

/-- The unit in service has a slot still to write. -/
def slotOwed (s : State) : Bool :=
  match s.awl.head.bind AwlUnit.output with
  | some o => decide ((item s o).state ≠ .absent) && (item s o).slot.isNone
  | none => false

/-- R487: a kept item whose record has been written takes its new content, in its slot or in a free one that the unit in
service does not need. -/
def provisioned (i : Fin 20) (v : BitVec 256) (s : State) : State :=
  match (item s i).slot with
  | some k => placeItem i k v s
  | none => match ((freeSlots s).drop (b2n (slotOwed s))).head? with
    | some k => placeItem i k v s
    | none => modItem i (fun t => { t with state := .pressed }) s

/-- A record that is in the buffer no longer, as after a zeroize or a poisoned line (R491, R531): a KEY_PROVISION that waits
for it fails. (Log entry 212: DEDUCED, unsafe.) -/
def recordGone (i : Fin 20) (s : State) : State := if 2 ≤ i.val ∧ i.val < 10 then jobFail 3 s else s

/-- A pressed record's program verifies (R496). The transfer keeps the log blank ahead of the write position (R493).
(Log entry 19: DEDUCED, unsafe.) -/
def recordWriteDone (s : State) : State :=
  match s.flash.current with
  | some (.recordWrite i) =>
    match s.pocket.buffer.find? (fun b => b.item = i) with
    | none => flashNext (recordGone i s)
    | some b =>
      let bs := bufferBytes s i
      let s := if b.index % 64 = 0 then sectorClear (b.index / 64) s else s
      let s := sectorClear ((b.index / 64 + 1) % 15) (flashProgram (recordAddr s b.index) bs s)
      let s := if itemClass i = 2 then
          match recordOpen s i b.wc bs with
          | some v => provisioned i v s
          | none => s
        else s
      let s := modItem i (fun t => { t with current := true, record := b.index, wc := b.wc }) s
      let s := { s with pocket := { s.pocket with buffer := s.pocket.buffer.filter fun c => c.item ≠ i } }
      let s := if i = graftDigestItem then { s with graft := { s.graft with digestInPocket := true } } else s
      let s := if 2 ≤ i.val ∧ i.val < 10 then
          jobOk (emit { code := 0x0705, sev := 3, data := [BitVec.ofNat 8 i.val] } s) else s
      flashNext s
  | _ => s

/-- R497: the flash write of a record fails. -/
def recordWriteFail (s : State) : State :=
  match s.flash.current with
  | some (.recordWrite i) =>
    let s := match s.pocket.buffer.find? (fun b => b.item = i) with
      | none => recordGone i s
      | some b =>
        let s := flashFailed 1 (recordAddr s b.index) s
        let s := { s with pocket := { s.pocket with buffer := s.pocket.buffer.filter fun c => c.item ≠ i } }
        if itemClass i = 3 then
          if (item s i).state = .pressed then
            emit (devEv 0x0704 4 [BitVec.ofNat 8 i.val]) (modItem i (fun t => { t with state := .lost, current := false }) s)
          else s
        else if 2 ≤ i.val ∧ i.val < 10 then jobFail 3 s else s
    flashNext s
  | _ => s

/-- The flash read of a record fails: the units that wait for it fail for want of their record, with POCKET_SHORT
(Table 1.2). (Log entry 162: DEDUCED, unsafe.) -/
def recordReadFail (s : State) : State :=
  match s.flash.current with
  | some (.recordRead i) =>
    let s := flashFailed 0 (recordAddr s (item s i).record) s
    let bad := s.awl.queue.filter fun u => u.needs = some i
    let s := { s with awl := { s.awl with queue := s.awl.queue.filter fun u => u.needs ≠ some i } }
    flashNext (bad.foldl (fun s u => unitFail u .short s) s)
  | _ => s

/-! ### Registers -/

def awlOp : AwlUse → Nat
  | .authHash _ => 1
  | .authCert _ => 3
  | .authResponse _ => 3
  | .authEcdh _ => 5
  | .responder _ _ => 4
  | .pocket _ _ => 2
  | .signed => 3
  | .graftVerify => 3

/-- HEAD_HOLDER's code: the Pocket as the device, P0 to P7, Graft, the host port (SUMMARY LEASES and AWLSTAT). -/
def awlHolder (u : AwlUse) : Nat :=
  match usePort u, u with
  | some p, _ => p.val + 1
  | none, .pocket _ _ => 0
  | none, .graftVerify => 9
  | none, _ => 0xB

def awlStatWord (s : State) : Word :=
  match s.awl.head with
  | some u => mkWord [(28, awlHolder u.use), (24, awlOp u.use), (20, satTo 4 s.awl.queue.length),
      (19, b2n s.awl.rngOk)]
  | none => mkWord [(28, 0xF), (20, satTo 4 s.awl.queue.length), (19, b2n s.awl.rngOk)]

def awlCountWord (s : State) : Word :=
  mkWord [(16, s.awl.units.n), (4, s.awl.fails.n), (1, b2n s.awl.fails.sat), (0, b2n s.awl.units.sat)]

/-- A write of 1 to WC_SAT performs a zeroize, which alone clears it (R495). (Log entry 94: DEDUCED, unsafe.) -/
def wcSatWrite (s : State) : State :=
  zeroize 1 { s with pocket := { s.pocket with wcSat := false, writeCount := 0 } }

/-! ### The family's meanings -/

/-- AWL_UNIT_START. -/
def execAwlUnitStart (s : State) : Host.Outcome State Fault Refusal := complete s (unitStart s)

/-- RECORD_READ_DONE. -/
def execRecordReadDone (s : State) : Host.Outcome State Fault Refusal := complete s (recordReadDone s)

/-- RECORD_WRITE_DONE. -/
def execRecordWriteDone (s : State) : Host.Outcome State Fault Refusal := complete s (recordWriteDone s)

/-- WC_SAT_ZEROIZE: a write of 1 to PKSTAT.WC_SAT, under the Tack. -/
def execWcSatZeroize (who : Requester) (s : State) : Host.Outcome State Fault Refusal :=
  complete s (guarded who (regAccess true 0x1C00) wcSatWrite s)

/-- AWL_RNG_FAIL. -/
def execAwlRngFail (test : Byte) (s : State) : Host.Outcome State Fault Refusal := complete s (rngFail test s)

end Sys2Proof.Machine
end

