-- ==== Sys2Proof/Machine/HwEngine.lean ====
section
/-! DEFINITION. The Heartwood programming engine (R97 to R104, R110 to R119) and the shadow store (R105 to R109). -/

namespace Sys2Proof.Machine

/-- Cells only go from 0 to 1 (chapter 04): what a pulse leaves in its cell. On a thermometer row a cell that only the
normal margin reads as 1 counts as failed, so that the count stays as it was (R118). Of a
parity or CLOSED cell that fails, the normal margin reads 0. (Log entry 13: DEDUCED, unsafe.) -/
def pulseCell (r : HwRow) (thermo : Bool) (bit : Nat) (o : CellOutcome) : HwRow :=
  let m : BitVec 64 := 1 <<< bit
  if bit < 64 then
    match o with
    | .pass => { r with data := r.data ||| m, weak := r.weak &&& ~~~m }
    | .weak => if thermo || r.data.getLsbD bit then r else { r with data := r.data ||| m, weak := r.weak ||| m }
    | .blank => r
  else if bit < 72 then (if o = .pass then { r with parity := r.parity ||| (1 <<< (bit - 64)) } else r)
  else (if o = .pass then { r with closed := true } else r)

/-- The cell reads 1 at the tightened margin. -/
def cellReads (r : HwRow) (bit : Nat) : Bool :=
  if bit < 64 then r.data.getLsbD bit && !r.weak.getLsbD bit
  else if bit < 72 then r.parity.getLsbD (bit - 64) else r.closed

/-- The cells of a row that a 64-bit value names, lowest first. -/
def dataCells (row : Nat) (v : BitVec 64) : List HwCell :=
  ((List.range 64).filter fun i => v.getLsbD i).map fun i => { row, bit := i }

/-- Parity and then CLOSED of a row (R101). -/
def closeCells (row : Nat) (r : HwRow) : List HwCell :=
  let p := parityOf (r.data &&& ~~~r.weak)
  ((List.range 8).filter fun i => p.getLsbD i).map (fun i => { row, bit := 64 + i }) ++ [{ row, bit := 72 }]

/-- R95: the cells of redirection entry `k` for a main row, in all three copies. -/
def redirCells (k row : Nat) : List HwCell :=
  let v : BitVec 64 := BitVec.ofNat 64 ((row * 256 + 0x80) <<< (16 * (k % 4)))
  (List.range 3).flatMap fun c => dataCells (0x111 + 4 * c + k / 4) v

/-- R110: the regions a lock command leaves write-locked. -/
def lockMask (cells : List (Nat × HwRow)) (w : Byte) : Byte := BitVec.ofNat 8 (wlockByte cells) ||| w

/-- R110, R113: whether a lock command needs a new ledger entry, and the next free one. -/
def needsLedger (cells : List (Nat × HwRow)) (w : Byte) : Bool :=
  decide (w ≠ 0) && decide (lockMask cells w ≠ ledgerMask cells)

def nextLedger (cells : List (Nat × HwRow)) : Option Nat :=
  ((List.range 8).map (· + 0x11D)).find? fun r => decide (hwRow cells r = {})

/-- The three cells of each lock flag that is not yet burned. -/
def flagCells (cells : List (Nat × HwRow)) (base : Nat) (m : Byte) : List HwCell :=
  ((List.range 8).filter fun k => m.getLsbD k && !flag3 (hwRow cells lockRow).data (base + 3 * k)).flatMap fun k =>
    [{ row := lockRow, bit := base + 3 * k }, { row := lockRow, bit := base + 3 * k + 1 },
     { row := lockRow, bit := base + 3 * k + 2 }]

/-- R98, R113, R114, R117: why a burn is refused without a pulse, as RESULT. Temperatures in °C, VPP in mV.
Where several cases of R98 hold, the first in its order shows. (Log entry 87: DEDUCED, unsafe.) -/
def burnRefusal (s : State) (b : BurnJob) (tempC : Int) (vppMv : Nat) : Option Nat :=
  let c := s.heart.cells
  let hot := decide (tempC < -40) || decide (125 < tempC)
  match b.kind with
  | .row row vpp _ _ mask =>
    let r := row.toNat
    if wlocked c (regionOf r) then some 3
    else if (servedRow c r).closed && plainRow r then some 4
    else if r = 0x00 || thermoRow r then some 8
    else if r = 0xC0 ∧ mask &&& ~~~0x38 ≠ 0 then some 0x0A
    else if hot then some 7
    else if vpp ∧ (vppMv < 6300 ∨ 6700 < vppMv) then some 5
    else none
  | .lock w _ =>
    if needsLedger c w && (nextLedger c).isNone then some 9 else if hot then some 7 else none
  | .evalLock =>
    if wlocked c 0 && wlocked c 1 && wlocked c 6 && !allZero (ownerKeyDigest s 0) then
      (if hot then some 7 else none)
    else some 0x0A
  | .arb _ => if hot then some 0x0B else none

/-- HWBURNRES's ROW for a burn that ends. (Log entry 85: DEDUCED, unsafe.) -/
def burnRow (b : BurnJob) : Nat :=
  match b.kind with
  | .row row _ _ _ _ => row.toNat
  | .lock _ _ => 0
  | .evalLock => 0xC0
  | .arb _ => 0xE0

/-- (Log entry 85: DEDUCED, unsafe.) -/
def burnResWord (result row bit : Nat) : Word := mkWord [(16, result), (8, row), (0, bit % 64)]

/-- R598: the advance ended with ARB_BURN_FAIL; the confirmation stands. -/
def arbFailed (v : Nat) (s : State) : State :=
  emit (devEv 0x120A 5 [BitVec.ofNat 8 v]) s

/-- A burn ends: HWBURNRES, its event and the waiting host job (Table 4.5, Table 6.6).
(Log entries 85: DEDUCED, unsafe; 86: DEDUCED, unsafe.) -/
def burnEnd (b : BurnJob) (result row bit : Nat) (s : State) : State :=
  let w := burnResWord result row bit
  let ok := decide (result ≤ 1)
  let s := { s with heart := { s.heart with burnRes := w, running := none } }
  let s := emit (if ok then devEv 0x0602 1 [] else devEv 0x0603 4 []) s
  let s := match b.kind with
    | .arb v => if ok then { s with graft := { s.graft with arbWanted := none } } else arbFailed v s
    | .evalLock => if ok then
        -- R109, R115: every shadow is discarded at once
        emit (devEv 0x060A 5 []) { s with heart := { s.heart with shadows := [], shFull := false } } else s
    | _ => s
  if b.host then (if ok then jobOk s else jobFail w.toNat s) else s

/-- The cells a burn pulses, at its start. A lock command with a write set burns the missing write-lock fuse of every
MASK region (R110; the reissue of the chapter's collision). (Log entry 167: DEDUCED, unsafe.) -/
def burnCells (s : State) (b : BurnJob) : Nat × List HwCell :=
  let c := s.heart.cells
  match b.kind with
  | .row row _ _ _ mask => let t := physRow c row.toNat; (t, dataCells t mask)
  | .lock w r =>
    let m := lockMask c w
    let ledger := if needsLedger c w then
        match nextLedger c with
        | some row =>
          let v : BitVec 64 := BitVec.ofNat 64 (m.toNat * 2 ^ 56 + ledgerDigest c m)
          dataCells row v ++ closeCells row { data := v }
        | none => []
      else []
    (lockRow, ledger ++ flagCells c 0 (if w = 0 then 0 else m) ++ flagCells c 24 r)
  | .evalLock => let t := physRow c 0xC0; (t, dataCells t 7)
  | .arb v => (0xE0, [{ row := 0xE0, bit := v - 1 }, { row := 0xE1, bit := v - 1 }])

/-- The main row a burn writes, for the repair of R102: the burn command's row, or G0. -/
def repairRow (b : BurnJob) : Option Nat :=
  match b.kind with
  | .row row _ _ _ _ => some row.toNat
  | .evalLock => some 0xC0
  | _ => none

/-- What follows when a burn has no more cells to pulse: its redirection entries, parity and CLOSED, or the end. An evaluation
lock that reads 0 after its retries ends as REFUSED_EVAL.
(Log entries 88: DEDUCED, unsafe; 168: DESIGN CHOICE, unsafe; 169: DEDUCED, unsafe.) -/
def burnAdvance (r : RunBurn) (s : State) : State :=
  match r.todo with
  | _ :: _ => { s with heart := { s.heart with running := some r } }
  | [] =>
    match r.owed, repairRow r.job with
    | _ :: _, some row =>
      { s with heart := { s.heart with running := some { r with todo := r.owed.flatMap fun k => redirCells k row, owed := [] } } }
    | _, _ =>
    match r.job.kind with
    | .row row _ _ close _ =>
      if close && !r.closing && plainRow row.toNat then
        { s with heart := { s.heart with running := some { r with
            todo := closeCells r.target (hwRow s.heart.cells r.target), closing := true } } }
      else burnEnd r.job (b2n r.repaired) row.toNat 0 s
    | .lock _ _ => burnEnd r.job 0 0 0 s
    | .evalLock => burnEnd r.job (if evalFuse s then b2n r.repaired else 0x0A) 0xC0 0 s
    | .arb v =>
      -- R118
      if r.fail0 && r.fail1 then burnEnd r.job 0x0B 0xE0 (v - 1) s
      else if r.fail0 then burnEnd r.job 0 0xE0 (v - 1) (emit (devEv 0x0608 4 []) s)
      else if r.fail1 then burnEnd r.job 0 0xE1 (v - 1) (emit (devEv 0x0608 4 []) s)
      else burnEnd r.job 0 0xE1 0 s

/-- R102, R103: a cell of a main or spare row has failed its fourth read-back. A spare that fails before its entry is
burned has it burned with the next spare's, which prevails (R94).
(Log entries 12: DEDUCED, unsafe; 88: DEDUCED, unsafe; 169: DEDUCED, unsafe.) -/
def burnRepair (r : RunBurn) (row bit : Nat) (s : State) : State :=
  match (List.range 16).find? fun k => !spareUsed s.heart.cells k && !r.tried.contains k with
  | none => burnEnd r.job 2 row bit (emit (devEv 0x0605 5 []) s)
  | some k =>
    let old := hwRow s.heart.cells r.target
    let rest := (r.todo.filter fun c => c.row = r.target && c.bit < 64).foldl
      (fun (v : BitVec 64) c => v ||| (1 <<< c.bit)) 0
    let r := { r with todo := dataCells (0x100 + k) (old.data ||| rest), fails := 0, target := 0x100 + k,
                      repaired := true, tried := k :: r.tried, owed := r.owed ++ [k], closing := false }
    let s := emit (devEv 0x0604 3 []) s
    burnAdvance r { s with heart := { s.heart with sparesUsed := s.heart.sparesUsed + 1 } }

/-- R109, R115: from the moment EVAL_LOCK reads 1 no shadow stands. -/
def evalDiscard (b : BurnJob) (s : State) : State :=
  match b.kind with
  | .evalLock =>
    if evalFuse s then { s with heart := { s.heart with shadows := [], shFull := false } } else s
  | _ => s

/-- R100: a pulse on the first cell has ended. On a VPP abort, BIT names the cell by its index modulo 64, so a parity or
CLOSED cell by its place past 63. (Log entries 88: DEDUCED, unsafe; 170: DESIGN CHOICE, unsafe.) -/
def cellPulse (o : CellOutcome) (vppMv : Nat) (s : State) : State :=
  match s.heart.running with
  | none => s
  | some r =>
    match r.todo with
    | [] => burnAdvance r s
    | c :: t =>
      let vppBad := match r.job.kind with
        | .row _ true _ _ _ => decide (vppMv < 6300) || decide (6700 < vppMv)
        | _ => false
      if vppBad then burnEnd r.job 6 (burnRow r.job) (c.bit % 64) s
      else
        let thermo := decide (c.row = 0xE0) || decide (c.row = 0xE1)
        let row := pulseCell (hwRow s.heart.cells c.row) thermo c.bit o
        let s := evalDiscard r.job { s with heart := { s.heart with cells := mput {} s.heart.cells c.row row } }
        if cellReads row c.bit then burnAdvance { r with todo := t, fails := 0 } s
        else if r.fails < 3 then { s with heart := { s.heart with running := some { r with fails := r.fails + 1 } } }
        else match r.job.kind with
          | .arb _ =>
            burnAdvance { r with todo := t, fails := 0, fail0 := r.fail0 || c.row = 0xE0,
                                 fail1 := r.fail1 || c.row = 0xE1 } s
          | _ =>
            match repairRow r.job with
            | some mainRow =>
              if c.row = r.target then burnRepair r mainRow (c.bit % 64) s
              else burnAdvance { r with todo := t, fails := 0 } s
            | none => burnAdvance { r with todo := t, fails := 0 } s

def isArb (b : BurnJob) : Bool :=
  match b.kind with
  | .arb _ => true
  | _ => false

/-- A refused burn: HWBURNRES and its completion. (Log entry 86: DEDUCED, unsafe.) -/
def burnRefused (b : BurnJob) (code : Nat) (s : State) : State :=
  let bit := match b.kind with
    | .arb v => v - 1
    | _ => 0
  burnEnd b code (burnRow b) bit s

/-- R97: the engine becomes free and starts the next waiting burn. (Log entry 84: DEDUCED, unsafe.) -/
def burnStart (tempC : Int) (vppMv : Nat) (s : State) : State :=
  match s.heart.running, s.heart.waiting with
  | none, b :: t =>
    let s := { s with heart := { s.heart with waiting := t } }
    match burnRefusal s b tempC vppMv with
    | some code => burnRefused b code s
    | none =>
      let tc := burnCells s b
      burnAdvance { job := b, todo := tc.2, target := tc.1 } s
  | _, _ => s

/-- A burn arrives at the engine (R97). -/
def burnQueue (b : BurnJob) (s : State) : State :=
  { s with heart := { s.heart with waiting := s.heart.waiting ++ [b] } }

/-- R117, R119: Graft asks for the anti-rollback count `v`; at a full count every request is refused with HW_ARB_FULL.
(Log entry 165: DEDUCED, unsafe.) -/
def arbRequest (v : Nat) (s : State) : State :=
  if arbCount s = 64 ∨ 64 < v then emit (devEv 0x0609 5 []) { s with graft := { s.graft with arbWanted := none } }
  else if v ≤ arbCount s then { s with graft := { s.graft with arbWanted := none } }
  else if (s.heart.waiting.any isArb) || (s.heart.running.any fun r => isArb r.job) then s
  else burnQueue { kind := .arb v, host := false } s

/-! ### Shadows -/

/-- R106, R109: a shadow for HWSHSEL.ROW. -/
def shadowApply (s : State) : State :=
  let row := s.heart.shSel.toNat
  let v := BitVec.ofNat 64 (s.heart.shLo.toNat + s.heart.shHi.toNat * 2 ^ 32)
  let rest := s.heart.shadows.filter (·.1 ≠ row)
  if row < 0x40 ∨ 0xBF < row then s
  else if shadowsOff s then s
  else if rest.length = s.heart.shadows.length ∧ 16 ≤ rest.length then { s with heart := { s.heart with shFull := true } }
  else { s with heart := { s.heart with shadows := rest ++ [(row, v)], shFull := false } }

/-- R106: the shadow of HWSHSEL.ROW removed, if it has one. -/
def shadowRemove (s : State) : State :=
  let row := s.heart.shSel.toNat
  let rest := s.heart.shadows.filter (·.1 ≠ row)
  if rest.length = s.heart.shadows.length then s
  else { s with heart := { s.heart with shadows := rest, shFull := false } }

/-- R108: shadows discarded. -/
def shadowsDiscard (s : State) : State := { s with heart := { s.heart with shadows := [], shFull := false } }

/-- A write to HWSHSEL: ROW, then REMOVE before APPLY (R106). -/
def hwShSelWrite (v : Word) (s : State) : State :=
  let s := { s with heart := { s.heart with shSel := v.extractLsb' 0 8 } }
  if flag v 30 then shadowRemove s else if flag v 31 then shadowApply s else s

/-- HEART+0x000 (Table under R119). (Log entry 61: DEDUCED, unsafe.) -/
def hwStat (s : State) : Word :=
  mkWord [(23, s.heart.failRow), (19, s.heart.failKind), (8, satTo 8 s.heart.openRows), (3, satTo 5 s.heart.sparesUsed),
    (2, b2n s.heart.voteFixed), (1, b2n s.heart.pendingLock), (0, b2n s.heart.integrityOk)]

/-- (Log entry 160: DESIGN CHOICE, safe.) -/
def hwLockWord (s : State) : Word :=
  mkWord [(25, b2n (evalFuse s)), (24, b2n (debugCloseFuse s || evalFuse s)), (16, (ledgerMask s.heart.cells).toNat),
    (8, rlockByte s.heart.cells), (0, wlockByte s.heart.cells)]

def hwArbWord (s : State) : Word := mkWord [(7, b2n (arbCount s = 64)), (0, arbCount s)]

def hwRdSelWord (s : State) : Word :=
  let row := s.heart.rdSel.toNat
  let r := servedRow s.heart.cells row
  mkWord [(31, b2n r.closed), (30, b2n (plainRow row && isOpenRow r)), (29, b2n (spareOf s.heart.cells row).isSome),
    (28, b2n (rlockFuse s.heart.cells (regionOf row))), (27, b2n (s.heart.shadows.any (·.1 = row))), (0, row)]

/-- The selected row's fused value, R112. -/
def hwRdData (s : State) : Nat :=
  let row := s.heart.rdSel.toNat
  if rlockFuse s.heart.cells (regionOf row) then 0 else (servedRow s.heart.cells row).data.toNat

def hwShSelWord (s : State) : Word :=
  mkWord [(29, b2n s.heart.shFull), (24, satTo 5 s.heart.shadows.length), (0, s.heart.shSel.toNat)]

/-! ### The family's meanings -/

/-- HW_BURN_START. -/
def execHwBurnStart (tempC : Int) (vppMv : Nat) (s : State) : Host.Outcome State Fault Refusal :=
  complete s (if isReady s then burnStart tempC vppMv s else s)

/-- HW_CELL_PULSE. (Log entry 2: DEDUCED, unsafe.) -/
def execHwCellPulse (o : CellOutcome) (vppMv : Nat) (s : State) : Host.Outcome State Fault Refusal :=
  complete s (cellPulse o vppMv s)

end Sys2Proof.Machine
end

