-- ==== Sys2Proof/Machine/Pd.lean ====
section
/-! DEFINITION. The PD engines (chapter 10): judging requests, contracts, swaps, FRS and backfeed, received messages and the
timers of Table 10.9. -/

namespace Sys2Proof.Machine

/-! ### Judging a request (Table 10.4); object layouts as USB PD gives them (log entry 7) -/

/-- The voltage in mV and the current in mA that an RDO asks of a PDO. (Log entry 7: PRESUMED, unsafe.) -/
def reqMv (pdo rdo : Word) : Nat :=
  if pdoFixed pdo then pdoMv pdo else if pdoPps pdo then 20 * field rdo 20 9 else 25 * field rdo 20 9

/-- (Log entry 7: PRESUMED, unsafe.) -/
def reqMa (pdo rdo : Word) : Nat := if pdoFixed pdo then 10 * field rdo 19 10 else 50 * field rdo 6 0

/-- The first check that fails, as its class. (Log entry 7: PRESUMED, unsafe.) -/
def judge (q : PdPort) (epr : Bool) (rdo : Word) : Option (Fin 24) :=
  let pos := field rdo 31 28
  match pos with
  | 0 => some 4
  | n + 1 => match q.caps[n]? with
    | none => some 4
    | some pdo =>
      let mv := reqMv pdo rdo
      let ma := reqMa pdo rdo
      if pdoEpr pdo && !(q.eprMode && epr) then some 7
      else if pdoFixed pdo && decide (10 * field pdo 9 0 < ma) then some 3
      else if pdoPps pdo && (decide (mv < 100 * field pdo 15 8) || decide (100 * field pdo 24 17 < mv)
          || decide (50 * field pdo 6 0 < ma)) then some 5
      else if pdoAvs pdo && (decide (mv < 15000) || decide (48000 < mv) || decide (mv % 100 ≠ 0)
          || decide (1000000 * field pdo 7 0 < mv * ma)) then some 5
      else if decide (field q.cfg 31 24 ≠ 0) && decide (1000000 * field q.cfg 31 24 < mv * ma) then some 3
      else none

/-- The PDO an accepted RDO names. -/
def reqPdo (q : PdPort) (rdo : Word) : Word := q.caps.getD (field rdo 31 28 - 1) 0

/-! ### Contracts -/

/-- An explicit contract stands: CONTRACT, its Rp, and authentication (R279, R291, R296), unless a Soft_Reset has abandoned
one that is not to start again (R304). (Log entries 102: DEDUCED, unsafe; 108: DEDUCED, unsafe.) -/
def contractMade (p : Fin 8) (s : State) : State :=
  let s := modPd p (fun q => { q with
    explicit := true, pdo := q.pendPdo, rdo := q.pendRdo, step := .ready, waits := 0, hardResetTries := 0 }) s
  let q := portPd s p
  let s := modPd p (fun q => { q with authHalt := false }) (amsEnd p s)
  let s := evp p 0x2010 1 (le 4 q.rdo.toNat) s
  if q.source && flag q.cfg 16 && !q.frsArmed && decide (q.rev ≠ 1) then
    amsSend p amsSinkCap .getSinkCap (modPd p (fun q' => { q' with authDue := !q.authHalt }) s)
  else if q.authHalt then s
  else authBegin p s

/-- The AMS that runs is over, and an authentication that waited for it begins (R296). -/
def amsOver (p : Fin 8) (s : State) : State :=
  let due := (portPd s p).authDue
  let s := amsEnd p (modPd p (fun q => { q with authDue := false }) s)
  if due then authBegin p s else s

/-- Metrology, or COMPLIANCE, confirms the level that a transition waits for (R283, R284).
(Log entry 102: DEDUCED, unsafe.) -/
def levelConfirmed (p : Fin 8) (s : State) : State :=
  if (portPd s p).step = .srcSettling then contractMade p (pdSend p .psRdy s) else s

/-- tSrcTransition has elapsed: the loop moves toward the pending voltage (R283). A level at which metrology already
confirms the voltage, and a port in COMPLIANCE (R284), need no further wait. (Log entry 124: DEDUCED, unsafe.) -/
def moveLevel (p : Fin 8) (s : State) : State :=
  let q := portPd s p
  let mv := reqMv q.pendPdo q.pendRdo
  let same := decide ((portCinch s p).contractMv = mv) && (portMetro s p).confirmed
  let s := setStep p .srcSettling (setTarget p mv s)
  if same || (portCinch s p).compliance then levelConfirmed p s else s

/-- A PDO is one of the Pattern's with at most its current. (Log entry 7: PRESUMED, unsafe.) -/
def pdoWithin (w v : Word) : Bool :=
  let m : Word := if pdoFixed w then 0x3FF else if pdoPps w then 0x7F else 0xFF
  decide (w &&& ~~~m = v &&& ~~~m) && decide ((w &&& m).toNat ≤ (v &&& m).toNat)

/-- A lower PDO list of the Pattern's policy (R281, R353): its PDOs are the Pattern's with at most their current, and PDO 1 is
the Pattern's where it names no other fixed 5 V one (R277). -/
def lowerList (s : State) (p : Fin 8) (l : List Word) : List Word :=
  let own := (portPd s p).pdoList
  let l := l.filter fun w => own.any (pdoWithin w)
  if l.any pdoFive then l else (own.find? pdoFive).toList ++ l

/-- A negotiation that an own offer began under a contract is over: its AMS ends, and the contract stands on (R279). -/
def negotiationOver (p : Fin 8) (s : State) : State :=
  let q := portPd s p
  if q.ams = amsNegotiation ∧ q.step = .srcCaps then amsEnd p (if q.explicit then setStep p .ready s else s) else s

/-- R281's Wait, and the reduced offer after nBusyCount of them. (Log entry 106: DEDUCED, unsafe.) -/
def answerWait (p : Fin 8) (pol : PdPolicy) (s : State) : State :=
  let s := negotiationOver p s
  if (portPd s p).waits < 5 then pdSend p .wait (modPd p (fun q => { q with waits := q.waits + 1 }) s)
  else
    sendOffer p true (offerFrom s p (lowerList s p pol.reducedOffer)) (modPd p (fun q => { q with waits := 0 }) s)

/-- A Request or EPR_Request at a source (R280 to R282, R394). -/
def onRequest (p : Fin 8) (m : PdMsg) (epr : Bool) (rdo : Word) (pol : PdPolicy) (s : State) : State :=
  let q := portPd s p
  if !q.source || q.caps.isEmpty || !(decide (q.step = .srcCaps) || decide (q.step = .ready)) then
    unexpected p .sop m s
  else
    let s := modPd p (fun q => { q with rev := if pol.rev2 then 1 else 2 }) s
    match judge q epr rdo with
    | some k => negotiationOver p (violate p k .sop (some m) s)
    | none =>
      -- R282
      let s := if flag rdo 26 then { s with policy := s.policy ++ [.capMismatch p] } else s
      let pdo := reqPdo q rdo
      let frozen := (portMetro s p).fault && decide (reqMv pdo rdo ≠ (portCinch s p).contractMv)
      if pol.holdBudget || frozen then answerWait p pol s
      else
        let s := modPd p (fun q => { q with
          pendPdo := pdo, pendRdo := rdo, waits := 0, step := .srcTransition, ams := amsNegotiation }) s
        pdSend p .accept s

/-! ### As sink -/

/-- A Request for a PDO of the partner's: position from 1, operating current in 10 mA units.
(Log entry 7: PRESUMED, unsafe.) -/
def sinkRdo (pdos : List Word) (pos op : Nat) : Word :=
  let pdo := pdos.getD (pos - 1) 0
  if pdoPps pdo then mkWord [(28, pos % 16), (9, field pdo 24 17 * 5), (0, min (op / 5) (field pdo 6 0))]
  else mkWord [(28, pos % 16), (10, min op (field pdo 9 0)), (0, min op (field pdo 9 0))]

/-- What a sink may request (Table 10.1): a fixed SPR PDO or a PPS one. (Log entry 7: PRESUMED, unsafe.) -/
def pdoSink (w : Word) : Bool := (pdoFixed w && decide (pdoMv w ≤ 20000)) || pdoPps w

def capsValid (pdos : List Word) : Bool :=
  match pdos with
  | [] => false
  | w :: _ => pdoFixed w && decide (pdoMv w = 5000) && decide (pdos.length ≤ 7)

def onSourceCaps (p : Fin 8) (m : PdMsg) (pdos : List Word) (pol : PdPolicy) (s : State) : State :=
  let q := portPd s p
  if q.source then unexpected p .sop m s
  else if !capsValid pdos then violate p 22 .sop (some m) s
  else
    let pick := match pol.sinkPick with
      | some (k, op) => if 1 ≤ k ∧ k ≤ pdos.length ∧ pdoSink (pdos.getD (k - 1) 0) then (k, op)
        else (1, field (pdos.getD 0 0) 9 0)
      | none => (1, field (pdos.getD 0 0) 9 0)
    let rdo := sinkRdo pdos pick.1 pick.2
    let s := modPd p (fun q => { q with
      partnerCaps := pdos, pendPdo := pdos.getD (pick.1 - 1) 0, pendRdo := rdo, step := .snkRequested
      ams := amsNegotiation, rev := if pol.rev2 then 1 else 2 }) s
    pdSend p (.request rdo) s

/-! ### Swaps -/

/-- R286: a two-bit ACCEPT field: whether to accept, or the message that turns the swap down. -/
def swapAnswer (code : Nat) (pol : PdPolicy) : Option PdMsg :=
  match code with
  | 0 => some .reject
  | 1 => none
  | 2 => if pol.acceptSwap then none else some .reject
  | _ => some .wait

def swapByte (kind : Nat) : Byte := Config.codeByte 0x2014 kind

/-- ROLE_SWAP: the swap's type (0 PR, 1 DR, 2 VCONN, 3 FR; free codes) and the new ROLES.
(Log entry 16: DESIGN CHOICE, safe.) -/
def roleSwapEvent (p : Fin 8) (kind : Nat) (s : State) : State :=
  evp p 0x2014 1 [swapByte kind, rolesOf s.ports[p]] s

/-- R286, R287; a backfeed port returns to source only by its own request (R295). -/
def onPrSwap (p : Fin 8) (m : PdMsg) (pol : PdPolicy) (s : State) : State :=
  let q := portPd s p
  if q.step ≠ .ready then unexpected p .sop m s
  else if (portCinch s p).backfeed then pdSend p .reject s
  else match swapAnswer (field q.cfg 9 8) pol with
    | some a => pdSend p a s
    | none => pdSend p .accept (modPd p (fun q => { q with
        ams := amsPrSwap, step := if q.source then .prsSrcAccepted else .prsSnkWait }) s)

/-- The data role changes; before it goes to UFP the Hush mode is left and its request ends (R289). -/
def hushLeave (p : Fin 8) (s : State) : State :=
  let q := portPd s p
  let s := if q.dfp && q.hushMode then
      pdSend p (.exitMode s.pattern.hushSvid) (modPd p (fun q => { q with hushMode := false, vdmOut := true }) s) else s
  if q.dfp then hushEnd p s else s

def drSwapped (p : Fin 8) (s : State) : State := roleSwapEvent p 1 (modPd p (fun q => { q with dfp := !q.dfp }) s)

/-- R289. -/
def onDrSwap (p : Fin 8) (m : PdMsg) (pol : PdPolicy) (s : State) : State :=
  let q := portPd s p
  if q.step ≠ .ready then unexpected p .sop m s
  else match swapAnswer (field q.cfg 11 10) pol with
    | some a => pdSend p a s
    | none => drSwapped p (pdSend p .accept (hushLeave p s))

def onVconnSwap (p : Fin 8) (m : PdMsg) (pol : PdPolicy) (s : State) : State :=
  let q := portPd s p
  if q.step ≠ .ready then unexpected p .sop m s
  else if (portCc s p).vconnOn then
    match swapAnswer (field q.cfg 13 12) pol with
    | some a => pdSend p a s
    | none => pdSend p .accept (modPd p (fun q => { q with ams := amsVconnSwap, step := .vcsOff }) s)
  else if !vconnSupply s p then pdSend p .reject s
  else match swapAnswer (field q.cfg 13 12) pol with
    | some a => pdSend p a s
    | none => pdSend p .accept (modPd p (fun q => { q with ams := amsVconnSwap, step := .vcsOn }) s)

/-- R293: FR_Swap after the FRS signal: Accept and PS_RDY, and Rd; the partner's PS_RDY is awaited. -/
def onFrSwap (p : Fin 8) (m : PdMsg) (s : State) : State :=
  if (portPd s p).step ≠ .frsWait then unexpected p .sop m s
  else present p .rd (setStep p .frsPsWait (pdSend p .psRdy (pdSend p .accept s)))

/-- EPR mode ends with the source role: a sink port has no EPR (Table 10.1). (Log entry 16: DESIGN CHOICE, safe.) -/
def eprLeave (p : Fin 8) (s : State) : State :=
  if (portPd s p).eprMode then
    evp p 0x2019 2 [Config.codeByte 0x2019 2] (modPd p (fun q => { q with eprMode := false }) s)
  else s

/-- R293, R343: the partner is source now, and the port runs as sink in backfeed. -/
def backfeedStart (p : Fin 8) (s : State) : State :=
  let g := groupOf p
  let rdo := (portPd s p).rdo
  let s := modPd p (fun q => { q with
    source := false, explicit := false, pdo := 0, rdo := 0, step := .snkWaitCaps, ams := 0, frsArmed := false }) (eprLeave p s)
  let s := setCcState p .attachedSnk s
  let s := turnOn p (setCode p 0 (modCinch p (fun c => { c with backfeed := true, st := .backfeed }) s))
  let s := evp p 0x2016 4 (le 4 rdo.toNat) (roleSwapEvent p 3 s)
  if flag s.groups[g].rootCfg 2 && !s.groups[g].gcutOpen then gcutOpen g 2 s else s

def onPsRdy (p : Fin 8) (m : PdMsg) (s : State) : State :=
  match (portPd s p).step with
  | .snkTransition =>
    let q := portPd s p
    contractMade p (setTarget p (reqMv q.pendPdo q.pendRdo) s)
  | .prsSrcWait =>
    -- R287: the partner is source now
    let s := modPd p (fun q => { q with
      explicit := false, pdo := 0, rdo := 0, source := false, step := .snkWaitCaps, frsArmed := false }) (eprLeave p s)
    let s := contractOver p (setCcState p .attachedSnk (amsEnd p s))
    roleSwapEvent p 0 s
  | .prsSnkWait =>
    -- R287: Rp, VBUS on, then PS_RDY; a backfeed ends here (R295)
    let s := backfeedEnd p 1 (gatesLow p s)
    let s := modPd p (fun q => { q with explicit := false, pdo := 0, rdo := 0, source := true, step := .prsSnkOn, ams := 0 }) s
    let s := contractOver p (present p (.rp (rpLevel (portCc s p))) (setCcState p .attachedSrc s))
    let s := turnOn p (roleSwapEvent p 0 s)
    groupAfterBackfeed (groupOf p) s
  | .vcsOff => roleSwapEvent p 2 (setStep p .ready (amsEnd p (vconnOff p s)))
  | .frsPsWait => backfeedStart p s
  | _ => unexpected p .sop m s

/-- R304: the policy wants an authentication that a Soft_Reset abandoned again, after the new contract. -/
def authAgain (p : Fin 8) (pol : PdPolicy) (s : State) : State :=
  if pol.restartAuth then modPd p (fun q => { q with authHalt := false }) s else s

def onAccept (p : Fin 8) (m : PdMsg) (pol : PdPolicy) (s : State) : State :=
  let q := portPd s p
  match q.step with
  | .softReset =>
    let s := authAgain p pol s
    let s := modPd p (fun q => { q with ams := 0, step := if q.source then .ready else .snkWaitCaps }) s
    if q.source then sendCaps p s else s
  | .snkRequested => setStep p .snkTransition s
  | .prsSent => modPd p (fun q => { q with step := if q.source then .prsSrcAccepted else .prsSnkWait }) s
  | .drsSent => drSwapped p (setStep p .ready (amsEnd p s))
  | .vcsSent =>
    if (portCc s p).vconnOn then setStep p .vcsOff s
    else if vconnAllowed s p then pdSend p .psRdy (vconnTurnOn p (setStep p .vcsOn s))
    else setStep p .vcsOn s
  | _ => unexpected p .sop m s

/-- A Reject or Wait to what this port asked. -/
def onTurnedDown (p : Fin 8) (m : PdMsg) (s : State) : State :=
  match (portPd s p).step with
  | .snkRequested => amsEnd p (modPd p (fun q => { q with step := if q.explicit then .ready else .snkWaitCaps }) s)
  | .prsSent | .drsSent | .vcsSent => amsEnd p (setStep p .ready s)
  | _ => unexpected p .sop m s

/-! ### GoodCRC -/

/-- GoodCRC to the message that awaits it (R280; a source offers again once its Accept to a Soft_Reset is through).
(Log entry 120: DEDUCED, unsafe.) -/
def onGoodCrc (p : Fin 8) (ordered : Sop) (s : State) : State :=
  let q := portPd s p
  match q.await with
  | none => violate p 10 ordered (some .goodCrc) s
  | some t =>
    let s := modPd p (fun q => { q with await := none, retry := 0 }) s
    match t.msg with
    | .sourceCaps l | .eprSourceCaps l =>
      modPd p (fun q => { q with caps := l, step := .srcCaps, ams := amsNegotiation }) s
    | .alert => if q.ams = amsAlert then amsEnd p s else s
    | .accept =>
      if q.step = .vcsOn ∧ !(portCc s p).vconnOn then
        -- R290
        if vconnAllowed s p then pdSend p .psRdy (vconnTurnOn p s) else s
      else if q.ams = amsReset ∧ q.source ∧ q.step ≠ .softReset then sendCaps p (modPd p (fun q => { q with ams := 0 }) s)
      else s
    | .psRdy => if q.step = .vcsOn then roleSwapEvent p 2 (setStep p .ready (amsEnd p s)) else s
    | .eprModeEntered => sendCaps p s
    | _ => s

/-! ### EPR mode, cable, Hush, Soft_Reset -/

def onEprEnter (p : Fin 8) (m : PdMsg) (s : State) : State :=
  let q := portPd s p
  if !q.source || decide (q.step ≠ .ready) then unexpected p .sop m s
  else if q.cable ≠ 3 then violate p 6 .sop (some m) s
  else if !eprOffered q then pdSend p .eprModeEnterFailed s
  else
    let s := modPd p (fun q => { q with eprMode := true }) s
    pdSend p .eprModeEntered (pdSend p .eprModeAck (evp p 0x2018 1 [BitVec.ofNat 8 q.cable.toNat] s))

def onEprExit (p : Fin 8) (m : PdMsg) (s : State) : State :=
  if (portPd s p).eprMode then
    sendCaps p (evp p 0x2019 2 [Config.codeByte 0x2019 1] (modPd p (fun q => { q with eprMode := false }) s))
  else unexpected p .sop m s

/-- The row of Table 10.3. -/
def cableRow (c : CableInfo) : BitVec 2 := if !c.fiveAmp then 1 else if c.eprCapable && c.max50V then 3 else 2

/-- The cable's answer on SOP′ or SOP″ (R275, R276). -/
def onCable (p : Fin 8) (ordered : Sop) (c : CableInfo) (s : State) : State :=
  if ordered = .sopDouble then modPd p (fun q => { q with activeCable := true }) s
  else if (portPd s p).discWaiting then
    let s := modPd p (fun q => { q with discWaiting := false, cable := cableRow c }) s
    let s := if c.active then pdSendOn p .sopDouble .discoverIdentity s else s
    sendCaps p s
  else s

/-- Table 9.5's VDM header: SVID, structured, object position 1, the command type and command 0x10. The places of the
bits are USB PD's. (Log entry 7: PRESUMED, unsafe.) -/
def hushHeader (s : State) (kind : Nat) : Word :=
  mkWord [(16, s.pattern.hushSvid.toNat), (15, 1), (8, 1), (6, kind), (0, 0x10)]

/-- Two VDM headers agree in SVID, type, object position, command type and command (the version fields aside). -/
def hushAnswers (s : State) (kind : Nat) (header : Word) : Bool :=
  decide (header &&& 0xFFFF87DF = hushHeader s kind)

/-- Table 9.5's VDO. -/
def hushVdo (start : Byte) (window : Half) : Word := mkWord [(16, window.toNat), (8, start.toNat)]

/-- WINDOW as it acts: 1 to 5,000. -/
def hushWindow (c : CcPort) : Half := BitVec.ofNat 16 (max 1 (min 5000 (field c.hushReg 15 0)))

/-- R263, R264: the partner's ACK to a Hush request, its WINDOW at most the request. An ACK of another form is no answer to
the request. (Log entry 177: DESIGN CHOICE, unsafe.) -/
def onHushAck (p : Fin 8) (m : PdMsg) (header vdo : Word) (s : State) : State :=
  let c := portCc s p
  let window := field vdo 31 16
  let start := field vdo 15 8
  if c.hushStatus = .pending ∧ hushAnswers s 1 header ∧ field vdo 7 0 = 0 ∧ window ≤ c.hushAsked.toNat then
    let s := modCc p (fun c => { c with
      hushStatus := .granted, hushReg := (c.hushReg &&& 0xFFFF0000) ||| BitVec.ofNat 32 window }) s
    evp p 0x2007 1 (BitVec.ofNat 8 start :: le 2 window) (hushAmsEnd p s)
  else violate p 20 .sop (some m) s

/-- R267 and its causes NAK, BUSY and timeout. -/
def hushRefuse (p : Fin 8) (c : HushRefusal) (s : State) : State :=
  if (portCc s p).hushStatus = .pending then
    evp p 0x2008 2 [Config.codeByte 0x2008 c.ctorIdx] (hushAmsEnd p (modCc p (fun c => { c with hushStatus := .refused }) s))
  else s

def onSoftReset (p : Fin 8) (pol : PdPolicy) (s : State) : State :=
  let s := authAgain p pol (softReset p false s)
  let s := modPd p (fun q => { q with step := if q.source then (if q.explicit then .ready else .srcStartup) else .snkWaitCaps }) s
  pdSend p .accept s

/-- R291: ARMED goes by the newest Sink_Capabilities. -/
def onSinkCaps (p : Fin 8) (frs : BitVec 2) (pol : PdPolicy) (s : State) : State :=
  let q := portPd s p
  let arm := q.source && q.explicit && flag q.cfg 16 && decide (frs ≠ 0) && pol.frsAccept && decide (q.rev ≠ 1)
  let s := modPd p (fun q => { q with frsArmed := arm }) s
  if q.ams = amsSinkCap then amsOver p s else s

/-- A message whose answer is an extended message: none toward a partner at Revision 2.0 (R271). -/
def extAnswer (p : Fin 8) (m : PdMsg) (s : State) : State :=
  pdSend p (if (portPd s p).rev = 1 then .notSupported else m) s

/-- The PPS Status Data Block: the measured VBUS in 20 mV, the current in 50 mA, and the current-limit mode (R352, R405).
(Log entry 7: PRESUMED, unsafe.) -/
def ppsStatusBlock (m : MetroPort) : Word :=
  mkWord [(0, satTo 16 (vbusMv m / 20)), (16, satTo 8 (m.ibus.toNat / 500)), (27, b2n m.clUv.isSome)]

/-- An answer to a Structured VDM request of the port's own; without one it is class 20. -/
def vdmAnswer (p : Fin 8) (m : PdMsg) (f : State → State) (s : State) : State :=
  if (portPd s p).vdmOut then f (amsEnd p (modPd p (fun q => { q with vdmOut := false }) s))
  else violate p 20 .sop (some m) s

/-- BIST Carrier Mode lasts tBISTContMode, 45 ms (Table 10.9). (Log entry 178: DEDUCED, unsafe.) -/
def bistCarrierStart (p : Fin 8) (s : State) : State := modPd p (fun q => { q with bistUntil := s.time.now + 45000 }) s

/-! ### Received messages (Table 10.2) -/

def flawClass (f : PdFlaw) : Fin 24 :=
  match f with
  | .msgIdRepeat => 2
  | .badHeader => 13
  | .badExtHeader => 14
  | .chunkOrder => 15
  | .extTooLong => 17

/-- A message on SOP. (Log entries 107: DESIGN CHOICE, safe; 125: DEDUCED, unsafe.) -/
def onMessage (p : Fin 8) (m : PdMsg) (pol : PdPolicy) (s : State) : State :=
  match m with
  | .sourceCaps pdos => onSourceCaps p m pdos pol s
  | .request rdo => onRequest p m false rdo pol s
  | .eprRequest rdo _ => onRequest p m true rdo pol s
  | .accept => onAccept p m pol s
  | .reject => onTurnedDown p m s
  | .wait => onTurnedDown p m s
  | .psRdy => onPsRdy p m s
  | .getSourceCap => if (portPd s p).source then sendCapsAs p false s else pdSend p .notSupported s
  | .getSinkCap => pdSend p (.sinkCaps 0 (portPd s p).sinkPdos) s
  | .sinkCaps frs _ => onSinkCaps p frs pol s
  | .softReset => onSoftReset p pol s
  | .ping => s
  | .prSwap => onPrSwap p m pol s
  | .drSwap => onDrSwap p m pol s
  | .vconnSwap => onVconnSwap p m pol s
  | .frSwap => onFrSwap p m s
  | .getStatus => extAnswer p .status s
  | .status => if (portPd s p).ams = amsVdm then amsOver p s else s
  | .alert => s
  | .getPpsStatus => extAnswer p (.ppsStatus (ppsStatusBlock (portMetro s p))) s
  | .ppsStatus _ => if (portPd s p).ams = amsVdm then amsOver p s else s
  | .getSourceCapExt => extAnswer p .sourceCapExt s
  | .sourceCapExt => s
  | .getRevision => pdSend p (.revision 3) s
  | .revision n => modPd p (fun q => { q with rev := if n ≤ 2 then 1 else 2 }) s
  | .getSourceInfo => pdSend p .sourceInfo s
  | .sourceInfo => s
  | .getManufacturerInfo => extAnswer p .manufacturerInfo s
  | .manufacturerInfo => s
  | .getSinkCapExt => extAnswer p .sinkCapExt s
  | .sinkCapExt => s
  | .eprModeEnter => onEprEnter p m s
  | .eprModeExit => onEprExit p m s
  | .eprModeAck => unexpected p .sop m s
  | .eprModeEnterFailed => unexpected p .sop m s
  | .eprModeEntered => unexpected p .sop m s
  | .eprSourceCaps _ => unexpected p .sop m s
  | .eprKeepAlive => if (portPd s p).eprMode then pdSend p .eprKeepAliveAck s else unexpected p .sop m s
  | .eprKeepAliveAck => unexpected p .sop m s
  | .securityRequest k offset len digest => authAnswer p k offset len digest s
  | .securityResponse phase data certs largest last =>
    if authBusy (portPd s p).auth then authResponse p phase data certs largest last s else unexpected p .sop m s
  | .notSupported => amsOver p (modPd p (fun q => { q with vdmOut := false }) s)
  | .unsupported => pdSend p .notSupported s
  | .discoverIdentity => pdSend p (.discoverIdentityAck { fiveAmp := false, eprCapable := false, max50V := false, active := false }) s
  | .discoverIdentityAck _ => vdmAnswer p m id s
  | .discoverSvids => pdSend p .vdmNak s
  | .discoverModes _ => pdSend p .vdmNak s
  | .enterMode _ => pdSend p .vdmNak s
  | .exitMode _ => violate p 19 .sop (some m) s
  | .discoverSvidsAck _ => vdmAnswer p m id s
  | .discoverModesAck _ _ => vdmAnswer p m id s
  | .modeAck svid entered =>
    vdmAnswer p m (fun s =>
      if svid = s.pattern.hushSvid then modPd p (fun q => { q with hushMode := entered }) s else s) s
  | .vdmNak => vdmAnswer p m id s
  | .vdmUnentered => violate p 19 .sop (some m) s
  | .vdmUnsolicited => violate p 20 .sop (some m) s
  | .hushReq _ _ => violate p 19 .sop (some m) s
  | .hushAck header vdo => onHushAck p m header vdo s
  | .hushNak header =>
    if (portCc s p).hushStatus = .pending ∧ hushAnswers s 2 header then hushRefuse p .nak s else violate p 20 .sop (some m) s
  | .hushBusy header =>
    if (portCc s p).hushStatus = .pending ∧ hushAnswers s 3 header then hushRefuse p .busy s else violate p 20 .sop (some m) s
  | .bistCarrier => bistCarrierStart p s
  | .bistTestData => modPd p (fun q => { q with bistTest := true }) s
  | .goodCrc => onGoodCrc p .sop s
  | .reservedType => violate p 18 .sop (some m) s

/-- A message that starts a negotiation (R129). -/
def negotiates (m : PdMsg) : Bool :=
  match m with
  | .request _ | .eprRequest _ _ | .sourceCaps _ | .eprSourceCaps _ => true
  | _ => false

/-- A message that the engine takes up; one that starts a negotiation waits for a stalled shared stand (R129).
(Log entry 72: DEDUCED, unsafe.) -/
def messageOrWait (p : Fin 8) (m : PdMsg) (pol : PdPolicy) (s : State) : State :=
  if negotiates m && sharedStalled s then modPd p (fun q => { q with held := q.held ++ [(m, pol)] }) s
  else onMessage p m pol s

/-- R129: what waited for the shared stands goes on, port by port. -/
def negotiationsResume (s : State) : State :=
  if sharedStalled s then s else
  onPorts allPorts (fun p s =>
    let q := portPd s p
    let s := modPd p (fun q => { q with held := [] }) s
    let s := if q.capsHeld then sendCaps p s else s
    if standActs s p then q.held.foldl (fun s m => onMessage p m.1 m.2 s) s else s) s

/-- What the stand does with a PD_RX frame: nothing with a flooded packet (R251, R274); in BIST Test Data mode only GoodCRC
counts; a fault of form is its class (R310); the cable's answers on SOP′ and SOP″. -/
def pdReceive (p : Fin 8) (k : RxPacket) (s : State) : State :=
  if k.flooded || !standActs s p || !isAttached (portCc s p).state then s
  else match k.flaw with
    | some f => if (portPd s p).bistTest then s else violate p (flawClass f) k.sop (some k.msg) s
    | none =>
      match k.sop, k.msg with
      | .sop, .goodCrc => onGoodCrc p .sop s
      | .sop, m => if (portPd s p).bistTest then s else messageOrWait p m k.pol s
      | o, .goodCrc => onGoodCrc p o s
      | o, .discoverIdentityAck c => onCable p o c s
      | _, _ => s

/-- PD_RX at the stand: the oldest packet that Root has received and not delivered. -/
def rxDeliver (p : Fin 8) (s : State) : State :=
  match (portPd s p).rxq with
  | [] => s
  | k :: t => pdReceive p k (modPd p (fun q => { q with rxq := t }) s)

/-- Root may transmit: no message awaits its GoodCRC, tSinkTx does not run (R279), no BIST carrier is on, the port is in no
hold (R219), and the oscillator runs (R16). -/
def txFree (s : State) (p : Fin 8) : Bool :=
  let q := portPd s p
  s.power.refoscRunning && !s.strap.rootLost && !s.strap.holds[p].inHold && !s.strap.holds[p].standHold && !q.sinkTxWait
    && q.await.isNone && decide (q.bistUntil ≤ s.time.now)

/-- Root transmits the next message of a PD_TX frame. -/
def pdTransmit (p : Fin 8) (s : State) : State :=
  if !txFree s p then s
  else match (portPd s p).txq with
    | [] => s
    | m :: t => modPd p (fun q => { q with
        txq := t, await := some m, line := some m, retry := 0, msgIdTx := q.msgIdTx + 1 }) s

/-! ### What the Pattern asks for (R286) -/

/-- A Structured VDM request of the port's own: to a partner while the port is DFP. -/
def vdmAsk (p : Fin 8) (m : PdMsg) (s : State) : State :=
  if (portPd s p).dfp && !(portPd s p).vdmOut then amsSend p amsVdm m (modPd p (fun q => { q with vdmOut := true }) s) else s

/-- A swap that the port initiates (R286): Accept starts its sequence. -/
def swapAsk (p : Fin 8) (k : Byte) (st : PdStep) (m : PdMsg) (s : State) : State :=
  setStep p st (amsSend p k m s)

/-- The Pattern's request at a port whose engine is ready and runs no AMS. A DR_Swap to UFP leaves the Hush mode first
(R289). (Log entry 174: DESIGN CHOICE, safe.) -/
def ownStart (p : Fin 8) (o : PdOwn) (s : State) : State :=
  let q := portPd s p
  if !standActs s p || decide (q.step ≠ .ready) || decide (q.ams ≠ 0) then s else
  match o with
  | .prSwap => if (portCinch s p).backfeed then s else swapAsk p amsPrSwap .prsSent .prSwap s
  | .drSwap => swapAsk p amsDrSwap .drsSent .drSwap (hushLeave p s)
  | .vconnSwap => swapAsk p amsVconnSwap .vcsSent .vconnSwap s
  | .discoverSvids => vdmAsk p .discoverSvids s
  | .discoverModes svid => vdmAsk p (.discoverModes svid) s
  | .enterMode svid => if svid = s.pattern.hushSvid ∧ svid ≠ 0 then vdmAsk p (.enterMode svid) s else s
  | .exitMode svid => if q.hushMode ∧ svid = s.pattern.hushSvid then vdmAsk p (.exitMode svid) s else s
  | .cableSoftReset => if (portCc s p).vconnOn then pdSendOn p .sopPrime .softReset s else s
  | .getStatus => amsSend p amsVdm .getStatus s
  | .getPpsStatus => amsSend p amsVdm .getPpsStatus s
  | .discoverIdentity => vdmAsk p .discoverIdentity s
  | .offer l => if q.source && !sharedStalled s then sendOffer p true (offerFrom s p (lowerList s p l)) s else s

/-! ### Hard Reset at a source -/

/-- tPSHardReset: VBUS goes off; VCONN stays as it was (R243). -/
def hardResetLow (p : Fin 8) (s : State) : State :=
  if (portPd s p).step = .hardResetHold then setStep p .hardResetOff (gatesOff p s) else s

/-- tSrcRecover: VBUS and Rp are restored, and the engine starts from its default contract.
(Log entry 104: DEDUCED, unsafe.) -/
def hardResetRestore (p : Fin 8) (s : State) : State :=
  if (portPd s p).step = .hardResetOff then
    let s := present p (.rp (rpLevel (portCc s p))) s
    turnOn p (modPd p (fun q => { q with step := .srcStartup, ams := 0 }) s)
  else s

/-! ### The family's meanings -/

/-- HARD_RESET_TIMER. -/
def execHardResetTimer (p : Fin 8) (t : HrTimer) (s : State) : Host.Outcome State Fault Refusal :=
  complete s <|
    if !standTimes s p then s else
    match t with
    | .psHardReset => hardResetLow p s
    | .srcRecover => hardResetRestore p s
    | .hardResetComplete => if (portPd s p).source then s else modPd p (fun q => { q with ams := 0 }) s

/-- SRC_TRANSITION_EXPIRE (R283, R287). -/
def execSrcTransitionExpire (p : Fin 8) (s : State) : Host.Outcome State Fault Refusal :=
  complete s <|
    if !standTimes s p then s else
    match (portPd s p).step with
    | .srcTransition => moveLevel p s
    | .prsSrcAccepted => setStep p .prsSrcOff (gatesOff p s)
    | _ => s

/-- PD_TRANSITION_FAIL (R284). -/
def execPdTransitionFail (p : Fin 8) (s : State) : Host.Outcome State Fault Refusal :=
  complete s <|
    if standTimes s p && decide ((portPd s p).step = .srcSettling) then
      let mv := (portCinch s p).contractMv
      let s := evp p 0x2013 5 (le 2 (satTo 16 mv) ++ le 2 (satTo 16 (vbusMv (portMetro s p)))) s
      hardReset p true 1 s
    else s

/-- PPS_TIMEOUT (R285). -/
def execPpsTimeout (p : Fin 8) (s : State) : Host.Outcome State Fault Refusal :=
  complete s <|
    let q := portPd s p
    if standTimes s p && q.source && q.explicit && pdoPps q.pdo then violate p 9 .sop none s else s

/-- EPR_KEEPALIVE_TIMEOUT (R285). -/
def execEprKeepaliveTimeout (p : Fin 8) (s : State) : Host.Outcome State Fault Refusal :=
  complete s (if standTimes s p && (portPd s p).eprMode then violate p 8 .sop none s else s)

/-- SENDER_RESPONSE_TIMEOUT. -/
def execSenderResponseTimeout (p : Fin 8) (s : State) : Host.Outcome State Fault Refusal :=
  complete s <|
    if !standTimes s p then s else
    match (portPd s p).step with
    | .srcCaps => violate p 12 .sop none s
    | .snkRequested => violate p 12 .sop none s
    | .softReset => hardReset p true 2 s
    | .prsSent | .drsSent | .vcsSent => amsEnd p (setStep p .ready s)
    | .ready => if (portPd s p).ams = amsSinkCap || (portPd s p).vdmOut then
        amsOver p (modPd p (fun q => { q with vdmOut := false }) s) else s
    | _ => s

/-- GOODCRC_TIMEOUT: up to nRetryCount retries, then class 11; Source_Capabilities before a contract and Discover Identity
are repeated by their own timers instead. -/
def execGoodcrcTimeout (p : Fin 8) (s : State) : Host.Outcome State Fault Refusal :=
  complete s <|
    let q := portPd s p
    if !standTimes s p then s else
    match q.await with
    | none => s
    | some m =>
      if q.retry < 2 then
        modPd p (fun q => { q with retry := q.retry + 1, retries := bump 12 q.retries, line := some m }) s
      else
        let s := modPd p (fun q => { q with await := none, retry := 0 }) s
        match m.msg with
        | .sourceCaps _ => if q.step = .srcStartup then s else violate p 11 .sop (some m.msg) s
        | .discoverIdentity => s
        | _ => if m.sop = .sop then violate p 11 .sop (some m.msg) s else s

/-- SWAP_TIMEOUT (R288). -/
def execSwapTimeout (p : Fin 8) (s : State) : Host.Outcome State Fault Refusal :=
  complete s <|
    if !standTimes s p then s else
    match (portPd s p).step with
    | .prsSrcWait => violate p 23 .sop none s
    | .prsSnkWait => violate p 23 .sop none s
    | .frsWait | .frsPsWait => violate p 23 .sop none s
    | _ => s

/-- VCONN_SOURCE_ON_TIMEOUT (R290). -/
def execVconnSourceOnTimeout (p : Fin 8) (s : State) : Host.Outcome State Fault Refusal :=
  complete s <|
    if standTimes s p && decide ((portPd s p).step = .vcsOn) && !(portCc s p).vconnOn then hardReset p true 3 s else s

/-- AUTH_WAIT_EXPIRE (R301, R302). -/
def execAuthWaitExpire (p : Fin 8) (s : State) : Host.Outcome State Fault Refusal :=
  complete s <|
    if !standTimes s p then s else
    if authBusy (portPd s p).auth && (portPd s p).authAwait then authFail p 1 s else s

/-- DISCOVER_IDENTITY_TIMER (R275, Table 10.3). -/
def execDiscoverIdentityTimer (p : Fin 8) (s : State) : Host.Outcome State Fault Refusal :=
  complete s <|
    let q := portPd s p
    if standTimes s p && q.discWaiting then
      if q.discTries < 20 then pdSendOn p .sopPrime .discoverIdentity (modPd p (fun q => { q with discTries := q.discTries + 1 }) s)
      else sendCaps p (modPd p (fun q => { q with discWaiting := false, cable := 0 }) s)
    else s

/-- SINK_TX_EXPIRE (R279). -/
def execSinkTxExpire (p : Fin 8) (s : State) : Host.Outcome State Fault Refusal :=
  complete s (if standTimes s p then modPd p (fun q => { q with sinkTxWait := false }) s else s)

/-- CHUNK_TIMEOUT. -/
def execChunkTimeout (p : Fin 8) (s : State) : Host.Outcome State Fault Refusal :=
  complete s (if standTimes s p then violate p 16 .sop none s else s)

/-- SOURCE_CAP_TIMER: Source_Capabilities are repeated up to nCapsCount times; without a response Hard Reset follows up to
nHardResetCount times, and then the source gives up. -/
def execSourceCapTimer (p : Fin 8) (t : CapTimer) (s : State) : Host.Outcome State Fault Refusal :=
  complete s <|
    let q := portPd s p
    if standTimes s p && q.source && !q.explicit
        && (decide (q.step = .srcStartup) || decide (q.step = .srcCaps)) && !q.discWaiting then
      match t with
      | .sendSourceCap => if q.capsCount < 50 then sendCaps p s else setStep p .idle s
      | .noResponse => if q.hardResetTries < 2 then hardReset p true 4 s else setStep p .idle s
    else s

end Sys2Proof.Machine
end

