-- ==== Sys2Proof/Machine/Cinch.lean ====
section
/-! DEFINITION. Cinch (chapter 11): inrush, trips, discharge and STUCK_ON, the group cut-off, droop, shed and FRS,
COMPLIANCE; and what Root does alone while a port is in hold (R219 to R221). -/

namespace Sys2Proof.Machine

/-! ### Root alone -/

/-- The port's hold ends (R221); what ended it is marked by the caller. -/
def holdOver (p : Fin 8) (s : State) : State := modHold p (fun h => { h with inHold := false, timerRunning := false }) s

/-- Gates off with discharge on, by Root, while Crown's picture of the port stays (R217, R221). -/
def rootDark (p : Fin 8) (s : State) : State :=
  modCinch p (fun c => { c with gates := false, dsch := portPowered s p }) (pgDisown p s)

/-- R220, R222: the fallback that Root holds, with Pn_VSET at zero current (Table 2.8): a source goes to vSafe5V (R44). -/
def takeFallback (p : Fin 8) (s : State) : State :=
  let off := s.strap.holds[p].fallbackOff
  let src := (portPd s p).source
  let s := modHold p (fun h => { h with fellBack := true, fellBackOff := off }) (holdOver p s)
  let s := setCode p 0 s
  if off then
    let s := present p .opened (vconnOff p (rootDark p s))
    if rootSeen s then modCinch p (fun c => { c with st := .discharging }) s else s
  else if src then
    let s := present p (.rp s.strap.holds[p].rpLevel)
      (modCinch p (fun c => { c with contractMv := 5000, oldMv := max c.oldMv c.contractMv }) s)
    if rootSeen s then modCinch p (fun c => { c with st := .fallback5v }) s else s
  else s

/-- A trip while Crown cannot be told: Root's part, the OUTCOME it leaves, and what its TRIP frame will say (R219, R221,
R648). (Log entry 111: DEDUCED, unsafe.) -/
def rootTrip (p : Fin 8) (kind value : Nat) (s : State) : State :=
  modHold p (fun h => { h with tripped := true, tripDue := some (BitVec.ofNat 8 kind, BitVec.ofNat 16 (satTo 16 value)) })
    (holdOver p (rootDark p s))

/-- Root has no link to Crown, or Crown does not run a stand for the port: trips and detaches are Root's alone. -/
def rootAlone (s : State) (p : Fin 8) : Bool := !portReach s p || s.strap.holds[p].inHold

/-- A trip of a port: the after-trip path, or Root's part of it. -/
def portTrip (p : Fin 8) (code value : Nat) (ev : State → State) (s : State) : State :=
  if rootAlone s p then rootTrip p code value s else afterTrip p code (ev s)

/-! ### Fast trips -/

def tripCode (k : TripKind) : Nat := k.ctorIdx + 1

/-- The fast-trip thresholds in force at Root (Table 11.2): a code of 0.5 mV steps, in units of 10 µV. -/
def tripUnits (code : Nat) : Nat := 50 * max 2 code

/-- OV_FRAC in percent. -/
def ovPercent (c : CinchPort) : Nat := 10 + 5 * field c.rootFt 7 6

/-- R324: during a transition the higher of the old and the new contract voltage. -/
def ovBaseMv (c : CinchPort) : Nat := max c.oldMv c.contractMv

/-- The OV threshold in mV (Table 11.2, R324; in Limp R577). -/
def ovThresholdMv (s : State) (p : Fin 8) : Nat :=
  let c := portCinch s p
  if s.boot.phase = .limp then 5750 else max 5750 (ovBaseMv c * (100 + ovPercent c) / 100)

/-- The forward threshold: INRUSH_ITRIP in pulsed inrush (R323), 25.0 mV in Limp (R577), else FWD_TRIP. -/
def fwdThreshold (s : State) (p : Fin 8) : Nat :=
  if s.boot.phase = .limp then 2500
  else if s.pgs[p].owned then tripUnits (field (portCinch s p).rootFt 15 8)
  else tripUnits (field (portCinch s p).rootFt 31 24)

/-- A measured value can have crossed a current threshold, within ±(3 % + 0.5 mV). -/
def pastCurrent (thr measured : Nat) : Bool := decide (97 * thr ≤ 100 * (measured + 50))

/-- R322: the comparator of this kind can have tripped at what it measures: the shunt in 10 µV, or Pn_VBUS in mV, within
the accuracy of Table 11.2. Limp states no reverse threshold. (Log entry 164: DESIGN CHOICE, unsafe.) -/
def fastCrosses (s : State) (p : Fin 8) (k : TripKind) (measured : Nat) : Bool :=
  match k with
  | .forward => pastCurrent (fwdThreshold s p) measured
  | .reverse => s.boot.phase = .limp || pastCurrent (tripUnits (field (portCinch s p).rootFt 23 16)) measured
  | .overVoltage => decide (99 * ovThresholdMv s p ≤ 100 * measured)

def fastTripEvent (p : Fin 8) (code measured : Nat) (s : State) : State :=
  evp p 0x2021 5 (BitVec.ofNat 8 code :: le 2 (satTo 16 (portCinch s p).contractMv) ++ le 2 (satTo 16 measured)) s

/-- A fast comparator crosses (R322, R323): captured by PGn; in pulsed inrush the forward crossing ends the pulse. Below
the threshold in force nothing trips. -/
def fastTrip (p : Fin 8) (k : TripKind) (measured : Nat) (s : State) : State :=
  if !fastCrosses s p k measured then s else
  let s := capture (if k = .overVoltage then 0x14 else 0x13) p s
  if k = .forward ∧ (portCinch s p).gates ∧ s.pgs[p].owned then pgTrip p s
  else portTrip p (tripCode k) measured (fastTripEvent p (tripCode k) measured) s

/-! ### STUCK_ON and the group -/

/-- GCUT_FITTED, as Root holds it. (Log entry 122: DEDUCED, unsafe.) -/
def gcutFitted (s : State) (g : Fin 2) : Bool := flag s.groups[g].rootCfg 1

/-- What Root itself does at STUCK_ON while it cannot tell Crown (R334, R336): the port is held off, the cut-off opens, and
the group's other ports go dark as `groupOutAll` takes them out. The entries and STATE follow the restore (`stuckOn`).
(Log entry 181: DEDUCED, unsafe.) -/
def rootStuck (p : Fin 8) (vbusMv : Nat) (s : State) : State :=
  let g := groupOf p
  let s := modCinch p (fun c => { c with stuck := true, dsch := false, stuckDue := some vbusMv }) s
  if !gcutFitted s g then s
  else
    let bf := backfeedIn s g
    onPorts (groupPorts g) (fun k s =>
      if (portCinch s k).stuck || (bf && ((portCinch s k).backfeed || !shedPort s k)) then s
      else
        let s := modHold k (fun h => { h with detached := h.detached || h.inHold }) (holdOver k s)
        present k .opened (vconnOff k (rootDark k s)))
      (modGroup g (fun t => { t with rearming := false, gcutOpen := true, cause := 1 }) s)

/-- R334, R335: VBUS stays up with both gates low. (Log entry 115: DEDUCED, unsafe.) -/
def stuckOn (p : Fin 8) (vbusMv : Nat) (s : State) : State :=
  let g := groupOf p
  let s := modCinch p (fun c => { c with stuck := true, stuckTest := false }) s
  let s := evp p 0x2024 6 (le 2 (satTo 16 vbusMv)) s
  let s := outOfService p s
  let s := modCinch p (fun c => { c with st := .stuckOn, dsch := false }) s
  if gcutFitted s g then groupOutAll g (modGroup g (fun t => { t with rearming := false }) (gcutOpen g 1 s))
  else s

/-- The test of R337 has run on every port of the group. (Log entries 66: DEDUCED, unsafe; 127: DEDUCED, unsafe.) -/
def rearmDone (g : Fin 2) (s : State) : State :=
  if !s.groups[g].rearming || (groupPorts g).any (fun p => (portCinch s p).stuckTest) then s
  else
    let s := modGroup g (fun t => { t with rearming := false }) s
    if s.groups[g].gcutOpen then s
    else
      let s := emit (devEv 0x1402 2 [BitVec.ofNat 8 g.val]) s
      onPorts (groupPorts g) (fun p s => if (portCc s p).state = .outOfService then goUnattached p s else s) s

/-- R337: a write of 1 to REARM_x; a port that the Pattern marks unused takes no test (Table 2.9). While no request
reaches Root, the write waits for the restore (R14). -/
def rearm (g : Fin 2) (s : State) : State :=
  if !rootSeen s then modGroup g (fun t => { t with rearmDue := true }) s
  else
    let s := modGroup g (fun t => { t with gcutOpen := false, cause := 0, rearming := true, rearmDue := false }) s
    rearmDone g (onPorts (groupPorts g) (fun p s =>
      let s := outOfService p (modCinch p (fun c => { c with stuck := false, groupOut := false, st := .off }) s)
      modCinch p (fun c => { c with stuckTest := portUsed s p && portPowered s p }) s) s)

/-- The rearms that waited for the restore. -/
def rearmDeferred (s : State) : State :=
  [0, 1].foldl (fun s (g : Fin 2) => if s.groups[g].rearmDue then rearm g s else s) s

/-- R338, at ready: a GCUT open with cause reset hold closes, and the test of R337 runs on every port in service whose
gates are off; a GCUT that STUCK_ON holds open keeps its group out. (Log entry 66: DEDUCED, unsafe.) -/
def groupReady (g : Fin 2) (s : State) : State :=
  if s.groups[g].gcutOpen && decide (s.groups[g].cause = 1) then
    onPorts (groupPorts g) (fun p s => if (portCinch s p).stuck then s else groupHoldOut p s) s
  else
    let was := s.groups[g].gcutOpen && decide (s.groups[g].cause = 3)
    let s := if was then modGroup g (fun t => { t with gcutOpen := false, cause := 0 }) s else s
    let s := onPorts (groupPorts g) (fun p s =>
      if serviceable s p && portPowered s p && !(portCinch s p).gates then
        modCinch p (fun c => { c with dsch := true, stuckTest := true }) s
      else s) s
    modGroup g (fun t => { t with rearming := (groupPorts g).any fun p => (portCinch s p).stuckTest }) s

/-- R287: in a PR_Swap from source, Rd once VBUS is down to vSafe0V, and PS_RDY; by the stand, while it reaches its port
(R14). -/
def prsDark (p : Fin 8) (vbusMv : Nat) (s : State) : State :=
  if (portPd s p).step = .prsSrcOff ∧ !(portCinch s p).dsch ∧ vbusMv ≤ 800 ∧ standActs s p then
    pdSend p .psRdy (setStep p .prsSrcWait (present p .rd s))
  else s

/-- The end of a discharge interval with the VBUS it reads (R330, R333), and what waited for it: a PR_Swap's Rd (R287)
and the group's test (R337). In Root's Reset hold the discharge stays on until the boot completes (R62), and a port that
the Pattern marks unused raises no STUCK_ON (Table 2.9). -/
def dischargeEnd (p : Fin 8) (vbusMv : Nat) (s : State) : State :=
  let c := portCinch s p
  if !c.dsch || s.boot.cold then s else
  let test := c.stuckTest
  let s := modCinch p (fun c => { c with
    dsch := false, stuckTest := false, st := if c.st = .discharging then .off else c.st }) s
  let cc := portCc s p
  let noRp := !isRp cc.rootCc1 && !isRp cc.rootCc2
  let s :=
    if !c.gates && noRp && !c.backfeed && portUsed s p && decide (800 < vbusMv)
        && (test || decide (cc.state ≠ .attachedSnk)) then
      if rootSeen s then stuckOn p vbusMv s else rootStuck p vbusMv s
    else prsDark p vbusMv s
  if test then rearmDone (groupOf p) s else s

/-! ### Droop, FRS and shed -/

/-- R342: one shed port. -/
def shed (armed p : Fin 8) (s : State) : State :=
  errorRecovery p (evp p 0x202A 3 [BitVec.ofNat 8 armed.val] (gatesDark p s))

/-- R292, R342: the FRS signal at an armed port, its gates off, and the group's SHED_MASK ports with it.
(Log entry 112: DEDUCED, unsafe.) -/
def frsSignal (p : Fin 8) (droopUs : Nat) (s : State) : State :=
  let s := hushEnd p (unwantAll p (authAbandon p (gatesOff p s)))
  let s := modPd p (fun q => { q with
    frsSignalled := true, frsArmed := false, step := .frsWait, ams := amsFrSwap, txq := [], await := none, retry := 0
    pendPdo := 0, pendRdo := 0, sinkTxWait := false, held := [], capsHeld := false, vdmOut := false, authDue := false }) s
  let s := evp p 0x2015 4 (le 2 (satTo 16 droopUs)) s
  onPorts (groupPorts (groupOf p)) (fun k s => if k ≠ p ∧ shedPort s k ∧ (portCinch s k).gates then shed p k s else s) s

/-- INPUT_DROOP, at most one per port in 100 ms (R339). -/
def droopEntry (p : Fin 8) (vinMv : Nat) (s : State) : State :=
  if due s (portCinch s p).droopEntryAt 100000 then
    evp p 0x2028 3 (le 2 (satTo 16 (vinMv / 10))) (modCinch p (fun c => { c with droopEntryAt := some s.time.now }) s)
  else s

/-- R339, R342, R294: VIN_x falls to `vinMv`, below DROOP_V; a DROOP_V of 0 disables the comparator. In hold no FRS
signal is sent, nor for a stalled stand (R127). -/
def inputDroop (p : Fin 8) (vinMv droopUs : Nat) (s : State) : State :=
  if 250 * field (portCinch s p).rootDroop 31 24 ≤ vinMv || !portPowered s p || s.boot.cold then s else
  let s := modCinch p (fun c => { c with ew := true }) s
  if !rootSeen s then modCinch p (fun c => { c with droopDue := some vinMv }) s
  else
    let s := droopEntry p vinMv s
    if (portPd s p).frsArmed && !rootAlone s p then frsSignal p droopUs s else s

/-- The entries of droops during a loss, after its restore. -/
def droopDeferred (s : State) : State :=
  onPorts allPorts (fun p s =>
    match (portCinch s p).droopDue with
    | some mv => droopEntry p mv (modCinch p (fun c => { c with droopDue := none }) s)
    | none => s) s

/-- R341: EWARN is high. -/
def ewarn (s : State) : Bool := allPorts.any fun p => (portCinch s p).ew && flag (portCinch s p).rootDroop 23

/-- R332: Pn_DSCH helps a downward transition while VBUS exceeds the new target by more than 5 %; while Root holds the
contract alone it is open (Table 2.8). -/
def dschAssist (s : State) (p : Fin 8) : Bool :=
  let c := portCinch s p
  let m := portMetro s p
  flag c.cfg 25 && c.gates && (portPd s p).source && decide (c.contractMv < c.oldMv) && !rootAlone s p
    && decide (m.targetUv + m.targetUv / 20 < 250 * m.vbus)

/-- Pn_DSCH is on. -/
def dschOn (s : State) (p : Fin 8) : Bool := portPowered s p && ((portCinch s p).dsch || dschAssist s p)

/-! ### COMPLIANCE -/

/-- R348: the effective target before the PPS limit, mV. -/
def headroomMv (c : CinchPort) : Nat := max 1000 (250 * field c.cfg 30 26)

def effectiveMv (s : State) (p : Fin 8) : Nat :=
  let c := portCinch s p
  if flag c.cfg 31 then min c.contractMv (s.power.vinMv[groupOf p] - headroomMv c) else c.contractMv

/-- The effective target: the lower of R348's and the PPS current limit's (chapter 13), in µV. -/
def targetUvOf (s : State) (p : Fin 8) : Nat :=
  let t := 1000 * effectiveMv s p
  match (portMetro s p).clUv with
  | some c => min t c
  | none => t

/-- The effective target as event data, in mV. -/
def targetBytes (s : State) (p : Fin 8) : List Byte := le 2 (satTo 16 (targetUvOf s p / 1000))

/-- R350 to R352, R284: the ceiling has bound for 10 ms. -/
def complianceEnter (p : Fin 8) (s : State) : State :=
  let c := portCinch s p
  if c.st ≠ .on ∨ !c.ceiling ∨ (portMetro s p).fault ∨ rootAlone s p then s else
  let s := modCinch p (fun c => { c with
    st := .compliance, compliance := true, complianceAt := s.time.now, compliances := bump 8 c.compliances }) s
  let s := evp p 0x2025 3 (le 2 (satTo 16 c.contractMv) ++ targetBytes s p) s
  let s := if (portPd s p).rev ≠ 1 then
      amsSend p amsAlert .alert (modPd p (fun q => { q with alertSent := true }) s) else s
  levelConfirmed p s

/-- R354: the ceiling has not bound for 100 ms. -/
def complianceExit (p : Fin 8) (s : State) : State :=
  let c := portCinch s p
  if !c.compliance ∨ c.ceiling ∨ (portMetro s p).fault ∨ rootAlone s p then s else
  let s := modCinch p (fun c => { c with st := .on, compliance := false }) s
  evp p 0x2027 1 (le 2 (satTo 16 ((s.time.now - c.complianceAt) / 1000))) s

/-! ### Register writes -/

/-- R329. While no request reaches the port, it follows at the restore (R14). -/
def unlatch (p : Fin 8) (s : State) : State :=
  if (portCinch s p).latched then
    let s := modCinch p (fun c => { c with latched := false }) s
    if portReach s p then goUnattached p s else s
  else s

/-- GATECTL.FORCE_OFF: out of service while it is 1 (R81). While no request reaches the port, the bit alone changes and
the port follows at the restore (R14, `portRequests`). -/
def forceOff (p : Fin 8) (on : Bool) (s : State) : State :=
  let was := (portCinch s p).forceOff
  let s := modCinch p (fun c => { c with forceOff := on }) s
  if !portReach s p then s
  else if on && !was then takeOut p s
  else if was && !on then goUnattached p s
  else s

def gateCtlWrite (p : Fin 8) (v : Word) (s : State) : State :=
  let s := forceOff p (flag v 30) s
  if flag v 31 then unlatch p s else s

/-- A write of GRPCTL. -/
def grpCtlWrite (v : Word) (s : State) : State :=
  let s := if flag v 0 then rearm 0 s else s
  if flag v 1 then rearm 1 s else s

/-- What waited for the port's restore (R14): a port that may no longer be in service goes out of it, and one that may
again, or whose group is powered again (R230), comes back. -/
def portRequests (p : Fin 8) (s : State) : State :=
  let out := decide ((portCc s p).state = .outOfService)
  if !serviceable s p && !out then takeOut p s
  else if serviceable s p && out then goUnattached p s
  else if decide ((portCc s p).state = .groupUnpowered) && portPowered s p then goUnattached p s
  else s

/-- CINCHCFG, which reads as written. (Log entry 97: DEDUCED, unsafe.) -/
def cinchCfgWrite (p : Fin 8) (v : Word) (s : State) : State := modCinch p (fun c => { c with cfg := v &&& 0xFFFFFF00 }) s

/-- FTCFG, passed to Root at once while it can be told; a threshold out of range acts as the nearest end (`tripUnits`).
(Log entries 97: DEDUCED, unsafe; 122: DEDUCED, unsafe.) -/
def ftCfgWrite (p : Fin 8) (v : Word) (s : State) : State :=
  let v := v &&& 0xFFFFFFF8
  modCinch p (fun c => { c with ft := v, rootFt := if rootSeen s then v else c.rootFt }) s

def i2tCfgWrite (p : Fin 8) (v : Word) (s : State) : State := modCinch p (fun c => { c with i2tCfg := v &&& 0xFFFF0F00 }) s

/-- (Log entry 122: DEDUCED, unsafe.) -/
def droopCfgWrite (p : Fin 8) (v : Word) (s : State) : State :=
  let v := v &&& 0xFF800000
  modCinch p (fun c => { c with droopCfg := v, rootDroop := if rootSeen s then v else c.rootDroop }) s

/-- VSETLIM, which reads as written (`limPos`, `limNeg`). (Log entry 97: DEDUCED, unsafe.) -/
def vsetLimWrite (p : Fin 8) (v : Word) (s : State) : State := modCinch p (fun c => { c with vsetLim := v }) s

/-- (Log entry 122: DEDUCED, unsafe.) -/
def grpCfgWrite (g : Fin 2) (v : Word) (s : State) : State :=
  let v := v &&& 0xF6
  modGroup g (fun t => { t with cfg := v, rootCfg := if rootSeen s then v else t.rootCfg }) s

/-- CINCHCOUNT: COMPL_SAT and TRIP_SAT. -/
def cinchCountWrite (p : Fin 8) (v : Word) (s : State) : State :=
  modCinch p (fun c => { c with
    compliances := if flag v 1 then {} else c.compliances, trips := if flag v 0 then {} else c.trips }) s

def cinchStatWord (s : State) (p : Fin 8) : Word :=
  let c := portCinch s p
  mkWord [(24, c.st.ctorIdx), (23, b2n c.latched), (22, b2n c.stuck), (21, b2n c.compliance), (20, b2n c.ceiling),
    (19, b2n c.ew), (18, b2n c.pumpOk), (15, c.lastTrip.toNat), (12, satTo 3 (recent s 10000000 c.tripTimes).length)]

/-- Pn_GA and Pn_GB are driven on: in a pulsed inrush with PGn's output alone (R320, R373). -/
def gatesDriven (c : CinchPort) (g : Pg) : Bool := c.gates && (!g.owned || g.out)

def gateCtlWord (c : CinchPort) (g : Pg) : Word :=
  mkWord [(30, b2n c.forceOff), (1, b2n (gatesDriven c g)), (0, b2n (gatesDriven c g))]

def i2tStatWord (c : CinchPort) : Word :=
  let limit := field c.i2tCfg 31 16 * (256 * 10 ^ 9)
  mkWord [(24, if limit = 0 then 0 else min 255 (c.i2t * 256 / limit))]

def cinchCountWord (c : CinchPort) : Word :=
  mkWord [(24, c.trips.n), (16, c.compliances.n), (1, b2n c.compliances.sat), (0, b2n c.trips.sat)]

def grpStatWord (s : State) : Word :=
  mkWord [(15, b2n (gcutOff s 1)), (12, s.groups[1].cause.toNat), (8, stuckMask s 1),
    (7, b2n (gcutOff s 0)), (4, s.groups[0].cause.toNat), (0, stuckMask s 0)]

/-! ### The family's meanings -/

/-- INRUSH_SLEW_END (R319). (Log entry 2: DEDUCED, unsafe.) -/
def execInrushSlewEnd (p : Fin 8) (s : State) : Host.Outcome State Fault Refusal :=
  complete s (if flag (portCinch s p).cfg 24 then s else inrushEnd p s)

/-- INRUSH_FAIL (R321). -/
def execInrushFail (p : Fin 8) (vbusMv : Nat) (s : State) : Host.Outcome State Fault Refusal :=
  complete s <|
    if !inrushing (portCinch s p) then s
    else if rootAlone s p then rootTrip p 5 vbusMv s
    else inrushFail p vbusMv s

/-- GATE_FAULT (R318); gate A or B, and its voltage above Pn_SRC. (Log entry 114: DEDUCED, unsafe.) -/
def execGateFault (p : Fin 8) (gateB : Bool) (mv : Nat) (s : State) : Host.Outcome State Fault Refusal :=
  complete s <|
    if (portCinch s p).gates && !inrushing (portCinch s p) then
      let s := modCinch p (fun c => { c with pumpOk := false }) s
      portTrip p 6 mv (evp p 0x2029 5 (Config.codeByte 0x2029 (b2n gateB) :: le 2 (satTo 16 mv))) s
    else s

/-- FAST_TRIP. -/
def execFastTrip (p : Fin 8) (kind : TripKind) (measured : Nat) (s : State) : Host.Outcome State Fault Refusal :=
  complete s (fastTrip p kind measured s)

/-- UNLATCH: a write of GATECTL with UNLATCH, under the Tack. -/
def execUnlatch (who : Requester) (p : Fin 8) (s : State) : Host.Outcome State Fault Refusal :=
  complete s (guarded who (regAccess true (0x8014 + 0x400 * p.val)) (unlatch p) s)

/-- FORCE_OFF: a write of GATECTL, under the Tack. -/
def execForceOff (who : Requester) (p : Fin 8) (on : Bool) (s : State) : Host.Outcome State Fault Refusal :=
  complete s (guarded who (regAccess true (0x8014 + 0x400 * p.val)) (forceOff p on) s)

/-- DISCHARGE_END. -/
def execDischargeEnd (p : Fin 8) (vbusMv : Nat) (s : State) : Host.Outcome State Fault Refusal :=
  complete s (dischargeEnd p vbusMv s)

/-- REARM: a write of GRPCTL, under the Tack. -/
def execRearm (who : Requester) (g : Fin 2) (s : State) : Host.Outcome State Fault Refusal :=
  complete s (guarded who (regAccess true 0x500C) (rearm g) s)

/-- INPUT_DROOP. -/
def execInputDroop (p : Fin 8) (vinMv droopUs : Nat) (s : State) : Host.Outcome State Fault Refusal :=
  complete s (inputDroop p vinMv droopUs s)

/-- DROOP_RECOVER (R340). -/
def execDroopRecover (p : Fin 8) (s : State) : Host.Outcome State Fault Refusal :=
  complete s (modCinch p (fun c => { c with ew := false }) s)

/-- R345: no port of the group is in backfeed, or VIN_x is above every port's DROOP_V × 1.03. -/
def gcutMayClose (s : State) (g : Fin 2) : Bool :=
  !backfeedIn s g || (groupPorts g).all fun p => !(portCinch s p).ew

/-- BACKFEED_GCUT_CLOSE (R345). -/
def execBackfeedGcutClose (g : Fin 2) (s : State) : Host.Outcome State Fault Refusal :=
  complete s (if s.groups[g].gcutOpen && decide (s.groups[g].cause = 2) && gcutMayClose s g then gcutClose g s else s)

/-- COMPLIANCE_ENTER. -/
def execComplianceEnter (p : Fin 8) (s : State) : Host.Outcome State Fault Refusal := complete s (complianceEnter p s)

/-- COMPLIANCE_PERSIST (R353). -/
def execCompliancePersist (p : Fin 8) (s : State) : Host.Outcome State Fault Refusal :=
  complete s <|
    if (portCinch s p).compliance && !rootAlone s p then evp p 0x2026 3 (targetBytes s p) s else s

/-- COMPLIANCE_EXIT. -/
def execComplianceExit (p : Fin 8) (s : State) : Host.Outcome State Fault Refusal := complete s (complianceExit p s)

end Sys2Proof.Machine
end

