-- ==== Sys2Proof/Machine/TypeC.lean ====
section
/-! DEFINITION. The Type-C front end (chapter 09): debounces and attach, DRP and Try.SRC, VCONN and CC protection, the flood
detector and received packets at Root, Hush, and Hard Reset signalling. -/

namespace Sys2Proof.Machine

/-! ### Attach -/

def seenCode (c : CcSeen) : Nat := c.ctorIdx

def attachEvent (p : Fin 8) (s : State) : State :=
  let c := portCc s p
  evp p 0x2001 1 [stateByte c.state, BitVec.ofNat 8 (b2n c.orient), BitVec.ofNat 8 (seenCode c.cc1),
    BitVec.ofNat 8 (seenCode c.cc2)] s

/-- Attached.SRC: orientation, VCONN (R241, R242), and VBUS under the inrush setting. In Limp no VCONN is supplied. -/
def attachSrc (p : Fin 8) (s : State) : State :=
  let c := portCc s p
  let s := debounceDrop p s
  let s := modCc p (fun c => { c with state := .attachedSrc, orient := decide (c.cc2 = .rd), term := .rp (rpLevel c) }) s
  let s := modPd p (fun q => { q with source := true, dfp := true }) s
  let s := if isReady s && c.raSeen && vconnAllowed s p then vconnTurnOn p s else s
  turnOn p (attachEvent p s)

/-- Attached.SNK. (Log entry 108: DEDUCED, unsafe.) -/
def attachSnk (p : Fin 8) (s : State) : State :=
  let s := debounceDrop p s
  let s := modCc p (fun c => { c with state := .attachedSnk, orient := isRp c.cc2, term := .rd }) s
  attachEvent p (modPd p (fun q => { q with source := false, dfp := false, step := .snkWaitCaps }) s)

/-- Debug Accessory as source (R239) or sink (R240). -/
def debugEnter (p : Fin 8) (source : Bool) (s : State) : State :=
  let s := modCc p (fun c => { c with state := .debugAcc, debugSource := source }) (debounceDrop p s)
  let s := evp p 0x200A 2 [Config.codeByte 0x200A (b2n (!source))] s
  if source then turnOn p (modPd p (fun q => { q with source := true, dfp := true }) s) else s

/-- TryWait.SNK attaches once its debounce is over, Rp stands on one line, and VBUS is there (R238).
(Log entry 201: DEDUCED, unsafe.) -/
def tryWaitAttach (p : Fin 8) (s : State) : State :=
  let c := portCc s p
  if c.state = .tryWaitSnk ∧ c.debounce.isNone ∧ oneRp c ∧ 3670 ≤ vbusMv (portMetro s p) then attachSnk p s else s

/-- tCCDebounce has ended with the termination stable (R238 to R240).
(Log entries 20: PRESUMED, unsafe; 200: DESIGN CHOICE, unsafe.) -/
def ccComplete (p : Fin 8) (s : State) : State :=
  let s := modCc p (fun c => { c with debounce := none, debExtended := false }) s
  let c := portCc s p
  match c.state with
  | .attachWaitSrc =>
    if !srcSees c then s
    else if c.cc1 = .rd ∧ c.cc2 = .rd then debugEnter p true s
    else attachSrc p s
  | .attachWaitSnk =>
    if !snkSees c then s
    else if isRp c.cc1 && isRp c.cc2 then debugEnter p false s
    else if ccRole c = 2 ∧ flag c.cfg 9 then
      ccEvaluate p (present p (.rp (rpLevel c)) (setCcState p .trySrc s))
    else attachSnk p s
  | .tryWaitSnk => tryWaitAttach p s
  | _ => s

/-- tPDDebounce has ended (R650, and a source's detach). -/
def pdComplete (p : Fin 8) (s : State) : State :=
  let s := modCc p (fun c => { c with debounce := none, debExtended := false }) s
  let c := portCc s p
  match c.state with
  | .attachWaitSrc => if bothOpen c then goUnattached p s else s
  | .attachWaitSnk => if bothOpen c then goUnattachedAs p .snk s else s
  | .tryWaitSnk => if bothOpen c then goUnattachedAs p .snk s else s
  | .attachedSrc => if attachedSeen c = .rd then s else detach p s
  | .debugAcc => if c.debugSource && !(decide (c.cc1 = .rd) && decide (c.cc2 = .rd)) then detach p s else s
  | _ => s

/-- tTryCCDebounce has ended. (Log entry 20: PRESUMED, unsafe.) -/
def tryComplete (p : Fin 8) (s : State) : State :=
  let s := modCc p (fun c => { c with debounce := none, debExtended := false }) s
  if (portCc s p).state = .trySrc ∧ oneRd (portCc s p) then attachSrc p s else s

def debComplete (p : Fin 8) (t : DebTimer) (s : State) : State :=
  match t with
  | .cc => ccComplete p s
  | .pd => pdComplete p s
  | .tryCc => tryComplete p s

/-- R260: the interval is lengthened: a flag was set in it, no 40 ms of quiet have passed, nor 300 ms from the first. -/
def debLengthened (s : State) (c : CcPort) (d : Debounce) : Bool :=
  match d.firstFlood with
  | none => false
  | some f =>
    let quiet := !c.floodNow && match c.lastFlood with
      | some t => passed s t 40000
      | none => true
    !quiet && !passed s f 300000

/-- The programmed time of a debounce has passed; a lengthened one goes on (R260). -/
def debExpire (p : Fin 8) (t : DebTimer) (s : State) : State :=
  match (portCc s p).debounce with
  | some d =>
    if d.timer ≠ t ∨ (portCc s p).debExtended then s
    else if debLengthened s (portCc s p) d then modCc p (fun c => { c with debExtended := true }) s
    else debComplete p t s
  | none => s

/-- A lengthened debounce completes: 40 ms of quiet, or 300 ms from its first flag (R260); it is reported once (R261). -/
def debExtendedEnd (p : Fin 8) (t : DebTimer) (s : State) : State :=
  let c := portCc s p
  match c.debounce with
  | some d =>
    if d.timer = t ∧ c.debExtended ∧ !debLengthened s c d then
      debComplete p t (debReport p t ((s.time.now - d.startAt) / 1000 - debounceMs s p t) s)
    else s
  | none => s

/-- The Type-C machine runs, and its timers count (R16): the port's stand, or the mask ROM in Limp. -/
def ccRuns (s : State) (p : Fin 8) : Bool := standTimes s p || (s.boot.phase = .limp && s.power.refoscRunning)

/-- R237; a written configuration takes effect with the next Unattached state (R234). A port whose ROLE is source leaves the
Unattached.SNK of a sink's detach here (R651, R295). (Log entry 176: DEDUCED, unsafe.) -/
def drpToggle (p : Fin 8) (s : State) : State :=
  let c := portCc s p
  if standTimes s p && decide (ccRole c = 0) && decide (c.state = .unattachedSnk) then enterUnattached p .src s
  else if standTimes s p && decide (ccRole c = 2) && isUnattached c.state then
    if ccPending c then enterUnattached p (if c.state = .unattachedSrc then .snk else .src) s
    else if c.state = .unattachedSrc then
      ccEvaluate p (modCc p (fun c => { c with state := .unattachedSnk, term := .rd, drpSrcPhase := false }) s)
    else ccEvaluate p (modCc p (fun c => { c with
      state := .unattachedSrc, term := .rp (rpLevel c), drpSrcPhase := true }) s)
  else s

/-- The Try.SRC path of the Type-C specification (R238). (Log entry 20: PRESUMED, unsafe.) -/
def tryTimer (p : Fin 8) (t : TryTimer) (s : State) : State :=
  let toWait (s : State) : State := ccEvaluate p (present p .rd (setCcState p .tryWaitSnk (debounceDrop p s)))
  match t, (portCc s p).state with
  | .tryCcDebounce, .trySrc => debExpire p .tryCc s
  | .drpTry, .trySrc => if oneRd (portCc s p) then s else toWait s
  | .tryTimeout, .trySrc => if oneRd (portCc s p) then s else toWait s
  | .drpTryWait, .tryWaitSnk => if oneRp (portCc s p) then s else goUnattachedAs p .snk (debounceDrop p s)
  | _, _ => s

/-! ### Detach and recognition at Root -/

/-- A detach that Root sees in hold or after a fallback (R221). (Log entry 110: DEDUCED, unsafe.) -/
def rootDetach (p : Fin 8) (s : State) : State :=
  modHold p (fun h => { h with detached := true }) (holdOver p (rootDark p s))

/-- Root alone watches an attached port: hold, or the fallback after it, until the port's RESYNC; at a fallback with CC open
it sees no partner (R221), and mask-ROM behaviour changes no port (R647). -/
def rootWatches (s : State) (p : Fin 8) : Bool :=
  let h := s.strap.holds[p]
  h.wasAttached && h.outcome.isNone && !h.detached && !h.tripped && !(h.fellBack && h.fellBackOff) && s.strap.codeRunning
    && rootAlone s p

/-- R651 does not apply: a PR_Swap, an FR_Swap, or the VBUS transitions of a Hard Reset. -/
def vbusExempt (q : PdPort) : Bool :=
  match q.step with
  | .prsSrcAccepted | .prsSrcOff | .prsSrcWait | .prsSnkWait | .prsSnkOn | .frsWait | .frsPsWait => true
  | .hardResetHold | .hardResetOff | .snkHardReset => true
  | _ => false

/-- R651, R221. -/
def vbusDisconnect (p : Fin 8) (s : State) : State :=
  if rootWatches s p then (if s.strap.holds[p].wasSource then s else rootDetach p s)
  else if ccRuns s p && vbusDetaches s p && !vbusExempt (portPd s p) then detach p s
  else s

/-- What Root reports of two levels in a CC_EVENT (R200): the levels, whether they show a partner, and on which line. -/
def ccReport (c : CcPort) (cc1 cc2 : CcSeen) : CcReport :=
  let c := { c with cc1, cc2 }
  match c.term with
  | .rp _ => { cc1, cc2, attach := srcSees c, orient := decide (cc2 = .rd) }
  | .rd => { cc1, cc2, attach := snkSees c, orient := isRp cc2 }
  | .opened => { cc1, cc2, attach := false, orient := false }

/-- A line recognised below the 0.8 V that ends its discharge (R246): Ra, or what a sink takes for open or Rp Default
(Table 9.2). (Log entry 179: DESIGN CHOICE, unsafe.) -/
def belowDischarge (c : CcPort) (l : CcSeen) : Bool :=
  match c.term, l with
  | .rp _, l => l = .ra
  | _, l => l = .ra || l = .nothing || l = .rpDefault

/-- R232: Root's recognition of a CC line changes, and a CC_EVENT will tell the stand; in hold a source whose partner is gone
is detached. -/
def recognition (p : Fin 8) (cc1 cc2 : CcSeen) (s : State) : State :=
  let s := modCc p (fun c => { c with
    rootCc1 := cc1, rootCc2 := cc2
    ccDischarge := c.ccDischarge && !belowDischarge c (if c.orient then cc1 else cc2)
    events := if portReach s p then c.events ++ [ccReport c cc1 cc2] else [] }) s
  if rootWatches s p && s.strap.holds[p].wasSource && decide ((if (portCc s p).orient then cc2 else cc1) ≠ .rd) then
    rootDetach p s
  else if s.boot.phase = .limp then ccEvaluate p (modCc p (fun c => { c with cc1 := cc1, cc2 := cc2 }) s)
  else s

/-- The stand receives the oldest report of Root's (R200). -/
def ccEvent (p : Fin 8) (s : State) : State :=
  match (portCc s p).events with
  | [] => s
  | e :: t =>
    let s := modCc p (fun c => { c with cc1 := e.cc1, cc2 := e.cc2, events := t }) s
    if standActs s p then ccEvaluate p s else s

/-! ### VCONN and CC protection -/

/-- The line that carries VCONN: 0 CC1, 1 CC2, as ORIENT numbers them. -/
def vconnLine (c : CcPort) : Byte := if c.orient then 0 else 1

/-- R244, R245, R290. -/
def vconnOc (p : Fin 8) (s : State) : State :=
  if !(portCc s p).vconnOn then s else
  let s := modCc p (fun c => { c with vconnOc := true, vconnLatched := true }) (vconnOff p s)
  let s := rootEv (portEv p 0x2005 4 [vconnLine (portCc s p)]) s
  if (portPd s p).step = .vcsOn ∧ standActs s p then hardReset p true 3 s else s

/-- R247. Made by Root alone, CC_OVP_TRIP follows the restore. (Log entry 111: DEDUCED, unsafe.) -/
def ccOvp (p : Fin 8) (line : Bool) (s : State) : State :=
  let st := stateByte (portCc s p).state
  let s := present p .opened (vconnOff p s)
  let s := modCc p (fun c => { c with ccOvp := true, ovpTrip := true }) s
  let s := rootEv (portEv p 0x2006 5 [BitVec.ofNat 8 (b2n line), st]) s
  if rootAlone s p then rootTrip p 0 0 s else errorRecovery p s

/-! ### Flood (R252 to R258) and packets at Root -/

/-- FLOODCFG enables a band (R252). -/
def bandOn (c : CcPort) (high : Bool) : Bool := flag c.floodCfg (if high then 6 else 7)

/-- R253, R258: a band exceeds THR; `inPacket` is the bit position when a packet is being received (R255). -/
def floodSet (p : Fin 8) (high : Bool) (inPacket : Option Nat) (s : State) : State :=
  if !bandOn (portCc s p) high || (portCc s p).floodNow then s else
  modCc p (fun c => { c with
    floodNow := true, floodHigh := high, floodIdle := if inPacket.isSome then c.floodIdle else bump 10 c.floodIdle
    pktFlood := c.pktFlood <|> inPacket.map fun b => (high, b)
    debounce := c.debounce.map fun d => { d with firstFlood := d.firstFlood <|> some s.time.now } }) s

/-- R253: the flag clears. Cleared while a packet is being received, it was set at that packet's start at the latest. -/
def floodClear (p : Fin 8) (inPacket : Bool) (s : State) : State :=
  if !(portCc s p).floodNow then s else
  modCc p (fun c => { c with
    floodNow := false, lastFlood := some s.time.now
    pktFlood := if inPacket then c.pktFlood <|> some (c.floodHigh, 0) else c.pktFlood }) s

/-- R255: the packet that ends now is flooded: the band and bit position of its first flag. -/
def packetFlood (c : CcPort) : Option (Bool × Nat) :=
  c.pktFlood <|> if c.floodNow then some (c.floodHigh, 0) else none

/-- R256: a FLOOD entry at most once in 10 ms. -/
def floodEntry (p : Fin 8) (high : Bool) (bit : Nat) (s : State) : State :=
  let c := portCc s p
  if rootSeen s && due s c.floodEntryAt 10000 then
    evp p 0x2003 2 (Config.codeByte 0x2003 (b2n high) :: le 2 (satTo 16 bit) ++ [BitVec.ofNat 8 (satTo 8 c.floodUnlogged)])
      (modCc p (fun c => { c with floodEntryAt := some s.time.now, floodUnlogged := 0 }) s)
  else modCc p (fun c => { c with floodUnlogged := c.floodUnlogged + 1 }) s

/-- A flooded packet (R255, R256, R265); `floodTimes` keeps when FLOOD_PKTS rose (R266). -/
def floodPacket (p : Fin 8) (high : Bool) (bit : Nat) (s : State) : State :=
  let s := modCc p (fun c => { c with
    floodPkts := bump 12 c.floodPkts
    floodTimes := recent s 1000000 c.floodTimes ++ (if (bump 12 c.floodPkts).n = c.floodPkts.n then [] else [s.time.now]) }) s
  let s := floodEntry p high bit s
  if (portCc s p).hushStatus = .opened then
    evp p 0x2009 3 (le 2 (satTo 16 ((s.time.now - (portCc s p).hushOpenAt) / 100))) s
  else s

/-- BMC works at a port: on an attached CC line only (R241), not in Debug Accessory (R239), not once CC_OVP has disconnected
the lines (R247), and not in Limp; with the oscillator stopped there is no bit time (R16). A held port keeps its line. -/
def bmcOn (s : State) (p : Fin 8) : Bool :=
  let c := portCc s p
  s.power.refoscRunning && decide (s.boot.phase ≠ .limp) && !c.ovpTrip && decide (c.term ≠ .opened)
    && (isAttached c.state || decide (c.state = .rootHold))

/-- R250: Root answers a good packet that is not flooded with GoodCRC on its ordered set; in hold it sends none (R219), and
GoodCRC itself is never answered. -/
def goodCrcFor (s : State) (p : Fin 8) (pkt : BmcPacket) : Bool :=
  isReady s && pkt.crcOk && (packetFlood (portCc s p)).isNone && !rootAlone s p && decide (pkt.msg ≠ .goodCrc)

/-- R251: the packet goes to the stand in a PD_RX frame, while Crown can be told. -/
def packetForward (p : Fin 8) (pkt : BmcPacket) (flooded : Bool) (s : State) : State :=
  if isReady s && pkt.crcOk && portReach s p then
    modPd p (fun q => { q with
      rxq := q.rxq ++ [{ flooded, sop := pkt.sop, flaw := pkt.flaw, msg := pkt.msg, pol := pkt.pol }] }) s
  else s

/-- Root receives a packet on an attached line (R241, R250, R251, R255, R256, R273). -/
def packetRx (p : Fin 8) (pkt : BmcPacket) (s : State) : State :=
  if !bmcOn s p then s else
  let fl := packetFlood (portCc s p)
  let crc := goodCrcFor s p pkt
  let s := if pkt.crcOk then s else modPd p (fun q => { q with crcErrs := bump 12 q.crcErrs }) s
  let s := match fl with
    | some b => floodPacket p b.1 b.2 s
    | none => s
  let s := packetForward p pkt fl.isSome (modCc p (fun c => { c with pktFlood := none }) s)
  modPd p (fun q => { q with line := if crc then some { sop := pkt.sop, msg := .goodCrc } else none }) s

/-! ### Hush (R262 to R267) -/

/-- R262. -/
def hushAllowed (s : State) (p : Fin 8) : Bool :=
  let q := portPd s p
  decide (s.pattern.hushSvid ≠ 0) && q.dfp && q.explicit && q.hushMode && decide (q.ams = 0) && standActs s p

def hushBusy (c : CcPort) : Bool :=
  match c.hushStatus with
  | .pending | .granted | .opened => true
  | _ => false

/-- (Log entry 119: DEDUCED, unsafe.) -/
def hushSend (p : Fin 8) (s : State) : State :=
  if hushBusy (portCc s p) then s
  else if hushAllowed s p then
    let c := portCc s p
    let s := amsStart p amsHush (modCc p (fun c => { c with hushStatus := .pending, hushAsked := hushWindow c }) s)
    pdSend p (.hushReq (hushHeader s 0) (hushVdo (c.hushReg.extractLsb' 16 8) (hushWindow c))) s
  else modCc p (fun c => { c with hushStatus := .notAvailable }) s

/-- A write of HUSHCTL. -/
def hushCtlWrite (p : Fin 8) (v : Word) (s : State) : State :=
  let s := modCc p (fun c => { c with hushReg := v &&& 0x00FFFFFF }) s
  if flag v 31 then hushSend p s else s

/-- R266: the automatic request. -/
def hushAuto (p : Fin 8) (s : State) : State :=
  let c := portCc s p
  let n := field c.floodCfg 23 16
  if flag c.floodCfg 15 && decide (n ≠ 0) && decide (n ≤ (recent s 1000000 c.floodTimes).length) && due s c.hushAutoAt 1000000
  then
    -- the limit counts requests that are sent
    let sends := !hushBusy c && hushAllowed s p
    hushSend p (if sends then modCc p (fun c => { c with hushAutoAt := some s.time.now }) s else s)
  else s

/-! ### Register writes and words -/

/-- R234: effective at once while Unattached. -/
def ccAdopt (p : Fin 8) (s : State) : State :=
  if isUnattached (portCc s p).state && standActs s p && ccPending (portCc s p) then
    enterUnattached p (if (portCc s p).state = .unattachedSnk then .snk else .src) s
  else s

/-- CCCFG; a write of 0b11 leaves ROLE unchanged. -/
def ccCfgWrite (p : Fin 8) (v : Word) (s : State) : State :=
  ccAdopt p (modCc p (fun c =>
    let v := v &&& 0x00000EF0
    { c with cfgW := if field v 5 4 = 3 then (v &&& ~~~(0x30 : Word)) ||| (c.cfgW &&& 0x30) else v }) s)

def ccTimeWrite (p : Fin 8) (second : Bool) (v : Word) (s : State) : State :=
  ccAdopt p (modCc p (fun c =>
    if second then { c with time1W := v &&& 0xFFFFFF00 } else { c with time0W := v &&& 0xFFFFFF00 }) s)

def ccRegWrite (p : Fin 8) (reg : Fin 3) (v : Word) (s : State) : State :=
  match reg with
  | 0 => ccCfgWrite p v s
  | 1 => ccTimeWrite p false v s
  | 2 => ccTimeWrite p true v s

/-- CCSTAT: VCONN_OC and CC_OVP. -/
def ccStatWrite (p : Fin 8) (v : Word) (s : State) : State :=
  modCc p (fun c => { c with vconnOc := c.vconnOc && !flag v 15, ccOvp := c.ccOvp && !flag v 14 }) s

def floodCfgWrite (p : Fin 8) (v : Word) (s : State) : State :=
  let on := flag v 7 || flag v 6
  modCc p (fun c => { c with
    floodCfg := v &&& 0x00FF87C0, floodNow := c.floodNow && on
    lastFlood := if c.floodNow && !on then some s.time.now else c.lastFlood }) s

def ccCountWrite (p : Fin 8) (v : Word) (s : State) : State :=
  modCc p (fun c => { c with
    debExts := if flag v 2 then {} else c.debExts, floodIdle := if flag v 1 then {} else c.floodIdle
    floodPkts := if flag v 0 then {} else c.floodPkts }) s

def ccStatWord (c : CcPort) : Word :=
  mkWord [(24, c.state.ctorIdx), (21, seenCode c.cc1), (18, seenCode c.cc2), (17, b2n c.orient), (16, b2n c.vconnOn),
    (15, b2n c.vconnOc), (14, b2n c.ccOvp), (13, b2n c.floodNow), (12, b2n c.debExtended), (11, b2n c.floodNow)]

def ccCountWord (c : CcPort) : Word :=
  mkWord [(20, c.floodPkts.n), (10, c.floodIdle.n), (4, c.debExts.n), (2, b2n c.debExts.sat), (1, b2n c.floodIdle.sat),
    (0, b2n c.floodPkts.sat)]

def hushCtlWord (c : CcPort) : Word := mkWord [(28, c.hushStatus.ctorIdx), (0, field c.hushReg 23 0)]

/-! ### The family's meanings -/

/-- CC_DEBOUNCE_EXPIRE. -/
def execCcDebounceExpire (p : Fin 8) (s : State) : Host.Outcome State Fault Refusal :=
  complete s (if ccRuns s p then debExpire p .cc s else s)

/-- PD_DEBOUNCE_EXPIRE. -/
def execPdDebounceExpire (p : Fin 8) (s : State) : Host.Outcome State Fault Refusal :=
  complete s (if ccRuns s p then debExpire p .pd s else s)

/-- DEBOUNCE_EXTENDED: the lengthened debounce completes. -/
def execDebounceExtended (p : Fin 8) (timer : DebTimer) (s : State) : Host.Outcome State Fault Refusal :=
  complete s (if ccRuns s p then debExtendedEnd p timer s else s)

/-- DRP_TOGGLE. -/
def execDrpToggle (p : Fin 8) (s : State) : Host.Outcome State Fault Refusal := complete s (drpToggle p s)

/-- TRY_TIMER_EXPIRE. -/
def execTryTimerExpire (p : Fin 8) (t : TryTimer) (s : State) : Host.Outcome State Fault Refusal :=
  complete s (if standTimes s p then tryTimer p t s else s)

/-- VBUS_DISCONNECT. -/
def execVbusDisconnect (p : Fin 8) (s : State) : Host.Outcome State Fault Refusal := complete s (vbusDisconnect p s)

/-- VCONN_OC_TRIP. -/
def execVconnOcTrip (p : Fin 8) (s : State) : Host.Outcome State Fault Refusal := complete s (vconnOc p s)

/-- CC_OVP_TRIP; the line is CC2 when `line`. -/
def execCcOvpTrip (p : Fin 8) (line : Bool) (s : State) : Host.Outcome State Fault Refusal := complete s (ccOvp p line s)

/-- ERROR_RECOVERY_END: tErrorRecovery has elapsed; after a CC_OVP trip the port leaves only once both CC lines have been
below 5.5 V for 10 ms (`ccLow`, R248). -/
def execErrorRecoveryEnd (p : Fin 8) (ccLow : Bool) (s : State) : Host.Outcome State Fault Refusal :=
  complete s <|
    if (portCc s p).state = .errorRecovery ∧ ccRuns s p ∧ (!(portCc s p).ovpTrip ∨ ccLow) then goUnattached p s
    else s

/-- CC_CONFIG_WRITE: CCCFG, CCTIME0 or CCTIME1, under the Tack. -/
def execCcConfigWrite (who : Requester) (p : Fin 8) (reg : Fin 3) (v : Word) (s : State) :
    Host.Outcome State Fault Refusal :=
  complete s (guarded who (regAccess true (0x8100 + 0x400 * p.val + 4 * reg.val)) (ccRegWrite p reg v) s)

/-- BMC_PACKET_RX. -/
def execBmcPacketRx (p : Fin 8) (pkt : BmcPacket) (s : State) : Host.Outcome State Fault Refusal :=
  complete s (packetRx p pkt s)

/-- FLOOD_SET. -/
def execFloodSet (p : Fin 8) (high : Bool) (inPacket : Option Nat) (s : State) : Host.Outcome State Fault Refusal :=
  complete s (floodSet p high inPacket s)

/-- FLOOD_CLEAR. -/
def execFloodClear (p : Fin 8) (inPacket : Bool) (s : State) : Host.Outcome State Fault Refusal :=
  complete s (floodClear p inPacket s)

/-- HUSH_REQUEST: a write of HUSHCTL under the Tack, or the automatic trigger. -/
def execHushRequest (p : Fin 8) (w : Option (Requester × Word)) (s : State) : Host.Outcome State Fault Refusal :=
  complete s <|
    match w with
    | some (who, v) => guarded who (regAccess true (0x8118 + 0x400 * p.val)) (hushCtlWrite p v) s
    | none => hushAuto p s

/-- HUSH_REFUSED. -/
def execHushRefused (p : Fin 8) (cause : HushRefusal) (s : State) : Host.Outcome State Fault Refusal :=
  complete s (if standTimes s p then hushRefuse p cause s else s)

/-- HUSH_WINDOW_OPEN. -/
def execHushWindowOpen (p : Fin 8) (s : State) : Host.Outcome State Fault Refusal :=
  complete s <|
    if standTimes s p ∧ (portCc s p).hushStatus = .granted then
      modCc p (fun c => { c with hushStatus := .opened, hushOpenAt := s.time.now }) s
    else s

/-- HUSH_WINDOW_END. -/
def execHushWindowEnd (p : Fin 8) (s : State) : Host.Outcome State Fault Refusal :=
  complete s <|
    if standTimes s p ∧ (portCc s p).hushStatus = .opened then modCc p (fun c => { c with hushStatus := .idle }) s else s

/-- HARD_RESET_SIGNAL: received; in hold the port takes its fallback (R221, R303). -/
def execHardResetSignal (p : Fin 8) (s : State) : Host.Outcome State Fault Refusal :=
  complete s <|
    if !bmcOn s p then s
    else if s.strap.holds[p].inHold then modHold p (fun h => { h with hardReset := true }) (takeFallback p s)
    else if standActs s p && isAttached (portCc s p).state then hardReset p false 0 s
    else s

/-- BACKFEED_END (R295, R345): the detach of R651, or the PR_Swap that waits for GCUT to close. -/
def execBackfeedEnd (p : Fin 8) (isDetach : Bool) (s : State) : Host.Outcome State Fault Refusal :=
  complete s <|
    if !(portCinch s p).backfeed then s
    else if isDetach then vbusDisconnect p s
    else if s.groups[groupOf p].gcutOpen then s
    else if portPowered s p && standTimes s p then swapAsk p amsPrSwap .prsSent .prSwap s
    else s

/-- CC_RECOGNITION_CHANGE. -/
def execCcRecognitionChange (p : Fin 8) (cc1 cc2 : CcSeen) (s : State) : Host.Outcome State Fault Refusal :=
  complete s (recognition p cc1 cc2 s)

end Sys2Proof.Machine
end

