-- ==== Sys2Proof/Machine/Metro.lean ====
section
/-! DEFINITION. Metrology and the outer loop (chapter 13), with the I²t curve and the ceiling that work on its readings
(R325, R326, R349). Voltages are held in µV and 0.25 mV units, currents in 0.1 mA units. -/

namespace Sys2Proof.Machine

/-! ### Configuration -/

def vsetGainUv (m : MetroPort) : Nat := 20 * max 1 (field m.loopCfg 31 24)
def loopKi (m : MetroPort) : Nat := max 1 (field m.loopCfg 23 20)
def loopMaxStep (m : MetroPort) : Int := (max 1 (field m.loopCfg 19 16) : Nat)
def loopRampUv (m : MetroPort) : Nat := 250000 * max 1 (field m.loopCfg 15 10)

/-- A field of `w` bits as two's complement. -/
def signedField (v w : Nat) : Int := if v < 2 ^ (w - 1) then v else (v : Int) - (2 ^ w : Nat)

/-- The nearest integer to a quotient; a tie goes up. (Log entry 21: DEDUCED, unsafe.) -/
def roundDiv (a : Int) (b : Nat) : Int := (2 * a + b) / (2 * b : Nat)

/-! ### Readings (R381 to R385) -/

/-- The current of a shunt voltage in nV, in 0.1 mA units; a free value while RSNS is outside 2,000 to 20,000 µΩ.
(Log entry 128: DESIGN CHOICE, safe.) -/
def currentOf (s : State) (m : MetroPort) (nv : Int) : Int × State :=
  let rsns := field m.shuntCfg 31 16
  if 2000 ≤ rsns ∧ rsns ≤ 20000 then
    let v := max (-150000000) (min 150000000 nv)
    (Int.tdiv (v * 10 * (1000000 + signedField (field m.shuntCfg 15 0) 16)) (rsns * 1000000 : Nat), s)
  else (signedField ((freeValue s).toNat % 2 ^ 21) 21, drawn s)

/-- The voltage channel repeats its reading: a calibration window (R389), or a sample window of a sweep (R431). -/
def voltsRepeat (m : MetroPort) (r : Reading) : Bool := r.calV.isSome || m.sampled

/-- The port's reading pair of one window; a channel in its calibration window repeats its reading (R389).
(Log entry 129: DEDUCED, unsafe.) -/
def takeReading (p : Fin 8) (r : Reading) (s : State) : State :=
  let m := portMetro s p
  let c := currentOf s m r.shuntNv
  let rep := voltsRepeat m r
  modMetro p (fun m => { m with
    seq := m.seq + 1, vCal := rep, iCal := r.calI.isSome, stale := !strapUp s, sampled := false
    vbus := if rep then m.vbus else min 262140 r.vbus
    ibus := if r.calI.isSome then m.ibus else c.1
    ovr := if r.calI.isSome then m.ovr else decide (150000000 < r.shuntNv.natAbs) }) c.2

/-! ### Metrology fault (R390, R391, R394, R395) -/

/-- A port enters metrology fault, unless the Pattern marks it unused (Table 2.9); the channel is 0 voltage, 1 current
(free codes). (Log entry 16: DESIGN CHOICE, safe.) -/
def metroFault (p : Fin 8) (cause : Nat) (channel : Nat) (s : State) : State :=
  if !portUsed s p then s
  else if (portMetro s p).fault then
    if cause = 5 then modMetro p (fun m => { m with cause := 5 }) s else s
  else
    let s := modMetro p (fun m => { m with
      fault := true, cause := BitVec.ofNat 4 cause, faultAt := s.time.now, faultCount := bump 8 m.faultCount
      vZero := false, vGain := false, iZero := false, iGain := false, confCount := 0 }) s
    rootEv (portEv p 0x2030 5 [BitVec.ofNat 8 cause, Config.codeByte 0x2030 channel]) s

/-- R395. -/
def metroRecover (p : Fin 8) (s : State) : State :=
  let m := portMetro s p
  if m.fault && m.vZero && m.vGain && m.iZero && m.iGain && (decide (m.cause ≠ 5) || decide (2 ≤ s.metro.refClean)) then
    rootEv (portEv p 0x2031 2 (le 2 (satTo 16 ((s.time.now - m.faultAt) / 1000))))
      (modMetro p (fun m => { m with fault := false, cause := 0 }) s)
  else s

/-- A channel's next calibration window: of kind `gain`, a repeat after a first bad result when `bad`. -/
def calNext (volts gain bad : Bool) (m : MetroPort) : MetroPort :=
  if volts then { m with vGainNext := gain, vBad := bad } else { m with iGainNext := gain, iBad := bad }

/-- One calibration window of the voltage (true) or current channel: zero and gain windows in turn, a window with a result
that is not used repeated once (R390, R391). (Log entry 203: DESIGN CHOICE, unsafe.) -/
def calWindow (p : Fin 8) (volts : Bool) (w : CalWin) (s : State) : State :=
  let m := portMetro s p
  let gain := if volts then m.vGainNext else m.iGainNext
  let again := if volts then m.vBad else m.iBad
  let open_ := !gain && decide ((if volts then 100 else 10) < w.shiftMv)
  let ch := if volts then 0 else 1
  if open_ then metroFault p (if volts then 3 else 4) ch (modMetro p (calNext volts true false) s)
  else if 200 < w.dev.natAbs then
    if again then metroFault p (if gain then 2 else 1) ch (modMetro p (calNext volts (!gain) false) s)
    else modMetro p (calNext volts gain true) s
  else
    let s := modMetro p (fun m =>
      let m := calNext volts (!gain) false m
      if volts then { m with vCorr := m.vCorr + w.dev, vZero := m.vZero || !gain, vGain := m.vGain || gain }
      else { m with iCorr := m.iCorr + w.dev, iZero := m.iZero || !gain, iGain := m.iGain || gain }) s
    metroRecover p s

def calWindows (p : Fin 8) (r : Reading) (s : State) : State :=
  let s := match r.calV with
    | some w => calWindow p true w s
    | none => s
  match r.calI with
  | some w => calWindow p false w s
  | none => s

/-! ### Energy (R397, R398) -/

/-- 0.25 mV × 0.1 mA × 1 ms is 25 pJ; 1 mJ is 4 × 10⁷ of them. -/
def energyUnits : Nat := 40000000

def energyStep (p : Fin 8) (s : State) : State :=
  let m := portMetro s p
  let e := m.vbus * m.ibus.natAbs
  if 0 < m.ibus then
    let n := m.eoutRem + e
    let t := m.eout.toNat + n / energyUnits
    let s := modMetro p (fun m => { m with eout := BitVec.ofNat 32 t, eoutRem := n % energyUnits }) s
    if 2 ^ 32 ≤ t then rootEv (portEv p 0x2034 1 [0]) s else s
  else
    let n := m.einRem + e
    let t := m.ein.toNat + n / energyUnits
    let s := modMetro p (fun m => { m with ein := BitVec.ofNat 32 t, einRem := n % energyUnits }) s
    if 2 ^ 32 ≤ t then rootEv (portEv p 0x2034 1 [1]) s else s

/-! ### The effective target (R348, R405, R406) -/

/-- The contract current in 0.1 mA units (R325): the RDO's, or without an explicit contract the Type-C current, which a
sink reads from the partner's Rp. -/
def contractI (s : State) (p : Fin 8) : Nat :=
  let q := portPd s p
  if q.explicit then 10 * reqMa q.pdo q.rdo
  else if q.source then
    match rpLevel (portCc s p) with
    | 0 => 5000
    | 1 => 15000
    | 2 => 30000
  else
    match attachedSeen (portCc s p) with
    | .rp15 => 15000
    | .rp30 => 30000
    | _ => 5000

def ppsLimited (s : State) (p : Fin 8) : Bool :=
  let q := portPd s p
  q.explicit && q.source && pdoPps q.pdo && flag (portMetro s p).loopCfg 9

def vbusUv (m : MetroPort) : Nat := 250 * m.vbus

/-! ### The loop (R399 to R402) -/

/-- The metrology loop's stand has stalled: it is being reloaded, or stays down (R129, R130).
(Log entry 72: DEDUCED, unsafe.) -/
def loopStalled (s : State) : Bool :=
  s.grain.stands.toList.any fun t => decide (t.role = 4) && (t.reloading || t.out)

/-- R399: the loop moves the code of a port that is no sink. (Log entries 22: DEDUCED, unsafe; 72: DEDUCED, unsafe.) -/
def loopRuns (s : State) (p : Fin 8) : Bool :=
  let m := portMetro s p
  let c := portCinch s p
  isReady s && !rootAlone s p && !loopStalled s && decide ((portCc s p).state ≠ .attachedSnk) && !c.backfeed && !inrushing c
    && flag m.loopCfg 8 && !m.fault

/-- The PPS limit after a reading pair (R405, R406), by a loop that acts (R399). -/
def clStep (p : Fin 8) (s : State) : State :=
  if !ppsLimited s p then modMetro p (fun m => { m with clUv := none }) s
  else if !loopRuns s p then s else
  let m := portMetro s p
  let iop := contractI s p
  let want := 1000 * (portCinch s p).contractMv
  let rule : Nat := if 0 < m.ibus then vbusUv m * iop / m.ibus.toNat else want
  if (iop : Int) < m.ibus then modMetro p (fun m => { m with clUv := some rule }) s
  else match m.clUv with
    | some _ =>
      if 100 * m.ibus < 97 * (iop : Int) then
        modMetro p (fun m => { m with clUv := if rule < want then some rule else none }) s
      else s
    | none => s

/-- R403: the target as it now is; CONFIRMED clears at a change. -/
def retarget (p : Fin 8) (s : State) : State :=
  let t := targetUvOf s p
  if (portMetro s p).targetUv = t then s
  else modMetro p (fun m => { m with targetUv := t, confirmed := false, confCount := 0 }) s

/-- It holds the reading of a source whose gates are on. (Log entry 22: DEDUCED, unsafe.) -/
def loopActs (s : State) (p : Fin 8) : Bool := loopRuns s p && (portPd s p).source && (portCinch s p).gates

/-- LIM_POS, at or above 0, and LIM_NEG, at or below 0; a field out of its range acts as its nearest end. -/
def limPos (c : CinchPort) : Int := max 0 (signedField (field c.vsetLim 31 16) 16)
def limNeg (c : CinchPort) : Int := min 0 (signedField (field c.vsetLim 15 0) 16)

/-- R347. -/
def limitCode (c : CinchPort) (v : Int) : Int := max (limNeg c) (min (limPos c) v)

def moveCode (p : Fin 8) (d : Int) (s : State) : State :=
  let c := portCinch s p
  setCode p (limitCode c (c.vset + d)) s

/-- The target the loop works toward, one RAMP step nearer. -/
def rampTo (work target ramp : Nat) : Nat :=
  if work < target then min target (work + ramp) else max target (work - ramp)

/-- (Log entries 21: DEDUCED, unsafe; 22: DEDUCED, unsafe.) -/
def loopStep (p : Fin 8) (s : State) : State :=
  if !loopRuns s p then s else
  let m := portMetro s p
  let w := rampTo m.workUv m.targetUv (loopRampUv m)
  if w ≠ m.workUv then
    moveCode p (roundDiv ((w : Int) - m.workUv) (vsetGainUv m))
      (modMetro p (fun m => { m with workUv := w, codeChanged := false }) s)
  else if m.codeChanged then modMetro p (fun m => { m with codeChanged := false }) s
  else if !loopActs s p then s
  else
    let err : Int := (m.targetUv : Int) - vbusUv m
    if err.natAbs ≤ m.targetUv / 2000 + 1000 then s
    else
      let d := roundDiv (loopKi m * err) (16 * vsetGainUv m)
      moveCode p (max (-loopMaxStep m) (min (loopMaxStep m) d)) s

/-- LOOPSTAT.MODE. -/
def loopMode (s : State) (p : Fin 8) : Nat :=
  let m := portMetro s p
  if !(portPd s p).source || !isReady s then 0
  else if m.fault || rootAlone s p || loopStalled s then 4
  else if !loopActs s p then 0
  else if m.clUv.isSome then 3
  else if m.workUv ≠ m.targetUv then 1 else 2

/-! ### Confirmation, inrush, alarms, the ceiling and I²t -/

/-- R403, R394; a sink's level is confirmed alike (R324). No level is confirmed while Root alone holds the port (R218,
R127). -/
def confirmStep (p : Fin 8) (s : State) : State :=
  let m := portMetro s p
  if m.fault || rootAlone s p then s else
  let inside := decide (((m.targetUv : Int) - vbusUv m).natAbs ≤ m.targetUv / 1000 + 2000)
  if !inside then modMetro p (fun m => { m with confCount := 0 }) s
  else if 1 ≤ m.confCount then
    -- R324: the OV threshold moves to the new voltage
    levelConfirmed p (modMetro p (fun m => { m with confirmed := true, confCount := 2 })
      (modCinch p (fun c => { c with oldMv := c.contractMv }) s))
  else modMetro p (fun m => { m with confCount := 1 }) s

/-- R320: two consecutive readings of VBUS at or above 4.75 V. -/
def inrushStep (p : Fin 8) (s : State) : State :=
  let c := portCinch s p
  if !inrushing c ∨ !s.pgs[p].owned ∨ (portMetro s p).fault then s
  else if (portMetro s p).vbus < 19000 then modCinch p (fun c => { c with inrushReadings := 0 }) s
  else if 1 ≤ c.inrushReadings then inrushEnd p s
  else modCinch p (fun c => { c with inrushReadings := 1 }) s

/-- R349: the ceiling binds, by the effective target of R348 where that is not above the PPS limit (chapter 13, "When
things collide"), or at LIM_POS; at a source whose inrush is over. (Log entry 22: DEDUCED, unsafe.) -/
def ceilingBinds (s : State) (p : Fin 8) : Bool :=
  let c := portCinch s p
  let m := portMetro s p
  let lower := match m.clUv with
    | some l => decide (1000 * effectiveMv s p ≤ l)
    | none => true
  (portPd s p).source && c.gates && !inrushing c && ((decide (effectiveMv s p < c.contractMv) && lower)
    || (decide (c.vset = limPos c) && decide (vbusUv m + m.targetUv / 1000 + 2000 < m.targetUv)))

/-- CEILING after a reading; a metrology fault keeps it until readings return (chapter 11, "When things collide"). -/
def ceilingStep (p : Fin 8) (s : State) : State :=
  if (portMetro s p).fault then s else modCinch p (fun c => { c with ceiling := ceilingBinds s p }) s

/-- R396. -/
def alarmStep (p : Fin 8) (s : State) : State :=
  let m := portMetro s p
  let c := portCinch s p
  let skip := !(portPd s p).source || rootAlone s p || inrushing c || c.compliance
    || inTransition (portPd s p).step
  if skip then modMetro p (fun m => { m with ovCount := 0, uvCount := 0 }) s else
  let above := decide (m.targetUv + m.targetUv / 20 < vbusUv m)
  let below := decide (vbusUv m < m.targetUv - m.targetUv / 20)
  let data := le 2 (satTo 16 (m.targetUv / 1000)) ++ le 2 (satTo 16 (vbusMv m))
  let nOv := if above then m.ovCount + 1 else 0
  let nUv := if below then m.uvCount + 1 else 0
  let out := above || below
  let ov := (m.ov && out) || decide (2 ≤ nOv)
  let uv := (m.uv && out) || decide (10 ≤ nUv)
  let s := modMetro p (fun m => { m with ovCount := nOv, uvCount := nUv, ov := ov, uv := uv }) s
  let s := if ov && !m.ov then evp p 0x2032 4 data s else s
  if uv && !m.uv then evp p 0x2033 3 data s else s

/-- R325, R326: one sample on the I²t curve, which does not act on a port in hold (R219, R127). -/
def i2tStep (p : Fin 8) (s : State) : State :=
  let c := portCinch s p
  let m := portMetro s p
  if !isReady s || rootAlone s p || m.fault || inrushing c then s else
  let i := 16 * m.ibus.natAbs
  let it := contractI s p * (16 + field c.i2tCfg 11 8)
  let a := if it < i then c.i2t + (i * i - it * it) else c.i2t - (it * it - i * i)
  let s := modCinch p (fun c => { c with i2t := a }) s
  let limit := field c.i2tCfg 31 16 * (256 * 10 ^ 9)
  if limit ≠ 0 ∧ limit ≤ a ∧ c.gates then
    afterTrip p 4 (evp p 0x2022 5 (le 2 (satTo 16 (m.ibus.natAbs / 10))) s)
  else s

/-- What Crown's stands do with a reading pair: the port's limits and the loop, whose voltage part leaves out a repeated
reading (R389), and the I²t curve. -/
def crownReading (p : Fin 8) (s : State) : State :=
  let m := portMetro s p
  let s := if m.iCal || m.vCal then s else clStep p s
  let s := retarget p s
  let s := if m.vCal then s else alarmStep p (ceilingStep p (inrushStep p (confirmStep p (loopStep p s))))
  i2tStep p s

/-- One reading pair and everything that acts on it; while Root alone has the port, only what Root does (R217, R127).
(Log entries 129: DEDUCED, unsafe; 130: DEDUCED, unsafe.) -/
def metroReading (p : Fin 8) (r : Reading) (s : State) : State :=
  if !s.strap.codeRunning then s else
  let s := { s with power := { s.power with vinMv := s.power.vinMv.set (groupOf p) r.vinMv } }
  match r.silent with
  | some ch => metroFault p 6 ch.val s
  | none =>
  let s := energyStep p (calWindows p r (takeReading p r s))
  let dark (s : State) : State := if (portMetro s p).vCal then s else tryWaitAttach p (prsDark p (vbusMv (portMetro s p)) s)
  if rootAlone s p then
    let s := modMetro p (fun m => { m with confCount := 0 }) s
    if (portMetro s p).vCal then s else inrushStep p s
  else dark (crownReading p s)

/-! ### The reference (R392) -/

def refCheck (dev : Int) (s : State) : State :=
  let bad := decide (300 < dev.natAbs)
  let was := s.metro.refFault
  let s := { s with metro := { s.metro with
    refDev := dev, refFault := bad, refClean := if bad then 0 else s.metro.refClean + 1 } }
  if bad then
    let s := if was then s else rootEv (devEv 0x0F02 6 (le 2 (satSigned 16 dev))) s
    onPorts allPorts (fun p s => metroFault p 5 0 s) s
  else onPorts allPorts metroRecover s

/-! ### Registers -/

def loopCfgWrite (p : Fin 8) (v : Word) (s : State) : State := modMetro p (fun m => { m with loopCfg := v &&& 0xFFFFFF00 }) s
def shuntCfgWrite (p : Fin 8) (v : Word) (s : State) : State := modMetro p (fun m => { m with shuntCfg := v }) s
def mstatWrite (p : Fin 8) (v : Word) (s : State) : State :=
  if flag v 23 then modMetro p (fun m => { m with faultCount := {} }) s else s

def metroStale (s : State) (m : MetroPort) : Bool := m.stale || !strapUp s

/-- (Log entry 9: DESIGN CHOICE, unsafe.) -/
def mvbusWord (s : State) (m : MetroPort) : Word :=
  mkWord [(14, satTo 18 m.vbus), (8, m.seq.toNat), (2, b2n m.fault), (1, b2n m.vCal), (0, b2n (metroStale s m))]

def mibusWord (s : State) (m : MetroPort) : Word :=
  mkWord [(11, satSigned 21 m.ibus), (5, m.seq.toNat), (3, b2n m.ovr), (2, b2n m.fault), (1, b2n m.iCal),
    (0, b2n (metroStale s m))]

/-- (Log entry 95: DEDUCED, unsafe.) -/
def loopStatWord (s : State) (p : Fin 8) : Word :=
  let m := portMetro s p
  mkWord [(16, if isReady s then satTo 16 (m.targetUv / 1000) else 0), (13, loopMode s p), (12, b2n m.confirmed),
    (11, b2n m.clUv.isSome)]

def mstatWord (m : MetroPort) : Word :=
  mkWord [(24, m.faultCount.n), (23, b2n m.faultCount.sat), (16, m.cause.toNat), (2, b2n m.fault), (1, b2n m.uv), (0, b2n m.ov)]

def mrefStatWord (s : State) : Word := mkWord [(16, satSigned 16 s.metro.refDev), (15, b2n s.metro.refFault)]
def mcalGenWord (s : State) : Word := mkWord [(16, s.metro.calGen.toNat), (15, b2n s.metro.segment)]

/-! ### The family's meanings -/

/-- METRO_READING. -/
def execMetroReading (p : Fin 8) (r : Reading) (s : State) : Host.Outcome State Fault Refusal :=
  complete s (metroReading p r s)

/-- PPS_CL_FLOOR (R407): the effective target of a PPS contract stands below its APDO's minimum voltage. -/
def execPpsClFloor (p : Fin 8) (s : State) : Host.Outcome State Fault Refusal :=
  complete s <|
    let q := portPd s p
    if q.explicit && q.source && pdoPps q.pdo && standTimes s p
        && decide ((portMetro s p).targetUv < 100000 * field (portPd s p).pdo 15 8) then
      let s := evp p 0x2035 4 (le 2 (satTo 16 (contractI s p / 10)) ++ le 2 (satTo 16 ((portMetro s p).targetUv / 1000))) s
      hardReset p true 5 s
    else s

/-- REF_CHECK. -/
def execRefCheck (dev : Int) (s : State) : Host.Outcome State Fault Refusal :=
  complete s (if s.strap.codeRunning then refCheck dev s else s)

end Sys2Proof.Machine
end

