-- ==== Sys2Proof/Machine/Crc.lean ====
section
/-! DEFINITION. The check values of Table 7.1, one byte at a time: CRC-32C and CRC-32 reflected, CRC-16/CCITT not. -/

namespace Sys2Proof.Machine

/-- One bit of a reflected CRC of 32 bits, with the polynomial reversed. -/
def crcBitR (poly c : Word) : Word := if c.getLsbD 0 then (c >>> 1) ^^^ poly else c >>> 1

def crcByteR (poly c : Word) (b : Byte) : Word :=
  let c := c ^^^ b.zeroExtend 32
  crcBitR poly (crcBitR poly (crcBitR poly (crcBitR poly (crcBitR poly (crcBitR poly (crcBitR poly (crcBitR poly c)))))))

/-- One bit of CRC-16/CCITT, most significant first. -/
def crc16Bit (c : Word) : Word := (if c.getLsbD 15 then (c <<< 1) ^^^ 0x1021 else c <<< 1) &&& 0xFFFF

def crc16Byte (c : Word) (b : Byte) : Word :=
  let c := c ^^^ (b.zeroExtend 32 <<< 8)
  crc16Bit (crc16Bit (crc16Bit (crc16Bit (crc16Bit (crc16Bit (crc16Bit (crc16Bit c)))))))

/-- The initial value of an algorithm (Table 7.1). -/
def crcInit (alg : BitVec 2) : Word := if alg = 2 then 0xFFFF else 0xFFFFFFFF

/-- Feed one byte (R186). -/
def crcFeed (alg : BitVec 2) (c : Word) (b : Byte) : Word :=
  if alg = 0 then crcByteR 0x82F63B78 c b
  else if alg = 1 then crcByteR 0xEDB88320 c b
  else crc16Byte c b

/-- The running value after the final XOR (Table 7.1). -/
def crcFinal (alg : BitVec 2) (c : Word) : Word := if alg = 2 then c else c ^^^ 0xFFFFFFFF

/-- A whole string's check value. -/
def crcOf (alg : BitVec 2) (bs : List Byte) : Word := crcFinal alg (bs.foldl (crcFeed alg) (crcInit alg))

/-- CRC-32C of a string. -/
def crc32c (bs : List Byte) : Word := crcOf 0 bs

/-- R151: the CRC of a host frame, the half-word STATION × 0x100 + SEQ folded in first. -/
def frameCrc (station : Nat) (seq : Byte) (bs : List Byte) : Word :=
  crc32c (le 2 (station * 256 + seq.toNat) ++ bs)

end Sys2Proof.Machine
end

