-- ==== Sys2Proof/Machine/Seam.lean ====
section
/-! DEFINITION. Seam, the check-value unit (chapter 07): claims, grants, feeds, folds, compares and revocation. -/

namespace Sys2Proof.Machine

/-- SMCTL.HOLDER's code of a requester. -/
def seamCode : Option Requester → Nat
  | some .host => 0
  | some .graft => 1
  | some (.stand _) => 2
  | _ => 0xF

/-- HOLDER_STAND. -/
def seamStand : Option Requester → Nat
  | some (.stand k) => k.val
  | _ => 0

/-- Holder and logical stand as the events of Table 7.4 carry them. -/
def seamData (r : Requester) : List Byte :=
  [BitVec.ofNat 8 (seamCode (some r)), match r with
    | .stand k => BitVec.ofNat 8 k.val
    | _ => 0xFF]

/-- Whom Seam serves (R180 and "Start-up and reset"): the host port's own checks while it is open, Graft at ready and in
Limp, stands at ready. (Log entry 153: DEDUCED, unsafe.) -/
def seamServes (r : Requester) (s : State) : Bool :=
  match r with
  | .host => isOpen s
  | .graft => isReady s || s.boot.phase = .limp
  | .stand _ => isReady s
  | _ => false

/-- R182: the oldest waiting claim is granted while nobody holds the lease; MATCH and MISMATCH stay the last compare's. -/
def seamGrantOne (m : Seam) : Seam :=
  match m.holder, m.waiting with
  | none, (r, a) :: t =>
    { m with holder := some r, holderAlg := a, run := crcInit a, foldDone := false, dataSeen := false,
             invalid := false, resultValid := false, waiting := t }
  | _, _ => m

/-- R181: a claim joins the order; an invalid ALG is refused with no grant. A claim clears a revoked mark (R184). -/
def seamClaimOp (r : Requester) (alg : BitVec 2) (m : Seam) : Seam :=
  if alg = 3 then m
  else if m.holder = some r || m.waiting.any (fun c => c.1 = r) then m
  else { m with waiting := m.waiting ++ [(r, alg)], revoked := m.revoked.filter (· ≠ r) }

/-- R183: a holder's release discards the running value. (Log entry 206: DESIGN CHOICE, unsafe.) -/
def seamReleaseOp (r : Requester) (m : Seam) : Seam :=
  if m.holder = some r then { m with holder := none, run := 0, resultValid := false } else m

/-- A claim of requester `r` with `alg` would join the order: the ALG is valid, and `r` neither holds the lease nor has a
claim waiting (R181). -/
def seamClaims (r : Requester) (alg : BitVec 2) (m : Seam) : Bool :=
  decide (alg ≠ 3) && decide (m.holder ≠ some r) && !m.waiting.any (fun c => c.1 = r)

/-- A write of SMCTL by a requester that may claim: RELEASE first, then CLAIM; the grant is its own step. ALG is stored by a
claim that takes effect, and by the holder's own write without one; any other write leaves it (R181, R190).
(Log entry 154: DEDUCED, unsafe.) -/
def seamCtl (r : Requester) (alg : BitVec 2) (claim release : Bool) (s : State) : State :=
  if seamServes r s then
    let held := decide (s.seam.holder = some r)
    let m := if release then seamReleaseOp r s.seam else s.seam
    let m := if (claim && seamClaims r alg m) || (held && !claim) then { m with alg := alg } else m
    let m := if claim then seamClaimOp r alg m else m
    { s with seam := m }
  else s

/-! ### The checks of the host port and of Graft (R181, R185, R192, R194) -/

/-- The lease is free for `r` at once: `r` holds it, or nobody does and no claim waits. -/
def seamFree (r : Requester) (s : State) : Bool :=
  decide (s.seam.holder = some r) || (s.seam.holder.isNone && s.seam.waiting.isEmpty)

/-- One whole check of the host port or of Graft, from its claim to its release: the grant (R182), the fold and the data,
the compare (R191, R192) with its outcome where there is one, and the release (R183). -/
def seamUse (r : Requester) (compare : Option Bool) (m : Seam) : Seam :=
  let m := { m with holder := none, holderAlg := 0, run := 0, foldDone := true, dataSeen := true, invalid := false,
                    resultValid := false, revoked := m.revoked.filter (· ≠ r) }
  match compare with
  | none => m
  | some true => { m with isMatch := true, mismatch := false }
  | some false => { m with
      isMatch := false, mismatch := true, mismatches := bump 16 m.mismatches
      irqs := if r = .host then m.irqs else m.irqs ++ [(r, false)] }

/-- `seamUse` on the state. (Log entry 153: DEDUCED, unsafe.) -/
def seamCheck (r : Requester) (compare : Option Bool) (s : State) : State :=
  { s with seam := seamUse r compare s.seam }

/-- The claim of the host port or of Graft, with CRC-32C (Table 7.2), where it has to wait. -/
def seamAsk (r : Requester) (s : State) : State := { s with seam := seamClaimOp r 0 s.seam }

/-- The bytes a feed of a width code takes: 0 byte, 1 half-word, 2 word; least significant first (R186). -/
def feedBytes (width : Fin 3) (v : Word) : List Byte := le (2 ^ width.val) v.toNat

def seamFeed (alg : BitVec 2) (run : Word) (bs : List Byte) : Word := bs.foldl (crcFeed alg) run

/-- R186, R190: a data write of the holder. -/
def seamData8 (r : Requester) (width : Fin 3) (v : Word) (m : Seam) : Seam :=
  if m.holder = some r then
    { m with run := seamFeed m.holderAlg m.run (feedBytes width v), dataSeen := true, resultValid := true }
  else m

/-- R188, R189: a fold write of the holder. -/
def seamFold (r : Requester) (width : Fin 3) (v : Word) (s : State) : State :=
  if s.seam.holder = some r then
    if s.seam.dataSeen then
      emit (devEv 0x0402 3 (seamData r)) { s with seam := { s.seam with invalid := true } }
    else { s with seam := { s.seam with
        run := seamFeed s.seam.holderAlg s.seam.run (feedBytes width v), foldDone := true, resultValid := true } }
  else s

/-- R191: whether EXPECT agrees with the running value. -/
def seamAgrees (m : Seam) (expect : Word) : Bool :=
  decide (crcFinal m.holderAlg m.run = expect) && !m.invalid

/-- R184, R191, R192: a write of SMEXPECT. (Log entry 154: DEDUCED, unsafe.) -/
def seamCompareOp (r : Requester) (expect : Word) (m : Seam) : Seam :=
  if m.revoked.contains r then
    { m with irqs := m.irqs ++ [(r, true)], mismatches := bump 16 m.mismatches, revoked := m.revoked.filter (· ≠ r) }
  else if m.holder = some r then
    if seamAgrees m expect then { m with isMatch := true, mismatch := false }
    else { m with isMatch := false, mismatch := true, irqs := m.irqs ++ [(r, m.invalid)],
                  mismatches := bump 16 m.mismatches }
  else m

/-- R184: the lease of a holder other than the host port is withdrawn; its computation is INVALID in SMSTAT until the next
grant. -/
def seamRevoke (s : State) : State :=
  match s.seam.holder with
  | none => s
  | some .host => s
  | some r =>
    emit (devEv 0x0401 4 (seamData r)) { s with seam := { s.seam with
        holder := none, run := 0, resultValid := false, invalid := true, revoked := s.seam.revoked.filter (· ≠ r) ++ [r],
        revocations := bump 12 s.seam.revocations } }

/-- The loader ends the lease and the waiting claim of a stand it reloads (chapter 07, "When things collide").
(Log entry 71: DEDUCED, unsafe.) -/
def seamDropStand (k : Fin 16) (s : State) : State :=
  let m := seamReleaseOp (.stand k) s.seam
  { s with seam := { m with waiting := m.waiting.filter (fun c => c.1 ≠ .stand k) } }

/-- (Log entry 153: DEDUCED, unsafe.) -/
def smCtlWord (m : Seam) : Word := mkWord [(4, seamCode m.holder), (2, m.alg.toNat)]

def smStatWord (m : Seam) : Word :=
  mkWord [(16, seamStand m.holder), (8, satTo 8 m.waiting.length), (5, b2n m.invalid), (4, b2n m.mismatch),
    (3, b2n m.isMatch), (2, b2n m.resultValid), (1, b2n m.dataSeen), (0, b2n m.foldDone)]

def smCountWord (m : Seam) : Word :=
  mkWord [(16, m.mismatches.n), (4, m.revocations.n), (1, b2n m.revocations.sat), (0, b2n m.mismatches.sat)]

/-! ### The family's meanings -/

/-- SEAM_CLAIM; `release` when RELEASE is set in the same write. A host write has no effect (R180). -/
def execSeamClaim (who : Requester) (alg : BitVec 2) (release : Bool) (s : State) : Host.Outcome State Fault Refusal :=
  complete s (if who = .host then s else seamCtl who alg true release s)

/-- SEAM_RELEASE. -/
def execSeamRelease (who : Requester) (s : State) : Host.Outcome State Fault Refusal :=
  complete s (if who = .host then s else seamCtl who s.seam.alg false true s)

/-- SEAM_LEASE_REVOKED: 500 µs after the grant. -/
def execSeamLeaseRevoked (s : State) : Host.Outcome State Fault Refusal := complete s (seamRevoke s)

/-- SEAM_DATA_WRITE. -/
def execSeamDataWrite (who : Requester) (width : Fin 3) (v : Word) (s : State) : Host.Outcome State Fault Refusal :=
  complete s (if who = .host then s else { s with seam := seamData8 who width v s.seam })

/-- SEAM_FOLD_WRITE. -/
def execSeamFoldWrite (who : Requester) (width : Fin 3) (v : Word) (s : State) : Host.Outcome State Fault Refusal :=
  complete s (if who = .host then s else seamFold who width v s)

/-- SEAM_COMPARE. -/
def execSeamCompare (who : Requester) (expect : Word) (s : State) : Host.Outcome State Fault Refusal :=
  complete s (if who = .host then s else { s with seam := seamCompareOp who expect s.seam })

end Sys2Proof.Machine
end

