-- ==== Sys2Proof/Machine/GraftLog.lean ====
section
/-! DEFINITION. Graft's journal block (chapter 19, Tables 19.1 to 19.4): the manifest copy, piece marks and state log in
flash, how a boot rebuilds the state from them (R580), and the records that change it. -/

namespace Sys2Proof.Machine

/-! ### The bundle manifest (Table 19.1) -/

def bundleSize (m : List Byte) : Nat := numAt m 0x08 4
def pieceCount (m : List Byte) : Nat := numAt m 0x0C 2
def bundleSecVer (m : List Byte) : Nat := numAt m 0x0E 1
def bundleRootSize (m : List Byte) : Nat := numAt m 0x18 4
def bundlePatOffset (m : List Byte) : Nat := numAt m 0x1C 4
def bundlePatSize (m : List Byte) : Nat := numAt m 0x20 4
def bundleTarget (m : List Byte) : List Byte := slice m 0x30 16
def bundleDigest (m : List Byte) : List Byte := slice m 0x40 32

/-- R573, Table 19.1: the manifest's format. -/
def bundleFormat (m : List Byte) : Bool :=
  let size := bundleSize m
  let patEnd := bundlePatOffset m + bundlePatSize m
  let note := numAt m 0x24 4
  let noteSize := numAt m 0x28 4
  slice m 0 4 == [0x4C, 0x55, 0x47, 0x46] && numAt m 4 2 == 1 && numAt m 6 2 == 256
    && decide (256 ≤ size) && decide (size ≤ 1048576) && pieceCount m == (size + 511) / 512
    && decide (bundleSecVer m ≤ 64) && numAt m 0x0F 1 == 0 && numAt m 0x14 4 == 0x100
    && decide (bundleRootSize m ≤ 4096) && bundlePatOffset m == 0x100 + bundleRootSize m
    && decide (bundlePatSize m ≤ 132800) && decide (patEnd ≤ size)
    && ((note == 0 && noteSize == 0) || (decide (patEnd ≤ note) && decide (note + noteSize ≤ size)))
    && numAt m 0x2C 4 == 0 && allZero (slice m 0x60 32)

/-- R581: TARGET_ID names every device or this one. -/
def bundleForUs (s : State) (m : List Byte) : Bool := allZero (bundleTarget m) || bundleTarget m == deviceId s

/-! ### The journal block (Table 19.3) -/

def graftBase (s : State) : Nat := recordBase s + 0x10000
def graftManifest (s : State) : List Byte := flashBytes s (graftBase s) 256
def graftBundleId (s : State) : Word := BitVec.ofNat 32 (numAt (graftManifest s) 0x10 4)
def pieceMarkAddr (s : State) (k : Nat) : Nat := graftBase s + 0x1000 + k
def graftLogAddr (s : State) (i : Nat) : Nat := graftBase s + 0x2000 + 16 * i

/-- Bytes 0 to 11 of a state record. -/
def graftRecordHead (kind arg : Nat) (id : Word) (value : Nat) : List Byte :=
  [BitVec.ofNat 8 kind, BitVec.ofNat 8 arg, 0, 0] ++ le 4 id.toNat ++ le 4 value

/-- R579: a state record. -/
def graftRecord (kind arg : Nat) (id : Word) (value : Nat) : List Byte :=
  let h := graftRecordHead kind arg id value
  h ++ le 4 (crc32c h).toNat

/-- R579: record `i` as (KIND, ARG) where it is valid. -/
def graftLogEntry (s : State) (i : Nat) : Option (Nat × Nat) :=
  let b := flashBytes s (graftLogAddr s i) 16
  if crc32c (b.take 12) = BitVec.ofNat 32 (numAt b 12 4) ∧ numAt b 4 4 = (graftBundleId s).toNat
      ∧ 1 ≤ numAt b 0 1 ∧ numAt b 0 1 ≤ 0x0A
  then some (numAt b 0 1, numAt b 1 1) else none

/-- The number of state records written, torn ones included. -/
def graftWritten (s : State) : Nat :=
  let lo := graftBase s + 0x2000
  s.flash.mem.foldl (fun n c => if lo ≤ c.1 ∧ c.1 < lo + 16 * 3584 then max n ((c.1 - lo) / 16 + 1) else n) 0

/-- The newest valid record below index `n` that satisfies a test. -/
def graftNewest (s : State) (ok : Nat × Nat → Bool) : Nat → Option (Nat × Nat)
  | 0 => none
  | n + 1 => match graftLogEntry s n with
    | some r => if ok r then some r else graftNewest s ok n
    | none => graftNewest s ok n

/-- The journal block is entirely erased. -/
def graftBlank (s : State) : Bool :=
  s.flash.mem.all fun c => decide (c.1 < graftBase s) || decide (graftBase s + 0x10000 ≤ c.1)

/-- The state that a record's KIND gives (Table 19.4). -/
def graftKindState (kind : Nat) : GraftState :=
  match kind with
  | 1 => .receiving
  | 2 => .complete
  | 3 => .verified
  | 4 => .installing
  | 5 => .installed
  | 6 => .trial
  | 7 => .promoting
  | 8 => .promoting
  | 9 => .settled
  | _ => .fellBack

/-- Pieces whose mark reads 0x00 (R580, R586). -/
def graftMarks (s : State) : BitVec 2048 :=
  BitVec.ofNat 2048 (s.flash.mem.foldl (fun n c =>
    let lo := graftBase s + 0x1000
    if lo ≤ c.1 ∧ c.1 < lo + 2048 ∧ c.2 = 0 then n + 2 ^ (c.1 - lo) else n) 0)

def piecesIn (g : Graft) : Nat := (List.range 2048).foldl (fun n k => n + b2n (g.bitmap.getLsbD k)) 0

def firstMissing (g : Graft) (total : Nat) : Nat :=
  ((List.range total).find? fun k => !g.bitmap.getLsbD k).getD 0xFFFF

def piecesTotal (s : State) : Nat :=
  match s.graft.st with
  | .unprepared | .empty => 0
  | _ => pieceCount (graftManifest s)

/-- Blocks of the bundle that a copy moves (R591). -/
def graftBlocks (s : State) : Nat := (bundleSize (graftManifest s) + 65535) / 65536

/-- R580: the state rebuilt from the journal block. -/
def graftRebuild (s : State) : State :=
  let n := graftWritten s
  let any (_ : Nat × Nat) : Bool := true
  let arg (k : Nat) : Nat := ((graftNewest s (fun r => r.1 == k) n).map Prod.snd).getD 0
  let st := match graftNewest s any n with
    | some r => graftKindState r.1
    | none => if graftBlank s then .empty else .unprepared
  let block := match graftNewest s any n with
    | some (4, b) => b + 1
    | some (8, b) => b + 1
    | _ => 0
  let copying := decide (st = .installing) || decide (st = .promoting)
  let s := { s with graft := { s.graft with
    st := st, start := BitVec.ofNat 2 (b2n (arg 1 == 1)), trialLeft := arg 6, trialNow := false, runEnd := 0
    blocksDone := block, logNext := n, bitmap := graftMarks s, digestInPocket := itemHeld s graftDigestItem } }
  let s := { s with graft := { s.graft with blocksTotal := if copying then graftBlocks s else 0 } }
  let conf := (graftNewest s (fun r => r.1 == 7) n).map Prod.snd
  { s with graft := { s.graft with arbWanted := conf.filter fun v => decide (arbCount s < v) } }

/-- A state record appended, and the state it gives (R579, Table 19.4). (Log entry 35: DEDUCED, unsafe.) -/
def graftAppend (kind arg value : Nat) (s : State) : State :=
  let s := if s.graft.logNext < 3584 then
      flashProgram (graftLogAddr s s.graft.logNext) (graftRecord kind arg (graftBundleId s) value) s else s
  { s with graft := { s.graft with st := graftKindState kind, logNext := s.graft.logNext + 1 } }

/-- FELL_BACK (R594): cause 0 boots spent, 1 trial slot refused. (Log entry 34: DEDUCED, unsafe.) -/
def graftFellBack (cause : Nat) (s : State) : State :=
  let s := graftAppend 0x0A cause 0 s
  emit (devEv 0x1208 5 [BitVec.ofNat 8 cause])
    { s with graft := { s.graft with trialNow := false, fallbacks := bump 8 s.graft.fallbacks } }

/-- A trial boot with `left` boots after it (Table 19.7). -/
def graftTrialBoot (left : Nat) (s : State) : State :=
  let s := graftAppend 6 left 0 s
  emit (devEv 0x1205 3 [BitVec.ofNat 8 left])
    { s with graft := { s.graft with trialNow := true, trialLeft := left } }

/-- Table 19.7: the first slot at boot (0 rootstock, 1 trial), and Graft's action before step 3. -/
def graftBoot (s : State) : State × Fin 2 :=
  match s.graft.st with
  | .installed => (graftTrialBoot (trialBoots s - 1) s, 1)
  | .trial =>
    if s.graft.trialLeft = 0 then (graftFellBack 0 s, 0) else (graftTrialBoot (s.graft.trialLeft - 1) s, 1)
  | .promoting => (s, 1)
  | _ => (s, 0)

/-- SUMMARY and GFSTAT's state code. -/
def graftCode (g : Graft) : Nat := g.st.ctorIdx

/-- (Log entry 142: DEDUCED, unsafe.) -/
def gfStatWord (s : State) : Word :=
  mkWord [(24, graftCode s.graft), (16, s.graft.result.toNat), (12, satTo 4 s.graft.trialLeft),
    (10, s.graft.start.toNat), (9, b2n (s.graft.digestInPocket && itemHeld s graftDigestItem)), (8, b2n s.graft.trialNow)]

def gfPiecesWord (s : State) : Word := mkWord [(16, piecesTotal s), (0, piecesIn s.graft)]

def gfBundleWord (s : State) : Word :=
  match s.graft.st with
  | .unprepared | .empty => 0
  | _ => graftBundleId s

/-- The run-time count runs: a trial boot at ready without its CONFIRM (R595). (Log entry 142: DEDUCED, unsafe.) -/
def graftCounts (s : State) : Bool := isReady s && s.graft.trialNow && decide (s.graft.st = .trial)

/-- Whole seconds left of the run-time count, a started one included. (Log entry 142: DEDUCED, unsafe.) -/
def graftRunLeft (s : State) : Nat :=
  if graftCounts s then (s.graft.runEnd - s.time.now + 999999) / 1000000 else 0

def gfTrialWord (s : State) : Word :=
  mkWord [(20, satTo 12 (graftRunLeft s)), (8, satTo 8 s.graft.blocksDone), (0, satTo 8 s.graft.blocksTotal)]

def gfCountWord (s : State) : Word :=
  mkWord [(16, s.graft.pieceFails.n), (8, s.graft.fallbacks.n), (1, b2n s.graft.fallbacks.sat),
    (0, b2n s.graft.pieceFails.sat)]

def gfCountWrite (v : Word) (s : State) : State :=
  { s with graft := { s.graft with
    fallbacks := if flag v 1 then {} else s.graft.fallbacks
    pieceFails := if flag v 0 then {} else s.graft.pieceFails } }

end Sys2Proof.Machine
end

