-- ==== Sys2Proof/Machine/Loader.lean ====
section
/-! DEFINITION. The loader (chapter 05 and R207, R208, R574 to R576): the images of a slot, the checks of Tables 5.9 and 8.5,
and what a refused slot leads to (R70, R71, R140). -/

namespace Sys2Proof.Machine

/-! ### Keys (R136, R137) -/

/-- 0 accepted, else the reason of check 12 (7 unknown, 8 revoked); and the signer: 0, 1, or 3 unowned. -/
def keyStatus (s : State) (key : List Byte) : Nat × Nat :=
  let d0 := ownerKeyDigest s 0
  let d1 := ownerKeyDigest s 1
  let d := sha256 key
  if allZero d0 && allZero d1 then (0, 3)
  else if d = d0 && !allZero d0 && !keyRevoked s 0 then (0, 0)
  else if d = d1 && !allZero d1 && !keyRevoked s 1 then (0, 1)
  else if (d = d0 && !allZero d0) || (d = d1 && !allZero d1) then (8, 3)
  else (7, 3)

/-- R135: a signature block (X, Y, r, s) over the SHA-256 of a span. -/
def blockVerifies (blk span : List Byte) : Bool := ecdsaVerify (slice blk 0 64) (sha256 span) (slice blk 64 64)

/-! ### Root code images (Tables 8.4 and 8.5) -/

def rootCodeSize (i : List Byte) : Nat := numAt i 0x06 2
def rootVersion (i : List Byte) : Word := BitVec.ofNat 32 (numAt i 0x08 4)
def rootStamp (i : List Byte) : Word := BitVec.ofNat 32 (numAt i 0x0C 4)
def rootSecVer (i : List Byte) : Nat := numAt i 0x10 1
def rootDigest (i : List Byte) : List Byte := slice i 0x18 32
def rootCode (i : List Byte) : List Byte := slice i 0x40 (rootCodeSize i)

def rootHeaderOk (i : List Byte) : Bool :=
  let n := rootCodeSize i
  slice i 0 4 == [0x4C, 0x55, 0x52, 0x43] && numAt i 4 2 == 1 && decide (4 ≤ n) && decide (n ≤ 3904) && n % 4 == 0
    && decide (rootSecVer i ≤ 64) && numAt i 0x12 2 == 0 && numAt i 0x14 4 == 64 + n && numAt i 0x38 8 == 0

/-- Checks 2 to 6 of Table 8.5: the Strap reason of the first failure. -/
def rootCheck (s : State) (i : List Byte) : Option Nat :=
  let n := rootCodeSize i
  let blk := slice i (64 + n) 128
  if !rootHeaderOk i then some 2
  else if numAt i 0x11 1 ≠ Config.romLevel.toNat then some 3
  else if rootSecVer i < arbCount s then some 4
  else if sha256 (rootCode i) ≠ rootDigest i then some 5
  else if (keyStatus s (slice blk 0 64)).1 ≠ 0 || !blockVerifies blk (i.take (64 + n)) then some 6
  else none

/-- FAIL_FIRST of a Strap reason (Table 8.5); reason 7, a load that stayed incomplete, is taken as 0b011 (log
entry 23). (Log entry 23: DEDUCED, unsafe.) -/
def rootFailFirst (reason : Nat) : Nat :=
  match reason with
  | 1 => 3
  | 2 => 4
  | 3 => 4
  | 7 => 3
  | _ => 1

/-! ### Pattern images (Tables 5.4 to 5.8) -/

def patBodySize (i : List Byte) : Nat := numAt i 0x18 4
def patSigOffset (i : List Byte) : Nat := numAt i 0x1C 4
/-- A field of the manifest, by its offset within it (Table 5.5). -/
def manField (i : List Byte) (off n : Nat) : Nat := numAt i (0x40 + off) n
def patEncrypted (i : List Byte) : Bool := manField i 0x0A 2 % 2 == 1
def patSecVer (i : List Byte) : Nat := manField i 0x08 1
def patPortMask (i : List Byte) : BitVec 8 := BitVec.ofNat 8 (manField i 0x54 1)
def patFallback (i : List Byte) : List Byte := slice i 0x98 8
def classRaw (i : List Byte) (k : Nat) : Word := BitVec.ofNat 32 (manField i (0x70 + 4 * k) 4)

/-- Check 2. (Log entry 207: DESIGN CHOICE, unsafe.) -/
def patHeaderOk (i : List Byte) : Bool :=
  let body := patBodySize i
  slice i 0 4 == [0x4C, 0x55, 0x50, 0x54] && numAt i 4 2 == 1 && numAt i 6 2 == 64
    && numAt i 0x0C 4 == 0x40 && numAt i 0x10 4 == 0x240 && numAt i 0x14 4 == 0x640
    && body % 8192 == 0 && decide (body ≤ 131072) && patSigOffset i == 0x640 + body
    && numAt i 8 4 == patSigOffset i + 128 && decide (numAt i 8 4 ≤ 132800) && numAt i 0x2C 4 == 0
    && (patEncrypted i || (allZero (slice i 0x20 12) && allZero (slice i 0x30 16)))

/-- R306: the zero fields of a CLASS_TABLE entry. -/
def classFormat (w : Word) : Bool := if flag w 31 then w &&& 0x7FF800C0 == 0 else w &&& 0x7FFFFFFF == 0

def acceptedStamps (i : List Byte) : List Nat := (List.range 16).map fun k => manField i (0x14 + 4 * k) 4

/-- Check 3. (Log entry 207: DESIGN CHOICE, unsafe.) -/
def patManifestOk (i : List Byte) : Bool :=
  let n := manField i 0x10 1
  manField i 0x09 1 == 1 && manField i 0x0A 2 / 2 == 0 && manField i 0x11 3 == 0 && decide (1 ≤ n) && decide (n ≤ 16)
    && ((acceptedStamps i).drop n).all (· == 0) && decide (patSecVer i ≤ 64) && manField i 0x57 1 == 0
    && manField i 0x6A 6 == 0 && allZero (slice i 0x110 240)
    && (patFallback i).all (fun b => b == 0 || b == 1)
    && (List.range 24).all fun k => classFormat (classRaw i k)

/-- R575. -/
def pairAccepted (i : List Byte) (stamp : Word) : Bool :=
  stamp != 0 && ((acceptedStamps i).take (manField i 0x10 1)).contains stamp.toNat

/-- Stand header `k` (Table 5.6). -/
def standHdr (i : List Byte) (k : Nat) : List Byte := slice i (0x240 + 64 * k) 64
def hdrRole (h : List Byte) : Nat := numAt h 1 1
def hdrPresent (h : List Byte) : Bool := hdrRole h != 0

/-- (Log entries 33: DEDUCED, unsafe; 207: DESIGN CHOICE, unsafe.) -/
def standHdrOk (k : Nat) (h : List Byte) : Bool :=
  let role := hdrRole h
  numAt h 0 1 == k && numAt h 0x0A 6 == 0 && allZero (slice h 0x30 16) &&
  (if role = 0 then numAt h 2 1 == 0xFF && allZero (slice h 3 61)
   else decide (role ≤ 7) && (if role = 1 then decide (numAt h 2 1 ≤ 7) else numAt h 2 1 == 0xFF)
     && decide (numAt h 3 1 ≤ 7) && (if role = 2 then decide (numAt h 4 2 ≤ 255) else numAt h 4 2 == 0xFFFF)
     && decide (numAt h 6 2 ≤ 255))

def standHdrs (i : List Byte) : List (List Byte) := (List.range 16).map (standHdr i)

def presentCount (i : List Byte) : Nat := ((standHdrs i).filter hdrPresent).length

/-- Check 7: R123, R124, and the counts. -/
def standTableOk (i : List Byte) : Bool :=
  let hs := standHdrs i
  let n := presentCount i
  (List.range 16).all (fun k => standHdrOk k (standHdr i k))
    && [2, 3, 4, 5, 6].all (fun r => (hs.filter fun h => hdrRole h == r).length == 1)
    && (List.range 8).all (fun p => (hs.filter fun h => hdrRole h == 1 && numAt h 2 1 == p).length
        == b2n ((patPortMask i).getLsbD p))
    && manField i 0x55 1 == n && patBodySize i == 8192 * n

/-- The instructions that a cell's microcode runs: up to the first that returns to instruction 0 (Table 5.7).
(Log entries 32: DEDUCED, unsafe; 156: DESIGN CHOICE, unsafe.) -/
def microcodeRun : List Nat → List Nat
  | [] => []
  | x :: t => if x % 2 = 1 then [x] else x :: microcodeRun t

/-- R133: a cell's KIND, if it is valid. (Log entries 32: DEDUCED, unsafe; 156: DESIGN CHOICE, unsafe.) -/
def cellKind (c : List Byte) : Option Nat :=
  let r := numAt c 0 6
  let ft := numAt c 6 6
  let ctl := numAt c 28 4
  let kind := ctl / 2 ^ 29
  let tick := ctl / 2 ^ 27 % 4
  let portOk (p : Nat) : Bool :=
    let f := r / 2 ^ (9 * p) % 512
    (f % 4 != 0 || f == 0) && (p == 4 || f / 64 == 0)
  let used := (microcodeRun ((List.range 8).map fun k => numAt c (12 + 2 * k) 2)).map (· / 8192)
  let entryOk (e : Nat) : Bool :=
    let code := ft / 2 ^ (6 * e) % 64
    if used.contains e then decide (code < 0x38) else code == 0
  if kind ≤ 5 && ctl / 65536 % 2048 == 0 && (tick == 0 || kind == 2) && r / 2 ^ 47 == 0 && (List.range 5).all portOk
      && (List.range 8).all entryOk
  then some kind else none

/-- R134 over the kinds of a stand's cells. (Log entry 33: DEDUCED, unsafe.) -/
def standCellsOk (role : Nat) (kinds : List (Option Nat)) : Bool :=
  kinds.all Option.isSome && kinds.count (some 5) == 1 && kinds.count (some 3) == 1
    && (role != 2 || kinds.count (some 4) == 1)

/-- The Pattern key, where the loader's pinned item holds one (R139). -/
def patternKey (s : State) : Option (List Byte) :=
  match (item s patternKeyItem).slot with
  | some k => if (item s patternKeyItem).state = .resident then some (slotBytes s.pocket.slots[k]) else none
  | none => none

/-- The body in plaintext (R138, R139). -/
def patBody (s : State) (i : List Byte) : List Byte :=
  let ct := slice i 0x640 (patBodySize i)
  if patEncrypted i then
    match patternKey s with
    | some k => gcmCtr (aesKeys k) (slice i 0x20 12) ((ct.length + 15) / 16) 2 ct
    | none => ct
  else ct

/-- Checks 9 and 10 of one present stand's body. -/
def standBodyOk (h body : List Byte) : Bool :=
  standCellsOk (hdrRole h) ((chunks 32 256 body).map cellKind) && sha256 body == slice h 0x10 32

def patBodyOk (s : State) (i : List Byte) : Bool :=
  let hs := (standHdrs i).filter hdrPresent
  (hs.zip (chunks 8192 hs.length (patBody s i))).all fun p => standBodyOk p.1 p.2

/-- Check 11. -/
def patTagOk (s : State) (i : List Byte) : Bool :=
  match patternKey s with
  | some k => gcmTag (aesKeys k) (slice i 0x20 12) (slice i 0x40 1536) (slice i 0x640 (patBodySize i)) == slice i 0x30 16
  | none => false

def patSigBlock (i : List Byte) : List Byte := slice i (patSigOffset i) 128

/-- Checks 2 to 12 of Table 5.9 with the slot's Root code: the reason and FAIL_FIRST of the first failure. -/
def patCheck (s : State) (stamp : Word) (i : List Byte) : Option (Nat × Nat) :=
  let key := keyStatus s (slice (patSigBlock i) 0 64)
  if !patHeaderOk i then some (0x02, 4)
  else if !patManifestOk i then some (0x03, 4)
  else if manField i 0x56 1 = 0 ∨ 0x22 < manField i 0x56 1 then some (0x0D, 4)
  else if !pairAccepted i stamp then some (0x06, 2)
  else if patSecVer i < arbCount s then some (0x0A, 1)
  else if !standTableOk i then some (0x04, 4)
  else if patEncrypted i && (patternKey s).isNone then some (0x0B, 1)
  else if !patBodyOk s i then some (0x05, 4)
  else if patEncrypted i && !patTagOk s i then some (0x0C, 1)
  else if key.1 ≠ 0 then some (key.1, 1)
  else none

/-- Check 13. -/
def patVerifies (i : List Byte) : Bool := blockVerifies (patSigBlock i) (i.take (patSigOffset i))

/-! ### A slot's images (R574, R576), of the sizes that Table 19.1 admits -/

def slotBase (s : State) (slot : Fin 2) : Nat := if slot = 0 then rootstockBase s else trialBase s
def slotManifest (s : State) (slot : Fin 2) : List Byte := flashBytes s (slotBase s slot) 256

/-- (Log entry 31: DEDUCED, unsafe.) -/
def slotRoot (s : State) (slot : Fin 2) : List Byte :=
  flashBytes s (slotBase s slot + 0x100) (min 4096 (bundleRootSize (slotManifest s slot)))

/-- (Log entry 31: DEDUCED, unsafe.) -/
def slotPattern (s : State) (slot : Fin 2) : List Byte :=
  let m := slotManifest s slot
  flashBytes s (slotBase s slot + bundlePatOffset m) (min 132800 (bundlePatSize m))

/-! ### Refusal and Limp -/

/-- A group in Limp: a GCUT that reset hold opened is closed; one that STUCK_ON holds open stays open (R336). -/
def limpGroup (g : Fin 2) (s : State) : State :=
  if s.groups[g].gcutOpen && decide (s.groups[g].cause = 3) then modGroup g (fun t => { t with gcutOpen := false, cause := 0 }) s
  else s

/-- A port in Limp: any hold and contract are over, and Root's mask ROM presents Rp at 1.5 A where the port may be in
service (Table 3.6, R577). (Log entry 25: DEDUCED, unsafe.) -/
def limpPort (p : Fin 8) (s : State) : State :=
  let s := holdOver p s
  let s := if (portCinch s p).gates then gatesDark p s else modCinch p (fun c => { c with dsch := false, st := if c.stuck then c.st else .off }) s
  let s := modCinch p (fun c => { c with vset := 0 }) (portLeave p 2 s)
  if s.groups[groupOf p].gcutOpen then groupHoldOut p s else goUnattached p s

/-- R71, R144, R570: Limp with LIMP_ENTERED's reason; Root runs its mask ROM only (R647).
(Log entry 25: DEDUCED, unsafe.) -/
def limpEnter (reason : Nat) (s : State) : State :=
  let s := { s with
    boot := { s.boot with
      phase := .limp, limp := true, cold := false, bootSlot := 3, cause := s.boot.cause ||| 0x2000
      bootTime := s.time.now - s.boot.t0 }
    host := { s.host with irqStat := 0x80 }
    strap := { s.strap with codeRunning := false, params := false, loadData := [], loadFailed := none }
    wdb := { s.wdb with bootMode := false, inWindow := false } }
  let s := emit (devEv 0x0003 5 [BitVec.ofNat 8 reason]) s
  onPorts allPorts (fun p s => pgLimp p (limpPort p s)) (limpGroup 1 (limpGroup 0 s))

/-- R70, R71, R140, R594: the slot being tried is refused. (Log entries 30: DEDUCED, unsafe; 34: DEDUCED, unsafe.) -/
def refuseSlot (reason failFirst : Nat) (s : State) : State :=
  let slot := s.boot.slot
  let s := emit (devEv 0x0301 5 [BitVec.ofNat 8 slot.val, BitVec.ofNat 8 reason]) s
  let s := if s.graft.trialNow && decide (slot = 1) then graftFellBack 1 s else s
  if s.boot.second then
    limpEnter reason { s with pattern := { s.pattern with reasonSecond := BitVec.ofNat 8 reason } }
  else
    let s := { s with
      pattern := { s.pattern with reasonFirst := BitVec.ofNat 8 reason }
      boot := { s.boot with
        failFirst := BitVec.ofNat 3 failFirst, second := true, slot := 1 - slot, phase := .fetch
        cause := s.boot.cause ||| 0x1000 }
      strap := { s.strap with retried := false, loadFailed := none } }
    emit (devEv 0x0002 4 [BitVec.ofNat 8 failFirst, BitVec.ofNat 8 reason]) s

/-- R208: a refusal by the Root code, with its Strap reason. (Log entry 30: DEDUCED, unsafe.) -/
def refuseRoot (strapReason : Nat) (s : State) : State :=
  refuseSlot 0x0E (rootFailFirst strapReason)
    { s with strap := { s.strap with rootReason := BitVec.ofNat 4 strapReason } }

/-! ### The class table in force (R305 to R307) -/

/-- The Malren default answer and ceiling of each class (Table 10.5). -/
def classDefaultAnswer (k : Nat) : Nat :=
  ([3, 4, 0, 2, 2, 2, 2, 4, 4, 4, 0, 3, 4, 0, 3, 3, 0, 1, 1, 1, 0, 0, 3, 5] : List Nat).getD k 0

def classDefaultCeiling (k : Nat) : Nat := if k = 10 ∨ k = 16 ∨ k = 20 ∨ k = 21 then 0 else 5

/-- The default SEV of an answer. -/
def answerSev (a : Nat) : Nat :=
  match a with
  | 0 => 2
  | 1 => 2
  | 2 => 3
  | 3 => 3
  | 4 => 4
  | _ => 5

/-- The default entry of class `k`: THRESH 3, WINDOW 1 s; CLASSk shows every entry with CUSTOM set. -/
def classDefault (k : Nat) : Word :=
  let a := classDefaultAnswer k
  mkWord [(31, 1), (16, answerSev a), (12, 3), (8, 3), (3, classDefaultCeiling k), (0, a)]

/-- R307: a custom entry that acts as the default. -/
def classBad (w : Word) : Bool :=
  flag w 31 && (decide (5 < field w 2 0) || decide (5 < field w 5 3) || decide (field w 5 3 < field w 2 0))

/-- The entry in force. -/
def classInForce (k : Nat) (w : Word) : Word :=
  if !flag w 31 || classBad w then classDefault k else w

end Sys2Proof.Machine
end

