-- ==== Sys2Proof/Machine/Strap.lean ====
section
/-! DEFINITION. The Strap (chapter 08): ticks and heartbeats, reliable frames, the Root code load, loss and Root hold, the
RESYNC exchange and what the stands do with its outcomes; and the host-loss policy of WD-A at the ports (R559, R562). -/

namespace Sys2Proof.Machine

/-! ### Frames (Tables 8.2 and 8.3, R199 to R203) -/

/-- The direction of a frame: toward Crown. -/
def towardCrown (b : StrapBody) : Bool :=
  match b with
  | .trip _ | .alarm | .resync _ | .ccEvent _ | .pdRx _ | .portRsp _ => true
  | .pdTx _ _ | .portCmd _ _ | .fallbackSet _ _ | .params | .load _ => false

/-- TYPE, and PORT, of a frame. -/
def frameType (b : StrapBody) : Nat :=
  match b with
  | .trip _ => 3
  | .alarm => 4
  | .resync _ => 5
  | .ccEvent _ => 6
  | .pdRx _ => 7
  | .pdTx _ _ => 8
  | .portCmd _ _ => 9
  | .portRsp _ => 0xA
  | .fallbackSet _ _ => 0xB
  | .params => 0xC
  | .load _ => 0xD

def framePort (b : StrapBody) : Nat :=
  match b with
  | .trip p | .ccEvent p | .pdRx p | .pdTx p _ | .portCmd p _ | .portRsp p | .fallbackSet p _ => p.val
  | .resync (.port p) => p.val
  | _ => 0

/-- The service class of a TYPE (Table 8.3). -/
def typeClass (ty : Nat) : Nat :=
  match ty with
  | 1 => 0
  | 2 | 3 | 4 | 5 => 1
  | 0xE | 0xF => 3
  | _ => 2

def frameClass (b : StrapBody) : Nat := typeClass (frameType b)

/-- A frame header (Table 8.2). On the lanes its low byte comes first. (Log entry 197: DEDUCED, unsafe.) -/
def frameHeader (ty port : Nat) (seq : BitVec 4) (ack : Option (BitVec 4)) : Half :=
  (mkWord [(12, ty), (9, port), (5, seq.toNat), (4, b2n ack.isSome), (0, (ack.getD 0).toNat)]).truncate 16

/-- R199: the data characters of a frame: header, payload, and CRC-16 over both, little-endian. -/
def frameChars (hdr : Half) (payload : List Byte) : List Byte :=
  let b := le 2 hdr.toNat ++ payload
  b ++ le 2 (crcOf 2 b).toNat

def hdrType (h : Half) : Nat := (h.extractLsb' 12 4).toNat

def hdrSeq (h : Half) : BitVec 4 := h.extractLsb' 5 4

def hdrAck (h : Half) : Option (BitVec 4) := if h.getLsbD 4 then some (h.extractLsb' 0 4) else none

/-- The TYPEs that travel in a direction. -/
def typeTravels (atCrown : Bool) (ty : Nat) : Bool :=
  if atCrown then [1, 2, 3, 4, 5, 6, 7, 0xA, 0xE, 0xF].contains ty else [1, 2, 8, 9, 0xB, 0xC, 0xD].contains ty

/-- A payload length that fits a TYPE (Table 8.3); STATS has none printed. (Log entry 40: DESIGN CHOICE, unsafe.) -/
def typeFits (ty n : Nat) : Bool :=
  match ty with
  | 1 => n == 6
  | 2 => n == 0
  | 3 => n == 3
  | 4 => n == 6
  | 5 => n == 10 || n == 36
  | 6 => n == 4
  | 7 | 8 => 2 ≤ n && n ≤ 32
  | 9 => 1 ≤ n && n ≤ 16
  | 0xA => 2 ≤ n && n ≤ 18
  | 0xB => n == 1
  | 0xC => n == 22
  | 0xD => n == 34
  | _ => n ≤ 36

/-- R201: the cases in which a receiver discards a frame. (Log entry 197: DEDUCED, unsafe.) -/
def frameBad (atCrown : Bool) (l : StrapLine) : Bool :=
  let n := l.chars.length
  let ty := numAt l.chars 1 1 / 16
  l.parityErr || l.badControl || l.eef || decide (n < 4) || decide (40 < n)
    || decide ((crcOf 2 (l.chars.take (n - 2))).toNat ≠ numAt l.chars (n - 2) 2)
    || !typeTravels atCrown ty || !typeFits ty (n - 4)

/-- The sender's end of a direction, and an update of it. -/
def strapEnd (toCrown : Bool) (s : State) : Window := if toCrown then s.strap.rootTx else s.strap.crownTx

def setEnd (toCrown : Bool) (w : Window) (s : State) : State :=
  if toCrown then { s with strap := { s.strap with rootTx := w } } else { s with strap := { s.strap with crownTx := w } }

/-- ACKSEQ of the next frame in a direction: the last SEQ received in order, where one is not acknowledged yet.
(Log entry 40: DESIGN CHOICE, unsafe.) -/
def ackOwed (w : Window) : Option (BitVec 4) := if w.ackDue then some (w.rxNext - 1) else none

/-- The end has put its acknowledgement into a header. -/
def ackSent (toCrown : Bool) (s : State) : State := setEnd toCrown { strapEnd toCrown s with ackDue := false } s

/-- A frame of this kind is on its way. -/
def onItsWay (s : State) (b : StrapBody) : Bool :=
  let w := strapEnd (towardCrown b) s
  (w.unacked.any fun f => decide (f.body = b)) || w.held.any fun h => decide (h.1 = b)

/-- A waiting frame joins those of its service class and of lower ones (R200). -/
def holdFrame (b : StrapBody × Option (List Byte)) :
    List (StrapBody × Option (List Byte)) → List (StrapBody × Option (List Byte))
  | [] => [b]
  | h :: t => if frameClass h.1 ≤ frameClass b.1 then h :: holdFrame b t else b :: h :: t

/-- A frame behind those of its class and of lower ones (R200). -/
def laneInsert (f : LaneFrame) : List LaneFrame → List LaneFrame
  | [] => [f]
  | x :: t => if typeClass (hdrType x.hdr) ≤ typeClass (hdrType f.hdr) then x :: laneInsert f t else f :: x :: t

/-- A frame put on the lanes. -/
def lanePut (toCrown : Bool) (hdr : Half) (payload : Option (List Byte)) (s : State) : State :=
  let f : LaneFrame := { toCrown, hdr, chars := payload.map (frameChars hdr) }
  { s with strap := { s.strap with lanes := laneInsert f s.strap.lanes } }

/-- The lanes of a new Strap command. -/
def laneBegin (s : State) : State := { s with strap := { s.strap with lanes := [] } }

/-- STFALLBK with one port's bit. -/
def withFallback (p : Fin 8) (off : Bool) (b : Byte) : Byte :=
  if off then b ||| (1 <<< p.val) else b &&& ~~~((1 : Byte) <<< p.val)

/-- The frames that an acknowledgement of `seq` covers, and those that it leaves. -/
def ackSplit (seq : BitVec 4) (l : List SentFrame) : List SentFrame × List SentFrame :=
  if l.any fun f => decide (hdrSeq f.hdr = seq) then
    let tail := l.dropWhile fun f => decide (hdrSeq f.hdr ≠ seq)
    (l.take (l.length - tail.length + 1), tail.drop 1)
  else ([], l)

/-- An acknowledgement travels in a direction: its receiver's frames are through. Root's report of an oscillator stop ends
with it (R646), and Root's fallbacks show from it (R222). -/
def ackTake (toCrown : Bool) (seq : BitVec 4) (s : State) : State :=
  let w := strapEnd (!toCrown) s
  let r := ackSplit seq w.unacked
  let s := setEnd (!toCrown) { w with unacked := r.2 } s
  if toCrown then
    let t := s.strap
    let through := fun (f : BitVec 4 × Fin 8 × Bool) => r.1.any fun g => decide (hdrSeq g.hdr = f.1)
    { s with strap := { t with
        fallbackDue := t.fallbackDue.filter fun f => !through f
        fallbackAck := (t.fallbackDue.filter through).foldl (fun b f => withFallback f.2.1 f.2.2 b) t.fallbackAck } }
  else if r.1.any fun f => decide (f.body = .alarm) then
    { s with power := { s.power with refoscReport := none } }
  else s

def ackTakeOpt (toCrown : Bool) (a : Option (BitVec 4)) (s : State) : State :=
  match a with
  | some q => ackTake toCrown q s
  | none => s

/-! ### The host-loss policy at a port (Table 18.3) -/

def wdaCode (s : State) (p : Fin 8) : Nat := (s.wda.policy.extractLsb' (2 * p.val) 2).toNat

/-- A source port in service. -/
def sourcePort (s : State) (p : Fin 8) : Bool :=
  let c := portCc s p
  !(portCinch s p).backfeed && match c.state with
    | .outOfService | .groupUnpowered | .attachedSnk => false
    | .attachedSrc => true
    | .debugAcc => c.debugSource
    | .rootHold => (portPd s p).source
    | _ => decide (ccRole c ≠ 1)

/-- An attached source offers again, at once or, where a Soft_Reset or Hard Reset is under way, with the offer that
ends it. (Log entry 120: DEDUCED, unsafe.) -/
def offerAgain (p : Fin 8) (s : State) : State :=
  let q := portPd s p
  if !q.explicit && decide ((portCc s p).state ≠ .attachedSrc) then s
  else match q.step with
    | .softReset | .hardResetHold | .hardResetOff => s
    | _ => sendCaps p s

/-- R559 at one port; one in hold for its stalled stand follows when it has its stand again (R127). -/
def wdaPolicy (p : Fin 8) (s : State) : State :=
  if !sourcePort s p then s else
  match wdaCode s p with
  | 1 =>
    let s := { s with wda := { s.wda with safePorts := s.wda.safePorts ||| (1 <<< p.val) } }
    if portReach s p then offerAgain p s else s
  | 2 =>
    let s := { s with wda := { s.wda with offPorts := s.wda.offPorts ||| (1 <<< p.val) } }
    if portReach s p then takeOut p s else s
  | _ => { s with policy := s.policy ++ [.hostLoss p] }

/-! ### Root hold (R218 to R221, R647) -/

/-- The port is attached, as Root sees it. -/
def rootAttached (c : CcPort) : Bool := isAttached c.state || decide (c.state = .debugAcc) || decide (c.state = .rootHold)

/-- R218: port `p` at the declaration of a loss; no timer runs under mask-ROM behaviour (R647), a hold for a stalled
stand keeps its timer (R127), and a port that took its fallback with the oscillator's stop stays there (R645). What an
exchange reported and no stand has acted on yet still applies (R227). Only an attached port is in hold.
(Log entries 180: DEDUCED, unsafe; 198: DEDUCED, unsafe.) -/
def rootHoldStart (p : Fin 8) (s : State) : State :=
  let h := s.strap.holds[p]
  if h.standHold then s else
  let fresh := h.outcome.isNone
  let q := portPd s p
  let at0 := if fresh then rootAttached (portCc s p) else h.wasAttached
  let on := at0 && s.strap.codeRunning && !h.fellBack && !h.tripped && !h.detached && !h.hardReset
  let s := modHold p (fun h => { h with
    inHold := on, timerRunning := on, frozen := false
    rpLevel := if h.fellBack then h.rpLevel else rpLevel (portCc s p)
    hadContract := if fresh then at0 && q.explicit else h.hadContract, wasAttached := at0
    wasSource := if fresh then q.source else h.wasSource, outcome := none }) s
  if on && decide (s.strap.holds[p].holdCode = 0) then takeFallback p s else s

/-- The partial code of an interrupted load is discarded (R210). -/
def loadCut (s : State) : State := { s with strap := { s.strap with params := false, loadData := [] } }

/-- An abandoned resynchronisation: the frozen timers resume, and no OUTCOME stands. (Log entry 42: DEDUCED, unsafe.) -/
def resyncAbandon (s : State) : State :=
  if s.strap.link = .resync then
    let s := onPorts allPorts (fun p s => modHold p (fun h => { h with
      outcome := none, frozen := false, timerRunning := h.inHold }) s) s
    { s with strap := { s.strap with link := .lost, goodHb := 0 } }
  else s

/-- R213: Root declares loss. -/
def rootLoss (s : State) : State :=
  let s := loadCut (resyncAbandon s)
  if s.strap.rootLost then s
  else
    let s := { s with strap := { s.strap with
      rootLost := true, goodHb := 0
      lossStart := if s.strap.crownLost then s.strap.lossStart else s.strap.rootTime.toNat } }
    onPorts allPorts rootHoldStart s

/-- R217: what Crown shows of a port with a contract. -/
def showHold (p : Fin 8) (s : State) : State :=
  if (portPd s p).explicit then
    modCinch p (fun c => { c with st := .holdKept })
      (setCcState p .rootHold (modPd p (fun q => { q with txq := [] }) s))
  else modPd p (fun q => { q with txq := [] }) s

/-- R216: Crown declares loss with LAST_CAUSE `cause`. -/
def crownLoss (cause : Nat) (s : State) : State :=
  let s := loadCut (resyncAbandon s)
  let t := s.strap
  let s := { s with strap := { t with
    link := .lost, crownLost := true, crownResync := false, compareNext := false, lossCount := bump 8 t.lossCount
    lastCause := BitVec.ofNat 3 cause, wireLoss := false
    lossStart := if t.rootLost then t.lossStart else t.rootTime.toNat } }
  let s := emit (devEv 0x0D01 5 [BitVec.ofNat 8 cause]) s
  let s := if isOpen s then irq 3 s else s
  let s := onPorts allPorts showHold s
  { s with shown := some (shownNow s) }

/-- R198, R213, R227, R645: the assertion of the Crown-reset wire, at Root. A loss that Crown has not declared is R227's,
whether or not Root had declared it. (Log entry 37: DEDUCED, unsafe.) -/
def wireAssert (s : State) : State :=
  let s := { s with
    power := { s.power with refoscRestart := !s.power.refoscRunning }
    strap := { s.strap with wire := true, goodHb := 0, hbTicks := none, compareNext := false } }
  let t := s.strap
  let s := rootLoss s
  if t.crownLost then { s with strap := { s.strap with link := .lost, crownResync := false } }
  else
    { s with strap := { s.strap with
        link := .lost, crownLost := true, crownResync := false, wireLoss := true, lossCount := bump 8 t.lossCount, lastCause := 4
        lossStart := if t.rootLost then t.lossStart else t.rootTime.toNat } }

/-! ### Restore (R223 to R227, R647, R648) -/

/-- R648, R647: a port's OUTCOME at its RESYNC; under mask-ROM behaviour by what it is at the restore. -/
def outcomeOf (s : State) (p : Fin 8) : PortOutcome :=
  let h := s.strap.holds[p]
  if !s.strap.codeRunning then (if rootAttached (portCc s p) then .noContract else .unattached)
  else if h.tripped then .tripped
  else if h.detached then .detached
  else if h.hardReset then .hardReset
  else if h.fellBack && h.fellBackOff then .fellBackOff
  else if h.fellBack && h.wasSource && h.hadContract then .fellBack5v
  else if h.wasAttached && !h.hadContract then .noContract
  else if h.hadContract then .held
  else .unattached

/-- R223: the RESYNC exchange begins, port 0 first, with sequence numbers from 0 (Table 8.9). A Crown that has not declared
the loss yet learns it from Root's LOST first. (Log entry 42: DEDUCED, unsafe.) -/
def resyncStart (s : State) : State :=
  let s := if s.strap.link = .up then crownLoss 1 s else s
  { s with strap := { s.strap with
      link := .resync, goodHb := 0, crownTx := {}, rootTx := {}, fallbackDue := [], resyncNext := 0, crownResync := true } }

/-- R224: Root sends one port's RESYNC: its OUTCOME is final for this loss and its hold timer frozen. -/
def resyncSend (p : Fin 8) (s : State) : State :=
  let o := outcomeOf s p
  modHold p (fun h => { h with outcome := some o, timerRunning := false, frozen := h.inHold })
    { s with strap := { s.strap with resyncNext := p.val + 1 } }

def outcomeByte (o : PortOutcome) : Byte := BitVec.ofNat 8 o.ctorIdx

/-- STRAP_PORT_OUTCOME for a port (R225). -/
def outcomeEvent (p : Fin 8) (s : State) : State :=
  match s.strap.holds[p].outcome with
  | some .held | some .unattached | none => s
  | some o => emit (devEv 0x0D03 4 [BitVec.ofNat 8 p.val, outcomeByte o]) s

/-- CINCH as the gates stand, after a loss; COMPLIANCE is evaluated again. -/
def cinchSync (p : Fin 8) (s : State) : State :=
  modCinch p (fun c => { c with
    compliance := false, ceiling := false
    st := if c.st = .holdKept ∨ c.st = .fallback5v ∨ c.st = .compliance then
        (if c.gates then (if c.backfeed then .backfeed else .on) else if c.dsch then .discharging else .off)
      else c.st }) s

/-- The attached state that a port returns to. -/
def attachedState (s : State) (p : Fin 8) : CcState :=
  if (portCc s p).state = .debugAcc then .debugAcc else if (portPd s p).source then .attachedSrc else .attachedSnk

/-- The hold of a port is over: what it recorded is cleared. -/
def holdClear (p : Fin 8) (s : State) : State :=
  modHold p (fun h => { fallbackOff := h.fallbackOff, holdCode := h.holdCode, tripDue := h.tripDue }) s

/-- A port that is Unattached after a boot; at a restore without one it stays as it is, and a configuration written
meanwhile takes effect (R234). -/
def stayUnattached (p : Fin 8) (boot : Bool) (s : State) : State :=
  if boot then goUnattached p s
  else if isUnattached (portCc s p).state && ccPending (portCc s p) then
    enterUnattached p (if (portCc s p).state = .unattachedSnk then .snk else .src) s
  else s

/-- Table 8.6: the stand acts on its port's OUTCOME; `boot` at ready after a Crown boot. -/
def applyOutcome (p : Fin 8) (boot : Bool) (s : State) : State :=
  let o := s.strap.holds[p].outcome
  let s := cinchSync p (holdClear p s)
  match o with
  | some .held =>
    let s := modCc p (fun c => { c with hushStatus := .idle }) (setCcState p (attachedState s p) s)
    let s := softResetWith authDrop p true s
    if s.wda.policyDue && decide (s.wda.state = 2) then wdaPolicy p s else s
  | some .fellBack5v | some .fellBackOff | some .tripped | some .hardReset =>
    errorRecovery p (setCcState p (attachedState s p) s)
  | some .detached => detach p (setCcState p (attachedState s p) s)
  | some .noContract =>
    let s := setCcState p (attachedState s p) s
    if (portCc s p).state = .debugAcc then s
    else if (portPd s p).source then startSource p (pdRestart p s) else setStep p .snkWaitCaps (pdRestart p s)
  | _ => stayUnattached p boot s
where
  /-- PD afresh, the power role kept. -/
  pdRestart (p : Fin 8) (s : State) : State :=
    let src := (portPd s p).source
    let dfp := (portPd s p).dfp
    modPd p (fun q => { q with source := src, dfp := dfp }) (pdEnd p (authEnd p (unwantAll p s)))

/-- STUCK_ON that Root alone found in the loss, as Crown takes it up now (R333, R334).
(Log entry 181: DEDUCED, unsafe.) -/
def rootReports (p : Fin 8) (s : State) : State :=
  match (portCinch s p).stuckDue with
  | some mv => stuckOn p mv (modCinch p (fun c => { c with stuckDue := none }) s)
  | none => s

/-- The stand has its port again: it sees what Root recognises by now, acts on its OUTCOME, and does what waited for its
port; `boot` at ready after a Crown boot, when a port that may not be in service stays out of it. A port that is out of
service acts on no OUTCOME. -/
def portResume (p : Fin 8) (boot : Bool) (s : State) : State :=
  let s := modPd p (fun q => { q with rxq := [] })
    (modCc p (fun c => { c with cc1 := c.rootCc1, cc2 := c.rootCc2, events := [] }) s)
  if boot && !serviceable s p then
    if (portCinch s p).stuck then holdClear p s else outOfService p (holdClear p s)
  else if !boot && decide ((portCc s p).state = .outOfService) then portRequests p (holdClear p s)
  else
    let s := portRequests p (applyOutcome p boot s)
    if standActs s p then ccEvaluate p s else s

/-- The thresholds that Crown hands to Root again once it can. (Log entry 122: DEDUCED, unsafe.) -/
def rootThresholds (s : State) : State :=
  let s := onPorts allPorts (fun p s => modCinch p (fun c => { c with rootFt := c.ft, rootDroop := c.droopCfg }) s) s
  { s with groups := s.groups.map fun (g : Group) => { g with rootCfg := g.cfg } }

/-- R225, R227: the ending RESYNC is acknowledged and the link is up.
(Log entries 36: DEDUCED, unsafe; 37: DEDUCED, unsafe.) -/
def resyncEnd (s : State) : State :=
  let t := s.strap
  let dur := satTo 16 ((t.rootTime - BitVec.ofNat 32 t.lossStart).toNat / 10)
  let wire := t.wireLoss
  let s := { s with
    shown := none
    strap := { t with
      link := .up, crownLost := false, rootLost := false, crownResync := false, wireLoss := false, lastDuration := dur, compareNext := false
      lastTime := t.rootTime, ticksSince := 0 } }
  let s := if wire then s else
    let s := emit (devEv 0x0D02 3 (le 2 dur)) s
    if isOpen s then irq 4 s else s
  let s := rootEvents s
  if isReady s then
    let s := onPorts allPorts outcomeEvent s
    let s := onPorts allPorts (fun p s => modCc p (fun c => { c with hushStatus := .idle }) s) (rootThresholds s)
    let s := onPorts allPorts rootReports s
    let s := onPorts allPorts (fun p s =>
      if s.strap.holds[p].standHold then
        modHold p (fun h => { h with outcome := none, frozen := false, timerRunning := h.inHold }) s
      else portResume p s.strap.holds[p].bootDue s) (rearmDeferred s)
    droopDeferred (cmpDeferred { s with wda := { s.wda with policyDue := false } })
  else if s.boot.phase = .limp then
    onPorts allPorts (fun p s => holdClear p s) (cmpDeferred (onPorts allPorts outcomeEvent s))
  else s

/-- A RESYNC frame of one port reaches Crown: STFALLBK shows the FALLBACK it carries. -/
def resyncPort (p : Fin 8) (s : State) : State :=
  { s with strap := { s.strap with fallbackAck := withFallback p s.strap.holds[p].fallbackOff s.strap.fallbackAck } }

/-! ### Ticks and heartbeats -/

/-- TIME and FLAGS of a HEARTBEAT (Table 8.3). -/
def beatPayload (b : Beat) : List Byte := le 4 b.time.toNat ++ le 2 (b2n b.lost + 2 * b2n b.code)

/-- R205, R215: Crown sends a heartbeat. -/
def crownHeartbeat (s : State) : State :=
  let t := s.strap
  let b : Beat := { time := t.lastTime, lost := t.crownLost, code := t.codeRunning, ack := ackOwed t.crownTx }
  lanePut false (frameHeader 1 0 0 b.ack) (some (beatPayload b))
    (ackSent false { s with strap := { t with hbTicks := some 0, crownHb := t.crownHb ++ [b] } })

/-- R205, R215: Root sends a heartbeat: 20 µs more on its count. -/
def rootHeartbeat (s : State) : State :=
  let t := s.strap
  let b : Beat := { time := t.rootTime + 20, lost := t.rootLost, code := t.codeRunning, ack := ackOwed t.rootTx }
  lanePut true (frameHeader 1 0 0 b.ack) (some (beatPayload b))
    (ackSent true { s with strap := { t with rootTime := t.rootTime + 20, rootHb := t.rootHb ++ [b] } })

/-- R204, R205, R122: Crown receives a TICK; `gap` when it is the first after 2 µs or more without. The first TICK of a
restarted oscillator shows that it runs again (R645). -/
def tickReceive (gap : Bool) (s : State) : State :=
  let s := if s.power.refoscRestart then { s with power := { s.power with refoscRestart := false, refoscRunning := true } } else s
  if !crownRuns s || !s.power.refoscRunning then s else
  let s := if ticksCount s then advanceTime 1 s else s
  let s := { s with strap := { s.strap with ticksSince := s.strap.ticksSince + 1 } }
  match s.strap.hbTicks with
  | none => crownHeartbeat s
  | some n =>
    if gap || decide (19 ≤ n) then crownHeartbeat s
    else { s with strap := { s.strap with hbTicks := some (n + 1) } }

/-- The Ring timestamp base and UPTIME take Root's TIME (R206); the timer cells do not.
(Log entry 38: DEDUCED, unsafe.) -/
def catchUp (time : Word) (s : State) : State :=
  let n := (time - s.time.stamp).toNat
  let now := s.time.now
  let s := advanceTime n s
  { s with time := { s.time with now := now } }

/-- R206 at a Root heartbeat while the link is up. (Log entries 38: DEDUCED, unsafe; 39: DEDUCED, unsafe.) -/
def heartbeatCompare (time : Word) (s : State) : State :=
  let t := s.strap
  let s := if t.compareNext then
      let missing := (time - t.lastTime).toNat - t.ticksSince
      if missing = 0 then s
      else emit (devEv 0x0D05 2 [BitVec.ofNat 8 (satTo 8 missing)])
        (advanceTime missing { s with strap := { t with slips := bump 16 t.slips } })
    else catchUp time s
  { s with strap := { s.strap with compareNext := true, lastTime := time, ticksSince := 0 } }

/-- A Root heartbeat at Crown (R206, R214). -/
def rootBeat (time : Word) (lost : Bool) (s : State) : State :=
  if !crownRuns s then s else
  match s.strap.link with
  | .up => if lost then crownLoss 1 s else heartbeatCompare time s
  | .notYetUp =>
    if lost then s
    else { s with strap := { s.strap with link := .up, compareNext := true, lastTime := time, ticksSince := 0 } }
  | _ => { s with strap := { s.strap with lastTime := time, ticksSince := 0 } }

/-- A Crown heartbeat at Root (R223). -/
def crownBeat (s : State) : State :=
  if s.strap.rootLost && !s.strap.wire && decide (s.strap.link ≠ .resync) then
    let n := s.strap.goodHb + 1
    let s := { s with strap := { s.strap with goodHb := n } }
    if 3 ≤ n then resyncStart s else s
  else s

/-- A heartbeat arrives, `missed` older ones having been lost: the acknowledgement in its header, then the beat itself. -/
def heartbeat (fromRoot : Bool) (missed : Nat) (s : State) : State :=
  match (if fromRoot then s.strap.rootHb else s.strap.crownHb).drop missed with
  | [] => s
  | b :: t =>
    let s := if fromRoot then { s with strap := { s.strap with rootHb := t } }
      else { s with strap := { s.strap with crownHb := t } }
    let s := ackTakeOpt fromRoot b.ack s
    if fromRoot then rootBeat b.time b.lost s
    else crownBeat (if missed = 0 then s else { s with strap := { s.strap with goodHb := 0 } })

/-! ### The Root code load (R209, R210, R65) -/

/-- The image whose code the boot wants. -/
def bootRoot (s : State) : List Byte := slotRoot s s.boot.slot

/-- R65: the running Root code is that of the slot being booted. -/
def rootMatches (s : State) : Bool := s.strap.codeRunning && s.strap.codeDigest == rootDigest (bootRoot s)

/-- R65: before a reload, Root completes its holds and takes every port's fallback; the OUTCOMEs that its RESYNC frames gave
stay final (R224). (Log entry 24: DEDUCED, unsafe.) -/
def rootGiveUp (s : State) : State :=
  let s := onPorts allPorts (fun p s =>
    if s.strap.holds[p].inHold then modHold p (fun h => { h with frozen := false }) (takeFallback p s) else s) s
  { s with strap := { s.strap with codeRunning := false } }

/-- Root takes a port's fallback from an accepted frame: it shows once that frame is acknowledged (R222). -/
def setFallback (seq : BitVec 4) (p : Fin 8) (off : Bool) (s : State) : State :=
  modHold p (fun h => { h with fallbackOff := off })
    { s with strap := { s.strap with fallbackDue := s.strap.fallbackDue ++ [(seq, p, off)] } }

/-- R209: PARAMS at Root, with HOLD_P0 to HOLD_P7 of Heartwood, the manifest's FALLBACK and the slot's Root code; a matching
code ends step 5 without a load, and before any other the ports take the fallback that Root held until now (R65). -/
def paramsReceive (seq : BitVec 4) (s : State) : State :=
  let fallback := patFallback (slotPattern s s.boot.slot)
  let code := bootRoot s
  let same := rootMatches s
  let s := if !same && s.strap.codeRunning then rootGiveUp s else s
  let s := onPorts allPorts (fun p s =>
    let hold := holdCode s p
    modHold p (fun h => { h with holdCode := hold }) (setFallback seq p (fallback.getD p.val 0 == 1) s)) s
  if same then { s with boot := { s.boot with phase := .selftest } }
  else
    { s with strap := { s.strap with
        params := true, loadSize := rootCodeSize code, loadVer := rootVersion code, loadData := [], loadFailed := none } }

/-- The bytes that have arrived with every lower offset, in steps of 32. -/
def loadPrefix (got : List (Nat × List Byte)) : Nat → Nat → List Byte
  | 0, _ => []
  | n + 1, off => match got.find? fun g => g.1 = off with
    | some g => g.2 ++ loadPrefix got n (off + 32)
    | none => []

/-- How many offsets arrived in a row from 0. -/
def loadRun (got : List (Nat × List Byte)) : Nat → Nat → Nat
  | 0, _ => 0
  | n + 1, off => if got.any fun g => g.1 = off then 1 + loadRun got n (off + 32) else 0

/-- R210: the ending LOAD with CODE_DIGEST. -/
def loadEnd (s : State) : State :=
  let digest := rootDigest (bootRoot s)
  let t := s.strap
  let need := (t.loadSize + 31) / 32
  let run := loadRun t.loadData need 0
  if run = need then
    let s := { s with strap := { t with
      params := false, loadData := [], codeRunning := true, rootCode := (loadPrefix t.loadData need 0).take t.loadSize
      rootVer := t.loadVer, rootStamp := rootStamp (bootRoot s), codeDigest := slice digest 0 32 } }
    let s := emit (devEv 0x0D04 1 (le 4 t.loadVer.toNat)) s
    if s.boot.phase = .rootLoad then { s with boot := { s.boot with phase := .selftest, rootReloaded := true } } else s
  else
    { s with strap := { t with
        params := false, loadData := [], codeRunning := false
        loadFailed := some (if run = 0 then 0xFFFF else 32 * (run - 1)) } }

/-- R209, R210: a LOAD frame at Root, its DATA the 32 bytes of the slot's Root code at OFFSET. -/
def loadReceive (offset : Half) (s : State) : State :=
  if !s.strap.params then s
  else if offset = 0xFFFF then loadEnd s
  else { s with strap := { s.strap with
      loadData := s.strap.loadData.filter (fun g => g.1 ≠ offset.toNat)
        ++ [(offset.toNat, slice (rootCode (bootRoot s)) offset.toNat 32)] } }

/-- R209: Crown may send a LOAD: after PARAMS, in ascending OFFSET, and the ending one last. -/
def loadMay (offset : Half) (s : State) : Bool :=
  s.strap.params && decide (s.strap.loadNext ≤ offset.toNat) && (decide (offset = 0xFFFF)
    || (decide (offset.toNat % 32 = 0) && decide (offset.toNat < s.strap.loadSize)))

/-- R210: Root's report of an incomplete load reaches Crown. (Log entry 43: DESIGN CHOICE, unsafe.) -/
def portRsp (s : State) : State :=
  match s.strap.loadFailed with
  | none => s
  | some off =>
    if s.boot.phase ≠ .rootLoad then s
    else
      let s := { s with strap := { s.strap with loadFailed := none } }
      if s.strap.retried then refuseRoot 7 s
      else emit (devEv 0x0D06 4 (le 2 off)) { s with strap := { s.strap with retried := true } }

/-! ### Other frames -/

/-- A trip made by Root alone is told in the entry that a trip of its kind has; KIND carries the codes of LAST_TRIP, and a gate
fault's gate is free. (Log entry 111: DEDUCED, unsafe.) -/
def rootTripEvent (p : Fin 8) (kind value : Nat) (s : State) : State :=
  match kind with
  | 5 => evp p 0x2020 4 (BitVec.ofNat 8 (field (portCinch s p).cfg 24 24) :: le 2 value) s
  | 6 => evp p 0x2029 5 (Config.codeByte 0x2029 2 :: le 2 value) s
  | k => fastTripEvent p k value s

/-- TRIP at Crown: a trip that Root made alone. A stand that acts goes on as after any trip (R327); a port still held has it
counted, and its OUTCOME brings the rest. (Log entry 111: DEDUCED, unsafe.) -/
def tripReceive (p : Fin 8) (s : State) : State :=
  match s.strap.holds[p].tripDue with
  | none => s
  | some t =>
    let s := modHold p (fun h => { h with tripDue := none }) s
    if t.1 = 0 then s
    else
      let s := rootTripEvent p t.1.toNat t.2.toNat s
      if standActs s p then afterTrip p t.1.toNat s
      else tripCount p t.1.toNat (modCinch p (tripShown t.1.toNat) s)

/-- R646: REFOSC_FAIL reported by Root; DATA is the number of ports that took their fallback.
(Log entry 44: DEDUCED, unsafe.) -/
def alarmReceive (s : State) : State :=
  match s.power.refoscReport with
  | some n => alarmBit 1 true (emit (devEv 0x0006 6 [BitVec.ofNat 8 (satTo 8 n)]) s)
  | none => s

/-- PORT_CMD at Root: the port operation, while loaded Root code runs and the port is in no hold (R218).
Within an attach VCONN goes off by an over-current or a VCONN_Swap alone (R243).
(Log entries 43: DESIGN CHOICE, unsafe; 108: DEDUCED, unsafe; 158: DESIGN CHOICE, unsafe.) -/
def portCmd (p : Fin 8) (op : PortOp) (s : State) : State :=
  if !s.strap.codeRunning || s.strap.holds[p].inHold || s.strap.holds[p].standHold then s else
  match op with
  | .gatesOn => if (portCinch s p).gates then s else turnOn p s
  | .gatesOff => gatesOff p s
  | .fastOff => gatesDark p s
  | .discharge true => dischargeOn p s
  | .discharge false =>
    modCinch p (fun c => { c with dsch := false, st := if c.st = .discharging then .off else c.st }) s
  | .presentRp l => present p (.rp l) s
  | .presentRd => present p .rd s
  | .openCc => present p .opened s
  | .vconn true =>
    if vconnAllowed s p && decide ((portCc s p).state = .attachedSrc) && (portCc s p).raSeen then vconnTurnOn p s else s
  | .vconn false => if isAttached (portCc s p).state then s else vconnOff p s
  | .vset code => setCode p (limitCode (portCinch s p) code) s
  | .hardReset =>
    if standActs s p && s.power.refoscRunning && isAttached (portCc s p).state then hardReset p true 0 s else s
  | .setFt w => modCinch p (fun c => { c with rootFt := w }) s
  | .setDroop w => modCinch p (fun c => { c with rootDroop := w }) s
  | .capture => capture 0x15 p s

/-! ### A frame's way: sent, accepted in order, sent again -/

/-- The sender has this frame to send. -/
def frameMay (b : StrapBody) (s : State) : Bool :=
  match b with
  | .trip p => rootSeen s && s.strap.holds[p].tripDue.isSome && !onItsWay s b
  | .alarm => s.power.refoscReport.isSome && !onItsWay s b
  | .resync (.port p) => decide (s.strap.link = .resync) && !s.strap.wire && decide (s.strap.resyncNext = p.val)
  | .resync .ending => decide (s.strap.link = .resync) && !s.strap.wire && decide (s.strap.resyncNext = 8)
  | .ccEvent p => rootSeen s && !(portCc s p).events.isEmpty
  | .pdRx p => rootSeen s && !(portPd s p).rxq.isEmpty
  | .pdTx p own => rootSeen s && (own.isSome || !(portPd s p).txq.isEmpty)
  | .portCmd _ _ => rootSeen s && isReady s
  | .portRsp _ => rootSeen s
  | .fallbackSet _ _ => rootSeen s && isReady s
  | .params => rootSeen s && decide (s.boot.phase = .rootLoad) && !s.strap.params && s.strap.loadFailed.isNone && !onItsWay s b
  | .load off => rootSeen s && decide (s.boot.phase = .rootLoad) && loadMay off s

/-- What sending a frame does at its sender. -/
def frameSent (b : StrapBody) (s : State) : State :=
  match b with
  | .resync (.port p) => resyncSend p s
  | .resync .ending => { s with strap := { s.strap with resyncNext := 9 } }
  | .pdTx p (some own) => ownStart p own s
  | .params => { s with strap := { s.strap with loadNext := 0 } }
  | .load off => { s with strap := { s.strap with loadNext := off.toNat + 1 } }
  | _ => s

/-- The payload of a frame as its sender builds it (Table 8.3); none where the spec gives no coding.
(Log entry 199: DESIGN CHOICE, unsafe.) -/
def strapPayload (b : StrapBody) (s : State) : Option (List Byte) :=
  let code := bootRoot s
  match b with
  | .trip p => s.strap.holds[p].tripDue.map fun t => t.1 :: le 2 t.2.toNat
  | .alarm => s.power.refoscReport.map fun n => le 2 0x0006 ++ le 4 n
  | .resync (.port p) =>
    let h := s.strap.holds[p]
    h.outcome.map fun o => [outcomeByte o, BitVec.ofNat 8 (b2n h.fallbackOff)] ++ le 4 (portPd s p).pdo.toNat
      ++ le 4 (portPd s p).rdo.toNat
  | .resync .ending => some (s.strap.codeDigest.take 32 ++ le 4 s.strap.rootVer.toNat)
  | .fallbackSet _ off => some [BitVec.ofNat 8 (b2n off)]
  | .params => some (allPorts.map (fun p => BitVec.ofNat 8 (holdCode s p))
      ++ (List.range 8).map ((patFallback (slotPattern s s.boot.slot)).getD · 0)
      ++ le 2 (rootCodeSize code) ++ le 4 (rootVersion code).toNat)
  | .load off => some (le 2 off.toNat ++ if off = 0xFFFF then rootDigest code else slice (rootCode code) off.toNat 32)
  | _ => none

/-- What an accepted frame does at its receiver; in a loss only an ALARM and the RESYNC frames do anything. -/
def frameEffect (seq : BitVec 4) (b : StrapBody) (s : State) : State :=
  match b with
  | .alarm => alarmReceive s
  | .resync (.port p) => if s.strap.link = .resync then resyncPort p s else s
  | .resync .ending => if s.strap.link = .resync then resyncEnd s else s
  | .trip p => if rootSeen s then tripReceive p s else s
  | .ccEvent p => if rootSeen s then ccEvent p s else s
  | .pdRx p => if rootSeen s then rxDeliver p s else s
  | .pdTx p _ => if rootSeen s then pdTransmit p s else s
  | .portCmd p op => if rootSeen s then portCmd p op s else s
  | .portRsp _ => if rootSeen s then portRsp s else s
  | .fallbackSet p off => if rootSeen s then setFallback seq p off s else s
  | .params => if rootSeen s && decide (s.boot.phase = .rootLoad) then paramsReceive seq s else s
  | .load off => if rootSeen s && decide (s.boot.phase = .rootLoad) then loadReceive off s else s

/-- R202: a frame arrives whole: its acknowledgement, and its own effect if its SEQ is the next in order; any other is
acknowledged again. A Crown in reset or in the integrity hold accepts none. (Log entry 40: DESIGN CHOICE, unsafe.) -/
def frameArrives (f : SentFrame) (s : State) : State :=
  let up := towardCrown f.body
  if up && !crownUp s then s else
  let s := ackTakeOpt up (hdrAck f.hdr) s
  let w := strapEnd (!up) s
  if hdrSeq f.hdr = w.rxNext then
    frameEffect (hdrSeq f.hdr) f.body (setEnd (!up) { w with rxNext := w.rxNext + 1, ackDue := true } s)
  else setEnd (!up) { w with ackDue := true } s

/-- A frame put on the lanes with the next SEQ: it arrives, or is lost. -/
def frameOut (b : StrapBody × Option (List Byte)) (arrives : Bool) (s : State) : State :=
  let up := towardCrown b.1
  let w := strapEnd up s
  let f : SentFrame :=
    { hdr := frameHeader (frameType b.1) (framePort b.1) w.nextSeq (ackOwed w), body := b.1, payload := b.2 }
  let s := setEnd up { w with nextSeq := w.nextSeq + 1, unacked := w.unacked ++ [f], ackDue := false } s
  let s := lanePut up f.hdr f.payload s
  if arrives then frameArrives f s else s

/-- Waiting frames go out in their order as far as acknowledgements make room; `lost` is one that does not arrive. -/
def heldOut (up : Bool) (lost : Option StrapBody) (s : State) : State :=
  (List.range 9).foldl (fun s _ =>
    let w := strapEnd up s
    match w.held with
    | [] => s
    | b :: t => if w.unacked.length < 8 then frameOut b (decide (lost ≠ some b.1)) (setEnd up { w with held := t } s) else s) s

/-- R202: a frame to send, behind those that wait for room in the order of the service classes (R200); what its
acknowledgement made room for follows in the other direction. -/
def frameSend (b : StrapBody) (arrives : Bool) (s : State) : State :=
  if !frameMay b s then s else
  let s := frameSent b s
  let up := towardCrown b
  let w := strapEnd up s
  let s := setEnd up { w with held := holdFrame (b, strapPayload b s) w.held } s
  heldOut (!up) none (heldOut up (if arrives then none else some b) s)

/-- An ACK frame: the last SEQ received in order. -/
def ackFrame (toCrown : Bool) (s : State) : State :=
  let seq := (strapEnd toCrown s).rxNext - 1
  let s := lanePut toCrown (frameHeader 2 0 0 (some seq)) (some []) (ackSent toCrown s)
  heldOut (!toCrown) none (ackTake toCrown seq s)

/-- What the acknowledgement in a frame of another kind made room for goes out. -/
def beatFlush (fromRoot : Bool) (s : State) : State := if rootSeen s then heldOut (!fromRoot) none s else s

/-- A METRO or STATS frame of Root's (TYPE `ty`), with the acknowledgement that it owes. -/
def looseFrame (ty : Nat) (s : State) : State :=
  let a := ackOwed s.strap.rootTx
  beatFlush true (ackTakeOpt true a (lanePut true (frameHeader ty 0 0 a) none (ackSent true s)))

/-- R203: the oldest unacknowledged frame and every later one again. -/
def sendAgain (up : Bool) (s : State) : State :=
  let s := if up then s else { s with strap := { s.strap with
    retx := s.strap.crownTx.unacked.foldl (fun c _ => bump 16 c) s.strap.retx } }
  (strapEnd up s).unacked.foldl (fun s f => frameArrives f (lanePut up f.hdr f.payload s)) s

/-- METRO: Root's last samples of these ports are Crown's readings; each takes four bytes at least of the 36.
(Log entries 130: DEDUCED, unsafe; 199: DESIGN CHOICE, unsafe.) -/
def metroSamples (ports : List (Fin 8)) (s : State) : State :=
  if 9 < ports.length then s else onPorts ports (fun p s => modMetro p (fun m => { m with stale := false }) s) s

/-! ### Registers -/

def linkCode (l : LinkState) : Nat := l.ctorIdx

/-- (Log entry 9: DESIGN CHOICE, unsafe.) -/
def stStatWord (s : State) : Word :=
  mkWord [(24, satTo 8 s.strap.laneRate), (16, Config.romLevel.toNat), (8, s.strap.rootReason.toNat),
    (1, linkCode s.strap.link), (0, b2n s.strap.codeRunning)]

def stLossWord (s : State) : Word :=
  mkWord [(24, s.strap.lossCount.n), (23, b2n s.strap.lossCount.sat), (20, s.strap.lastCause.toNat),
    (0, satTo 16 s.strap.lastDuration)]

def stErrWord (s : State) : Word :=
  let t := s.strap
  mkWord [(20, t.rxCrown.n), (8, t.rxRoot.n), (3, b2n t.slips.sat), (2, b2n t.retx.sat), (1, b2n t.rxRoot.sat),
    (0, b2n t.rxCrown.sat)]

def stCountWord (s : State) : Word := mkWord [(16, s.strap.retx.n), (0, s.strap.slips.n)]

def stLossWrite (v : Word) (s : State) : State :=
  if flag v 23 then { s with strap := { s.strap with lossCount := {} } } else s

/-- (Log entry 41: DEDUCED, unsafe.) -/
def stErrWrite (v : Word) (s : State) : State :=
  let t := s.strap
  { s with strap := { t with
    slips := if flag v 3 then {} else t.slips
    retx := if flag v 2 then {} else t.retx
    rxRoot := if flag v 1 then {} else t.rxRoot
    rootErrs := if flag v 1 then {} else t.rootErrs
    rxCrown := if flag v 0 then {} else t.rxCrown } }

/-! ### The family's meanings -/

/-- TICK. -/
def execTick (gap : Bool) (s : State) : Host.Outcome State Fault Refusal := complete s (tickReceive gap (laneBegin s))

/-- ROOT_HEARTBEAT_SEND: 20 µs more on Root's count, and a heartbeat sent, while the reference oscillator runs.
(Log entry 39: DEDUCED, unsafe.) -/
def execRootHeartbeatSend (s : State) : Host.Outcome State Fault Refusal :=
  complete s (if s.power.refoscRunning then rootHeartbeat (laneBegin s) else laneBegin s)

/-- HEARTBEAT: the oldest on its way, after `missed` that were lost. (Log entry 39: DEDUCED, unsafe.) -/
def execHeartbeat (fromRoot : Bool) (missed : Nat) (s : State) : Host.Outcome State Fault Refusal :=
  complete s (beatFlush fromRoot (heartbeat fromRoot missed (laneBegin s)))

/-- ACK. -/
def execAck (atCrown : Bool) (s : State) : Host.Outcome State Fault Refusal := complete s (ackFrame atCrown (laneBegin s))

/-- STRAP_FRAME_BAD (R201): discarded and counted; at Root it also ends a run of valid heartbeats (R223). `sent` is the frame
that its sender had put on the lanes, if it is one that is sent again. -/
def execStrapFrameBad (atCrown : Bool) (line : StrapLine) (sent : Option StrapBody) (s : State) :
    Host.Outcome State Fault Refusal :=
  complete s <|
    let s := laneBegin s
    if !frameBad atCrown line then s else
    let s := match sent with
      | some b => if towardCrown b = atCrown then frameSend b false s else s
      | none => s
    if !atCrown then { s with strap := { s.strap with rootErrs := bump 12 s.strap.rootErrs, goodHb := 0 } }
    else if crownRuns s then { s with strap := { s.strap with rxCrown := bump 12 s.strap.rxCrown } }
    else s

/-- STRAP_RETRANSMIT (R203): RETRANSMITS counts each frame that Crown sends again. -/
def execStrapRetransmit (byCrown : Bool) (s : State) : Host.Outcome State Fault Refusal :=
  complete s (sendAgain (!byCrown) (laneBegin s))

/-- TRIP. -/
def execTrip (p : Fin 8) (s : State) : Host.Outcome State Fault Refusal := complete s (frameSend (.trip p) true (laneBegin s))

/-- ALARM: accepted whether or not loss is declared (R646). -/
def execAlarm (s : State) : Host.Outcome State Fault Refusal := complete s (frameSend .alarm true (laneBegin s))

/-- RESYNC. -/
def execResync (f : ResyncFrame) (s : State) : Host.Outcome State Fault Refusal :=
  complete s (frameSend (.resync f) true (laneBegin s))

/-- CC_EVENT. -/
def execCcEvent (p : Fin 8) (s : State) : Host.Outcome State Fault Refusal := complete s (frameSend (.ccEvent p) true (laneBegin s))

/-- PD_RX. -/
def execPdRx (p : Fin 8) (s : State) : Host.Outcome State Fault Refusal := complete s (frameSend (.pdRx p) true (laneBegin s))

/-- PD_TX, with what the Pattern asks its engine to start, if anything. -/
def execPdTx (p : Fin 8) (own : Option PdOwn) (s : State) : Host.Outcome State Fault Refusal :=
  complete s (frameSend (.pdTx p own) true (laneBegin s))

/-- PORT_CMD. -/
def execPortCmd (p : Fin 8) (op : PortOp) (s : State) : Host.Outcome State Fault Refusal :=
  complete s (frameSend (.portCmd p op) true (laneBegin s))

/-- PORT_RSP. -/
def execPortRsp (p : Fin 8) (s : State) : Host.Outcome State Fault Refusal := complete s (frameSend (.portRsp p) true (laneBegin s))

/-- FALLBACK_SET. -/
def execFallbackSet (p : Fin 8) (off : Bool) (s : State) : Host.Outcome State Fault Refusal :=
  complete s (frameSend (.fallbackSet p off) true (laneBegin s))

/-- PARAMS. -/
def execParams (s : State) : Host.Outcome State Fault Refusal := complete s (frameSend .params true (laneBegin s))

/-- LOAD. -/
def execLoad (offset : Half) (s : State) : Host.Outcome State Fault Refusal :=
  complete s (frameSend (.load offset) true (laneBegin s))

/-- METRO_FRAME. -/
def execMetroFrame (ports : List (Fin 8)) (s : State) : Host.Outcome State Fault Refusal :=
  complete s (if rootSeen s then metroSamples ports (looseFrame 0xE (laneBegin s)) else laneBegin s)

/-- STATS: RX_ERRS_ROOT as Root's last frame reports it, and the slowest lane (STSTAT).
(Log entry 41: DEDUCED, unsafe.) -/
def execStats (laneRate : Byte) (s : State) : Host.Outcome State Fault Refusal :=
  complete s <|
    let s := laneBegin s
    if rootSeen s then
      let s := looseFrame 0xF s
      { s with strap := { s.strap with
      rxRoot := { n := s.strap.rootErrs.n, sat := s.strap.rxRoot.sat || s.strap.rootErrs.sat }
      laneRate := laneRate.toNat } }
    else s

/-- ROOT_STRAP_LOSS. -/
def execRootStrapLoss (s : State) : Host.Outcome State Fault Refusal :=
  complete s (if s.strap.link = .notYetUp then s else rootLoss s)

/-- CROWN_STRAP_LOSS: by the next heartbeat of Root's on its way with LOST, or by Crown's own timer (LAST_CAUSE). -/
def execCrownStrapLoss (byHeartbeat : Bool) (s : State) : Host.Outcome State Fault Refusal :=
  complete s <|
    if !crownRuns s || !(strapUp s || s.strap.crownResync) then s
    else if !byHeartbeat then crownLoss 2 s
    else match s.strap.rootHb.dropWhile fun b => !b.lost with
      | [] => s
      | _ :: t => crownLoss 1 { s with strap := { s.strap with rootHb := t } }

/-- CROWN_RESET_WIRE_ASSERT. -/
def execCrownResetWireAssert (s : State) : Host.Outcome State Fault Refusal := complete s (wireAssert s)

/-- CROWN_RESET_WIRE_RELEASE: once the boot has reached step 5 of Table 3.5, or has ended in Limp. -/
def execCrownResetWireRelease (s : State) : Host.Outcome State Fault Refusal :=
  complete s <|
    match s.boot.phase with
    | .rootLoad | .selftest | .ready | .limp => { s with strap := { s.strap with wire := false } }
    | _ => s

/-- HOLD_EXPIRE (R220). -/
def execHoldExpire (p : Fin 8) (s : State) : Host.Outcome State Fault Refusal :=
  complete s <|
    let h := s.strap.holds[p]
    if h.inHold && h.timerRunning && !h.frozen then takeFallback p s else s

end Sys2Proof.Machine
end

