-- ==== Sys2Proof/Machine/Reset.lean ====
section
/-! DEFINITION. Reset kinds (Table 3.4 and the reset tables of every chapter), the supplies (R55 to R62), the core-voltage
loop (R74 to R83), and the watchdogs WD-A and WD-B (chapter 18). -/

namespace Sys2Proof.Machine

/-! ### What a reset leaves -/

/-- A flash program that a reset aborts: NOR cells of its range may have cleared, so each byte keeps at least its zeros, and
otherwise is free. (Log entry 26: DESIGN CHOICE, safe.) -/
def tornProgram (addr n : Nat) (s : State) : State :=
  (List.range n).foldl (fun s k =>
    let b : Byte := (freeValue s).extractLsb' 0 8
    drawn (flashProgram (addr + k) [b] s)) s

/-- A flash erase that a reset aborts: every byte of its range is free. (Log entry 26: DESIGN CHOICE, safe.) -/
def tornErase (addr n : Nat) (s : State) : State :=
  (List.range n).foldl (fun s k =>
    let b : Byte := (freeValue s).extractLsb' 0 8
    drawn { s with flash := { s.flash with mem := mput erased s.flash.mem (addr + k) b } }) s

/-- What a Graft job's own flash work leaves when a reset aborts it. (Log entry 26: DESIGN CHOICE, safe.) -/
def tornGraft (s : State) : State :=
  match s.host.job.bind HostJob.work with
  | some (.graftOpen _ _ _ _) => tornProgram (graftLogAddr s 0) 16 (tornProgram (graftBase s) 256 s)
  | some (.graftPiece _ k _ _ _) =>
    tornProgram (pieceMarkAddr s k.toNat) 1 (tornProgram (stagingBase s + 512 * k.toNat) 512 s)
  | some (.graftDiscard _ _) => tornErase (graftBase s) 0x10000 (tornErase (stagingBase s) 0x100000 s)
  | _ => s

/-- A background copy's block that a reset aborts. (Log entry 26: DESIGN CHOICE, safe.) -/
def tornCopy (s : State) : State :=
  let off := 0x10000 * s.graft.blocksDone
  match s.graft.st with
  | .verified | .installing => tornErase (trialBase s + off) 0x10000 s
  | .promoting => tornErase (rootstockBase s + off) 0x10000 s
  | _ => s

/-- What an aborted transfer leaves (chapter 03, "When things collide"). (Log entry 26: DESIGN CHOICE, safe.) -/
def tornOp (o : FlashOp) (s : State) : State :=
  match o with
  | .recordRead _ => s
  | .recordWrite i =>
    match s.pocket.buffer.find? (fun b => b.item = i) with
    | some b => tornProgram (recordAddr s b.index) 64 s
    | none => s
  | .journal =>
    -- the sector's first entry is written after its erase (R608)
    let a := journalAddr s s.ring.jNext
    if s.ring.jNext % 256 = 0 then tornErase a 4096 s else tornProgram a 16 s
  | .hostWrite a d => tornProgram a d.length s
  | .hostErase a => tornErase a 4096 s
  | .hostRead _ _ => s
  | .relayRead _ _ _ _ => s
  | .graft programs => if programs then tornGraft s else s
  | .copy => tornCopy s

/-- The flash port aborts what it runs. (Log entry 26: DESIGN CHOICE, safe.) -/
def flashAbort (s : State) : State :=
  let f := s.flash
  let s := match f.current with
    | some o => tornOp o s
    | none => s
  let s := match f.suspended with
    | some o => tornOp o s
    | none => s
  { s with flash := { s.flash with current := none, suspended := none, waiting := [] } }

/-- The burn that a reset stops: the cell being pulsed takes a free outcome (chapter 04, "When things collide").
(Log entry 59: DESIGN CHOICE, safe.) -/
def burnAbort (s : State) : State :=
  match s.heart.running with
  | none => s
  | some r =>
    match r.todo with
    | [] => s
    | c :: _ =>
      let o : CellOutcome := match (freeValue s).toNat % 3 with
        | 0 => .pass
        | 1 => .weak
        | _ => .blank
      let thermo := decide (c.row = 0xE0) || decide (c.row = 0xE1)
      let row := pulseCell (hwRow s.heart.cells c.row) thermo c.bit o
      drawn { s with heart := { s.heart with cells := mput {} s.heart.cells c.row row } }

/-- Table 16.8: SESSION items erased, Awl queue and record buffer cleared; what lies in the Pocket stays (R64, R492). -/
def pocketDown (s : State) : State :=
  let s := onPorts allPorts (fun p s => eraseItem (sessionItem p) s) s
  let items := s.pocket.items.map fun (t : PkItem) => { t with busy := false }
  { s with
    pocket := { s.pocket with items := items, buffer := [], chainOk := false }
    awl := { units := s.awl.units, fails := s.awl.fails, maxWait := s.awl.maxWait } }

/-- R178: a long job that the reset ends; `kind` 0 Crown reset, 1 WD-B expiry. A synchronous command that the reset ends is
the last one TAKEN too, with the RSP that a read would return (R156, Table 6.8).
(Log entries 16: DESIGN CHOICE, safe; 81: DEDUCED, unsafe.) -/
def hostInterrupted (kind : Nat) (s : State) : State :=
  match s.host.job with
  | some j =>
    if s.host.jobDone then s
    else
      let s := { s with host := { s.host with last := { cmd := j.cmd, seq := j.seq, rsp := if j.long then 0x05 else 0
                                                        station := BitVec.ofNat 8 j.station, detail := 0, time := s.time.stamp } } }
      emitIf j.long (devEv 0x0105 4 [j.cmd, j.seq, Config.codeByte 0x0105 kind]) s
  | none => s

/-! ### Power-on and RST_N -/

/-- Both dies reset: everything at its reset value but the Sap domain, the fused cells, the flash and `power`
(Table 3.4). The ports of a group whose VIN has reached 4.5 V are in Reset hold with discharge on, those of another
Unpowered (R62, Table 2.8). -/
def dieReset (power : Power) (boot : Boot) (s : State) : State :=
  let s := pocketDown (flashAbort (burnAbort s))
  { State.reset with
    pending := s.pending
    freeCtr := s.freeCtr
    power := power
    boot := boot
    heart := { cells := s.heart.cells }
    ports := Vector.ofFn fun p => { cinch := { dsch := power.groupUp[groupOf p] || decide (4500 ≤ power.vinMv[groupOf p]) } }
    cmps := (Vector.replicate 8 ({} : Cmp)).set 0 { cfg := s.cmps[0].cfg }
    sap := s.sap
    pocket := { s.pocket with presses := {}, unpresses := {} }
    bark := s.bark
    flash := { mem := s.flash.mem, ok := s.flash.ok } }

/-- What could still arrive together with a reset that begins, or that stands already (R66).
(Log entry 45: DEDUCED, unsafe.) -/
def togetherOf (s : State) : Together :=
  if crownRuns s then
    { wdb := s.wdb.running, wda := s.wda.state = 1 && flag s.wda.cfg 0, host := s.host.resetArmed, graft := graftCounts s
      vcore := true }
  else s.boot.together

/-- RSTCAUSE bits of the Crown reset that stands and has not booted yet (R66). (Log entry 45: DEDUCED, unsafe.) -/
def standingCauses (s : State) : BitVec 14 := if s.boot.phase = .crownReset then s.boot.arrived else 0

/-- POWER_ON_RESET: R62, R66, R67. (Log entry 45: DEDUCED, unsafe.) -/
def powerOn (c : PorCause) (s : State) : State :=
  let vdd := decide (c ≠ .vin)
  let vin := decide (c ≠ .vdd18)
  let up : Vector Bool 2 := if vin then .replicate 2 false else s.power.groupUp
  let mv : Vector Nat 2 := if vin then .replicate 2 0 else s.power.vinMv
  let cause : BitVec 14 := BitVec.ofNat 14 (b2n vdd + (b2n vin) <<< 1)
  keepAlive (dieReset { vdd18 := s.power.vdd18 && !vdd, vddio := s.power.vddio, vddio33 := s.power.vddio33,
                        rstNHigh := s.power.rstNHigh, groupUp := up, vinMv := mv, vdd18Mv := s.power.vdd18Mv
                        refoscRunning := s.power.refoscRunning, refoscRestart := !s.power.refoscRunning }
    { cause := standingCauses s ||| cause, together := togetherOf s } s)

/-- A boot more since the last clear. (Log entry 45: DEDUCED, unsafe.) -/
def countBoot (b : Boot) : Boot := { b with resetCount := bump 8 b.resetCount }

/-- R42, R66, R67: RST_N recognised low; one more boot follows, unless a reset whose boot has not begun stands already. -/
def rstNReset (s : State) : State :=
  let b0 : Boot := { cause := s.boot.cause ||| 4, resetCount := s.boot.resetCount, together := togetherOf s }
  let b := if crownRuns s then countBoot b0 else b0
  dieReset { vdd18 := s.power.vdd18, vddio := s.power.vddio, vddio33 := s.power.vddio33, groupUp := s.power.groupUp,
             vinMv := s.power.vinMv, vdd18Mv := s.power.vdd18Mv, refoscRunning := s.power.refoscRunning,
             refoscRestart := !s.power.refoscRunning } b s

/-- R42: the length of a low pulse that is recognised; between 100 ns and 1.0 µs it is open. -/
def rstNSeen (lowNs : Nat) : Bool :=
  if lowNs < 100 then false else if 1000 ≤ lowNs then true else Config.rstnSeen lowNs

/-! ### Crown reset and WD-B expiry -/

/-- What Crown's part of a port keeps: what Root holds and shows, the contract that the hold keeps, and the counts that
Tables 9, 10, 11 and 13 keep. -/
def portDown (q : Port) : Port :=
  { cc := {
      state := q.cc.state, rootCc1 := q.cc.rootCc1, rootCc2 := q.cc.rootCc2, cc1 := q.cc.cc1, cc2 := q.cc.cc2
      term := q.cc.term, orient := q.cc.orient, vconnOn := q.cc.vconnOn, vconnOc := q.cc.vconnOc
      vconnLatched := q.cc.vconnLatched, ccDischarge := q.cc.ccDischarge, ccOvp := q.cc.ccOvp, ovpTrip := q.cc.ovpTrip
      floodNow := q.cc.floodNow, lastFlood := q.cc.lastFlood, floodPkts := q.cc.floodPkts, floodIdle := q.cc.floodIdle
      debExts := q.cc.debExts, debugSource := q.cc.debugSource
      floodHigh := q.cc.floodHigh, pktFlood := q.cc.pktFlood }
    pd := {
      rev := q.pd.rev, eprMode := q.pd.eprMode, cable := q.pd.cable, activeCable := q.pd.activeCable
      source := q.pd.source, dfp := q.pd.dfp, explicit := q.pd.explicit, pdo := q.pd.pdo, rdo := q.pd.rdo
      step := if q.pd.explicit then .ready else .idle, lastEvent := q.pd.lastEvent, line := q.pd.line }
    cinch := { q.cinch with
      cfg := 0, ft := 0, i2tCfg := 0, droopCfg := 0, latched := false, compliance := false, ceiling := false
      tripTimes := [], forceOff := false, vsetLim := 0, i2t := 0, faultOut := false, groupOut := false
      stuckTest := false, droopEntryAt := none }
    metro := { q.metro with
      loopCfg := 0, shuntCfg := 0, clUv := none, mode := 0, confirmed := false, confCount := 0, codeChanged := false
      ovCount := 0, uvCount := 0 } }

/-- R610 at a reset: the waiting copies are lost and counted (Table 20.7). (Log entry 50: DEDUCED, unsafe.) -/
def copiesLost (s : State) : State :=
  let drops := s.ring.copies.foldl (fun c _ => bump 16 c) s.ring.drops
  { s with ring := { s.ring with copies := [], drops := drops, found := false, jIndex := 0xFFF, jGen := 0, jEmpty := true,
                                 jNext := 0 } }

/-- Crown at its reset values, with what each chapter's Crown-reset column keeps.
(Log entries 49: DEDUCED, unsafe; 57: DESIGN CHOICE, unsafe; 187: DEDUCED, unsafe.) -/
def crownDown (keepShadows : Bool) (s : State) : State :=
  let shadows := if keepShadows && !evalFuse s then s.heart.shadows else []
  let t := s.strap
  { s with
    power := { s.power with setpoint := 0x6E, timingFloor := 0, atMax := false, override := false }
    boot := { phase := .crownReset, cause := s.boot.cause, resetCount := s.boot.resetCount, cold := s.boot.cold
              together := togetherOf s, arrived := s.boot.arrived }
    heart := { cells := s.heart.cells, shadows := shadows, shFull := keepShadows && s.heart.shFull }
    grain := {}
    pattern := {}
    host := {
      crcErrs := s.host.crcErrs, busyCount := s.host.busyCount, formatSeen := s.host.formatSeen, irqEn := s.host.irqEn
      sevThreshold := s.host.sevThreshold, sumGen := s.host.sumGen, last := s.host.last }
    seam := { mismatches := s.seam.mismatches, revocations := s.seam.revocations }
    strap := { t with
      laneRate := 0, rootReason := 0, fallbackAck := 0, params := false, loadData := [], retried := false
      loadFailed := none, loadNext := 0, fallbackDue := [], crownTx := {}, rootTx := {}, crownHb := [], rootHb := []
      lastTime := 0, ticksSince := 0
      holds := t.holds.map fun (h : HoldPort) => { h with standHold := false, bootDue := false } }
    shown := none
    ports := s.ports.map portDown
    groups := s.groups.map fun (g : Group) => { g with cfg := 0, rearming := false }
    metro := { s.metro with calCfg := 0 }
    rein := { rxErrs := s.rein.rxErrs, breaks := s.rein.breaks, ownDev := s.rein.ownDev, accepted := s.rein.accepted
              used := s.rein.used, sent := s.rein.sent }
    satchel := { poisonCount := s.satchel.poisonCount }
    tack := { denyCount := s.tack.denyCount }
    wda := { lastCause := s.wda.lastCause, expiries := s.wda.expiries }
    wdb := { lastCause := s.wdb.lastCause, expiries := s.wdb.expiries, storm := s.wdb.storm, monLost := s.wdb.monLost
             entryDue := s.wdb.entryDue }
    graft := { pieceFails := s.graft.pieceFails, fallbacks := s.graft.fallbacks }
    policy := [] }

/-- R66, R67: a Crown reset (kind 0) or WD-B expiry (kind 1) with its RSTCAUSE bits. A cause that arrives while Crown is
already in reset sets its bits too, and one that is no host RESET discards the shadows.
(Log entries 45: DEDUCED, unsafe; 49: DEDUCED, unsafe.) -/
def crownReset (bits : BitVec 14) (kind : Nat) (keepShadows : Bool) (s : State) : State :=
  match s.boot.phase with
  | .resetHold => { s with boot := { s.boot with cause := s.boot.cause ||| bits } }
  | .crownReset =>
    { s with
      boot := { s.boot with cause := s.boot.cause ||| bits, arrived := s.boot.arrived ||| bits }
      heart := { s.heart with shadows := if keepShadows then s.heart.shadows else []
                              shFull := keepShadows && s.heart.shFull } }
  | _ =>
    let s := copiesLost (flush (hostInterrupted kind s))
    let s := pocketDown (flashAbort (burnAbort (wireAssert s)))
    let s := { s with boot := countBoot { s.boot with cause := s.boot.cause ||| bits, arrived := bits } }
    crownDown keepShadows s

/-! ### Supplies -/

/-- Balls of an unpowered group: gates off by their resistors, no discharge, CC open, VCONN off (R61, Table 2.8).
(Log entries 110: DEDUCED, unsafe; 117: DEDUCED, unsafe.) -/
def portUnpowered (p : Fin 8) (s : State) : State :=
  let s := modHold p (fun h => { h with detached := h.detached || h.inHold }) (holdOver p s)
  let s := gatesLow p s
  let s := modCinch p (fun c => {
    c with dsch := false, ew := false, st := if c.stuck then c.st else .off }) (setCode p 0 (portLeave p 2 s))
  let st := if (portCc s p).state = .outOfService then .outOfService else .groupUnpowered
  present p .opened (setCcState p st s)

/-- GROUP_UNPOWERED of a group that is down, once for each time it is down: with the fall, or with the boot that finds it
down (R56). -/
def groupTell (g : Fin 2) (s : State) : State :=
  if s.power.groupUp[g] || s.power.groupTold[g] || !crownUp s then s
  else emit (devEv 0x0004 4 [BitVec.ofNat 8 g.val])
    { s with power := { s.power with groupTold := s.power.groupTold.set g true } }

/-- R56: VIN_x falls below its falling UVLO; with the other group down as well it is a power-on reset (Table 3.4). -/
def groupDown (g : Fin 2) (vinMv : Nat) (s : State) : State :=
  if !s.power.groupUp[g] then s
  else if !s.power.groupUp[1 - g] then powerOn .vin s
  else
    let s := { s with power := { s.power with groupUp := s.power.groupUp.set g false, vinMv := s.power.vinMv.set g vinMv } }
    onPorts (groupPorts g) portUnpowered (groupTell g s)

/-- A port whose group is powered again: in a reset hold its balls go to Reset hold; a port that its stand or the mask ROM
runs goes to Unattached, and any other waits for its stand (R230, R14). -/
def portPoweredUp (p : Fin 8) (s : State) : State :=
  let s := if s.boot.cold then modCinch p (fun c => { c with dsch := true }) s else s
  if (portCc s p).state = .groupUnpowered ∧ ((isReady s ∧ portReach s p) ∨ s.boot.phase = .limp) then goUnattached p s else s

/-- R56: VIN_x rises above its rising UVLO. -/
def groupUp (g : Fin 2) (vinMv : Nat) (s : State) : State :=
  if s.power.groupUp[g] then s
  else
    let other := s.power.groupUp[1 - g]
    let s := { s with power := {
      s.power with groupUp := s.power.groupUp.set g true, groupTold := s.power.groupTold.set g false,
                   vinMv := s.power.vinMv.set g vinMv } }
    let s := emitIf other (devEv 0x0005 1 [BitVec.ofNat 8 g.val]) s
    onPorts (groupPorts g) portPoweredUp s

/-- VDDIO below its good threshold: a Crown reset (Table 3.4). -/
def vddioDown (s : State) : State :=
  crownReset 0x800 0 false { s with power := { s.power with vddio := false } }

/-- VCORE undervoltage: VCORE_UV, and a Crown reset where it lasts 2 µs (Table 3.2); in a reset it is one that arrives
together with it (R66). (Log entry 46: DEDUCED, unsafe.) -/
def vcoreUv (meas : Byte) (lasted : Bool) (s : State) : State :=
  let s := { s with power := { s.power with vcoreMeas := meas } }
  let s := emit (devEv 0x1303 5 [BitVec.ofNat 8 s.power.setpoint, meas]) s
  if !lasted then s
  else if crownRuns s then crownReset 0x400 0 false s
  else if s.boot.together.vcore then
    crownReset 0x400 0 false { s with boot := { s.boot with together := { s.boot.together with vcore := false } } }
  else s

/-- R646, Table 1.2: Root sees the reference oscillator stop: every attached port takes its fallback at once, and the
generators stop. (Log entry 54: DEDUCED, unsafe.) -/
def refoscStop (s : State) : State :=
  if !s.power.refoscRunning then s
  else
    let ps := if s.strap.codeRunning then allPorts.filter fun p =>
        let h := s.strap.holds[p]
        rootAttached (portCc s p) && !h.fellBack && !h.tripped && !h.detached
      else []
    let s := pgAllStop { s with power := {
      s.power with refoscRunning := false, refoscRestart := false, refoscReport := some ps.length } }
    onPorts ps (fun p s => takeFallback p (if s.strap.holds[p].inHold then s else
      modHold p (fun h => { h with rpLevel := rpLevel (portCc s p) }) s)) s

/-! ### The core-voltage loop -/

def swCeil (s : State) : Nat := min 0xFA (field s.power.vcctl 23 16)
def swFloor (s : State) : Nat := field s.power.vcctl 15 8

/-- The loop runs (R69, R72). -/
def loopOn (s : State) : Bool := isReady s

/-- R77, R82: the set-point rule, without its hard maximum. (Log entry 47: DEDUCED, unsafe.) -/
def vcRule (s : State) : Nat := max s.power.timingFloor (min (swFloor s) (swCeil s))

/-- The fused ceiling and R79, as a code, for VDD18 as last measured. -/
def vcHard (s : State) : Nat := min 0xFA ((s.power.vdd18Mv - 90 - 550) / 5)

/-- The highest set-point that SW_CEIL allows: never below the timing floor (R77). -/
def vcCap (s : State) : Nat := max s.power.timingFloor (swCeil s)

/-- R83: while the Strap is lost, as either end sees it, the loop holds its set-point. -/
def vcHeld (s : State) : Bool := !strapUp s || s.strap.rootLost

/-- R80: the present override, and its events. -/
def vcOverride (s : State) : State :=
  let now := decide (swCeil s < s.power.timingFloor)
  let sig (s : State) : State := if flag s.power.vcctl 0 then irq 5 s else s
  let was := s.power.override
  let s := { s with power := { s.power with override := now, ovrSeen := s.power.ovrSeen || now } }
  if now && !was then
    sig (emit (devEv 0x1301 3 [BitVec.ofNat 8 (swCeil s), BitVec.ofNat 8 s.power.timingFloor]) s)
  else if was && !now then sig (emit (devEv 0x1302 1 [BitVec.ofNat 8 s.power.setpoint]) s)
  else s

/-- The set-point moved to `v`, never above the hard maximum; AT_MAX where that limits it, which is taken to include a
wanted set-point that equals the maximum. (Log entry 161: DESIGN CHOICE, unsafe.) -/
def vcSet (v : Nat) (s : State) : State :=
  { s with power := { s.power with setpoint := min v (vcHard s), atMax := decide (vcHard s ≤ v) } }

/-- R75, R77, R80, R83: one evaluation with the timing floor it finds, VCORE as measured, the slack of each logical stand in
1/256 of the tick, and VDD18. A set-point above what SW_CEIL allows comes down a step whatever the slack.
(Log entries 47: DEDUCED, unsafe; 48: DEDUCED, unsafe.) -/
def vcEval (floor : Nat) (meas : Byte) (slack : List Int) (vdd18Mv : Nat) (s : State) : State :=
  if !loopOn s then s
  else
    let s := { s with grain := { s.grain with stands := Vector.ofFn fun k =>
      if s.grain.stands[k].role = 0 then s.grain.stands[k]
      else { s.grain.stands[k] with slack := slack.getD k.val s.grain.stands[k].slack } } }
    let s := vcOverride { s with power := {
      s.power with timingFloor := floor, vcoreMeas := meas, vdd18Mv := vdd18Mv } }
    let sp := s.power.setpoint
    if vcHeld s then vcSet sp s
    else if sp ≤ vcRule s then vcSet (vcRule s) s
    else if vcCap s < sp || slack.all (fun x => decide (12 < x)) then vcSet (sp - 1) s
    else vcSet sp s

/-- R76: 20 mV up while a canary's slack is below 2 %, under R77's cap; a set-point that stands above the cap stays for
this step, but not above R79's for the VDD18 now measured. (Log entries 47: DEDUCED, unsafe; 48: DEDUCED, unsafe.) -/
def vcStepUp (slack : Int) (vdd18Mv : Nat) (s : State) : State :=
  let s := if loopOn s then { s with power := { s.power with vdd18Mv := vdd18Mv } } else s
  let sp := s.power.setpoint
  if !loopOn s then s
  else if slack < 6 then vcSet (max sp (min (sp + 4) (vcCap s))) s
  else if vcHard s < sp then vcSet sp s
  else s

/-- A write of VCCTL re-applies R77, R79 and R80: the set-point goes to what SW_FLOOR asks for, and not above what SW_CEIL
allows; a lost Strap holds it (R83). (Log entry 47: DEDUCED, unsafe.) -/
def vcctlWrite (v : Word) (s : State) : State :=
  let s := { s with power := { s.power with vcctl := v &&& 0x00FFFF01 } }
  if loopOn s then
    let s := vcOverride s
    if vcHeld s then s else vcSet (min (max s.power.setpoint (vcRule s)) (vcCap s)) s
  else s

/-- (Log entry 9: DESIGN CHOICE, unsafe.) -/
def vcStatWord (s : State) : Word :=
  mkWord [(24, s.power.setpoint), (16, s.power.timingFloor), (8, s.power.vcoreMeas.toNat),
    (3, b2n (decide (swCeil s < swFloor s))), (2, b2n s.power.atMax), (1, b2n s.power.override), (0, b2n s.power.ovrSeen)]

def vcFuseWord (s : State) : Word := mkWord [(24, 0xFA), (16, 0x6E), (8, canaryMargin s)]

/-! ### WD-A -/

/-- R553: PERIOD in force, in units of 10 ms. -/
def wdaUnits (s : State) : Nat := max 8 (min 6000 (field s.wda.cfg 31 16))

def wdaOpen (s : State) : Nat := field s.wda.cfg 10 8

/-- R473: a channel on the LF oscillator counts the reference oscillator while the Sap domain does not run. -/
def lfGone (lf : Bool) (s : State) : Bool := lf && !s.sap.running

/-- A new period of WD-A. -/
def wdaPeriod (s : State) : State :=
  { s with wda := { s.wda with state := 1, inWindow := false, startAt := s.strap.rootTime.toNat } }

/-- R551, R552, R563: a write of WDACFG. -/
def wdaArm (v : Word) (s : State) : State :=
  if isReady s && decide (s.wda.state = 0) && decide (field v 10 8 ≠ 0) then
    let v := v &&& 0xFFFF0711
    let s := wdaPeriod { s with wda := { s.wda with cfg := v, nextKey := false, policyDue := false,
                                                    fallbackClk := lfGone (flag v 4) s } }
    emit (devEv 0x0501 1 (le 2 (field v 31 16) ++ [BitVec.ofNat 8 (field v 10 8), BitVec.ofNat 8 (b2n (flag v 4)),
      BitVec.ofNat 8 (b2n (flag v 0))])) s
  else s

/-- R559, R561, R562: expiry with a cause (1 late, 2 early, 3 key, 4 clock). (Log entry 53: DEDUCED, unsafe.) -/
def wdaExpire (cause : Nat) (s : State) : State :=
  let rst := flag s.wda.cfg 0
  let s := { s with wda := { s.wda with
    state := 2, inWindow := false, lastCause := BitVec.ofNat 3 cause, expiries := bump 8 s.wda.expiries
    expiredAt := s.strap.rootTime.toNat } }
  let s := emit (devEv 0x0502 5 [BitVec.ofNat 8 cause, BitVec.ofNat 8 (b2n rst)]) s
  if rst then crownReset 0x80 0 false s
  else
    let s := irq 6 s
    if rootSeen s then onPorts allPorts wdaPolicy s else { s with wda := { s.wda with policyDue := true } }

/-- R560: an expired WD-A restarts. -/
def wdaRestart (s : State) : State :=
  let gone := (s.strap.rootTime - BitVec.ofNat 32 s.wda.expiredAt).toNat / 1000
  let off := s.wda.offPorts
  let safe := s.wda.safePorts
  let s := wdaPeriod { s with wda := { s.wda with
    nextKey := !s.wda.nextKey, policyDue := false, offPorts := 0, safePorts := 0 } }
  let s := emit (devEv 0x0503 2 (le 2 (satTo 16 gone))) s
  onPorts allPorts (fun p s =>
    if !portReach s p then s
    else if off.getLsbD p.val then goUnattached p s
    else if safe.getLsbD p.val then offerAgain p s
    else s) s

/-- The key expected next (R554). -/
def wdaKey (s : State) : Word := if s.wda.nextKey then 0x5AA5 else 0xA55A

/-- R548, R554, R560: a write of WDASVC. (Log entry 53: DEDUCED, unsafe.) -/
def wdaServe (v : Word) (s : State) : State :=
  match s.wda.state.toNat with
  | 1 =>
    if v ≠ wdaKey s then wdaExpire 3 s
    else if !s.wda.inWindow then wdaExpire 2 s
    else wdaPeriod { s with wda := { s.wda with nextKey := !s.wda.nextKey } }
  | 2 => if v = wdaKey s then wdaRestart s else s
  | _ => s

/-- µs since the period start. -/
def wdaElapsed (s : State) : Nat := (s.strap.rootTime - BitVec.ofNat 32 s.wda.startAt).toNat

/-- Whole ms left, a started one included, until `us` after the period start. (Log entry 27: DEDUCED, unsafe.) -/
def msLeft (us elapsed : Nat) : Nat := (us - elapsed + 999) / 1000

/-- (Log entry 27: DEDUCED, unsafe.) -/
def wdaOpenIn (s : State) : Nat :=
  if s.wda.state ≠ 1 ∨ s.wda.inWindow then 0
  else msLeft (10000 * wdaUnits s * (8 - wdaOpen s) / 8) (wdaElapsed s)

/-- (Log entry 27: DEDUCED, unsafe.) -/
def wdaExpireIn (s : State) : Nat := if s.wda.state ≠ 1 then 0 else msLeft (10000 * wdaUnits s) (wdaElapsed s)

def wdaStatWord (s : State) : Word :=
  mkWord [(30, s.wda.state.toNat), (29, b2n s.wda.nextKey), (28, b2n s.wda.inWindow), (25, s.wda.lastCause.toNat),
    (8, s.wda.expiries.n), (7, b2n s.wda.expiries.sat)]

def wdaTimeWord (s : State) : Word := mkWord [(16, satTo 16 (wdaOpenIn s)), (0, satTo 16 (wdaExpireIn s))]

def wdaStatWrite (v : Word) (s : State) : State :=
  if flag v 7 then { s with wda := { s.wda with expiries := {} } } else s

/-! ### WD-B -/

/-- R564. -/
def wdbCode (c : Nat) : Nat := if c = 1 then 2 else min 0xB c

/-- R565: at the end of step 2, boot mode on the fused clock. -/
def wdbStart (s : State) : State :=
  { s with wdb := { s.wdb with
    running := true, bootMode := true, inWindow := false, periodCode := BitVec.ofNat 4 (wdbCode (wdbPeriod s))
    openN := BitVec.ofNat 3 (wdbOpen s), clkLf := wdbClkLf s, fallbackClk := lfGone (wdbClkLf s) s } }

/-- R569, R570: expiry with a cause (1 late, 2 early, 4 clock), which may also arrive together with another reset (R66). -/
def wdbExpire (cause : Nat) (s : State) : State :=
  if !s.wdb.running && !s.boot.together.wdb then s
  else
    let storm := s.wdb.storm + 1
    let s := { s with boot := { s.boot with together := { s.boot.together with wdb := false } } }
    let s := if s.boot.phase = .resetHold then s else { s with wdb := { s.wdb with
      running := false
      lastCause := BitVec.ofNat 3 cause, expiries := bump 8 s.wdb.expiries, storm := storm
      entryDue := some (BitVec.ofNat 3 cause, satTo 2 storm) } }
    crownReset (if cause = 4 then 0x40 else 0x20) 1 false s

/-- The logical stands that the Pattern holds. -/
def presentStand (s : State) (k : Fin 16) : Bool := decide (s.grain.stands[k].role ≠ 0)

/-- R566 to R568, R130: what services WD-B may do so now: in Limp the loader's logic, at ready the supervisor.
(Log entry 51: DEDUCED, unsafe.) -/
def wdbServes (s : State) : Bool :=
  match s.boot.phase with
  | .limp => true
  | .ready => !s.grain.supStopped && (s.strap.crownLost ||
      (List.finRange 16).all fun k => !presentStand s k || s.grain.stands[k].out || s.grain.stands[k].live)
  | _ => false

/-- R566, R548: a service. (Log entry 51: DEDUCED, unsafe.) -/
def wdbServe (s : State) : State :=
  if !s.wdb.running || !wdbServes s then s
  else if !s.wdb.inWindow then wdbExpire 2 s
  else { s with wdb := { s.wdb with inWindow := false } }

def wdbStatWord (s : State) : Word :=
  mkWord [(28, s.wdb.periodCode.toNat), (25, s.wdb.openN.toNat), (24, b2n s.wdb.clkLf), (23, b2n s.wdb.bootMode),
    (20, s.wdb.lastCause.toNat), (18, satTo 2 s.wdb.storm), (17, b2n s.wdb.monLost), (8, s.wdb.expiries.n),
    (7, b2n s.wdb.expiries.sat)]

def wdbStatWrite (v : Word) (s : State) : State :=
  { s with wdb := { s.wdb with
    monLost := s.wdb.monLost && !flag v 17, expiries := if flag v 7 then {} else s.wdb.expiries } }

/-- R550: the monitoring oscillator of a running channel stops: WD_MON_LOST with the channel and the oscillator that
stopped (0 reference, 1 LF). (Log entry 52: DESIGN CHOICE, safe.) -/
def monLost (isB : Bool) (s : State) : State :=
  let on := if isB then s.wdb.running else decide (s.wda.state = 1)
  let lf := if isB then s.wdb.clkLf && !s.wdb.fallbackClk else flag s.wda.cfg 4 && !s.wda.fallbackClk
  if on then
    emit (devEv 0x0505 3 [Config.codeByte 0x0505 (b2n isB), BitVec.ofNat 8 (b2n (!lf))])
      { s with wdb := { s.wdb with monLost := true } }
  else s

/-! ### The family's meanings -/

/-- POWER_ON_RESET. -/
def execPowerOnReset (c : PorCause) (s : State) : Host.Outcome State Fault Refusal := complete s (powerOn c s)

/-- RST_N_ASSERT. -/
def execRstNAssert (lowNs : Nat) (s : State) : Host.Outcome State Fault Refusal :=
  complete s (if rstNSeen lowNs then rstNReset s else s)

/-- GROUP_UNPOWERED. -/
def execGroupUnpowered (g : Fin 2) (vinMv : Nat) (s : State) : Host.Outcome State Fault Refusal :=
  complete s (groupDown g vinMv s)

/-- GROUP_POWERED. -/
def execGroupPowered (g : Fin 2) (vinMv : Nat) (s : State) : Host.Outcome State Fault Refusal :=
  complete s (groupUp g vinMv s)

/-- VDDIO_LEVEL_SAMPLE (R57, Table 3.2). -/
def execVddioLevelSample (mv : Nat) (s : State) : Host.Outcome State Fault Refusal :=
  complete s { s with power := { s.power with vddio := true, vddio33 := decide (2600 ≤ mv) } }

/-- VDDIO_UV. -/
def execVddioUv (s : State) : Host.Outcome State Fault Refusal := complete s (vddioDown s)

/-- VCORE_UV. -/
def execVcoreUv (meas : Byte) (lasted : Bool) (s : State) : Host.Outcome State Fault Refusal :=
  complete s (vcoreUv meas lasted s)

/-- REFOSC_STOP. -/
def execRefoscStop (s : State) : Host.Outcome State Fault Refusal := complete s (refoscStop s)

/-- VCORE_LOOP_EVAL. -/
def execVcoreLoopEval (floor meas : Byte) (slack : List Int) (vdd18Mv : Nat) (s : State) :
    Host.Outcome State Fault Refusal := complete s (vcEval floor.toNat meas slack vdd18Mv s)

/-- VCORE_STEP_UP. -/
def execVcoreStepUp (slack : Int) (vdd18Mv : Nat) (s : State) : Host.Outcome State Fault Refusal :=
  complete s (vcStepUp slack vdd18Mv s)

/-- VCCTL_WRITE, under the Tack. -/
def execVcctlWrite (who : Requester) (v : Word) (s : State) : Host.Outcome State Fault Refusal :=
  complete s (guarded who (regAccess true 0x4C00) (vcctlWrite v) s)

/-- WD_A_ARMED: a write of WDACFG, under the Tack. -/
def execWdAArmed (who : Requester) (v : Word) (s : State) : Host.Outcome State Fault Refusal :=
  complete s (guarded who (regAccess true 0x1400) (wdaArm v) s)

/-- WDA_SERVICE: a write of WDASVC, under the Tack. -/
def execWdaService (who : Requester) (v : Word) (s : State) : Host.Outcome State Fault Refusal :=
  complete s (guarded who (regAccess true 0x1404) (wdaServe v) s)

/-- WDA_WINDOW_OPEN. -/
def execWdaWindowOpen (s : State) : Host.Outcome State Fault Refusal :=
  complete s (if s.wda.state = 1 then { s with wda := { s.wda with inWindow := true } } else s)

/-- The expiry of a WD-A with its reset enabled that arrives together with another reset (R66). -/
def wdaTogether (cause : Nat) (s : State) : State :=
  if s.boot.together.wda then
    let s := { s with boot := { s.boot with together := { s.boot.together with wda := false } } }
    crownReset 0x80 0 false (if s.boot.phase = .resetHold then s else
      { s with wda := { s.wda with lastCause := BitVec.ofNat 3 cause, expiries := bump 8 s.wda.expiries } })
  else s

/-- WD_A_EXPIRED: the period ends with no service. (Log entry 2: DEDUCED, unsafe.) -/
def execWdAExpired (s : State) : Host.Outcome State Fault Refusal :=
  complete s (if s.wda.state = 1 then wdaExpire 1 s else wdaTogether 1 s)

/-- WDB_WINDOW_OPEN; in boot mode there is no window. -/
def execWdbWindowOpen (s : State) : Host.Outcome State Fault Refusal :=
  complete s (if s.wdb.running && !s.wdb.bootMode then { s with wdb := { s.wdb with inWindow := true } } else s)

/-- WDB_SERVICE. -/
def execWdbService (s : State) : Host.Outcome State Fault Refusal := complete s (wdbServe s)

/-- WD_B_EXPIRED. -/
def execWdBExpired (early : Bool) (s : State) : Host.Outcome State Fault Refusal :=
  complete s (wdbExpire (if early then 2 else 1) s)

/-- WDB_STORM_CLEAR. -/
def execWdbStormClear (s : State) : Host.Outcome State Fault Refusal :=
  complete s (if isReady s then { s with wdb := { s.wdb with storm := 0 } } else s)

/-- WD_CLOCK_MONITOR_TRIP. -/
def execWdClockMonitorTrip (isB : Bool) (s : State) : Host.Outcome State Fault Refusal :=
  complete s <|
    if isB then wdbExpire 4 s
    else if s.wda.state = 1 then wdaExpire 4 s else wdaTogether 4 s

/-- WD_MON_LOST. -/
def execWdMonLost (isB : Bool) (s : State) : Host.Outcome State Fault Refusal := complete s (monLost isB s)

/-- WD_CLOCK_RETURN (R473). -/
def execWdClockReturn (isB : Bool) (s : State) : Host.Outcome State Fault Refusal :=
  complete s <|
    if !s.sap.running then s
    else if isB then { s with wdb := { s.wdb with fallbackClk := false } }
    else { s with wda := { s.wda with fallbackClk := false } }

end Sys2Proof.Machine
end

