-- ==== Sys2Proof/Machine/Graft.lean ====
section
/-! DEFINITION. Graft's jobs (chapter 19): opening a bundle, receiving pieces, verifying, discarding, the copies of an
installation and a promotion, and the trial with its CONFIRM. A job that the host waits for answers RSP and payload. -/

namespace Sys2Proof.Machine

/-! ### Answers and shared steps -/

/-- A completion: RSP and payload (Table 6.6). -/
structure Answer where
  rsp : Byte
  payload : List Byte
  deriving DecidableEq, Repr

def answerDone (payload : List Byte) : Answer := { rsp := 0x03, payload }
def answerFail (detail : Nat) : Answer := { rsp := 0x04, payload := le 4 detail }

/-- R537: the flash accesses of a Graft job, each a (write, address, length). (Log entry 137: DEDUCED, unsafe.) -/
def graftAllowed (accs : List (Bool × Nat × Nat)) (s : State) : State × Bool :=
  let r := tackCheck .graft (accs.map fun a => flashAccess a.1 a.2.1 a.2.2) s
  (r.1, r.2.isNone)

/-- Graft's flash work on a state: the Tack first, then the flash with its outcome; a failure of operation `op` at an
address leaves FLASH_FAIL. (Log entries 137: DEDUCED, unsafe; 138: DESIGN CHOICE, unsafe.) -/
def graftFlash (accs : List (Bool × Nat × Nat)) (op addr : Nat) (r : FlashRes) (s : State) : State × Bool :=
  let g := graftAllowed accs s
  if !g.2 then (g.1, false)
  else match r with
    | .ok => (flashGood g.1, true)
    | .fail => (flashFailed op addr g.1, false)

def graftState (st : GraftState) (s : State) : State := { s with graft := { s.graft with st := st } }

/-! ### GRAFT_OPEN (R581, R582) -/

def graftOpenRefusal (s : State) (m : List Byte) : Option Nat :=
  if s.graft.st ≠ .empty then some 1
  else if !bundleFormat m then some 2
  else if !bundleForUs s m then some 3
  else if bundleSecVer m < arbCount s then some 4
  else none

/-- (Log entry 136: DEDUCED, unsafe.) -/
def graftOpen (m : List Byte) (start : Byte) (r : FlashRes) (s : State) : State × Answer :=
  match graftOpenRefusal s m with
  | some d => (s, answerFail d)
  | none =>
    let f := graftFlash [(true, graftBase s, 256), (true, graftLogAddr s 0, 16)] 1 (graftBase s) r s
    if !f.2 then (f.1, answerFail 9)
    else
      let s := f.1
      let st := if start = 1 then 1 else 0
      let s := flashProgram (graftBase s) (slice m 0 256) s
      let s := { s with graft := { s.graft with
        start := BitVec.ofNat 2 st, result := 0, trialLeft := 0, blocksDone := 0, blocksTotal := 0, bitmap := 0
        logNext := 0, digestInPocket := false } }
      let s := graftAppend 1 st 0 s
      (emit (devEv 0x1201 2 (le 4 (graftBundleId s).toNat ++ le 2 (pieceCount m))) s, answerDone [])

/-! ### GRAFT_PIECE (R583 to R587) -/

def pieceAddr (s : State) (k : Nat) : Nat := stagingBase s + 512 * k

/-- R583: PIECE_CRC as Seam computes it. (Log entry 153: DEDUCED, unsafe.) -/
def pieceCrc (k : Nat) (data : List Byte) : Word := crc32c (le 2 k ++ data)

def piecePresent (s : State) (k : Nat) : Bool := s.graft.bitmap.getLsbD k

/-- Checks 1 to 6 of Table 19.5; the compare of a Graft that is marked revoked (R184) is refused with 0x0A SEAM.
(Log entry 153: DEDUCED, unsafe.) -/
def graftPieceRefusal (s : State) (k : Nat) (crc : Word) (data : List Byte) : Option Nat :=
  let m := graftManifest s
  if s.graft.st ≠ .receiving ∧ s.graft.st ≠ .complete then some 1
  else if pieceCount m ≤ k then some 5
  else if s.seam.revoked.contains .graft then some 0x0A
  else if pieceCrc k data ≠ crc then some 6
  else if !allZero (data.drop (bundleSize m - 512 * k)) then some 2
  else if k = 0 ∧ slice data 0 256 ≠ m then some 8
  else if piecePresent s k ∧ flashBytes s (pieceAddr s k) 512 ≠ data then some 7
  else none

/-- A piece that fails. (Log entry 139: DEDUCED, unsafe.) -/
def graftPieceFail (d : Nat) (s : State) : State × Answer :=
  ({ s with graft := { s.graft with pieceFails := bump 16 s.graft.pieceFails } }, answerFail d)

/-- A piece gets as far as its CRC, the check that needs Seam. -/
def pieceNeedsSeam (s : State) (k : Nat) : Bool :=
  (decide (s.graft.st = .receiving) || decide (s.graft.st = .complete)) && decide (k < pieceCount (graftManifest s))

/-- Graft's claim clears a revoked mark (R184). -/
def graftClaim (s : State) : State :=
  { s with seam := { s.seam with revoked := s.seam.revoked.filter (· ≠ .graft) } }

/-- What the piece check leaves in Seam: a compare that passes or fails (R192), a revoked one as R184 answers it (its EXPECT
plays no part), nothing where the piece is refused before it. (Log entry 153: DEDUCED, unsafe.) -/
def pieceSeam (refusal : Option Nat) (s : State) : State :=
  match refusal with
  | some 1 | some 5 => s
  | some 0x0A => { s with seam := seamCompareOp .graft 0 s.seam }
  | some 6 => seamCheck .graft (some false) s
  | _ => seamCheck .graft (some true) s

/-- The DONE payload: PIECES_IN, FLAGS and a zero byte. (Log entry 140: DEDUCED, unsafe.) -/
def pieceDone (s : State) (flags : Nat) : Answer :=
  answerDone (le 2 (piecesIn s.graft) ++ [BitVec.ofNat 8 flags, 0])

/-- R587. -/
def graftMaybeComplete (s : State) : State × Bool :=
  if s.graft.st = .receiving ∧ firstMissing s.graft (piecesTotal s) = 0xFFFF then
    (emit (devEv 0x1202 2 (le 4 (graftBundleId s).toNat)) (graftAppend 2 0 0 s), true)
  else (s, false)

/-- Checks 1 to 6 of a piece: its answer where it is refused or already present (R585); none, and it is programmed. -/
def graftPieceCheck (k : Nat) (crc : Word) (data : List Byte) (s : State) : State × Option Answer :=
  let d := graftPieceRefusal s k crc (slice data 0 512)
  let s := pieceSeam d s
  match d with
  | some d => let x := graftPieceFail d s; (x.1, some x.2)
  | none => if piecePresent s k then (s, some (pieceDone s 1)) else (s, none)

/-- R586: the pages, their read-back and the mark. (Log entry 140: DEDUCED, unsafe.) -/
def graftPieceProgram (k : Nat) (data : List Byte) (r : FlashRes) (s : State) : State × Answer :=
  let data := slice data 0 512
  let a := pieceAddr s k
  let f := graftFlash [(true, a, 512), (false, a, 512), (true, pieceMarkAddr s k, 1)] 1 a r s
  if !f.2 then graftPieceFail 9 f.1
  else
    let s := flashProgram a data f.1
    -- read back before the mark
    if flashBytes s a 512 ≠ data then graftPieceFail 9 (flashFailed 1 a s)
    else
      let s := flashProgram (pieceMarkAddr s k) [0] s
      let s := { s with graft := { s.graft with bitmap := s.graft.bitmap ||| (1 <<< k) } }
      let c := graftMaybeComplete s
      (c.1, pieceDone c.1 (2 * b2n c.2))

/-! ### GRAFT_STATE -/

def graftStatePayload (s : State) : List Byte :=
  [BitVec.ofNat 8 (graftCode s.graft), s.graft.result, BitVec.ofNat 8 (satTo 8 s.graft.trialLeft),
    BitVec.ofNat 8 s.graft.start.toNat]
  ++ le 2 (piecesIn s.graft) ++ le 2 (piecesTotal s) ++ le 4 (gfBundleWord s).toNat
  ++ le 2 (firstMissing s.graft (piecesTotal s)) ++ [0, 0] ++ le 256 s.graft.bitmap.toNat

/-! ### GRAFT_VERIFY (R588 to R590) -/

def stagedBytes (s : State) (off n : Nat) : List Byte := flashBytes s (stagingBase s + off) n

/-- Checks 2 to 9 of Table 19.6 over the staged bundle: the RESULT of the first failure. -/
def graftVerifyCheck (s : State) : Option Nat :=
  let m := stagedBytes s 0 256
  let key := slice m 0x80 64
  let root := stagedBytes s 0x100 (bundleRootSize m)
  let pat := stagedBytes s (bundlePatOffset m) (bundlePatSize m)
  if !bundleFormat m then some 3
  else if !bundleForUs s m then some 6
  else if (keyStatus s key).1 ≠ 0 then some 4
  else if !blockVerifies (slice m 0x80 128) (slice m 0 128) then some 5
  else if sha256 (stagedBytes s 0x100 (bundleSize m - 0x100)) ≠ bundleDigest m then some 7
  else if rootSecVer root ≠ bundleSecVer m ∨ patSecVer pat ≠ bundleSecVer m then some 8
  else if bundleSecVer m < arbCount s then some 9
  else match rootCheck s root with
    | some r => some (0x80 + r)
    | none => match patCheck s (rootStamp root) pat with
      | some f => some (0x40 + f.1)
      | none => if patVerifies pat then none else some 0x49

/-- R589: the manifest's digest to GRAFT_DIGEST, where the Pocket grants that lease (R510). -/
def graftDigestStore (digest : List Byte) (s : State) : State :=
  if s.pocket.powered && !s.pocket.k3Locked && s.pocket.pufOk then
    let a := pressAllowed graftDigestItem s
    if a.2 then (pressRecord graftDigestItem (toSlot digest) a.1).getD (wcSaturate a.1) else a.1
  else s

/-- (Log entries 134: DEDUCED, unsafe; 137: DEDUCED, unsafe.) -/
def graftVerify (r : FlashRes) (s : State) : State × Answer :=
  if s.graft.st ≠ .complete then (s, answerFail 1)
  else
    let size := bundleSize (graftManifest s)
    let failed (code : Nat) (s : State) : State × Answer := (graftVerifyFail code s, answerFail (0x0B + 256 * code))
    let f := graftFlash [(false, stagingBase s, size), (true, graftBase s + 0x100, 32)] 0 (stagingBase s) r s
    if !f.2 then failed 0x0A f.1
    else
      let s := f.1
      match graftVerifyCheck s with
      | some code => failed code s
      | none =>
        let m := stagedBytes s 0 256
        let digest := sha256 m
        let s := graftDigestStore digest (flashProgram (graftBase s + 0x100) digest s)
        let s := graftResult 1 (graftAppend 3 0 0 s)
        let id := numAt (stagedBytes s (bundlePatOffset m) 0x44) 0x40 4
        (emit (devEv 0x1203 3 (BitVec.ofNat 8 (bundleSecVer m) :: le 4 id)) s, answerDone [])

/-! ### GRAFT_DISCARD -/

def graftDiscard (r : FlashRes) (s : State) : State × Answer :=
  if s.graft.st = .trial ∨ s.graft.st = .promoting then (s, answerFail 1)
  else
    let prev := graftCode s.graft
    let f := graftFlash [(true, stagingBase s, 0x100000), (true, graftBase s, 0x10000)] 2 (stagingBase s) r s
    if !f.2 then (f.1, answerFail 9)
    else
      let s := flashEraseRange (graftBase s) 0x10000 (flashEraseRange (stagingBase s) 0x100000 f.1)
      let s := { s with graft := { s.graft with
        st := .empty, result := 0, start := 0, trialLeft := 0, blocksDone := 0, blocksTotal := 0, bitmap := 0, logNext := 0
        digestInPocket := false, arbWanted := none } }
      (emit (devEv 0x120B 2 [BitVec.ofNat 8 prev]) s, answerDone [])

/-! ### The copies (R591 to R593, R599) -/

/-- The digest that the end of an installation compares with (R589): GRAFT_DIGEST's, or the journal copy where that item is
neither resident nor pressed (R590), as after a record that is refused (R499), or cannot be unpressed.
(Log entry 205: DEDUCED, unsafe.) -/
def graftDigestRef (s : State) : State × List Byte :=
  let i := graftDigestItem
  let journal (s : State) : State × List Byte := (s, flashBytes s (graftBase s + 0x100) 32)
  if !s.graft.digestInPocket then journal s else
  match (item s i).state, (item s i).slot with
  | .resident, some k => (s, slotBytes s.pocket.slots[k])
  | .pressed, _ =>
    let a := unpressAllowed i s
    if !a.2 || !wrapReady a.1 || !s.pocket.pufOk then journal a.1
    else match recordOpen a.1 i (pressedRecord a.1 i).2 (pressedRecord a.1 i).1 with
      | some v => ({ a.1 with pocket := { a.1.pocket with unpresses := bump 12 a.1.pocket.unpresses } }, slotBytes v)
      | none =>
        let s := recordBad i (unitServed false a.1)
        journal { s with graft := { s.graft with digestInPocket := false } }
  | _, _ => journal s

/-- R592: the installation has failed: no record, RESULT 0x0C, back to COMPLETE. (Log entry 141: DEDUCED, unsafe.) -/
def graftInstallFail (s : State) : State := graftState .complete (graftVerifyFail 0x0C s)

/-- R593, R582: an installed bundle whose START is 0, or in Limp, is tried at once. -/
def graftInstalled (s : State) : State :=
  let s := graftAppend 5 0 0 s
  if s.graft.start = 0 ∨ s.boot.phase = .limp then crownReset 0x200 0 false s else s

/-- R592: the end of an installation's copy. -/
def graftInstallEnd (s : State) : State :=
  let d := graftDigestRef s
  if sha256 (slotManifest s 1) = d.2 then graftInstalled d.1 else graftInstallFail d.1

/-- One 64 KiB block from `src` to `dst`, `n` bytes of it the bundle's. -/
def copyBlock (src dst n : Nat) (s : State) : State :=
  let data := flashBytes s src n
  flashProgram dst data (flashEraseRange dst 0x10000 s)

/-- An anti-rollback advance that the promotion waits for (R597). -/
def arbUnderWay (s : State) : Bool := s.heart.waiting.any isArb || s.heart.running.any fun r => isArb r.job

/-- The next block of an installation (R591, R592). -/
def graftInstallBlock (r : FlashRes) (s : State) : State :=
  let s := if s.graft.st = .verified then
      { s with graft := { s.graft with st := .installing, blocksDone := 0, blocksTotal := graftBlocks s } } else s
  let k := s.graft.blocksDone
  let off := 0x10000 * k
  let n := min 0x10000 (bundleSize (graftManifest s) - off)
  if k < s.graft.blocksTotal then
    let src := stagingBase s + off
    let dst := trialBase s + off
    let f := graftFlash [(false, src, n), (true, dst, 0x10000), (false, dst, n)] 1 dst r s
    if !f.2 then graftInstallFail f.1
    else
      let s := graftAppend 4 k 0 (copyBlock src dst n f.1)
      let s := { s with graft := { s.graft with blocksDone := k + 1 } }
      if k + 1 < s.graft.blocksTotal then s
      else graftInstallEnd s
  else graftInstallEnd s

/-- R599: the promotion has ended. -/
def graftSettle (s : State) : State :=
  let s := graftAppend 9 0 0 s
  emit (devEv 0x1209 2 (le 4 (graftBundleId s).toNat)) s

/-- The next block of a promotion; a block that fails is copied again. (Log entry 141: DEDUCED, unsafe.) -/
def graftPromoteBlock (r : FlashRes) (s : State) : State :=
  if arbUnderWay s then s
  else
    let k := s.graft.blocksDone
    let off := 0x10000 * k
    let n := min 0x10000 (bundleSize (graftManifest s) - off)
    if k < s.graft.blocksTotal then
      let src := trialBase s + off
      let dst := rootstockBase s + off
      let f := graftFlash [(false, src, n), (true, dst, 0x10000), (false, dst, n)] 1 dst r s
      if !f.2 then f.1
      else
        let s := graftAppend 8 k 0 (copyBlock src dst n f.1)
        let s := { s with graft := { s.graft with blocksDone := k + 1 } }
        if k + 1 < s.graft.blocksTotal then s else graftSettle s
    else graftSettle s

/-- Copies run after ready and in Limp. -/
def graftCopies (s : State) : Bool := isReady s || s.boot.phase = .limp

/-- One block copied. (Log entry 138: DESIGN CHOICE, unsafe.) -/
def graftCopy (r : FlashRes) (s : State) : State :=
  if !graftCopies s then s
  else match s.graft.st with
    | .verified | .installing => graftInstallBlock r s
    | .promoting => graftPromoteBlock r s
    | _ => s

/-- A block waits, last of all, for the flash port (Table 1.4). -/
def graftCopyTurn (r : FlashRes) (s : State) : State :=
  if flashIdle s then graftCopy r s
  else if (s.flash.current.toList ++ s.flash.suspended.toList ++ s.flash.waiting).contains .copy then s
  else flashQueue .copy s

/-! ### The trial (R595 to R598) -/

/-- R595: the run-time count reaches the budget, which it cannot while the Strap is lost. -/
def graftTrialTimeout (s : State) : State :=
  if graftCounts s && timersRun s then
    crownReset 0x200 0 false (emit (devEv 0x1206 4 [BitVec.ofNat 8 (satTo 8 s.graft.trialLeft)]) s)
  else if s.boot.together.graft then
    -- R66: together with another reset
    crownReset 0x200 0 false { s with boot := { s.boot with together := { s.boot.together with graft := false } } }
  else s

/-- R596, R597: CONFIRM by a stand in a trial boot, before the run-time count reaches the budget. -/
def graftConfirm (who : Requester) (v : Word) (s : State) : State :=
  match who with
  | .stand _ =>
    if v = 0x464E4F43 ∧ graftCounts s ∧ s.time.now < s.graft.runEnd then
      let sv := bundleSecVer (graftManifest s)
      let run := satTo 16 ((s.time.now + 1000000 * trialSeconds s - s.graft.runEnd) / 1000000)
      let s := graftAppend 7 sv 0 s
      let s := { s with graft := { s.graft with
        blocksDone := 0, blocksTotal := graftBlocks s, arbWanted := some sv } }
      arbRequest sv (emit (devEv 0x1207 3 (BitVec.ofNat 8 sv :: le 2 run)) s)
    else s
  | _ => s

/-! ### The family's meanings -/

/-- CONFIRM: a write of GFCONFIRM, under the Tack. -/
def execConfirm (who : Requester) (v : Word) (s : State) : Host.Outcome State Fault Refusal :=
  complete s (guarded who (regAccess true 0x4810) (graftConfirm who v) s)

/-- GRAFT_COPY_BLOCK. -/
def execGraftCopyBlock (r : FlashRes) (s : State) : Host.Outcome State Fault Refusal := complete s (graftCopyTurn r s)

/-- GRAFT_TRIAL_TIMEOUT. -/
def execGraftTrialTimeout (s : State) : Host.Outcome State Fault Refusal := complete s (graftTrialTimeout s)

end Sys2Proof.Machine
end

