-- ==== Sys2Proof/Machine/Rein.lean ====
section
/-! DEFINITION. Rein (chapter 14): forwarding, enumeration, breaks, group events and the cross-calibration sweep. A relay's
frames are with the host commands. -/

namespace Sys2Proof.Machine

/-! ### Who takes part -/

/-- Root forwards: its code runs or the device is in Limp (R419), and the Crown-reset wire does not hold REIN_OUT low.
(Log entry 143: DEDUCED, unsafe.) -/
def reinForwards (s : State) : Bool := !s.strap.wire && (s.strap.codeRunning || s.boot.phase = .limp)

/-- The Rein stand originates and consumes frames: from ready, while the Strap is up.
(Log entry 143: DEDUCED, unsafe.) -/
def reinUp (s : State) : Bool := isReady s && rootSeen s && reinForwards s

def modRein (f : Rein → Rein) (s : State) : State := { s with rein := f s.rein }

/-- The output of a new Rein command. -/
def reinBegin (s : State) : State := modRein (fun r => { r with sent := [] }) s

/-- The place of an output: notices pass every queued character (R412), and a lower class goes first (R416, Table 14.3). -/
def reinRank : ReinOut → Nat
  | .frame ty _ _ => if ty = 1 then 1 else if ty < 7 then 2 else 3
  | _ => 0

/-- An output behind those of its own rank and before those of a later one. -/
def reinInsert (o : ReinOut) : List ReinOut → List ReinOut
  | [] => [o]
  | x :: t => if reinRank o < reinRank x then o :: x :: t else x :: reinInsert o t

def reinPut (o : ReinOut) (s : State) : State := modRein (fun r => { r with sent := reinInsert o r.sent }) s

/-- A frame header (Table 14.2). -/
def reinHeader (ty : Nat) (h : ReinHdr) : List Byte :=
  [BitVec.ofNat 8 (ty * 16 + h.hops.val),
   BitVec.ofNat 8 (h.src.val * 32 + (b2n h.bcast) * 16 + h.dest.val * 2), h.seq, 0]

/-- R414: a frame's characters: header, payload, and CRC-32C over both, little-endian. -/
def reinChars (ty : Nat) (h : ReinHdr) (payload : List Byte) : List Byte :=
  let b := reinHeader ty h ++ payload
  b ++ le 4 (crc32c b).toNat

/-- A payload length that fits a TYPE (Table 14.3). -/
def reinFits (ty n : Nat) : Bool :=
  match ty with
  | 1 => n == 8
  | 2 => n == 19
  | 3 => n == 4
  | 4 => n == 6
  | 5 => n == 35
  | 6 => n == 3
  | 7 | 8 => 2 ≤ n && n ≤ 256
  | _ => false

/-- R415: the cases in which a receiver discards a frame; a TYPE that Table 14.3 does not list fits no length. -/
def reinBad (l : StrapLine) : Bool :=
  let n := l.chars.length
  l.parityErr || l.badControl || l.eef || decide (n < 8)
    || decide ((crc32c (l.chars.take (n - 4))).toNat ≠ numAt l.chars (n - 4) 4)
    || !reinFits (numAt l.chars 0 1 / 16) (n - 8)

/-- A frame of the device's own (Table 14.2); with more than eight devices none of class 1 or 2 (R419).
(Log entry 146: DEDUCED, unsafe.) -/
def reinSend (ty : Nat) (bcast : Bool) (dest : Fin 8) (payload : List Byte) (s : State) : State :=
  if s.rein.oversize && decide (2 ≤ ty) then s
  else
    let h : ReinHdr := { hops := 0, src := s.rein.addr, bcast, dest, seq := s.rein.seq }
    modRein (fun r => { r with seq := r.seq + 1 }) (reinPut (.frame ty h payload) s)

/-- R416: a received frame goes on, its HOPS one more, unless it is removed here. (Log entry 144: DEDUCED, unsafe.) -/
def reinForward (ty : Nat) (h : ReinHdr) (own : Bool) (payload : List Byte) (s : State) : State :=
  if !reinForwards s || own || decide (14 < h.hops.val + 1) then s
  else reinPut (.frame ty { h with hops := h.hops + 1 } payload) s

/-- The frame is removed by its addresses (R416); a device in Limp has none, and forwards all Rein traffic (R419). -/
def reinOwn (s : State) (h : ReinHdr) : Bool :=
  decide (s.boot.phase ≠ .limp) && (decide (h.src = s.rein.addr) || (decide (h.dest = s.rein.addr) && !h.bcast))

/-- The frame is for this device. -/
def reinForUs (s : State) (h : ReinHdr) : Bool :=
  reinUp s && decide (h.src ≠ s.rein.addr) && (h.bcast || decide (h.dest = s.rein.addr))

/-! ### Enumeration (R417 to R419, R422) -/

def ownId (s : State) : Nat := ofLe (deviceId s)

def enumPayload (id : Nat) (calGen : Half) (participant : Bool) : List Byte :=
  le 16 id ++ le 2 calGen.toNat ++ [BitVec.ofNat 8 (b2n participant)]

/-- The device's own ENUM. -/
def enumSend (s : State) : State := reinSend 2 true 0 (enumPayload (ownId s) s.metro.calGen true) s

/-- R417: an enumeration starts at this device; the break that it follows is over (R413, R420). -/
def enumStart (s : State) : State :=
  let own : EnumSeen := { id := ownId s, hops := 0, calGen := s.metro.calGen, participant := true }
  enumSend (modRein (fun r => { r with state := 3, enumerating := true, brkSeen := false, seen := [own] }) s)

def enumRecord (e : EnumSeen) (s : State) : State :=
  modRein (fun r => { r with seen := r.seen.filter (fun x => x.id ≠ e.id) ++ [e] }) s

/-- The device with the lowest DEVICE_ID of those received. -/
def enumLowest (l : List EnumSeen) : Option EnumSeen :=
  l.foldl (fun b e => match b with
    | none => some e
    | some x => if e.id < x.id then some e else some x) none

/-- R418: this device's address. -/
def enumAddr (s : State) : Fin 8 :=
  match enumLowest s.rein.seen with
  | none => 0
  | some e => if e.id = ownId s then 0 else Fin.ofNat 8 (1 + e.hops)

/-- R419. (Log entry 146: DEDUCED, unsafe.) -/
def reinOversize (n : Nat) (s : State) : State :=
  emit (devEv 0x0E07 5 [BitVec.ofNat 8 (satTo 8 n)])
    (modRein (fun r => { r with state := 1, cause := 3, oversize := true, enumerating := false }) s)

/-- R418: the ring is closed, or this device is a chain of one. (Log entry 145: DEDUCED, unsafe.) -/
def reinClosed (hops : Nat) (s : State) : State :=
  let s := modRein (fun r => { r with
    state := if hops = 0 then 2 else 0, count := hops + 1, addr := enumAddr s, enumerating := false, brkSeen := false
    head := 0, position := 0, cause := 0, closedAt := s.time.now }) s
  emit (devEv 0x0E01 1 [BitVec.ofNat 8 s.rein.count, BitVec.ofNat 8 s.rein.addr.val]) s

/-- The ring has closed at this device, and its STATE shows it. -/
def reinIsClosed (s : State) : Bool := decide (s.rein.state = 0) || decide (s.rein.state = 2)

/-- An ENUM at a device that takes part. (Log entry 145: DEDUCED, unsafe.) -/
def enumReceive (h : ReinHdr) (e : EnumSeen) (s : State) : State :=
  if e.id = ownId s then
    if !s.rein.enumerating then s
    else if 8 < h.hops.val + 1 ∨ 8 < s.rein.seen.length then reinOversize (max (h.hops.val + 1) s.rein.seen.length) s
    else reinClosed h.hops.val s
  else
    -- R417: an ENUM starts an enumeration; one of a device not yet heard in the enumeration that has just closed only
    -- completes it
    let known := s.rein.seen.any fun x => x.id = e.id
    let start := !s.rein.enumerating && !s.rein.oversize && (!reinIsClosed s || known || passed s s.rein.closedAt 2000)
    let s := enumRecord e (if start then enumStart s else s)
    if s.rein.enumerating then
      if 13 < h.hops.val ∨ 8 < s.rein.seen.length then reinOversize s.rein.seen.length s else s
    else if s.rein.oversize then s
    else modRein (fun r => { r with addr := enumAddr s }) s

/-! ### The sweep: its end without adoption (R434) -/

/-- SWEEP_ABORTED by an ABORT (0), a VETO (1) or a BRK (2), from a source address; the codes are free.
(Log entry 149: DESIGN CHOICE, safe.) -/
def sweepAbandon (kind src : Nat) (s : State) : State :=
  match s.rein.sweep with
  | none => s
  | some w =>
    let s := modRein (fun r => { r with sweep := none, lastResult := 4 }) s
    alarmBit 10 true (rootEv (devEv 0x0E03 4 (le 2 w.gen.toNat ++ [Config.codeByte 0x0E03 kind, BitVec.ofNat 8 src])) s)

/-- A device that vetoes, and so abandons the generation itself. -/
def sweepVeto (s : State) : State :=
  let a := s.rein.addr
  sweepAbandon 1 a.val (modRein (fun r => { r with vetoesSeen := r.vetoesSeen ++ [a] }) (reinPut (.veto a) s))

/-! ### Breaks (R420 to R422) -/

/-- R421 at a device, the head included. (Log entries 146: DEDUCED, unsafe; 148: DEDUCED, unsafe.) -/
def breakRecord (head : Fin 8) (cause : BitVec 2) (before : Bool) (position : Nat) (s : State) : State :=
  let s := modRein (fun r => { r with
    state := 1, head := head, cause := cause, position := position, breaks := bump 12 r.breaks, brkSeen := true
    enumerating := false }) s
  let s := rootEv (devEv 0x0E02 4 [BitVec.ofNat 8 head.val, BitVec.ofNat 8 cause.toNat, BitVec.ofNat 8 (satTo 8 position)]) s
  if before then sweepAbandon 2 head.val s else s

/-- R420: the input has been silent for 2 µs. -/
def reinSilence (s : State) : State :=
  if !isReady s || !reinForwards s || s.rein.looping || (s.rein.brkSeen && decide (s.rein.head = s.rein.addr)) then s
  else modRein (fun r => { r with looping := true }) s

/-- R420: the loop-back has ended, and the head sends its BRK; `devices` lie in the segment that it heads.
(Log entries 147: DEDUCED, unsafe; 148: DEDUCED, unsafe.) -/
def loopbackDone (ok : Bool) (devices : Nat) (s : State) : State :=
  if !s.rein.looping then s
  else
    let before := !s.rein.marksSeen.contains 21
    let cause : BitVec 2 := if ok then 1 else 2
    let s := modRein (fun r => { r with looping := false, segmentLen := devices }) s
    breakRecord s.rein.addr cause before 0 (reinPut (.brk s.rein.addr cause before) s)

/-- POSITION of a device in hops from a head (R421), by the addresses of the last closed ring (R422); `hops` where no ring
has closed yet. -/
def brkPosition (s : State) (head : Fin 8) (hops : Nat) : Nat :=
  let n := s.rein.count
  if n = 0 then hops else (s.rein.addr.val + n - head.val % n) % n

/-- A BRK arrives (R412, R413, R421, R434). -/
def brkReceive (head : Fin 8) (cause : BitVec 2) (before : Bool) (position : Nat) (s : State) : State :=
  if !reinForwards s || (s.rein.brkSeen && decide (s.rein.head = head)) then s
  else
    let s := reinPut (.brk head cause before) s
    if isReady s then breakRecord head cause before (brkPosition s head position) s
    else modRein (fun r => { r with brkSeen := true, head := head }) s

/-! ### Leading a sweep (R429, R430) -/

/-- The device leads its ring or segment. -/
def sweepLeads (s : State) : Bool :=
  if reinIsClosed s then decide (s.rein.addr = 0)
  else decide (s.rein.state = 1) && decide (s.rein.cause ≠ 3) && decide (s.rein.head = s.rein.addr)

/-- Participants of the last closed ring. -/
def reinParticipants (s : State) : List EnumSeen := s.rein.seen.filter (·.participant)

/-- The address of a device whose ENUM arrived with `hops`. -/
def addrOf (s : State) (e : EnumSeen) : Nat :=
  if e.id = ownId s then s.rein.addr.val
  else let n := max 1 s.rein.count; (s.rein.addr.val + n - (e.hops + 1) % n) % n

/-- The participants of the leader's ring, or of the segment that it heads. (Log entry 147: DEDUCED, unsafe.) -/
def sweepMembers (s : State) : List EnumSeen :=
  let n := max 1 s.rein.count
  (reinParticipants s).filter fun e =>
    reinIsClosed s || decide ((addrOf s e + n - s.rein.addr.val % n) % n < s.rein.segmentLen)

/-- R430. -/
def sweepGen (s : State) : Half :=
  BitVec.ofNat 16 (min 0xFFFF (1 + (sweepMembers s).foldl (fun m e => max m e.calGen.toNat) 0))

/-- R429. -/
def sweepStart (s : State) : State :=
  if !reinUp s || s.rein.sweep.isSome || !sweepLeads s || s.rein.oversize then s
  else
    let n := (sweepMembers s).length
    if n < 3 then
      emit (devEv 0x0E05 2 [BitVec.ofNat 8 n]) (modRein (fun r => { r with lastResult := 5 }) s)
    else
      let seg := !reinIsClosed s
      let src := flag s.rein.cfg 23
      let gen := sweepGen s
      let s := modRein (fun r => { r with
        sweep := some { gen, src, segment := seg, leader := true }, marksSeen := [], vetoesSeen := [] }) s
      reinSend 3 true 0 (le 2 gen.toNat ++ [BitVec.ofNat 8 (b2n src), BitVec.ofNat 8 (b2n seg)]) s

/-! ### Samples and readings -/

def modSweep (f : Sweep → Sweep) (s : State) : State := modRein (fun r => { r with sweep := r.sweep.map f }) s

/-- The mean of the device's sample windows, in µV. (Log entry 150: DEDUCED, unsafe.) -/
def sweepReading (w : Sweep) : Nat := (roundDiv (w.sum : Int) (max 1 w.samples)).toNat

/-- A reading collected by the leader. -/
def sweepCollect (addr reading : Nat) (s : State) : State :=
  modSweep (fun w => { w with readings := w.readings.filter (fun x => x.1 ≠ addr) ++ [(addr, reading)] }) s

/-- One sample window, whose reading counts as a calibration reading of P0 or P4 (R389, R431); with the last one the
device's reading goes to the leader. (Log entry 150: DEDUCED, unsafe.) -/
def sweepSample (k sampleUv : Nat) (s : State) : State :=
  let s := match s.rein.sweep with
    | some w => modMetro (if w.src then 4 else 0) (fun m => { m with sampled := true }) s
    | none => s
  let s := modSweep (fun w => { w with sum := w.sum + sampleUv, samples := w.samples + 1 }) s
  match s.rein.sweep with
  | none => s
  | some w =>
    if k ≠ 16 then s
    else if w.leader then sweepCollect s.rein.addr.val (sweepReading w) s
    else if reinUp s then
      let dest : Fin 8 := if w.segment then s.rein.head else 0
      reinSend 4 false dest (le 2 w.gen.toNat ++ le 4 (sweepReading w)) s
    else s

/-! ### COMMIT (R432, R433, R435) -/

/-- A list of readings in rising order, one more put in its place. -/
def insertNat (x : Nat) : List Nat → List Nat
  | [] => [x]
  | y :: t => if x ≤ y then x :: y :: t else y :: insertNat x t

/-- Twice the median of a list. -/
def median2 (l : List Nat) : Nat :=
  let a := l.foldr insertNat []
  let n := a.length
  if n % 2 = 1 then 2 * a.getD (n / 2) 0 else a.getD (n / 2 - 1) 0 + a.getD (n / 2) 0

/-- A reading more than 0.05 % from the median, given doubled. -/
def sweepOutlier (m2 r : Nat) : Bool := decide (m2 < 2000 * ((2 * r : Int) - m2).natAbs)

/-- The addresses whose readings this device uses. -/
def sweepUses (s : State) (w : Sweep) (mask : Byte) : List Nat :=
  let l := if w.segment then
      (List.range (s.rein.position + 1)).map fun i => (s.rein.head.val + i) % max 1 s.rein.count
    else List.range 8
  l.filter fun a => mask.getLsbD a

/-- The fraction by which a set of used readings scales the gain of a device whose own reading is `own`: the mean of the
accepted ones over its own; none if it does not scale (R432). -/
def sweepCorrection (used : List Nat) (own : Nat) : Option (Nat × Nat) :=
  let m2 := median2 used
  let ok := used.filter fun r => !sweepOutlier m2 r
  let n := ok.length
  if 3 ≤ n ∧ used.length < 2 * n ∧ sweepOutlier m2 own = false then
    some (ok.foldl (· + ·) 0, n * own)
  else none

/-- A fraction of gain as a deviation in ppm, to the nearest. -/
def gainPpm (c : Nat × Nat) : Int := roundDiv (((c.1 : Int) - c.2) * 1000000) (max 1 c.2)

/-- A device computes its result from COMMIT. (Log entry 151: DEDUCED, unsafe.) -/
def sweepCommit (mask : Byte) (readings : List Nat) (s : State) : State :=
  match s.rein.sweep with
  | none => s
  | some w =>
    let used := (sweepUses s w mask).map fun a => readings.getD a 0
    let own := readings.getD s.rein.addr.val 0
    let m2 := median2 used
    let ok := used.filter fun r => !sweepOutlier m2 r
    let keeps := w.segment && decide (s.rein.position < 2)
    let c := if keeps then none else sweepCorrection used own
    let s := modRein (fun r => { r with used := used.length, accepted := ok.length }) s
    let s := modSweep (fun w => { w with committed := true, correction := c }) s
    if sweepOutlier m2 own then
      let dev := roundDiv (((2 * own : Int) - m2) * 1000000) (max 1 m2)
      emit (devEv 0x0E04 4 (le 2 w.gen.toNat ++ le 2 (satSigned 16 dev))) (modRein (fun r => { r with lastResult := 3 }) s)
    else s

/-! ### MARKs (R431) -/

/-- What MARK `k` means to a device of the sweep: a sample window, the veto of 20, the decision of 21.
(Log entry 150: DEDUCED, unsafe.) -/
def sweepMark (k sampleUv : Nat) (s : State) : State :=
  if 1 ≤ k ∧ k ≤ 16 then sweepSample k sampleUv s
  else if k = 20 then
    match s.rein.sweep with
    | some w => if w.committed then s else sweepVeto s
    | none => if isReady s then sweepVeto s else s
  else if k = 21 then modSweep (fun w => { w with decided := true }) s
  else s

/-- An index below one already forwarded is of a new sweep, whose ANNOUNCE has not come: the notices of the old one are
forgotten, and so is an old sweep that was not decided. (Log entry 190: DEDUCED, unsafe.) -/
def marksNew (k : Nat) (s : State) : State :=
  if s.rein.marksSeen.any (k < ·) then
    modRein (fun r => { r with marksSeen := [], vetoesSeen := [], sweep := r.sweep.filter (·.decided) }) s
  else s

/-- A MARK arrives. -/
def markReceive (k sampleUv : Nat) (s : State) : State :=
  let own := s.rein.sweep.any (·.leader)
  if !reinForwards s || own || s.rein.marksSeen.contains k then s
  else
    let s := modRein (fun r => { r with marksSeen := r.marksSeen ++ [k] }) (reinPut (.mark k) (marksNew k s))
    if isReady s then sweepMark k sampleUv s else s

/-- The leader's COMMIT with every reading, or ABORT if one is missing. (Log entry 149: DESIGN CHOICE, safe.) -/
def sweepDecide (s : State) : State :=
  match s.rein.sweep with
  | none => s
  | some w =>
    if !reinUp s then s
    else
      let want := (sweepMembers s).map (addrOf s)
      if want.all fun a => w.readings.any fun r => r.1 = a then
        let mask : Byte := w.readings.foldl (fun (m : Byte) r => m ||| (1 <<< r.1)) 0
        let vals := (List.range 8).map fun a => ((w.readings.find? fun r => r.1 = a).map Prod.snd).getD 0
        let s := reinSend 5 true 0 (le 2 w.gen.toNat ++ [mask] ++ vals.flatMap (le 4)) s
        sweepCommit mask vals s
      else
        let s := reinSend 6 true 0 (le 2 w.gen.toNat ++ [Config.codeByte 0x0E08 0]) s
        sweepAbandon 0 s.rein.addr.val s

/-- The MARK after `k` in Table 14.4. (Log entry 150: DEDUCED, unsafe.) -/
def markAfter (k : Nat) : Nat := if k = 16 then 18 else if k = 18 then 20 else k + 1

/-- The leader's next MARK, and what it does at it. -/
def markSend (sampleUv : Nat) (s : State) : State :=
  match s.rein.sweep with
  | none => s
  | some w =>
    if !w.leader || decide (21 < w.nextMark) || !isReady s then s
    else
      let k := w.nextMark
      let s := modSweep (fun w => { w with nextMark := markAfter k }) s
      let s := modRein (fun r => { r with marksSeen := r.marksSeen ++ [k] }) (reinPut (.mark k) s)
      if k = 18 then sweepDecide s else sweepMark k sampleUv s

/-- R393, R432: at a window boundary after the decision mark, the constants take effect.
(Log entries 11: DEDUCED, unsafe; 151: DEDUCED, unsafe; 152: DEDUCED, unsafe.) -/
def sweepAdopt (s : State) : State :=
  match s.rein.sweep with
  | none => s
  | some w =>
    if !w.decided then s
    else
      let s := modRein (fun r => { r with sweep := none }) s
      match w.correction with
      | none => s
      | some c =>
        let s := modRein (fun r => { r with
          lastResult := if w.segment then 2 else 1, ownDev := gainPpm c, genSat := r.genSat || decide (s.metro.calGen = 0xFFFF) }) s
        let s := { s with metro := { s.metro with
          calGen := w.gen, segment := w.segment
          crossGain := (s.metro.crossGain.1 * c.1, s.metro.crossGain.2 * c.2) } }
        alarmBit 10 false (rootEv (devEv 0x0F01 1 (le 2 w.gen.toNat ++ [BitVec.ofNat 8 (b2n w.segment)])) s)

/-! ### Registers -/

def sweepNow (s : State) : State := sweepStart s

def reinCfgWrite (v : Word) (s : State) : State :=
  let s := modRein (fun r => { r with cfg := v &&& 0xFF800000 }) s
  if flag v 0 then sweepNow s else s

def sweepCode (r : Rein) : Nat :=
  match r.sweep with
  | none => 0
  | some w => if w.segment then 2 else 1

def reinStatWord (r : Rein) : Word :=
  mkWord [(30, r.state.toNat), (26, satTo 4 r.count), (23, r.addr.val), (20, r.head.val), (16, satTo 4 r.position),
    (14, r.cause.toNat), (12, sweepCode r), (9, r.lastResult.toNat), (0, b2n r.genSat)]

def reinErrWord (r : Rein) : Word :=
  mkWord [(20, r.rxErrs.n), (8, r.breaks.n), (1, b2n r.breaks.sat), (0, b2n r.rxErrs.sat)]

def reinSweepWord (r : Rein) : Word := mkWord [(16, satSigned 16 r.ownDev), (12, satTo 4 r.accepted), (8, satTo 4 r.used)]

/-- GEN_SAT: cleared, and CAL_GEN set to 1. -/
def reinStatWrite (v : Word) (s : State) : State :=
  if flag v 0 then { s with rein := { s.rein with genSat := false }, metro := { s.metro with calGen := 1 } } else s

def reinErrWrite (v : Word) (s : State) : State :=
  modRein (fun r => { r with
    breaks := if flag v 1 then {} else r.breaks, rxErrs := if flag v 0 then {} else r.rxErrs }) s

/-! ### The family's meanings -/

/-- GROUP_EVENT: with `own` the policy stand of this device sends it to every other device, otherwise its frame arrives
with header `h` (R428). (Log entry 188: DEDUCED, unsafe.) -/
def execGroupEvent (own : Bool) (h : ReinHdr) (code : Half) (data : BitVec 48) (s : State) :
    Host.Outcome State Fault Refusal :=
  complete s <|
    let payload := le 2 code.toNat ++ le 6 data.toNat
    if own then if reinUp s then reinSend 1 true 0 payload (reinBegin s) else reinBegin s
    else
    let s := reinForward 1 h (reinOwn s h) payload (reinBegin s)
    if reinForUs s h then { s with policy := s.policy ++ [.group code data] } else s

/-- ENUM; the frame is removed by its DEVICE_ID (R416). Where the Rein stand takes no part, it ends the
break whose notices R413 discards. (Log entries 144: DEDUCED, unsafe; 188: DEDUCED, unsafe.) -/
def execEnum (h : ReinHdr) (id : Nat) (calGen : Half) (participant : Bool) (s : State) :
    Host.Outcome State Fault Refusal :=
  complete s <|
    let s := reinForward 2 h (decide (id = ownId s)) (enumPayload id calGen participant) (reinBegin s)
    if reinUp s then enumReceive h { id, hops := h.hops.val, calGen, participant } s
    else modRein (fun r => { r with brkSeen := false }) s

/-- REIN_ENUM_START: valid input for 1 ms after a break or after ready. -/
def execReinEnumStart (s : State) : Host.Outcome State Fault Refusal :=
  complete s <|
    let s := reinBegin s
    if reinUp s && !s.rein.enumerating && !reinIsClosed s && !s.rein.oversize then enumStart s else s

/-- ENUM_RESEND. -/
def execEnumResend (s : State) : Host.Outcome State Fault Refusal :=
  complete s <|
    let s := reinBegin s
    if reinUp s && s.rein.enumerating then enumSend s else s

/-- REIN_FRAME_BAD (R415). -/
def execReinFrameBad (line : StrapLine) (s : State) : Host.Outcome State Fault Refusal :=
  complete s (if reinBad line && reinForwards s then modRein (fun r => { r with rxErrs := bump 12 r.rxErrs }) s else s)

/-- REIN_SILENCE. -/
def execReinSilence (s : State) : Host.Outcome State Fault Refusal := complete s (reinSilence (reinBegin s))

/-- REIN_LOOPBACK_DONE. -/
def execReinLoopbackDone (ok : Bool) (devices : Fin 9) (s : State) : Host.Outcome State Fault Refusal :=
  complete s (loopbackDone ok devices.val (reinBegin s))

/-- BRK; `position` is the device's hops from the head where no ring has closed yet. -/
def execBrk (head : Fin 8) (cause : BitVec 2) (before : Bool) (position : Nat) (s : State) :
    Host.Outcome State Fault Refusal := complete s (brkReceive head cause before position (reinBegin s))

/-- MARK, with what the device's sample window measures. -/
def execMark (k : Nat) (sampleUv : Nat) (s : State) : Host.Outcome State Fault Refusal :=
  complete s (markReceive k sampleUv (reinBegin s))

/-- VETO (R412, R413, R434). -/
def execVeto (addr : Fin 8) (s : State) : Host.Outcome State Fault Refusal :=
  complete s <|
    let s := reinBegin s
    if !reinForwards s || s.rein.vetoesSeen.contains addr then s
    else
      let s := modRein (fun r => { r with vetoesSeen := r.vetoesSeen ++ [addr] }) (reinPut (.veto addr) s)
      sweepAbandon 1 addr.val s

/-- ANNOUNCE (R431, R435): with it the notices of a new sweep begin (R413), at a device that only forwards them too. -/
def execAnnounce (h : ReinHdr) (gen : Half) (src segment : Bool) (s : State) : Host.Outcome State Fault Refusal :=
  complete s <|
    let s := reinForward 3 h (reinOwn s h) (le 2 gen.toNat ++ [BitVec.ofNat 8 (b2n src), BitVec.ofNat 8 (b2n segment)])
      (reinBegin s)
    let s := if reinForwards s && !reinOwn s h then modRein (fun r => { r with marksSeen := [], vetoesSeen := [] }) s else s
    if reinForUs s h then
      modRein (fun r => { r with
        sweep := some { gen, src, segment, leader := false }, marksSeen := [], vetoesSeen := [] }) s
    else s

/-- SWEEP_DATA. -/
def execSweepData (h : ReinHdr) (gen : Half) (reading : Nat) (s : State) : Host.Outcome State Fault Refusal :=
  complete s <|
    let s := reinForward 4 h (reinOwn s h) (le 2 gen.toNat ++ le 4 reading) (reinBegin s)
    if reinForUs s h && s.rein.sweep.any (fun w => w.leader && decide (w.gen = gen)) then sweepCollect h.src.val reading s
    else s

/-- COMMIT. -/
def execCommit (h : ReinHdr) (gen : Half) (mask : Byte) (readings : List Nat) (s : State) :
    Host.Outcome State Fault Refusal :=
  complete s <|
    let vals := (List.range 8).map fun a => readings.getD a 0
    let s := reinForward 5 h (reinOwn s h) (le 2 gen.toNat ++ [mask] ++ vals.flatMap (le 4)) (reinBegin s)
    if reinForUs s h && s.rein.sweep.any (fun w => !w.leader && decide (w.gen = gen)) then sweepCommit mask vals s else s

/-- ABORT: every device of the sweep abandons it (R434), one whose Strap is lost too. -/
def execAbort (h : ReinHdr) (gen : Half) (reason : Byte) (s : State) : Host.Outcome State Fault Refusal :=
  complete s <|
    let s := reinForward 6 h (reinOwn s h) (le 2 gen.toNat ++ [reason]) (reinBegin s)
    if isReady s && reinForwards s && decide (h.src ≠ s.rein.addr) && (h.bcast || decide (h.dest = s.rein.addr))
        && s.rein.sweep.any (fun w => decide (w.gen = gen)) then
      sweepAbandon 0 h.src.val s else s

/-- SWEEP_TIMER: SWEEP_PERIOD after the end of the last sweep; a period of 0 has none. -/
def execSweepTimer (s : State) : Host.Outcome State Fault Refusal :=
  complete s <|
    let s := reinBegin s
    if field s.rein.cfg 31 24 = 0 then s else sweepStart s

/-- SWEEP_NOW: a write of REINCFG with SWEEP_NOW, under the Tack. -/
def execSweepNow (who : Requester) (s : State) : Host.Outcome State Fault Refusal :=
  complete s (guarded who (regAccess true 0x3800) sweepNow (reinBegin s))

/-- SWEEP_MARK_SEND, with what the leader's own sample window measures. -/
def execSweepMarkSend (sampleUv : Nat) (s : State) : Host.Outcome State Fault Refusal :=
  complete s (markSend sampleUv (reinBegin s))

/-- SWEEP_ADOPT. -/
def execSweepAdopt (s : State) : Host.Outcome State Fault Refusal := complete s (sweepAdopt s)

end Sys2Proof.Machine
end

