-- ==== Sys2Proof/Machine/Regs.lean ====
section
/-! DEFINITION. The registers by host address (R600, R601, Tables 20.1 to 20.3): what a host read returns and what a write
does. An address that no register occupies reads 0 and takes no write (R8, R165). -/

namespace Sys2Proof.Machine

def bytesWord (bs : List Byte) (k : Nat) : Word := BitVec.ofNat 32 (numAt bs (4 * k) 4)

/-- `k` below `n` as an index. -/
def ix (n k : Nat) (h : 0 < n) : Fin n := ⟨k % n, Nat.mod_lt _ h⟩
def ix8 (k : Nat) : Fin 8 := ix 8 k (by decide)
def ix16 (k : Nat) : Fin 16 := ix 16 k (by decide)
def ix24 (k : Nat) : Fin 24 := ix 24 k (by decide)
def ix32 (k : Nat) : Fin 32 := ix 32 k (by decide)
def ix20 (k : Nat) : Fin 20 := ix 20 k (by decide)

/-! ### Words -/

def rstCauseWord (b : Boot) : Word :=
  mkWord [(24, b.resetCount.n), (23, b2n b.resetCount.sat), (0, b.cause.toNat)]

def bootStatWord (b : Boot) : Word :=
  mkWord [(16, satTo 16 b.bootTime), (6, b.bootSlot.toNat), (5, b2n b.rootReloaded), (4, b2n b.limp),
    (1, b.failFirst.toNat), (0, b2n b.ready)]

def hostErrWord (h : HostPort) : Word :=
  mkWord [(16, h.crcErrs.n), (4, h.busyCount.n), (2, b2n h.formatSeen), (1, b2n h.busyCount.sat), (0, b2n h.crcErrs.sat)]

def irqStatWord (h : HostPort) : Word := mkWord [(0, (h.irqStat ||| BitVec.ofNat 12 (b2n h.jobDone)).toNat)]

def grStatWord (g : Grain) : Word := mkWord [(16, g.present.toNat), (0, g.fault.toNat)]

/-- STANDMAP0 (half 0) and STANDMAP1. -/
def standMapWord (g : Grain) (half : Nat) : Word :=
  mkWord ((List.range 8).map fun k => (4 * k, (g.stands[ix16 (8 * half + k)]).phys))

/-- (Log entry 95: DEDUCED, unsafe.) -/
def supStatWord (g : Grain) : Word :=
  mkWord ([(24, g.stallCount.n), (23, b2n g.stallCount.sat)] ++ (List.finRange 16).map fun k => (k.val, b2n g.stands[k].live))

/-- (Log entry 48: DEDUCED, unsafe.) -/
def standStatWord (t : Stand) : Word :=
  mkWord [(24, satSigned 8 t.slack), (16, t.role.toNat), (12, t.phys % 16), (7, b2n t.reloads.sat), (0, t.reloads.n)]

def patInfoWord (p : Pattern) : Word :=
  mkWord [(24, p.secVer.toNat), (16, p.standCount.toNat), (8, p.portMask.toNat), (7, b2n p.encrypted), (6, b2n p.unowned),
    (4, p.signer.toNat)]

def ldStatWord (p : Pattern) : Word :=
  mkWord [(24, p.reasonFirst.toNat), (16, p.reasonSecond.toNat), (8, satTo 8 p.relocations)]

def rgStatWord (r : Ring) : Word := mkWord [(16, r.gen.toNat), (8, r.newest.toNat)]

def rgJournalWord (r : Ring) : Word :=
  mkWord [(16, r.jGen.toNat), (4, if r.found then satTo 12 r.jIndex else 0xFFF), (0, b2n r.found)]

def rgDropWord (r : Ring) : Word := mkWord [(16, r.drops.n), (0, b2n r.drops.sat)]

def rgSevWord (r : Ring) (half : Nat) : Word :=
  mkWord ((List.range 4).map fun k => (8 * k, (r.sevCounts[ix8 (4 * half + k)]).n))

def rgSevSatWord (r : Ring) : Word := mkWord ((List.finRange 8).map fun k => (k.val, b2n r.sevCounts[k].sat))

def pdStatWord (q : PdPort) : Word :=
  mkWord [(30, q.rev.toNat), (29, b2n q.eprMode), (27, q.cable.toNat), (26, b2n q.activeCable), (25, b2n q.frsSignalled),
    (24, b2n q.frsArmed), (16, (amsByte q.ams).toNat), (8, satTo 8 q.waits)]

def pdCount0Word (q : PdPort) : Word :=
  mkWord [(20, q.crcErrs.n), (8, q.retries.n), (1, b2n q.retries.sat), (0, b2n q.crcErrs.sat)]

def pdCount1Word (q : PdPort) : Word :=
  mkWord [(24, q.softResets.n), (16, q.hardResets.n), (1, b2n q.hardResets.sat), (0, b2n q.softResets.sat)]

def violStatWord (q : PdPort) : Word :=
  mkWord [(16, q.violCount.n), (8, q.lastClass.toNat), (7, b2n q.violCount.sat), (4, satTo 3 q.lastLevel),
    (0, satTo 3 q.lastAnswer)]

def authStatWord (s : State) (p : Fin 8) : Word :=
  let q := portPd s p
  mkWord [(28, q.auth.ctorIdx), (24, q.authReason.toNat), (20, slotCode (item s (anchorItem p)).slot),
    (16, slotCode (item s (sessionItem p)).slot)]

def vclassWord (c : VClass) : Word :=
  mkWord [(16, c.count.n), (15, b2n c.count.sat), (8, satTo 4 c.inWindow), (0, satTo 3 c.level)]

def stFallbackWord (s : State) : Word := mkWord [(0, s.strap.fallbackAck.toNat)]

/-! ### Reads by station -/

def devRead (s : State) (o : Nat) : Word :=
  match o with
  | 0x010 => rstCauseWord s.boot
  | 0x014 => bootStatWord s.boot
  | 0x018 => s.time.uptime
  | _ => 0

def hostRegRead (s : State) (o : Nat) : Word :=
  match o with
  | 0x000 => hostErrWord s.host
  | 0x004 => irqStatWord s.host
  | 0x008 => mkWord [(0, s.host.irqEn.toNat)]
  | 0x00C => mkWord [(0, s.host.sevThreshold.toNat)]
  | _ => 0

def grainRead (s : State) (o : Nat) : Word :=
  if o = 0x000 then grStatWord s.grain
  else if o = 0x004 then standMapWord s.grain 0
  else if o = 0x008 then standMapWord s.grain 1
  else if o = 0x00C then s.grain.portStand
  else if o = 0x010 then supStatWord s.grain
  else if 0x040 ≤ o ∧ o < 0x080 ∧ o % 4 = 0 then standStatWord s.grain.stands[ix16 ((o - 0x40) / 4)]
  else 0

def patternRead (s : State) (o : Nat) : Word :=
  let p := s.pattern
  if o = 0x000 then p.id
  else if o = 0x004 then p.ver
  else if o = 0x008 then p.stamp
  else if o = 0x00C then patInfoWord p
  else if o = 0x010 then ldStatWord p
  else if o = 0x014 then p.stolx
  else if 0x020 ≤ o ∧ o < 0x040 ∧ o % 4 = 0 then bytesWord p.digest ((o - 0x20) / 4)
  else if 0x040 ≤ o ∧ o < 0x0A0 ∧ o % 4 = 0 then p.classes[ix24 ((o - 0x40) / 4)]
  else 0

/-- SEAM as the host reads it: SMRESULT is its holder's alone. (Log entry 98: DEDUCED, unsafe.) -/
def seamRead (s : State) (o : Nat) : Word :=
  match o with
  | 0x000 => smCtlWord s.seam
  | 0x004 => smStatWord s.seam
  | 0x03C => smCountWord s.seam
  | _ => 0

def wdogRead (s : State) (o : Nat) : Word :=
  match o with
  | 0x000 => s.wda.cfg
  | 0x008 => wdaStatWord s
  | 0x00C => wdaTimeWord s
  | 0x010 => mkWord [(0, s.wda.policy.toNat)]
  | 0x020 => wdbStatWord s
  | _ => 0

def heartRead (s : State) (o : Nat) : Word :=
  match o with
  | 0x000 => hwStat s
  | 0x004 => hwLockWord s
  | 0x008 => hwArbWord s
  | 0x010 => hwRdSelWord s
  | 0x014 => BitVec.ofNat 32 (hwRdData s)
  | 0x018 => BitVec.ofNat 32 (hwRdData s / 2 ^ 32)
  | 0x020 => hwShSelWord s
  | 0x024 => s.heart.shLo
  | 0x028 => s.heart.shHi
  | 0x030 => s.heart.burnRes
  | _ => 0

def pocketRead (s : State) (o : Nat) : Word :=
  if o = 0x000 then pkStatWord s
  else if o = 0x004 then pkCountWord s
  else if 0x040 ≤ o ∧ o < 0x080 ∧ o % 4 = 0 then bytesWord s.pocket.idPub ((o - 0x40) / 4)
  else if 0x080 ≤ o ∧ o < 0x0D0 ∧ o % 4 = 0 then pkItemWord s (ix20 ((o - 0x80) / 4))
  else 0

def awlRead (s : State) (o : Nat) : Word :=
  match o with
  | 0x000 => awlStatWord s
  | 0x004 => awlCountWord s
  | 0x008 => mkWord [(0, satTo 16 s.awl.maxWait)]
  | _ => 0

/-- R474: the station reads 0 while the Sap domain does not run. (Log entry 97: DEDUCED, unsafe.) -/
def barkRead (s : State) (o : Nat) : Word :=
  if !s.sap.running then 0
  else match o with
  | 0x000 => bkStatWord s
  | 0x004 => effClassWord s
  | 0x008 => mkWord [(0, s.bark.raise.toNat)]
  | 0x00C => mkWord [(0, (sensorMask s).toNat)]
  | 0x010 => bkCount0Word s
  | 0x014 => bkCount1Word s
  | _ => 0

def ringRead (s : State) (o : Nat) : Word :=
  match o with
  | 0x000 => rgStatWord s.ring
  | 0x004 => rgJournalWord s.ring
  | 0x008 => rgDropWord s.ring
  | 0x00C => rgSevWord s.ring 0
  | 0x010 => rgSevWord s.ring 1
  | 0x014 => rgSevSatWord s.ring
  | _ => 0

/-- One word of a rule as it reads: _A at offset 0, with its reserved bits 25 to 8 as 0 (R7, Table 17.5), _B at 4. A
staged word keeps what was written for R540, which finds a reserved bit set. -/
def ruleWord (r : Rule) (o : Nat) : Word := if o % 8 = 0 then r.a &&& 0xFC0000FF else r.b

def tackRead (s : State) (o : Nat) : Word :=
  if o = 0x000 then tkStatWord s
  else if o = 0x008 then tkDenyWord s
  else if o = 0x340 then satStatWord s
  else if o % 4 ≠ 0 then 0
  else if 0x080 ≤ o ∧ o < 0x180 then ruleWord s.tack.staged[ix32 ((o - 0x80) / 8)] o
  else if 0x200 ≤ o ∧ o < 0x300 then ruleWord s.tack.rules[ix32 ((o - 0x200) / 8)] o
  else if 0x300 ≤ o ∧ o < 0x340 then
    if o % 8 = 0 then s.satchel.winA[ix8 ((o - 0x300) / 8)] else s.satchel.winB[ix8 ((o - 0x300) / 8)]
  else 0

/-- (Log entry 97: DEDUCED, unsafe.) -/
def sapRead (s : State) (o : Nat) : Word :=
  let t := s.sap
  if o = 0x004 then sapStatWord s
  else if !t.running then 0
  else match o with
  | 0x000 => t.cfg
  | 0x008 => mkWord [(0, satTo 24 t.gauge)]
  | 0x00C => mkWord [(16, satTo 16 t.rsvMv), (0, satTo 16 t.harvestUw)]
  | 0x010 => mkWord [(0, t.thrFull)]
  | 0x014 => mkWord [(0, t.thrLean)]
  | 0x018 => mkWord [(0, t.thrScant)]
  | 0x01C => mkWord [(0, t.thrDry)]
  | 0x020 => mkWord [(0, t.hyst)]
  | 0x024 => mkWord [(0, satTo 24 (dryEff s))]
  | 0x028 => mkWord [(16, satTo 16 t.capEst), (0, t.capNom.toNat)]
  | 0x02C => t.ein
  | 0x030 => t.clock
  | 0x034 => (t.wake &&& 0xFFFFFF80) ||| t.lastSrc.zeroExtend 32
  | 0x038 => sapRecWord s
  | _ => 0

def strapRead (s : State) (o : Nat) : Word :=
  if o = 0x000 then stStatWord s
  else if o = 0x004 then stLossWord s
  else if o = 0x008 then stErrWord s
  else if o = 0x00C then stCountWord s
  else if o = 0x010 then s.strap.rootVer
  else if o = 0x014 then s.strap.rootStamp
  else if 0x020 ≤ o ∧ o < 0x040 ∧ o % 4 = 0 then bytesWord s.strap.codeDigest ((o - 0x20) / 4)
  else if o = 0x040 then stFallbackWord s
  else 0

def reinRead (s : State) (o : Nat) : Word :=
  match o with
  | 0x000 => s.rein.cfg
  | 0x004 => reinStatWord s.rein
  | 0x008 => reinErrWord s.rein
  | 0x00C => reinSweepWord s.rein
  | _ => 0

def metroRead (s : State) (o : Nat) : Word :=
  match o with
  | 0x000 => s.metro.calCfg
  | 0x004 => mrefStatWord s
  | 0x008 => mcalGenWord s
  | _ => 0

def cmpRead (s : State) (o : Nat) : Word :=
  if o = 0x040 then cmpTestWord s
  else if o < 0x040 ∧ o % 4 = 0 then
    let c := s.cmps[ix8 (o / 8)]
    if o % 8 = 0 then c.cfg else cmpStatWord c
  else 0

/-- PGEN; COUNT of a running generator is a free value, and a capture read clears (RC). -/
def pgenRead (o : Nat) (s : State) : Word × State :=
  let n := ix8 (o / 0x20)
  let g := s.pgs[n]
  if 0x100 ≤ o then (0, s)
  else match o % 0x20 with
  | 0x00 => (g.cfg, s)
  | 0x04 => (g.timeW, s)
  | 0x08 => (mkWord [(0, b2n g.run)], s)
  | 0x0C => pgStatRead n s
  | 0x10 => capRead n false s
  | 0x14 => capRead n true s
  | _ => (0, s)

def graftRead (s : State) (o : Nat) : Word :=
  match o with
  | 0x000 => gfStatWord s
  | 0x004 => gfPiecesWord s
  | 0x008 => gfBundleWord s
  | 0x00C => gfTrialWord s
  | 0x014 => gfCountWord s
  | _ => 0

def vcoreRead (s : State) (o : Nat) : Word :=
  match o with
  | 0x000 => s.power.vcctl
  | 0x004 => vcStatWord s
  | 0x008 => vcFuseWord s
  | _ => 0

def cinchRead (s : State) (o : Nat) : Word :=
  match o with
  | 0x000 => s.groups[0].cfg
  | 0x004 => s.groups[1].cfg
  | 0x008 => grpStatWord s
  | _ => 0

def portRead (s : State) (p : Fin 8) (o : Nat) : Word :=
  let v := seenPort s p
  let q := v.pd
  let c := v.cc
  let h := v.cinch
  let m := v.metro
  match o with
  | 0x000 => h.cfg
  | 0x004 => h.ft
  | 0x008 => h.i2tCfg
  | 0x00C => h.droopCfg
  | 0x010 => cinchStatWord s p
  | 0x014 => gateCtlWord h s.pgs[p]
  | 0x018 => mkWord [(16, satSigned 16 h.vset)]
  | 0x01C => h.vsetLim
  | 0x020 => i2tStatWord h
  | 0x024 => cinchCountWord h
  | 0x100 => c.cfgW
  | 0x104 => c.time0W
  | 0x108 => c.time1W
  | 0x10C => ccStatWord c
  | 0x110 => c.floodCfg
  | 0x114 => ccCountWord c
  | 0x118 => hushCtlWord c
  | 0x200 => q.cfg
  | 0x204 => pdStatWord q
  | 0x208 => q.pdo
  | 0x20C => q.rdo
  | 0x210 => pdCount0Word q
  | 0x214 => pdCount1Word q
  | 0x218 => violStatWord q
  | 0x21C => authStatWord s p
  | 0x300 => m.loopCfg
  | 0x304 => m.shuntCfg
  | 0x308 => mvbusWord s m
  | 0x30C => mibusWord s m
  | 0x310 => loopStatWord s p
  | 0x314 => mstatWord m
  | 0x318 => m.eout
  | 0x31C => m.ein
  | _ => if 0x240 ≤ o ∧ o < 0x2A0 ∧ o % 4 = 0 then vclassWord q.classes[ix24 ((o - 0x240) / 4)] else 0

/-- The port of a host address. -/
def addrPort (addr : Nat) : Option (Fin 8) :=
  if 0x8000 ≤ addr ∧ addr < 0xA000 then some (ix8 ((addr - 0x8000) / 0x400)) else none

/-- What a register that a read leaves alone holds. (Log entry 80: DEDUCED, unsafe.) -/
def regWord (s : State) (addr : Nat) : Word :=
  let o := addr % 0x400
  match addrPort addr with
  | some p => portRead s p o
  | none => match addr / 0x400 with
    | 0x00 => devRead s o
    | 0x01 => hostRegRead s o
    | 0x02 => grainRead s o
    | 0x03 => patternRead s o
    | 0x04 => seamRead s o
    | 0x05 => wdogRead s o
    | 0x06 => heartRead s o
    | 0x07 => pocketRead s o
    | 0x08 => awlRead s o
    | 0x09 => barkRead s o
    | 0x0A => ringRead s o
    | 0x0B => tackRead s o
    | 0x0C => sapRead s o
    | 0x0D => strapRead s o
    | 0x0E => reinRead s o
    | 0x0F => metroRead s o
    | 0x10 => cmpRead s o
    | 0x12 => graftRead s o
    | 0x13 => vcoreRead s o
    | 0x14 => cinchRead s o
    | _ => 0

/-- A host register read: the RC fields it returns clear (R9). -/
def regRead (addr : Nat) (s : State) : Word × State :=
  if addr / 0x400 = 0x11 then pgenRead (addr % 0x400) s
  else if addr = 0x2008 then (regWord s addr, { s with awl := { s.awl with maxWait := 0 } })
  else (regWord s addr, s)

/-- A METRO or port register that Root holds (chapter 06, "When things collide"): the METRO station, a port's Cinch block,
CCSTAT, CCCOUNT, SHUNTCFG, EOUT and EIN. (Log entry 79: DEDUCED, unsafe.) -/
def rootHeld (addr : Nat) : Bool :=
  let o := addr % 0x400
  if addr / 0x400 = 0x0F then true
  else (addrPort addr).isSome && (decide (o < 0x028) || [0x10C, 0x114, 0x304, 0x318, 0x31C].contains o)

/-! ### Writes by station -/

def rstCauseWrite (v : Word) (s : State) : State :=
  let clear : BitVec 14 := v.extractLsb' 0 14 &&& 0x3FE7
  { s with boot := { s.boot with
    cause := s.boot.cause &&& ~~~clear, resetCount := if flag v 23 then {} else s.boot.resetCount } }

def hostErrWrite (v : Word) (s : State) : State :=
  { s with host := { s.host with
    formatSeen := s.host.formatSeen && !flag v 2
    busyCount := if flag v 1 then {} else s.host.busyCount
    crcErrs := if flag v 0 then {} else s.host.crcErrs } }

def irqStatWrite (v : Word) (s : State) : State :=
  { s with host := { s.host with irqStat := s.host.irqStat &&& ~~~(v.extractLsb' 0 12 &&& 0xFFE) } }

def supStatWrite (v : Word) (s : State) : State :=
  if flag v 23 then { s with grain := { s.grain with stallCount := {} } } else s

def standStatWrite (k : Fin 16) (v : Word) (s : State) : State :=
  if flag v 7 then modStand k (fun t => { t with reloads := {} }) s else s

/-- SEAM as a requester other than the host writes it (R180). -/
def seamWrite (who : Requester) (o : Nat) (v : Word) (s : State) : State :=
  if o = 0x03C then
    -- R180, R190: the host clears it, and otherwise the holder alone
    if who ≠ .host && s.seam.holder ≠ some who then s else { s with seam := { s.seam with
    revocations := if flag v 1 then {} else s.seam.revocations, mismatches := if flag v 0 then {} else s.seam.mismatches } }
  else if who = .host then s
  else match o with
  | 0x000 => seamCtl who (v.extractLsb' 2 2) (flag v 0) (flag v 1) s
  | 0x010 => { s with seam := seamData8 who 0 v s.seam }
  | 0x014 => { s with seam := seamData8 who 1 v s.seam }
  | 0x018 => { s with seam := seamData8 who 2 v s.seam }
  | 0x020 => seamFold who 0 v s
  | 0x024 => seamFold who 1 v s
  | 0x028 => seamFold who 2 v s
  | 0x030 => { s with seam := seamCompareOp who v s.seam }
  | _ => s

def wdogWrite (o : Nat) (v : Word) (s : State) : State :=
  match o with
  | 0x000 => wdaArm v s
  | 0x004 => wdaServe v s
  | 0x008 => wdaStatWrite v s
  | 0x010 => { s with wda := { s.wda with policy := v.extractLsb' 0 16 } }
  | 0x020 => wdbStatWrite v s
  | _ => s

def heartWrite (o : Nat) (v : Word) (s : State) : State :=
  match o with
  | 0x010 => { s with heart := { s.heart with rdSel := v.extractLsb' 0 8 } }
  | 0x020 => hwShSelWrite v s
  | 0x024 => { s with heart := { s.heart with shLo := v } }
  | 0x028 => { s with heart := { s.heart with shHi := v } }
  | _ => s

def pocketWrite (o : Nat) (v : Word) (s : State) : State :=
  match o with
  | 0x000 => if flag v 24 then wcSatWrite s else s
  | 0x004 => { s with pocket := { s.pocket with
      unpresses := if flag v 1 then {} else s.pocket.unpresses, presses := if flag v 0 then {} else s.pocket.presses } }
  | _ => s

def awlWrite (o : Nat) (v : Word) (s : State) : State :=
  if o = 0x004 then { s with awl := { s.awl with
    fails := if flag v 1 then {} else s.awl.fails, units := if flag v 0 then {} else s.awl.units } }
  else s

/-- BKSTAT.LATCHED and the SAT bits of BKCOUNT1; no write while the Sap domain does not run (R474). -/
def barkWrite (o : Nat) (v : Word) (s : State) : State :=
  if !s.sap.running then s
  else match o with
  | 0x000 => { s with bark := { s.bark with latched := s.bark.latched &&& ~~~(v.extractLsb' 24 7) } }
  | 0x008 => bkRaise v s
  | 0x00C => sensorEnWrite v s
  | 0x014 => { s with bark := { s.bark with
      counts := Vector.ofFn fun b => if flag v b.val then {} else s.bark.counts[b] } }
  | _ => s

def ringWrite (o : Nat) (v : Word) (s : State) : State :=
  match o with
  | 0x008 => if flag v 0 then { s with ring := { s.ring with drops := {} } } else s
  | 0x014 => { s with ring := { s.ring with
      sevCounts := Vector.ofFn fun k => if flag v k.val then {} else s.ring.sevCounts[k] } }
  | _ => s

/-- One word of a staged rule. -/
def stageWrite (k : Fin 32) (isB : Bool) (v : Word) (s : State) : State :=
  let r := s.tack.staged[k]
  { s with tack := { s.tack with staged := s.tack.staged.set k (if isB then { r with b := v } else { r with a := v }) } }

def tackWrite (who : Requester) (o : Nat) (v : Word) (s : State) : State :=
  if o = 0x000 then (if flag v 14 then epochSatClear s else s)
  else if o = 0x004 then tkCommit who (v.extractLsb' 16 16) s
  else if o = 0x008 then (if flag v 15 then { s with tack := { s.tack with denyCount := {} } } else s)
  else if o = 0x340 then { s with satchel := { s.satchel with
      winErr := s.satchel.winErr && !flag v 14, poisonCount := if flag v 23 then {} else s.satchel.poisonCount } }
  else if o % 4 ≠ 0 then s
  else if 0x080 ≤ o ∧ o < 0x180 then stageWrite (ix32 ((o - 0x80) / 8)) (o % 8 = 4) v s
  else if 0x300 ≤ o ∧ o < 0x340 then satWinWrite (ix8 ((o - 0x300) / 8)) (o % 8 = 4) v s
  else s

def sapWrite (o : Nat) (v : Word) (s : State) : State :=
  if !s.sap.running then s
  else match o with
  | 0x000 => { s with sap := { s.sap with cfg := v } }
  | 0x004 => if flag v 22 then { s with sap := { s.sap with orderErr := false } } else s
  | 0x010 => thresholdWrite 0 v s
  | 0x014 => thresholdWrite 1 v s
  | 0x018 => thresholdWrite 2 v s
  | 0x01C => thresholdWrite 3 v s
  | 0x020 => { s with sap := { s.sap with hyst := field v 23 0 } }
  | 0x028 =>
    let nom := v.extractLsb' 0 16
    { s with sap := { s.sap with capNom := nom, capEst := if s.sap.learned then s.sap.capEst else nom.toNat } }
  | 0x034 => { s with sap := { s.sap with wake := v &&& 0xFFFFFF80 } }
  | 0x038 => { s with sap := { s.sap with
      zeroCount := if flag v 23 then {} else s.sap.zeroCount, recLost := if flag v 7 then {} else s.sap.recLost } }
  | _ => s

def strapWrite (o : Nat) (v : Word) (s : State) : State :=
  match o with
  | 0x004 => stLossWrite v s
  | 0x008 => stErrWrite v s
  | _ => s

def reinWrite (o : Nat) (v : Word) (s : State) : State :=
  match o with
  | 0x000 => reinCfgWrite v s
  | 0x004 => reinStatWrite v s
  | 0x008 => reinErrWrite v s
  | _ => s

def cmpWrite (o : Nat) (v : Word) (s : State) : State :=
  if o = 0x040 then cmpTestWrite v s
  else if o < 0x040 ∧ o % 4 = 0 then
    let n := ix8 (o / 8)
    if o % 8 = 4 then cmpStatWrite n v s
    else if n = 0 ∧ !s.sap.running then s else cmpCfgWrite n v s
  else s

/-- PGnSTAT: TRIPPED is cleared by writing 1 (R377). -/
def pgStatWrite (n : Fin 8) (v : Word) (s : State) : State :=
  if flag v 2 then modPg n (fun g => { g with tripped := false }) s else s

def pgenWrite (o : Nat) (v : Word) (s : State) : State :=
  let n := ix8 (o / 0x20)
  if 0x100 ≤ o then s
  else match o % 0x20 with
  | 0x00 => pgCfgWrite n v s
  | 0x04 => pgTimeWrite n v s
  | 0x08 => pgCtlWrite n v s
  | 0x0C => pgStatWrite n v s
  | _ => s

def graftWrite (who : Requester) (o : Nat) (v : Word) (s : State) : State :=
  match o with
  | 0x010 => graftConfirm who v s
  | 0x014 => gfCountWrite v s
  | _ => s

/-- VCSTAT.OVR_SEEN (R10: it stays while the override lasts). (Log entry 99: DEDUCED, unsafe.) -/
def vcStatWrite (v : Word) (s : State) : State :=
  if flag v 0 then { s with power := { s.power with ovrSeen := s.power.override } } else s

def vcoreWrite (o : Nat) (v : Word) (s : State) : State :=
  match o with
  | 0x000 => vcctlWrite v s
  | 0x004 => vcStatWrite v s
  | _ => s

def cinchWrite (o : Nat) (v : Word) (s : State) : State :=
  match o with
  | 0x000 => grpCfgWrite 0 v s
  | 0x004 => grpCfgWrite 1 v s
  | 0x00C => grpCtlWrite v s
  | _ => s

def pdCount0Write (p : Fin 8) (v : Word) (s : State) : State :=
  modPd p (fun q => { q with
    retries := if flag v 1 then {} else q.retries, crcErrs := if flag v 0 then {} else q.crcErrs }) s

def pdCount1Write (p : Fin 8) (v : Word) (s : State) : State :=
  modPd p (fun q => { q with
    hardResets := if flag v 1 then {} else q.hardResets, softResets := if flag v 0 then {} else q.softResets }) s

def violStatWrite (p : Fin 8) (v : Word) (s : State) : State :=
  if flag v 7 then modPd p (fun q => { q with violCount := {} }) s else s

def vclassWrite (p : Fin 8) (k : Fin 24) (v : Word) (s : State) : State :=
  if flag v 15 then modPd p (fun q => { q with classes := q.classes.set k { q.classes[k] with count := {} } }) s else s

def portWrite (p : Fin 8) (o : Nat) (v : Word) (s : State) : State :=
  match o with
  | 0x000 => cinchCfgWrite p v s
  | 0x004 => ftCfgWrite p v s
  | 0x008 => i2tCfgWrite p v s
  | 0x00C => droopCfgWrite p v s
  | 0x014 => gateCtlWrite p v s
  | 0x01C => vsetLimWrite p v s
  | 0x024 => cinchCountWrite p v s
  | 0x100 => ccCfgWrite p v s
  | 0x104 => ccTimeWrite p false v s
  | 0x108 => ccTimeWrite p true v s
  | 0x10C => ccStatWrite p v s
  | 0x110 => floodCfgWrite p v s
  | 0x114 => ccCountWrite p v s
  | 0x118 => hushCtlWrite p v s
  | 0x200 => modPd p (fun q => { q with cfg := v &&& 0xFFFFFF00, frsArmed := q.frsArmed && flag v 16 }) s
  | 0x210 => pdCount0Write p v s
  | 0x214 => pdCount1Write p v s
  | 0x218 => violStatWrite p v s
  | 0x300 => loopCfgWrite p v s
  | 0x304 => shuntCfgWrite p v s
  | 0x314 => mstatWrite p v s
  | _ => if 0x240 ≤ o ∧ o < 0x2A0 ∧ o % 4 = 0 then vclassWrite p (ix24 ((o - 0x240) / 4)) v s else s

/-- A register write that the Tack has allowed. (Log entries 80: DEDUCED, unsafe; 100: DEDUCED, unsafe.) -/
def regWrite (who : Requester) (addr : Nat) (v : Word) (s : State) : State :=
  let o := addr % 0x400
  match addrPort addr with
  | some p => portWrite p o v s
  | none => match addr / 0x400 with
    | 0x00 => if o = 0x010 then rstCauseWrite v s else s
    | 0x01 => match o with
      | 0x000 => hostErrWrite v s
      | 0x004 => irqStatWrite v s
      | 0x008 => { s with host := { s.host with irqEn := v.extractLsb' 0 12 } }
      | 0x00C => { s with host := { s.host with sevThreshold := v.extractLsb' 0 3 } }
      | _ => s
    | 0x02 =>
      if o = 0x010 then supStatWrite v s
      else if 0x040 ≤ o ∧ o < 0x080 ∧ o % 4 = 0 then standStatWrite (ix16 ((o - 0x40) / 4)) v s else s
    | 0x04 => seamWrite who o v s
    | 0x05 => wdogWrite o v s
    | 0x06 => heartWrite o v s
    | 0x07 => pocketWrite o v s
    | 0x08 => awlWrite o v s
    | 0x09 => barkWrite o v s
    | 0x0A => ringWrite o v s
    | 0x0B => tackWrite who o v s
    | 0x0C => sapWrite o v s
    | 0x0D => strapWrite o v s
    | 0x0E => reinWrite o v s
    | 0x0F => if o = 0x000 then { s with metro := { s.metro with calCfg := v &&& 7 } } else s
    | 0x10 => cmpWrite o v s
    | 0x11 => pgenWrite o v s
    | 0x12 => graftWrite who o v s
    | 0x13 => vcoreWrite o v s
    | 0x14 => cinchWrite o v s
    | _ => s

/-! ### The family's meanings -/

/-- REGISTER_WRITE by any requester, under the Tack. -/
def execRegisterWrite (who : Requester) (addr : Half) (v : Word) (s : State) : Host.Outcome State Fault Refusal :=
  complete s (guarded who (regAccess true addr.toNat) (regWrite who addr.toNat v) s)

/-- HW_SHADOW_APPLY: a write of HWSHSEL with APPLY, under the Tack. -/
def execHwShadowApply (who : Requester) (v : Word) (s : State) : Host.Outcome State Fault Refusal :=
  complete s (guarded who (regAccess true 0x1820) (hwShSelWrite (v ||| 0x80000000)) s)

/-- HW_SHADOW_REMOVE: a write of HWSHSEL with REMOVE, under the Tack. -/
def execHwShadowRemove (who : Requester) (v : Word) (s : State) : Host.Outcome State Fault Refusal :=
  complete s (guarded who (regAccess true 0x1820) (hwShSelWrite (v ||| 0x40000000)) s)

end Sys2Proof.Machine
end

