-- ==== Sys2Proof/Machine/Boot.lean ====
section
/-! DEFINITION. The boot (Table 3.5): the start check and what follows it, the loader's verdicts, the Grain self-test and
ready, and the supervisor's rules for stalled stands (R126 to R131). -/

namespace Sys2Proof.Machine

/-! ### Step 1 and 2: BOOT_START -/

/-- R55, R645: the supplies let the boot begin, and step 1 waits for the reference oscillator; a Crown boot begins on its
own. -/
def bootMay (s : State) : Bool :=
  match s.boot.phase with
  | .resetHold | .crownReset => (s.power.groupUp[0] || s.power.groupUp[1]) && s.power.refoscRunning
  | _ => false

/-- A port's balls in Reset hold (Table 2.8). -/
def portResetHold (p : Fin 8) (s : State) : State :=
  let up := s.power.groupUp[groupOf p]
  let s := outOfService p s
  modCinch p (fun c => { c with vset := 0, dsch := up, ew := false, st := .off }) s

/-- R90, R72, R73: the Heartwood integrity hold, with FAIL_KIND and FAIL_ROW.
(Log entries 60: DEDUCED, unsafe; 61: DEDUCED, unsafe.) -/
def integrityHold (kind row : Nat) (s : State) : State :=
  let s := { s with
    boot := { s.boot with phase := .integrityHold, cold := true }
    heart := { s.heart with failRow := row, failKind := kind, integrityOk := false }
    strap := { s.strap with
      codeRunning := false, params := false, loadData := [], loadNext := 0, holds := .replicate 8 {} }
    groups := s.groups.map fun (g : Group) => if g.gcutOpen then g else { g with gcutOpen := true, cause := 3 } }
  onPorts allPorts portResetHold s

/-- HWSTAT of a passed check, its events (R92, R93, R96), and EVAL_LOCK as this boot takes it (R115).
(Log entry 61: DEDUCED, unsafe.) -/
def bootHeart (s : State) : State :=
  let c := s.heart.cells
  let s := { s with
    heart := { s.heart with
      failRow := 0, failKind := 0, integrityOk := true, openRows := openRows c, sparesUsed := sparesUsed c
      voteFixed := voteFixed c, pendingLock := pendingLock c }
    boot := { s.boot with evaluated := evalFuse s } }
  let s := emitIf (decide (s.heart.openRows ≠ 0)) (devEv 0x0601 3 []) s
  let s := emitIf s.heart.voteFixed (devEv 0x0606 4 []) s
  emitIf s.heart.pendingLock (devEv 0x0607 4 []) s

/-- R521: the Crown boot copies BARK_CLASS to the Sap domain. -/
def bootBark (s : State) : State :=
  if s.sap.running then { s with bark := { s.bark with classCopy := some (fusedClasses s), evalCopy := s.boot.evaluated } } else s

/-- R475 to R481: the reconstruction, with its error count where it fails. (Log entry 56: DEDUCED, unsafe.) -/
def bootPuf (fail : Option Nat) (s : State) : State :=
  match fail with
  | some n =>
    let s := eraseItem 1 (eraseItem 0 s)
    emit (devEv 0x0707 6 [BitVec.ofNat 8 (satTo 8 n)]) { s with pocket := { s.pocket with pufOk := false } }
  | none => deriveSlots { s with pocket := { s.pocket with pufOk := true } }

/-- R49: POCKET_SHORT at each start of a board that fits no reserve element; the bytes of its data that name the
holder, the item and the cause are free. (Log entry 29: DESIGN CHOICE, safe.) -/
def bootNoReserve (s : State) : State :=
  if s.sap.noReserve then
    alarmBit 3 true (emit
      { code := 0x0701, src := 0x10, sev := 3, data := (List.range 3).map fun i => Config.codeByte 0x0701 (16 + i) } s)
  else s

/-- R524, R525: the tag key of this boot, and windows 0 and 1 of the Satchel.
(Log entries 6: DESIGN CHOICE, safe; 57: DESIGN CHOICE, unsafe.) -/
def bootSatchel (s : State) : State :=
  drawn { s with satchel := { s.satchel with
      key := (freeValue s).extractLsb' 0 128
      winA := (s.satchel.winA.set 0 0x8F000FFF).set 1 0x8F00107F
      winB := (s.satchel.winB.set 0 0).set 1 0x1000 } }

/-- R580, R594: Graft's state from its journal block and the slot of this boot; without the flash it is UNPREPARED and
rootstock is tried. -/
def bootGraft (flashOk : Bool) (s : State) : State :=
  if flashOk then
    let r := graftBoot (graftRebuild (flashGood s))
    { r.1 with boot := { r.1.boot with slot := r.2 } }
  else
    { flashFailed 0 (graftBase s) s with flash := { s.flash with ok := false } }

/-- R570: four WD-B expiries in a row lead to Limp, but not in a trial boot. (Log entry 62: DEDUCED, unsafe.) -/
def bootStorm (s : State) : State :=
  if s.wdb.storm < 4 then s
  else
    let n := s.wdb.storm
    let s := { s with wdb := { s.wdb with storm := 0 } }
    if s.graft.trialNow then s
    else
      let s := emit (devEv 0x0506 6 [BitVec.ofNat 8 (satTo 8 n)]) s
      limpEnter 0x10 { s with pattern := { s.pattern with reasonFirst := 0x10 } }

/-- What a boot does with the flash once it is idle: Graft's scan, and the storm that it lets count. -/
def bootFlash (flashOk : Bool) (s : State) : State := bootStorm (bootGraft flashOk s)

/-- R627: the flash was Reset in steps 1 and 2; while its write-in-progress bit reads 1, the boot polls it before step 3. -/
def bootPoll (env : BootEnv) (s : State) : State :=
  if env.flashBusy then { s with flash := { s.flash with wip := true } }
  else bootFlash env.flashOk { s with flash := { s.flash with wip := false } }

/-- The poll reads 0: step 3 may start. -/
def flashReady (r : FlashRes) (s : State) : State :=
  let s := { s with flash := { s.flash with wip := false } }
  if s.boot.phase = .fetch then bootFlash (decide (r = .ok)) s else s

/-- BOOT_START. -/
def bootStart (env : BootEnv) (s : State) : State :=
  if !bootMay s then s
  else
    let s := freezeLevel <| keepAlive { s with
      power := { s.power with vdd18 := true, vddio := true, rstNHigh := true }
      boot := { s.boot with t0 := s.time.now, together := {} }
      sap := { s.sap with noReserve := env.noReserve && !s.sap.running } }
    match startCheck s.heart.cells env.lateRow with
    | some f => integrityHold f.1 f.2 s
    | none =>
      let s := groupTell 1 (groupTell 0 { s with boot := { s.boot with phase := .fetch } })
      let s := bootNoReserve (bootPuf env.pufErrors (bootBark (bootHeart s)))
      bootPoll env (wdbStart (bootSatchel s))

/-! ### Steps 3 and 4: the loader's verdicts -/

/-- Each logical stand's 8,192 bytes in stand order, zeros for an absent one. (Log entry 58: DEDUCED, unsafe.) -/
def copyBytes (hdrs : List (List Byte)) (body : List Byte) : List Byte :=
  match hdrs with
  | [] => []
  | h :: t =>
    if hdrPresent h then body.take 8192 ++ copyBytes t (body.drop 8192)
    else List.replicate 8192 0 ++ copyBytes t body

/-- The configuration copy, in plaintext, in the Satchel's window 0 (R139, R525): stand k from byte 8,192 × k.
(Log entries 57: DESIGN CHOICE, unsafe; 58: DEDUCED, unsafe.) -/
def configCopy (img : List Byte) (s : State) : State :=
  let above := s.satchel.mem.filter fun c => decide (131072 ≤ c.1)
  let copy := (copyBytes (standHdrs img) (patBody s img)).take 131072
  { s with satchel := { s.satchel with mem := mplace 0 0 copy above } }

/-- PATTERN_FETCH_DONE: the checks of Tables 8.5 and 5.9 up to check 12. (Log entry 30: DEDUCED, unsafe.) -/
def patternFetched (rootOk patOk : Bool) (s : State) : State :=
  if s.boot.phase ≠ .fetch ∨ s.flash.wip then s
  else if !rootOk then refuseRoot 1 s
  else if !bundleFormat (slotManifest s s.boot.slot) then refuseSlot 0x03 4 s
  else
    let root := slotRoot s s.boot.slot
    match rootCheck s root with
    | some r => refuseRoot r s
    | none =>
      if !patOk then refuseSlot 0x01 3 s
      else
        let img := slotPattern s s.boot.slot
        match patCheck s (rootStamp root) img with
        | some f => refuseSlot f.1 f.2 s
        | none =>
          let s := configCopy img s
          { s with boot := { s.boot with phase := .verify } }

/-- The signer of an image: 0 or 1 by owner key, 3 unowned (R136, R137). -/
def patSigner (s : State) (img : List Byte) : Nat := (keyStatus s (slice (patSigBlock img) 0 64)).2

/-- SIGNATURE_VERIFIED: check 13. -/
def signatureVerified (s : State) : State :=
  if s.boot.phase ≠ .verify then s
  else
    let img := slotPattern s s.boot.slot
    if !patVerifies img then refuseSlot 0x09 1 s
    else
      let s := emitIf (decide (patSigner s img = 3)) (devEv 0x0302 4 [BitVec.ofNat 8 s.boot.slot.val]) s
      { s with boot := { s.boot with phase := .rootLoad } }

/-! ### Step 6: the Grain -/

/-- The Pattern's identity from its image (PATTERN station). -/
def loadIdentity (img : List Byte) (s : State) : State :=
  { s with pattern := { s.pattern with
      id := BitVec.ofNat 32 (manField img 0 4), ver := BitVec.ofNat 32 (manField img 4 4)
      stamp := BitVec.ofNat 32 (manField img 0x0C 4), secVer := BitVec.ofNat 8 (patSecVer img)
      standCount := BitVec.ofNat 8 (presentCount img), portMask := patPortMask img, encrypted := patEncrypted img
      unowned := decide (patSigner s img = 3), signer := BitVec.ofNat 2 (patSigner s img)
      stolx := BitVec.ofNat 32 (manField img 0x60 4), digest := sha256 (img.take (patSigOffset img))
      hushSvid := BitVec.ofNat 16 (manField img 0x68 2), fallback := patFallback img
      classes := Vector.ofFn fun k => classInForce k.val (classRaw img k.val) } }

/-- R307: a custom entry that acts as the default, reported at every port in PORT_MASK.
(Log entry 63: DEDUCED, unsafe.) -/
def classReports (img : List Byte) (s : State) : State :=
  (List.range 24).foldl (fun s k =>
    if classBad (classRaw img k) then
      onPorts (allPorts.filter fun p => (patPortMask img).getLsbD p.val) (evp · 0x201C 4 [BitVec.ofNat 8 k]) s
    else s) s

/-- One logical stand configured from its header. -/
def standFrom (h : List Byte) (k : Fin 16) : Stand :=
  { role := BitVec.ofNat 8 (hdrRole h), port := BitVec.ofNat 8 (numAt h 2 1)
    tackClass := ⟨numAt h 3 1 % 8, Nat.mod_lt _ (by decide)⟩, phys := k.val }

def standPort (t : Stand) : Option (Fin 8) :=
  if t.role = 1 then some ⟨t.port.toNat % 8, Nat.mod_lt _ (by decide)⟩ else none

/-- R125: what PORTSTAND shows of a port. (Log entry 10: DEDUCED, unsafe.) -/
def setPortStand (p : Fin 8) (k : Nat) (s : State) : State :=
  let m : Word := BitVec.ofNat 32 (0xF <<< (4 * p.val))
  { s with grain := { s.grain with
      portStand := (s.grain.portStand &&& ~~~m) ||| BitVec.ofNat 32 ((k % 16) <<< (4 * p.val)) } }

/-- The stands as the image names them, before any relocation. (Log entry 10: DEDUCED, unsafe.) -/
def grainConfigure (img : List Byte) (s : State) : State :=
  let hs := standHdrs img
  let s := { s with grain := { s.grain with
    stands := Vector.ofFn fun k => standFrom (hs.getD k.val []) k
    portStand := 0xFFFFFFFF } }
  (List.finRange 16).foldl (fun s k =>
    match standPort s.grain.stands[k] with
    | some p => setPortStand p k.val s
    | none => s) s

/-- R143: the lowest-numbered physical stand that is absent, passed and not yet taken. -/
def spareStand (fails : BitVec 16) (s : State) : Option Nat :=
  (List.range 16).find? fun j => !fails.getLsbD j &&
    (List.finRange 16).all fun k => !presentStand s k || decide (s.grain.stands[k].phys ≠ j)

/-- R143, R144: one logical stand after the self-test; false where the device must enter Limp.
(Log entry 70: DEDUCED, unsafe.) -/
def standTested (fails : BitVec 16) (k : Fin 16) (r : State × Bool) : State × Bool :=
  let s := r.1
  if !presentStand s k || !fails.getLsbD k.val then r
  else match spareStand fails s with
    | some j =>
      let s := modStand k (fun t => { t with phys := j }) s
      let s := { s with pattern := { s.pattern with relocations := s.pattern.relocations + 1 } }
      (emit (devEv 0x0202 4 [BitVec.ofNat 8 k.val, BitVec.ofNat 8 j]) s, r.2)
    | none =>
      match standPort s.grain.stands[k] with
      | some p =>
        (setPortStand p 0xF (modCinch p (fun c => { c with faultOut := true }) (modStand k (fun t => { t with out := true }) s)),
          r.2)
      | none => (s, false)

/-- R142 to R144: the self-test's failures recorded, and every present stand placed; where spares are short, the lower
logical stand takes its spare first. (Log entry 171: DESIGN CHOICE, unsafe.) -/
def grainTest (fails : BitVec 16) (s : State) : State × Bool :=
  let s := { s with grain := { s.grain with fault := fails } }
  let s := (List.range 16).foldl (fun s j => emitIf (fails.getLsbD j) (devEv 0x0201 5 [BitVec.ofNat 8 j]) s) s
  (List.finRange 16).foldl (fun r k => standTested fails k r) (s, true)

/-- GRSTAT.PRESENT: the physical stands configured. -/
def grainPresent (s : State) : State :=
  let m := (List.finRange 16).foldl (fun (m : BitVec 16) k =>
    if presentStand s k && !s.grain.stands[k].out then m ||| BitVec.ofNat 16 (1 <<< s.grain.stands[k].phys) else m) 0
  { s with grain := { s.grain with present := m } }

/-! ### Step 7: ready -/

/-- R643: the values "Pattern; v" of one port's registers, which its stands write where the Pattern states none.
(Log entry 28: DEDUCED, unsafe.) -/
def portDefaults (p : Fin 8) (s : State) : State :=
  let s := ccTimeWrite p true 0x0F0F6400 (ccTimeWrite p false 0x964B3200 s)
  let s := modCc p (fun c => { c with floodCfg := 0x000002C0, hushReg := 0x00050032 }) s
  let s := modPd p (fun q => { q with cfg := 0x00500000 }) s
  let s := modMetro p (fun m => { m with loopCfg := 0x00885300 }) s
  let up := strapUp s
  modCinch p (fun c => { c with
    cfg := 0x0064AD00, ft := 0x00000058, rootFt := if up then 0x00000058 else c.rootFt, i2tCfg := 0x03200200 }) s

/-- R643: every field marked "Pattern; v", at each port that has a port-engine stand and at the METRO station (log
entry 28); and the generators' fields, which a Crown reset kept (Table 12.7), back to 0.
(Log entry 28: DEDUCED, unsafe.) -/
def patternDefaults (s : State) : State :=
  onPorts (allPorts.filter fun p => s.pattern.portMask.getLsbD p.val) portDefaults
    (onPorts allPorts pgUnset { s with metro := { s.metro with calCfg := 2 } })

/-- R643: what the Pattern's stands write at step 7, each write under the Tack, and their PDO lists.
(Log entries 28: DEDUCED, unsafe; 68: DESIGN CHOICE, safe.) -/
def patternStart (pat : PatternStart) (s : State) : State :=
  let s := pat.writes.foldl (fun s (w : Fin 16 × Half × Word) =>
    guarded (.stand w.1) (regAccess true w.2.1.toNat) (regWrite (.stand w.1) w.2.1.toNat w.2.2) s) (patternDefaults s)
  onPorts allPorts (fun p s => pgSettle p (modPd p (fun q => { q with
    pdoList := pat.pdos.getD p.val [], sinkPdos := pat.sinkPdos.getD p.val [] }) s)) s

/-- R380: a port whose fast comparator fails its test: out of service. (Log entry 121: DESIGN CHOICE, safe.) -/
def fastCmpFault (f : Fin 8 × Bool) (s : State) : State :=
  evp f.1 0x202B 5 [Config.codeByte 0x202B (b2n f.2)] (modCinch f.1 (fun c => { c with faultOut := true }) s)

/-- A port at ready: the OUTCOME of a loss (R227), Unattached, or out of service; while a loss stands, it waits in Root hold
for the restore. (Log entries 36: DEDUCED, unsafe; 66: DEDUCED, unsafe; 121: DESIGN CHOICE, safe.) -/
def portReady (p : Fin 8) (s : State) : State :=
  if rootSeen s then portResume p true s
  else showHold p (modHold p (fun h => { h with bootDue := true }) s)

/-- The length of the certificate at the front, a DER sequence; 0 where none stands there.
(Log entry 67: PRESUMED, unsafe.) -/
def certLength (bs : List Byte) : Nat :=
  match bs with
  | 0x30 :: 0x82 :: h :: l :: _ => 4 + 256 * h.toNat + l.toNat
  | 0x30 :: 0x81 :: l :: _ => 3 + l.toNat
  | 0x30 :: l :: _ => if l.toNat < 0x80 then 2 + l.toNat else 0
  | _ => 0

/-- The certificates of a chain in order, at most `fuel`; what is no whole certificate ends it, as a last part that is
empty. (Log entry 67: PRESUMED, unsafe.) -/
def certsOf : Nat → List Byte → List (List Byte)
  | 0, _ => []
  | fuel + 1, bs =>
    let n := certLength bs
    if bs.isEmpty then [] else if n = 0 ∨ bs.length < n then [[]] else bs.take n :: certsOf fuel (bs.drop n)

/-- A part stands somewhere in a list of bytes. -/
def holdsPart (part : List Byte) : List Byte → Bool
  | [] => part.isEmpty
  | b :: t => part.isPrefixOf (b :: t) || holdsPart part t

/-- The leaf's public key is IDPUB: its bit string, an uncompressed point. (Log entry 67: PRESUMED, unsafe.) -/
def leafIsOurs (s : State) (cert : List Byte) : Bool :=
  (item s 0).slot.isSome && holdsPart ([0x03, 0x42, 0x00, 0x04] ++ s.pocket.idPub) cert

/-- The first certificate that R482 refuses, by its index: one of more than 1,024 bytes or not whole, a fifth, a leaf of
another key, or the first of none. -/
def chainBad (s : State) (certs : List (List Byte)) : Option Nat :=
  if certs.isEmpty then some 0
  else (List.range certs.length).find? fun i =>
    let c := certs.getD i []
    c.isEmpty || decide (1024 < c.length) || decide (4 ≤ i) || (decide (i + 1 = certs.length) && !leafIsOurs s c)

/-- R482: the chain area's check, of the certificates behind the chain's header of 36 bytes; nothing is found in a flash
that does not answer. (Log entry 67: PRESUMED, unsafe.) -/
def chainCheck (s : State) : State :=
  let certs := if s.flash.ok then certsOf 256 ((chainBytes s).drop 36) else []
  let bad := chainBad s certs
  let n := (certs.filter fun c => !c.isEmpty).length
  let s := { s with pocket := { s.pocket with chainOk := bad.isNone } }
  emitIf bad.isSome (devEv 0x0708 4 [BitVec.ofNat 8 (satTo 8 n), BitVec.ofNat 8 (satTo 8 (bad.getD 0))]) s

/-- Events of the Sap domain whose own data holds SAPCLOCK. (Log entry 64: DEDUCED, unsafe.) -/
def clockListed (code : Half) : Bool :=
  decide (code = 0x0901) || decide (code = 0x0C01) || decide (code = 0x0C02) || decide (code = 0x0C03)
    || decide (code = 0x0C04) || decide (code = 0x0C06) || decide (code = 0x0C09)

/-- R463: the parked record written to the Ring in its order, each with its SAPCLOCK, and emptied, behind what the instant
itself raises (R604). (Log entry 64: DEDUCED, unsafe.) -/
def parkedFlush (s : State) : State :=
  let s' := s.sap.record.foldl (fun s e =>
    writeEntry s (if clockListed e.1.code then e.1 else { e.1 with data := e.1.data ++ clockMin e.2 })) (flush s)
  { s' with sap := { s'.sap with record := [] } }

/-- R569: WD_B_EXPIRED of the expiry before this boot. -/
def wdbReport (s : State) : State :=
  match s.wdb.entryDue with
  | some e => emit (devEv 0x0504 6 [BitVec.ofNat 8 e.1.toNat, BitVec.ofNat 8 e.2])
      { s with wdb := { s.wdb with entryDue := none } }
  | none => s

/-- R646: Root's report of a stop of the reference oscillator that Crown did not take before.
(Log entries 55: DEDUCED, unsafe; 187: DEDUCED, unsafe.) -/
def refoscLate (s : State) : State :=
  match s.power.refoscReport with
  | some n => emit (devEv 0x0006 6 [BitVec.ofNat 8 (satTo 8 n)]) { s with power := { s.power with refoscReport := none } }
  | none => s

/-- R598: an anti-rollback advance that did not succeed is tried again. -/
def arbRetry (s : State) : State :=
  match s.graft.arbWanted with
  | some v => arbRequest v s
  | none => s

/-- Ready's own records: BOOTSTAT, IRQSTAT, WD-B's fused period (R565), the run-time count of a trial (R595). -/
def readyMarks (s : State) : State :=
  { s with
    boot := { s.boot with
      phase := .ready, ready := true, cold := false, bootSlot := BitVec.ofNat 2 s.boot.slot.val, bootTime := s.time.now - s.boot.t0 }
    host := { s.host with irqStat := 0x80 }
    wdb := { s.wdb with bootMode := false, inWindow := false }
    graft := { s.graft with runEnd := if s.graft.trialNow then s.time.now + 1000000 * trialSeconds s else 0 } }

/-- BOOT_OK and PATTERN_LOADED. -/
def readyEvents (s : State) : State :=
  let slot := BitVec.ofNat 8 s.boot.slot.val
  let s := emit (devEv 0x0001 1 (slot :: le 2 (satTo 16 s.boot.bootTime))) s
  emit (devEv 0x0303 1 (slot :: le 4 s.pattern.id.toNat ++ [s.pattern.ver.extractLsb' 24 8])) s

/-- Step 7 of Table 3.5. (Log entry 36: DEDUCED, unsafe.) -/
def reachReady (pat : PatternStart) (img : List Byte) (s : State) : State :=
  let s := readyEvents (readyMarks (grainPresent s))
  let s := patternStart pat (classReports img s)
  let s := if rootSeen s then rootThresholds s else s
  let s := if rootSeen s then onPorts allPorts rootReports s else s
  let s := pat.fastCmpFail.foldl (fun s f => fastCmpFault f s) (groupReady 1 (groupReady 0 s))
  let s := if rootSeen s then rearmDeferred (onPorts allPorts outcomeEvent s) else s
  let s := onPorts allPorts portReady s
  let s := { s with shown := if s.strap.crownLost then some (shownNow s) else none }
  let s := { s with wda := { s.wda with policyDue := false } }
  let s := if rootSeen s then droopDeferred (cmpDeferred s) else s
  let s := refoscLate (wdbReport (chainCheck s))
  parkedFlush (arbRetry (if s.flash.ok then journalFound s else s))

/-- GRAIN_SELFTEST_DONE. In GRAIN_FAULT Limp, GRSTAT keeps FAULT and LDSTAT its reasons; the maps, PATINFO and RELOCATIONS
are at their reset values, as the Grain is unconfigured. (Log entry 172: DESIGN CHOICE, unsafe.) -/
def selftestDone (fails : BitVec 16) (pat : PatternStart) (s : State) : State :=
  if s.boot.phase ≠ .selftest then s
  else
    let img := slotPattern s s.boot.slot
    let r := grainTest fails (grainConfigure img (loadIdentity img s))
    if r.2 then reachReady pat img r.1
    else
      limpEnter 0x0F { r.1 with
        grain := { fault := fails }
        pattern := { reasonFirst := s.pattern.reasonFirst, reasonSecond := 0x0F } }

/-! ### The supervisor (R126 to R131) -/

/-- R130: a third stall within 10 s; the stand stays down. A user stand counts as a shared one.
(Log entries 70: DEDUCED, unsafe; 173: DESIGN CHOICE, unsafe.) -/
def standOut (k : Fin 16) (s : State) : State :=
  let t := s.grain.stands[k]
  let s := modStand k (fun t => { t with out := true, live := false }) s
  let s := { s with grain := { s.grain with fault := s.grain.fault ||| BitVec.ofNat 16 (1 <<< t.phys) } }
  match standPort t with
  | some p =>
    let s := holdClear p (setPortStand p 0xF (modCinch p (fun c => { c with faultOut := true }) s))
    if (portCinch s p).stuck then s else takeOut p s
  | none => { s with grain := { s.grain with supStopped := true } }

/-- R127, R128: a port alone in hold while its stand is reloaded. (Log entry 71: DEDUCED, unsafe.) -/
def standHoldStart (p : Fin 8) (s : State) : State :=
  let s := showHold p (rootHoldStart p (authEnd p (unwantAll p s)))
  modHold p (fun h => { h with standHold := true }) s

/-- A stand is declared stalled. (Log entry 71: DEDUCED, unsafe.) -/
def standStall (k : Fin 16) (s : State) : State :=
  let times := recent s 10000000 s.grain.stands[k].stalls ++ [s.time.now]
  let s := modStand k (fun t => { t with stalls := times, missed := 0, live := false }) s
  let s := { s with grain := { s.grain with stallCount := bump 8 s.grain.stallCount } }
  let s := emit (devEv 0x0203 5 [BitVec.ofNat 8 k.val, BitVec.ofNat 8 (satTo 8 times.length)]) s
  if 3 ≤ times.length then standOut k s
  else
    let s := seamDropStand k (modStand k (fun t => { t with reloading := true }) s)
    match standPort s.grain.stands[k] with
    | some p => standHoldStart p s
    | none => s

/-- One stand at a token round: the supervisor's own stand is not reloaded (R131). (Log entry 69: DEDUCED, unsafe.) -/
def standToken (got : Bool) (k : Fin 16) (s : State) : State :=
  let t := s.grain.stands[k]
  if !presentStand s k || t.out || t.reloading then s
  else if got then modStand k (fun t => { t with missed := 0, live := true }) s
  else
    let s := modStand k (fun t => { t with missed := t.missed + 1, live := false }) s
    if t.missed + 1 < 2 then s
    else if t.role = 2 then
      modStand k (fun t => { t with missed := 0 })
        { s with grain := { s.grain with supStopped := true, supStalled := true } }
    else standStall k s

/-- SUPERVISOR_TICK: one round of tokens; frozen with the timer cells while the Strap is lost (R122), and the end of a
supervisor that has stalled. -/
def supervisorTick (tokens : BitVec 16) (s : State) : State :=
  if !isReady s || !timersRun s || s.grain.supStalled then s
  else (List.finRange 16).foldl (fun s k => standToken (tokens.getLsbD k.val) k s) s

/-- The port of a reloaded stand resumes: at once, or with the restore of a Strap loss (R127). -/
def standResume (p : Fin 8) (s : State) : State :=
  let s := modHold p (fun h => { h with standHold := false }) s
  if rootSeen s then
    let o := outcomeOf s p
    portResume p false (modHold p (fun h => { h with outcome := some o }) s)
  else s

/-- A line of stand `k`'s copy that the loader cannot read: one that is poisoned, or `bad`, which its read poisons. -/
def reloadLine (k : Fin 16) (bad : Option Nat) (s : State) : Option Nat :=
  match bad with
  | some line => if line / 256 = k.val then some line else s.satchel.poisoned.find? fun n => n / 256 = k.val
  | none => s.satchel.poisoned.find? fun n => n / 256 = k.val

/-- STAND_RELOADED; `bad` is a Satchel line of its copy whose tag fails, if one did. -/
def standReloaded (k : Fin 16) (bad : Option Nat) (s : State) : State :=
  if !s.grain.stands[k].reloading then s
  else match reloadLine k bad s with
    | some line =>
      let s := if s.satchel.poisoned.contains line then s else poisonLine .loader 0 line 0 s
      let s := modStand k (fun t => { t with reloading := false, out := true }) s
      emit (devEv 0x0205 6 (BitVec.ofNat 8 k.val :: le 2 line)) { s with grain := { s.grain with supStopped := true } }
    | none =>
      let s := modStand k (fun t => { t with reloading := false, reloads := bump 7 t.reloads }) s
      let s := emit (devEv 0x0204 3 [BitVec.ofNat 8 k.val]) s
      match standPort s.grain.stands[k] with
      | some p => standResume p s
      | none => negotiationsResume s

/-! ### The family's meanings -/

/-- BOOT_START. -/
def execBootStart (env : BootEnv) (s : State) : Host.Outcome State Fault Refusal := complete s (bootStart env s)

/-- PATTERN_FETCH_DONE. -/
def execPatternFetchDone (rootOk patOk : Bool) (s : State) : Host.Outcome State Fault Refusal :=
  complete s (patternFetched rootOk patOk s)

/-- SIGNATURE_VERIFIED. -/
def execSignatureVerified (s : State) : Host.Outcome State Fault Refusal := complete s (signatureVerified s)

/-- GRAIN_SELFTEST_DONE. -/
def execGrainSelftestDone (fails : BitVec 16) (pat : PatternStart) (s : State) : Host.Outcome State Fault Refusal :=
  complete s (selftestDone fails pat s)

/-- SUPERVISOR_TICK. -/
def execSupervisorTick (tokens : BitVec 16) (s : State) : Host.Outcome State Fault Refusal :=
  complete s (supervisorTick tokens s)

/-- STAND_RELOADED. -/
def execStandReloaded (k : Fin 16) (bad : Option Nat) (s : State) : Host.Outcome State Fault Refusal :=
  complete s (standReloaded k bad s)

end Sys2Proof.Machine
end

