-- ==== Sys2Proof/Machine/HostPort.lean ====
section
/-! DEFINITION. The host port itself (chapter 06): frames and their checks (R150 to R154), the single slot (R155 to R158),
the Tack over a command's accesses (R166) and the SUMMARY frame (R172 to R174). The commands are in HostCmd.lean. -/

namespace Sys2Proof.Machine

/-! ### Frames -/

/-- The station whose number a request's CRC folds in (Table 6.5 and its text): the register's for REG_*, the inner
command's for SIGNED; a code outside the table folds DEV. -/
def cmdStation (cmd : Nat) (payload : List Byte) : Nat :=
  match cmd with
  | 0x02 | 0x03 | 0x04 => numAt payload 0 2 / 0x400
  | 0x09 | 0x0A => 0x0A
  | 0x20 | 0x21 | 0x22 => 0x06
  | 0x50 | 0x51 | 0x52 => 0x07
  | 0x29 =>
    let inner := numAt payload 0 1
    if inner = 0x22 then 0x06 else if 0x50 ≤ inner ∧ inner ≤ 0x52 then 0x07 else 0x00
  | 0x30 | 0x31 | 0x32 | 0x33 | 0x34 => 0x12
  | 0x38 => 0x0E
  | _ => 0x00

/-- A correct request frame (Table 6.2, R151). -/
def hostFrame (cmd : Nat) (seq : Byte) (payload : List Byte) : List Byte :=
  let body := [BitVec.ofNat 8 cmd, seq] ++ le 2 payload.length ++ payload
  body ++ le 4 (frameCrc (cmdStation cmd payload) seq body).toNat

/-- Kind L of Table 6.5. -/
def longCmd (cmd : Nat) : Bool := [0x11, 0x12, 0x20, 0x21, 0x29, 0x30, 0x31, 0x33, 0x34, 0x38].contains cmd

/-- The codes that may be sent bare. -/
def bareCmd (cmd : Nat) : Bool :=
  longCmd cmd || [0x01, 0x02, 0x03, 0x04, 0x08, 0x09, 0x0A, 0x10, 0x28, 0x32, 0x3F].contains cmd

/-- The States column of Table 6.5, and R163. -/
def cmdPermitted (s : State) (cmd : Nat) (payload : List Byte) : Bool :=
  match s.boot.phase with
  | .ready => true
  | .limp =>
    [0x01, 0x02, 0x08, 0x09, 0x0A, 0x30, 0x31, 0x32, 0x33, 0x34].contains cmd
      || (decide (cmd = 0x03) && decide (cmdStation cmd payload = 1))
  | .integrityHold => decide (cmd = 0x02) && decide (numAt payload 0 2 = 0x1800) && decide (numAt payload 2 1 = 1)
  | _ => false

def frameCmd (bs : List Byte) : Nat := numAt bs 0 1
/-- SEQ; 0 of a frame too short to hold one, which is what VERDICT_SEQ then shows.
(Log entry 183: DESIGN CHOICE, unsafe.) -/
def frameSeq (bs : List Byte) : Byte := bs.getD 1 0
def framePayload (bs : List Byte) : List Byte := slice bs 4 (numAt bs 2 2)
def frameCheck (bs : List Byte) : Word := BitVec.ofNat 32 (numAt bs (4 + numAt bs 2 2) 4)

/-- Check 4 fails: SEQ or CRC is that of the last TAKEN request, and CMD is not SUMMARY.
(Log entry 73: DEDUCED, unsafe.) -/
def frameRepeats (s : State) (bs : List Byte) : Bool :=
  decide (frameCmd bs ≠ 0x08) && s.host.taken.any fun t => decide (t.1 = frameSeq bs) || decide (t.2 = frameCheck bs)

/-- Checks 1 and 2 of Table 6.4. A request whose check still waits for Seam holds the slot.
(Log entry 186: DESIGN CHOICE, unsafe.) -/
def frameEarly (s : State) (bs : List Byte) : Option Nat :=
  let n := numAt bs 2 2
  if bs.length < 8 ∨ 1024 < n ∨ bs.length ≠ 8 + n then some 4
  else if s.host.job.isSome ∨ s.host.asked.isSome then some 2
  else none

/-- The checks of Table 6.4 in order, on the bytes after 0x5A (R153). (Log entry 73: DEDUCED, unsafe.) -/
def frameVerdict (s : State) (bs : List Byte) : Nat :=
  let n := numAt bs 2 2
  if bs.length < 8 ∨ 1024 < n ∨ bs.length ≠ 8 + n then 4
  else if s.host.job.isSome ∨ s.host.asked.isSome then 2
  else if frameCrc (cmdStation (frameCmd bs) (framePayload bs)) (frameSeq bs) (bs.take (4 + n)) ≠ frameCheck bs then 3
  else if frameRepeats s bs then 7
  else if !bareCmd (frameCmd bs) then 5
  else if !cmdPermitted s (frameCmd bs) (framePayload bs) then 6
  else 1

/-- VERDICT and VERDICT_SEQ. -/
def verdictSet (v : Nat) (seq : Byte) (s : State) : State :=
  { s with host := { s.host with verdict := BitVec.ofNat 8 v, verdictSeq := seq } }

/-- HOST_FRAME_BAD, at most one entry per 100 ms (Table 6.11). (Log entry 74: DEDUCED, unsafe.) -/
def frameBadEntry (v : Nat) (seq : Byte) (s : State) : State :=
  if due s s.host.badEntryAt 100000 then
    emit (devEv 0x0101 2 [BitVec.ofNat 8 v, seq]) { s with host := { s.host with badEntryAt := some s.time.now } }
  else s

/-- A refused request: its verdict, its count and its entry, and nothing else (R153).
(Log entry 74: DEDUCED, unsafe.) -/
def requestBad (v : Nat) (seq : Byte) (s : State) : State :=
  let s := verdictSet v seq s
  match v with
  | 2 => { s with host := { s.host with busyCount := bump 12 s.host.busyCount } }
  | 7 => s
  | 3 => frameBadEntry v seq { s with host := { s.host with crcErrs := bump 16 s.host.crcErrs } }
  | 4 => frameBadEntry v seq { s with host := { s.host with formatSeen := true } }
  | _ => frameBadEntry v seq s

/-- TAKEN: the command holds the slot and the buffer reads NONE (R155, R156). -/
def requestTaken (bs : List Byte) (s : State) : State :=
  let cmd := frameCmd bs
  let seq := frameSeq bs
  let st := cmdStation cmd (framePayload bs)
  let s := verdictSet 1 seq s
  { s with host := { s.host with
    takenSeq := seq, taken := some (seq, frameCheck bs), rspReady := false, jobDone := false
    buf := { cmd := BitVec.ofNat 8 cmd, rsp := 0, seq := seq, payload := [], station := st }
    job := some { cmd := BitVec.ofNat 8 cmd, seq := seq, station := st, long := longCmd cmd } } }

/-! ### Responses and the slot -/

/-- LAST_CMD to LAST_TIME of a command that has completed (R178). (Log entry 81: DEDUCED, unsafe.) -/
def lastOf (s : State) (cmd seq : Byte) (station : Nat) (a : Answer) : LastCmd :=
  { cmd, seq, rsp := a.rsp, station := BitVec.ofNat 8 station
    detail := if a.rsp = 0x04 then BitVec.ofNat 32 (numAt a.payload 0 4) else 0, time := s.time.stamp }

/-- A response frame of the command that holds the slot. -/
def rspOf (j : HostJob) (a : Answer) : RspFrame :=
  { cmd := j.cmd, rsp := a.rsp, seq := j.seq, payload := a.payload, station := j.station }

/-- The job in the slot is changed. -/
def modJob (f : HostJob → HostJob) (s : State) : State := { s with host := { s.host with job := s.host.job.map f } }

/-- ACCEPTED. -/
def answerAccepted : Answer := { rsp := 0x02, payload := [] }

/-- A response complete in the buffer: ACCEPTED leaves the long job pending, any other ends the command (R155).
(Log entry 81: DEDUCED, unsafe.) -/
def hostAnswer (a : Answer) (s : State) : State :=
  match s.host.job with
  | none => s
  | some j =>
    if a.rsp = 0x02 then
      { s with host := { s.host with buf := rspOf j a, rspReady := true, job := some { j with answer := none } } }
    else { s with host := { s.host with
      buf := rspOf j a, rspReady := true, job := none, last := lastOf s j.cmd j.seq j.station a } }

/-- A response: its CRC is computed under Seam (Table 7.2), so it waits for the lease where that is not free (R181). -/
def hostRespond (a : Answer) (s : State) : State :=
  if seamFree .host s then hostAnswer a (seamCheck .host none s)
  else seamAsk .host (modJob (fun j => { j with answer := some (a.rsp, a.payload) }) s)

/-- ACCEPTED: the long job stays pending (R155). -/
def hostAccept (s : State) : State := hostRespond answerAccepted s

/-- R157: the completion replaces ACCEPTED; it too waits for Seam, and behind ACCEPTED where that still waits.
(Log entry 76: DEDUCED, unsafe.) -/
def hostCompletion (s : State) : State :=
  match s.host.job with
  | none => s
  | some j => match j.result with
    | none => s
    | some r =>
      if s.host.jobDone then s
      else if j.answer.isSome || !seamFree .host s then seamAsk .host (modJob (fun j => { j with due := true }) s)
      else
        let a : Answer := { rsp := r.1, payload := r.2 }
        let s := seamCheck .host none s
        { s with host := { s.host with
          buf := rspOf j a, rspReady := true, jobDone := true, job := some { j with due := false }
          last := lastOf s j.cmd j.seq j.station a } }

/-- What the host port owes once Seam is its own: the response that waited, then the completion. -/
def hostOwed (s : State) : State :=
  match s.host.job with
  | none => s
  | some j =>
    let s := match j.answer with
      | some a => hostAnswer { rsp := a.1, payload := a.2 } (seamCheck .host none s)
      | none => s
    if j.due then hostCompletion s else s

/-- RSP to the CRC of Table 6.3. -/
def rspBytes (b : RspFrame) : List Byte :=
  let body := [b.rsp, b.seq] ++ le 2 b.payload.length ++ b.payload
  body ++ le 4 (frameCrc b.station b.seq body).toNat

/-- STATUS (Table 6.1). -/
def statusByte (s : State) : Byte :=
  let limited := decide (s.boot.phase = .limp) || decide (s.boot.phase = .integrityHold)
  BitVec.ofNat 8 (1 + (b2n limited) <<< 2 + (b2n (irqAsserted s)) <<< 3 + (b2n s.host.jobDone) <<< 4
    + (b2n s.host.job.isSome) <<< 5 + (b2n s.host.rspReady) <<< 6 + (b2n (isOpen s)) <<< 7)

/-- The bytes of a whole read (Table 6.3). -/
def readBytes (s : State) : List Byte :=
  [statusByte s, s.host.verdict, s.host.verdictSeq, s.host.takenSeq] ++ rspBytes s.host.buf

/-! ### Requests and reads -/

/-- What a correct request does: its frame, and the work of the command once it is TAKEN. -/
structure HostReq where
  frame : List Byte
  act : State → State

/-- MISO of a request of `n` bytes after 0x5A: STATUS, then 0x00 (R149). -/
def requestMiso (n : Nat) (s : State) : State :=
  { s with host := { s.host with miso := statusByte s :: List.replicate n 0 } }

/-- The checks of Table 6.4 with Seam granted to the host port: its compare is a Seam compare (R194). -/
def hostChecked (q : HostReq) (s : State) : State :=
  let v := frameVerdict s q.frame
  let s := seamCheck .host (some (decide (v ≠ 3))) s
  if v = 1 then q.act (requestTaken q.frame s) else requestBad v (frameSeq q.frame) s

/-- A request ends at the host port (R153): checks 1 and 2, then those that need Seam, for which the request waits as `c`
where the lease is not free (R181, R185). (Log entry 186: DESIGN CHOICE, unsafe.) -/
def hostAsk (c : Instr) (q : HostReq) (s : State) : State :=
  if !isOpen s then { s with host := { s.host with miso := [] } }
  else
    let s := requestMiso q.frame.length s
    match frameEarly s q.frame with
    | some v => requestBad v (frameSeq q.frame) s
    | none =>
      if seamFree .host s then hostChecked q s
      else seamAsk .host { s with host := { s.host with asked := some c } }

/-- A read of `n` bytes: what it returns, and what reaching the last CRC byte does (R152, R158, R168). Bytes past the last
CRC byte read 0x00. (Log entry 184: DESIGN CHOICE, unsafe.) -/
def hostRead (n : Nat) (s : State) : State :=
  if !isOpen s then { s with host := { s.host with miso := [] } }
  else
    let full := readBytes s
    let s := { s with host := { s.host with miso := slice full 0 n } }
    if n < full.length then s
    else
      let s := { s with host := { s.host with rspReady := false } }
      let s := if s.host.jobDone then { s with host := { s.host with job := none, jobDone := false } } else s
      if s.host.resetArmed && decide (s.host.buf.rsp = 0x01) && decide (s.host.buf.cmd = 0x3F) then crownReset 0x100 0 true s
      else s

/-! ### The Tack (R166) -/

/-- One access of a host command: its units, and its address. -/
structure HostAccess where
  units : List Access
  addr : Nat
  deriving DecidableEq, Repr

def answerOk (payload : List Byte) : Answer := { rsp := 0x01, payload }
def answerBadArg : Answer := { rsp := 0x10, payload := [] }
def answerUnavailable : Answer := { rsp := 0x12, payload := [] }

/-- The address of an access's first denied unit: a register's, a flash byte's, or a Heartwood row. -/
def deniedAddr (s : State) (x : HostAccess) : Nat :=
  match firstDenied s 7 x.units with
  | some (a, _) => if a.space = 2 then max (4096 * a.unit) x.addr else a.unit
  | none => x.addr

/-- R166: the accesses checked under the host class; a denied one is recorded and answers DENIED with its index. -/
def hostTack (cmd : Nat) (seq : Byte) (accs : List HostAccess) (s : State) : State × Option Answer :=
  let r := tackCheck .host (accs.map HostAccess.units) s
  match r.2 with
  | none => (r.1, none)
  | some k =>
    let a := match accs[k]? with
      | some x => deniedAddr s x
      | none => 0
    (emit (devEv 0x0102 4 ([BitVec.ofNat 8 cmd, seq] ++ le 4 a)) r.1, some { rsp := 0x11, payload := le 4 k })

/-- A register access; a read of HWRDLO or HWRDHI reads the selected row of Heartwood too.
(Log entry 82: DEDUCED, unsafe.) -/
def hostReg (s : State) (wr : Bool) (addr : Nat) : HostAccess :=
  let row := if !wr && (addr = 0x1814 || addr = 0x1818) then heartAccess false s.heart.rdSel.toNat else []
  { units := regAccess wr addr ++ row, addr }

def hostFlash (wr : Bool) (addr n : Nat) : HostAccess := { units := flashAccess wr addr n, addr }

/-- The flash's last address with the opcodes that FLASH_CFG selects (R625). (Log entry 83: DEDUCED, unsafe.) -/
def flashLimit (s : State) : Nat := if flash4Byte s then flashSize else 0x1000000

/-! ### SUMMARY -/

/-- ALARMS of a port block. -/
def portAlarms (s : State) (p : Fin 8) : Nat :=
  let q := seenPort s p
  b2n q.metro.ov + (b2n q.metro.uv) <<< 1 + (b2n q.cinch.alarmFast) <<< 2 + (b2n q.cinch.alarmI2t) <<< 3
    + (b2n q.cinch.stuck) <<< 4 + (b2n q.cinch.ew) <<< 5 + (b2n q.cc.floodNow) <<< 6 + (b2n q.metro.fault) <<< 7
    + (b2n q.cc.vconnOc) <<< 8 + (b2n q.pd.authFailedAlarm) <<< 9 + (b2n q.pd.violCount.sat) <<< 10

/-- Table 6.10. (Log entry 21: DEDUCED, unsafe.) -/
def portBlock (s : State) (p : Fin 8) : List Byte :=
  let q := seenPort s p
  [BitVec.ofNat 8 q.cc.state.ctorIdx, rolesOf q, BitVec.ofNat 8 q.cinch.st.ctorIdx,
    BitVec.ofNat 8 (b2n (s.strap.fallbackAck.getLsbD p.val))]
  ++ le 4 q.pd.pdo.toNat ++ le 4 q.pd.rdo.toNat ++ le 2 (satTo 16 (vbusMv q.metro))
  ++ le 2 (satSigned 16 (roundDiv q.metro.ibus 10)) ++ le 2 (portAlarms s p) ++ le 2 q.pd.lastEvent.toNat
  ++ le 2 q.pd.violCount.n ++ [q.pd.lastClass, BitVec.ofNat 8 (leaseCount s p)]

/-- Offsets 0x000 to 0x00F. -/
def summaryHead (s : State) : List Byte :=
  le 4 s.host.sumGen.n ++ [1, BitVec.ofNat 8 (b2n s.host.sumGen.sat + (b2n s.boot.limp) <<< 1
    + (b2n s.power.override) <<< 2 + (b2n (strapUp s)) <<< 3 + (b2n (evalFuse s)) <<< 4 + (b2n s.pattern.unowned) <<< 5),
    BitVec.ofNat 8 s.power.setpoint, BitVec.ofNat 8 s.power.timingFloor]
  ++ le 4 s.time.stamp.toNat ++ le 4 (rstCauseWord s.boot).toNat

/-- Offsets 0x0D0 to 0x0EF. -/
def summaryBark (s : State) : List Byte :=
  let empty := !s.ring.found || s.ring.jEmpty
  le 2 (if s.sap.running then s.bark.active.toNat else 0) ++ le 2 (if s.sap.running then s.bark.latched.toNat else 0)
  ++ [if s.sap.running && s.bark.lastValid then BitVec.ofNat 8 s.bark.lastClass.toNat else 0xFF,
    BitVec.ofNat 8 (barkRate s), BitVec.ofNat 8 (b2n s.pocket.k3Locked), 0]
  ++ le 4 (devAlarms s).toNat ++ le 4 s.host.devAlarmsLatched.toNat
  ++ [s.ring.newest, BitVec.ofNat 8 (b2n (s.ring.sevCounts.toList.any (·.sat)) + (b2n (!s.ring.found)) <<< 1)]
  ++ le 2 s.ring.gen.toNat ++ le 2 (if empty then 0xFFF else s.ring.jIndex) ++ le 2 (if empty then 0 else s.ring.jGen.toNat)
  ++ s.ring.sevCounts.toList.map fun c => BitVec.ofNat 8 c.n

/-- Offsets 0x0F0 to 0x10F. -/
def summarySap (s : State) : List Byte :=
  let w := sapStatWord s
  le 3 (satTo 24 s.sap.gauge) ++ [BitVec.ofNat 8 (field w 31 30 + field w 29 29 <<< 2 + field w 28 28 <<< 3
    + field w 27 27 <<< 4)]
  ++ le 2 (satTo 16 s.sap.harvestUw) ++ le 2 (satTo 16 s.sap.rsvMv)
  ++ le 4 s.pattern.id.toNat ++ le 4 s.pattern.ver.toNat ++ le 4 s.strap.rootVer.toNat ++ le 4 s.pattern.stamp.toNat
  ++ le 4 s.strap.rootStamp.toNat
  ++ [BitVec.ofNat 8 s.boot.bootSlot.toNat, s.pattern.secVer,
    BitVec.ofNat 8 (arbCount s + (b2n (arbCount s = 64)) <<< 7), 0]

/-- Offsets 0x110 to 0x12F. -/
def summaryDogs (s : State) : List Byte :=
  [BitVec.ofNat 8 s.wda.state.toNat, BitVec.ofNat 8 (b2n s.wdb.running + (b2n s.wdb.clkLf) <<< 7),
    BitVec.ofNat 8 (satTo 8 s.wda.expiries.n), BitVec.ofNat 8 (satTo 8 s.wdb.expiries.n)]
  ++ le 2 (satTo 16 (wdaOpenIn s)) ++ le 2 (satTo 16 (wdaExpireIn s))
  ++ (List.finRange 16).map (leaseByte s)
  ++ [BitVec.ofNat 8 (graftCode s.graft), BitVec.ofNat 8 (satTo 8 s.graft.trialLeft)]
  ++ le 2 (piecesIn s.graft) ++ le 2 (piecesTotal s) ++ [s.graft.result, 0]

/-- Offsets 0x130 to 0x14B. -/
def summaryLast (s : State) : List Byte :=
  let l := s.host.last
  [l.cmd, l.seq, l.rsp, l.station] ++ le 4 l.detail.toNat ++ le 4 l.time.toNat
  ++ le 2 s.host.crcErrs.n ++ le 2 s.host.busyCount.n ++ le 2 s.tack.epoch.toNat
  ++ [BitVec.ofNat 8 (validRules s.tack.rules), BitVec.ofNat 8 (b2n s.tack.draining.isSome),
    BitVec.ofNat 8 (b2n (!strapUp s)), BitVec.ofNat 8 s.strap.lossCount.n, BitVec.ofNat 8 s.rein.addr.val,
    BitVec.ofNat 8 (satTo 8 s.rein.count), BitVec.ofNat 8 s.rein.state.toNat, 0]
  ++ le 2 s.metro.calGen.toNat

/-- GROUP_A and GROUP_B. -/
def groupByte (s : State) (g : Fin 2) : Byte :=
  BitVec.ofNat 8 (b2n (seenUp s g) + (b2n (!gcutSeenOff s g)) <<< 1 + (b2n (vconnFuse s g && seenUp s g)) <<< 2)

/-- Offsets 0x14C to 0x17F. (Log entry 21: DEDUCED, unsafe.) -/
def summaryTail (s : State) (tempCrown tempRoot : Int) : List Byte :=
  deviceId s ++ [groupByte s 0, groupByte s 1, 0, 0]
  ++ le 2 (satTo 16 ((seenVin s 0 + 5) / 10)) ++ le 2 (satTo 16 ((seenVin s 1 + 5) / 10))
  ++ le 2 (satSigned 16 tempCrown) ++ le 2 (satSigned 16 tempRoot) ++ List.replicate 24 0

/-- Table 6.8: 384 bytes (R172). -/
def summaryBytes (s : State) (tempCrown tempRoot : Int) : List Byte :=
  summaryHead s ++ allPorts.flatMap (portBlock s) ++ summaryBark s ++ summarySap s ++ summaryDogs s ++ summaryLast s
  ++ summaryTail s tempCrown tempRoot

end Sys2Proof.Machine
end

