-- ==== Sys2Proof/Machine/HostCmd.lean ====
section
/-! DEFINITION. The host commands of Table 6.5 and the inner commands of SIGNED (chapters 06, 16 and 04), the ends of their
long jobs, and the relay of a request to another device (R423 to R427). -/

namespace Sys2Proof.Machine

/-! ### Synchronous commands: what each does and answers -/

/-- IDENT. -/
def identBody (s : State) : Answer :=
  answerOk (deviceId s ++ [0x01, 0x00, BitVec.ofNat 8 (b2n Config.variantG1)] ++ List.replicate 13 0)

/-- The register addresses of a command, if they lie in one station (R164). -/
def regSpan (addr count : Nat) : Option (List Nat) :=
  if count = 0 ∨ 64 < count ∨ addr / 0x400 ≠ (addr + 4 * (count - 1)) / 0x400 then none
  else some ((List.range count).map fun i => addr + 4 * i)

/-- A register of the list is held by Root while the Strap is not up (chapter 06, "When things collide").
(Log entry 79: DEDUCED, unsafe.) -/
def regsCut (s : State) (as : List Nat) : Bool := !strapUp s && as.any rootHeld

/-- Registers read in order, each read with its effect (R9). -/
def regReads (as : List Nat) (s : State) : List Byte × State :=
  as.foldl (fun (acc : List Byte × State) a => let r := regRead a acc.2; (acc.1 ++ le 4 r.1.toNat, r.2)) ([], s)

def regReadBody (seq : Byte) (p : List Byte) (s : State) : State × Answer :=
  match regSpan (numAt p 0 2) (numAt p 2 1) with
  | none => (s, answerBadArg)
  | some as =>
    if p.length ≠ 4 ∨ numAt p 3 1 ≠ 0 then (s, answerBadArg)
    else if regsCut s as then (s, answerUnavailable)
    else match hostTack 0x02 seq (as.map (hostReg s false)) s with
      | (s, some a) => (s, a)
      | (s, none) => let r := regReads as s; (r.2, answerOk r.1)

/-- Values written in order. -/
def regWrites (avs : List (Nat × Word)) (s : State) : State := avs.foldl (fun s av => regWrite .host av.1 av.2 s) s

/-- (Log entry 79: DEDUCED, unsafe.) -/
def regWriteBody (seq : Byte) (p : List Byte) (s : State) : State × Answer :=
  match regSpan (numAt p 0 2) (numAt p 2 1) with
  | none => (s, answerBadArg)
  | some as =>
    if p.length ≠ 4 + 4 * as.length ∨ numAt p 3 1 ≠ 0 then (s, answerBadArg)
    else match hostTack 0x03 seq (as.map (hostReg s true)) s with
      | (s, some a) => (s, a)
      | (s, none) =>
        let vs := (List.range as.length).map fun i => BitVec.ofNat 32 (numAt p (4 + 4 * i) 4)
        (regWrites (as.zip vs) s, answerOk [])

/-- R167. -/
def regModifyBody (seq : Byte) (p : List Byte) (s : State) : State × Answer :=
  let addr := numAt p 0 2
  if p.length ≠ 12 ∨ numAt p 2 2 ≠ 0 then (s, answerBadArg)
  else if regsCut s [addr] then (s, answerUnavailable)
  else match hostTack 0x04 seq [hostReg s false addr, hostReg s true addr] s with
    | (s, some a) => (s, a)
    | (s, none) =>
      let r := regRead addr s
      let mask := BitVec.ofNat 32 (numAt p 4 4)
      let v := BitVec.ofNat 32 (numAt p 8 4)
      (regWrite .host addr ((r.1 &&& ~~~mask) ||| (v &&& mask)) r.2, answerOk (le 4 r.1.toNat))

/-- R172, R174: the frame that this SUMMARY builds is counted first. (Log entry 81: DEDUCED, unsafe.) -/
def summaryBody (p : List Byte) (tempCrown tempRoot : Int) (s : State) : State × Answer :=
  if p ≠ [] then (s, answerBadArg)
  else
    let s := { s with host := { s.host with sumGen := bump 32 s.host.sumGen } }
    (s, answerOk (summaryBytes s tempCrown tempRoot))

/-- RING_READ: entries as written, from INDEX on (R606, R607). -/
def ringReadBody (p : List Byte) (s : State) : Answer :=
  let n := numAt p 1 1
  if p.length ≠ 2 ∨ n = 0 ∨ 32 < n then answerBadArg
  else answerOk ((List.range n).flatMap fun i =>
    le 16 (s.ring.entries[(numAt p 0 1 + i) % 256]'(Nat.mod_lt _ (by decide))).toNat)

/-- (Log entries 93: DEDUCED, unsafe; 208: DESIGN CHOICE, unsafe.) -/
def journalReadBody (seq : Byte) (p : List Byte) (s : State) : State × Answer :=
  let i := numAt p 0 2
  let n := numAt p 2 1
  if p.length ≠ 4 ∨ 4095 < i ∨ n = 0 ∨ 32 < n ∨ numAt p 3 1 ≠ 0 then (s, answerBadArg)
  else if !s.flash.ok then (s, answerUnavailable)
  else
    let low := min n (4096 - i)
    let accs := hostFlash false (journalAddr s i) (16 * low)
      :: (if low < n then [hostFlash false (journalBase s) (16 * (n - low))] else [])
    match hostTack 0x0A seq accs s with
    | (s, some a) => (s, a)
    | (s, none) => (s, answerOk ((List.range n).flatMap fun k => flashBytes s (journalAddr s ((i + k) % 4096)) 16))

/-- A FLASH_READ's refusal, if it has one. (Log entry 93: DEDUCED, unsafe.) -/
def flashReadCheck (seq : Byte) (p : List Byte) (s : State) : State × Option Answer :=
  let a := numAt p 0 4
  let n := numAt p 4 2
  if p.length ≠ 8 ∨ numAt p 6 2 ≠ 0 ∨ n = 0 ∨ 512 < n ∨ flashLimit s < a + n then (s, some answerBadArg)
  else if !s.flash.ok then (s, some answerUnavailable)
  else hostTack 0x10 seq [hostFlash false a n] s

/-- R170, R505: a fresh nonce, which expires any earlier one. -/
def nonceGetBody (p : List Byte) (s : State) : State × Answer :=
  if p ≠ [] then (s, answerBadArg)
  else if !s.awl.rngOk then ({ s with host := { s.host with nonce := none } }, answerUnavailable)
  else
    let n := le 16 ((freeValue s).extractLsb' 0 128).toNat
    (drawn { s with host := { s.host with nonce := some n } }, answerOk n)

/-- RESET: armed with its OK response (R168). -/
def resetBody (seq : Byte) (p : List Byte) (s : State) : State × Answer :=
  if p ≠ [0x52, 0x53, 0x54, 0x21] then (s, answerBadArg)
  else (emit (devEv 0x0103 3 [seq]) { s with host := { s.host with resetArmed := true } }, answerOk [])

/-- Every synchronous command of Table 6.5 but FLASH_READ, whose transfer takes its turn. A payload of another length than the table's, or with another byte where the
table says zero, is answered BAD_ARG. The temperatures are what SUMMARY measures.
(Log entry 182: DESIGN CHOICE, unsafe.) -/
def syncBody (cmd : Nat) (seq : Byte) (p : List Byte) (tempCrown tempRoot : Int) (s : State) : State × Answer :=
  match cmd with
  | 0x01 => (s, if p = [] then identBody s else answerBadArg)
  | 0x02 => regReadBody seq p s
  | 0x03 => regWriteBody seq p s
  | 0x04 => regModifyBody seq p s
  | 0x08 => summaryBody p tempCrown tempRoot s
  | 0x09 => (s, ringReadBody p s)
  | 0x0A => journalReadBody seq p s
  | 0x28 => nonceGetBody p s
  | 0x32 => (s, if p = [] then answerOk (graftStatePayload s) else answerBadArg)
  | 0x3F => resetBody seq p s
  | _ => (s, answerBadArg)

/-- A synchronous command from the host: executed and answered. -/
def syncReq (cmd : Nat) (seq : Byte) (p : List Byte) (tempCrown tempRoot : Int) : HostReq :=
  { frame := hostFrame cmd seq p
    act := fun s => let x := syncBody cmd seq p tempCrown tempRoot s; hostRespond x.2 x.1 }

/-- A FLASH_READ whose transfer takes its turn at the flash port (Table 1.4). -/
def flashReadTurn (seq : Byte) (p : List Byte) (s : State) : State :=
  match flashReadCheck seq p s with
  | (s, some x) => hostRespond x s
  | (s, none) =>
    let a := numAt p 0 4
    let n := numAt p 4 2
    if flashIdle s then hostRespond (answerOk (flashBytes s a n)) s else flashQueue (.hostRead a n) s

/-! ### Long jobs -/

/-- A long job from the host: `start` refuses it with an answer, or does what the job begins with after ACCEPTED.
(Log entry 76: DEDUCED, unsafe.) -/
def longReq (cmd : Nat) (seq : Byte) (p : List Byte) (start : State → State × Option Answer) : HostReq :=
  { frame := hostFrame cmd seq p
    act := fun s => match start s with
      | (s, some a) => hostRespond a s
      | (s, none) => hostAccept s }

/-- The job's work waits for Seam, for the Awl or for the flash port. -/
def workWaits (c : Instr) (s : State) : State := modJob (fun j => { j with work := some c }) s

/-- The job's work is done. -/
def workEnds (a : Answer) (s : State) : State := workDone (jobResult a.rsp a.payload s)

/-- A job that needs the flash, under the Tack. (Log entry 93: DEDUCED, unsafe.) -/
def flashJob (cmd : Nat) (seq : Byte) (addr n : Nat) (op : FlashOp) (s : State) : State × Option Answer :=
  if !s.flash.ok then (s, some answerUnavailable)
  else match hostTack cmd seq [hostFlash true addr n] s with
    | (s, some a) => (s, some a)
    | (s, none) => (flashQueue op s, none)

def flashWriteStart (seq : Byte) (p : List Byte) (s : State) : State × Option Answer :=
  let a := numAt p 0 4
  let n := numAt p 4 2
  if p.length ≠ 8 + n ∨ numAt p 6 2 ≠ 0 ∨ n = 0 ∨ 256 < n ∨ a / 256 ≠ (a + n - 1) / 256 ∨ flashLimit s < a + n then
    (s, some answerBadArg)
  else flashJob 0x11 seq a n (.hostWrite a (slice p 8 n)) s

def flashEraseStart (seq : Byte) (p : List Byte) (s : State) : State × Option Answer :=
  let a := numAt p 0 4
  if p.length ≠ 4 ∨ a % 4096 ≠ 0 ∨ flashLimit s < a + 4096 then (s, some answerBadArg)
  else flashJob 0x12 seq a 4096 (.hostErase a) s

/-- A burn for the host: refused at once where the engine is free and R98, R113, R114 or R117 refuse it, otherwise in its
queue (R97). (Log entry 84: DEDUCED, unsafe.) -/
def burnAsk (kind : BurnKind) (tempC : Int) (vppMv : Nat) (s : State) : State :=
  let b : BurnJob := { kind, host := true }
  match s.heart.running, s.heart.waiting, burnRefusal s b tempC vppMv with
  | none, [], some code => burnRefused b code s
  | _, _, _ => burnQueue b s

/-- HW_BURN's payload. (Log entry 182: DESIGN CHOICE, unsafe.) -/
def hwBurnForm (p : List Byte) : Bool :=
  let pulse := numAt p 2 1
  p.length == 12 && decide (numAt p 1 1 ≤ 1) && decide (5 ≤ pulse) && decide (pulse ≤ 40) && decide (numAt p 3 1 ≤ 1)

def hwBurnStart (seq : Byte) (p : List Byte) (tempC : Int) (vppMv : Nat) (s : State) : State × Option Answer :=
  let row := numAt p 0 1
  let pulse := numAt p 2 1
  if !hwBurnForm p then (s, some answerBadArg)
  else match hostTack 0x20 seq [{ units := heartAccess true row, addr := row }] s with
    | (s, some a) => (s, some a)
    | (s, none) =>
      let kind : BurnKind := .row (BitVec.ofNat 8 row) (numAt p 1 1 == 1) pulse (numAt p 3 1 == 1)
        (BitVec.ofNat 64 (numAt p 4 8))
      (burnAsk kind tempC vppMv s, none)

/-- The rows of the named regions. (Log entry 82: DEDUCED, unsafe.) -/
def regionUnits (m : Byte) : List Access :=
  ((List.range 256).filter fun r => m.getLsbD (regionOf r)).map fun r => { space := 3, wr := true, unit := r }

/-- (Log entry 82: DEDUCED, unsafe.) -/
def hwLockStart (seq : Byte) (p : List Byte) (s : State) : State × Option Answer :=
  let w := BitVec.ofNat 8 (numAt p 0 1)
  let r := BitVec.ofNat 8 (numAt p 1 1)
  let units := regionUnits (w ||| r)
  if p.length ≠ 4 ∨ numAt p 2 2 ≠ 0 then (s, some answerBadArg)
  else match hostTack 0x21 seq [{ units, addr := 0 }] s with
    | (s, some a) => (s, some a)
    | (s, none) => (burnQueue { kind := .lock w r, host := true } s, none)

/-! ### SIGNED (R169 to R171) and its inner commands (R507, R508, R114) -/

def innerLength (inner : Nat) : Option Nat :=
  match inner with
  | 0x22 => some 0
  | 0x50 => some 36
  | 0x51 => some 4
  | 0x52 => some 112
  | _ => none

/-- R508: the refusals that KEY_PROVISION and PATTERN_KEY_SET share, as DETAIL. (Log entry 77: DEDUCED, unsafe.) -/
def keyRefusal (s : State) : Option Nat :=
  if s.pocket.k3Locked then some 1
  else if s.sap.level = 0 || !s.pocket.powered then some 2
  else if !s.pocket.pufOk then some 5
  else none

/-- The record of a provisioned item is pressed (R496). -/
def keyPress (i : Fin 20) (v : BitVec 256) (s : State) : State :=
  let a := pressAllowed i s
  if !a.2 then jobFail 3 a.1
  else match pressRecord i v a.1 with
    | some s => s
    | none => jobFail 3 (wcSaturate a.1)

/-- 0x50: the record first, then the ANCHOR item (R487, Table 16.6); the press is a unit of the Pocket's (R503). -/
def keyProvision (ip : List Byte) (s : State) : State :=
  let n := numAt ip 0 1
  if n < 2 ∨ 9 < n then jobFail 6 s
  else match keyRefusal s with
    | some d => jobFail d s
    | none =>
      if !s.flash.ok then jobFail 3 s
      else
        let v := toSlot (slice ip 4 32)
        if awlIdle s then keyPress (ix20 n) v (unitServed true s) else awlQueue (.pocket (ix20 n) v) none none s

/-- 0x51: a zeroize, slots 0 and 1 anew, K3_LOCKED clear. (Log entry 77: DEDUCED, unsafe.) -/
def keyReprovision (ip : List Byte) (s : State) : State :=
  if ip ≠ [0x52, 0x50, 0x56, 0x21] then jobFail 7 s
  else if !s.sap.running then jobFail 2 s
  else
    let cause := s.pocket.k3Cause
    let s := zeroize 2 s
    let s := { s with pocket := { s.pocket with k3Locked := false, k3Cause := 0 } }
    jobOk (emit (devEv 0x0706 5 [BitVec.ofNat 8 cause.toNat]) s)

/-- The content that PATTERN_KEY_SET unwraps: ECDH of slot 0, HKDF, AES-256-GCM (Table 16.6); no ECDH is served after an
entropy failure (R505). (Log entry 78: DEDUCED, unsafe.) -/
def patternUnwrap (ip : List Byte) (s : State) : Option (List Byte) :=
  if !s.awl.rngOk then none else
  match ecdh s.pocket.slots[0].toNat (slice ip 0 64) with
  | none => none
  | some secret =>
    let key := hkdf32 [] secret (asciiBytes "LU848-PKEY")
    gcmDecrypt key (List.replicate 12 0) (deviceId s) (slice ip 64 32) (slice ip 96 16)

/-- 0x52: the Pattern key replaced, in its slot or in one taken for it. (Log entry 78: DEDUCED, unsafe.) -/
def patternKeySet (ip : List Byte) (s : State) : State :=
  match keyRefusal s with
  | some d => jobFail d s
  | none => match patternUnwrap ip s with
    | none => jobFail 4 s
    | some v =>
      match (item s patternKeyItem).slot with
      | some k => jobOk (placeItem patternKeyItem k (toSlot v) s)
      | none =>
        match takeSlot [] s with
        | (s, some k) => jobOk (placeItem patternKeyItem k (toSlot v) s)
        | (s, none) => jobFail 3 (pocketShort patternKeyItem 0 s)

/-- R169: the digest that a SIGNED command's signature covers. -/
def signedDigest (s : State) (nonce : List Byte) (inner : Nat) (ip : List Byte) : List Byte :=
  sha256 (deviceId s ++ nonce ++ [BitVec.ofNat 8 inner] ++ ip)

/-- (Log entry 134: DEDUCED, unsafe.) -/
def innerRun (inner : Nat) (ip : List Byte) (s : State) : State :=
  match inner with
  | 0x22 => burnQueue { kind := .evalLock, host := true } s
  | 0x50 => keyProvision ip s
  | 0x51 => keyReprovision ip s
  | _ => patternKeySet ip s

/-- The work of an accepted SIGNED: the nonce is used up, then the key and signature decide (R169 to R171). `idle`: the Awl
has been free for it, and its unit is counted here. (Log entries 75: DEDUCED, unsafe; 134: DEDUCED, unsafe.) -/
def signedRun (idle : Bool) (inner : Nat) (key sig ip : List Byte) (s : State) : State :=
  let nonce := s.host.nonce
  let s := { s with host := { s.host with nonce := none } }
  if allZero (ownerKeyDigest s 0) && allZero (ownerKeyDigest s 1) then signedFail inner 0x13 s
  else match nonce with
    | none => signedFail inner 0x14 s
    | some n =>
      if (keyStatus s key).1 ≠ 0 then signedFail inner 0x13 s
      else
        let good := ecdsaVerify key (signedDigest s n inner ip) sig
        let s := if idle then unitServed good s else s
        if good then innerRun inner ip s else signedFail inner 0x13 s

def signedPayload (inner : Byte) (key sig ip : List Byte) : List Byte :=
  [inner, 0, 0, 0] ++ key ++ sig ++ ip

/-- SIGNED's parts from the command. -/
def signedParts : Instr → Option (Nat × List Byte × List Byte × List Byte)
  | .hwEvalLock _ key sig => some (0x22, key, sig, [])
  | .signed _ inner key sig ip => some (inner.toNat, key, sig, ip)
  | .keyProvision _ key sig item v => some (0x50, key, sig, [item, 0, 0, 0] ++ v)
  | .keyReprovision _ key sig confirm => some (0x51, key, sig, confirm)
  | .patternKeySet _ key sig eph ct tag => some (0x52, key, sig, eph ++ ct ++ tag)
  | _ => none

/-- The verification takes its turn at the Awl (Table 1.4, R503). (Log entry 134: DEDUCED, unsafe.) -/
def signedTurn (c : Instr) (inner : Nat) (key sig ip : List Byte) (s : State) : State :=
  if awlIdle s then signedRun true inner key sig ip s else awlQueue .signed none none (workWaits c s)

/-- The start of a SIGNED: SIG_FAIL while both owner digests are blank (R171); its fields, and the Heartwood access of
HW_EVAL_LOCK (R166). -/
def signedStart (c : Instr) (seq : Byte) (p : List Byte) (s : State) : State × Option Answer :=
  let inner := numAt p 0 1
  let ip := p.drop 132
  if allZero (ownerKeyDigest s 0) && allZero (ownerKeyDigest s 1) then (signedRun false inner [] [] [] s, none)
  else match innerLength inner with
  | none => (s, some answerBadArg)
  | some n =>
    let padded := decide (inner = 0x50) && decide (numAt ip 1 3 ≠ 0)
    if p.length ≠ 132 + n ∨ numAt p 1 3 ≠ 0 ∨ padded then (s, some answerBadArg)
    else
      let accs : List HostAccess := if inner = 0x22 then [{ units := heartAccess true 0xC0, addr := 0xC0 }] else []
      match hostTack 0x29 seq accs s with
      | (s, some a) => (s, some a)
      | (s, none) => (signedTurn c inner (slice p 4 64) (slice p 68 64) ip s, none)

/-- A SIGNED request that came as command `c`. -/
def signedReq (c : Instr) (seq inner : Byte) (key sig ip : List Byte) : HostReq :=
  let p := signedPayload inner key sig ip
  longReq 0x29 seq p (signedStart c seq p)

/-! ### Graft's jobs -/

/-- The flash work of a Graft job; `o` is what the flash port reports of it where it had to wait for it. -/
def graftRun (c : Instr) (o : Option FlashRes) (s : State) : State × Answer :=
  match c with
  | .graftOpen _ m start r => graftOpen m start (o.getD r) s
  | .graftPiece _ k _ d r => graftPieceProgram k.toNat d (o.getD r) s
  | .graftVerify _ r => graftVerify (o.getD r) s
  | .graftDiscard _ r => graftDiscard (o.getD r) s
  | _ => (s, answerDone [])

/-- A Graft job that its own checks refuse, and so does not come to the flash. -/
def graftRefuses (c : Instr) (s : State) : Bool :=
  match c with
  | .graftOpen _ m _ _ => (graftOpenRefusal s m).isSome
  | .graftVerify _ _ => decide (s.graft.st ≠ .complete)
  | .graftDiscard _ _ => decide (s.graft.st = .trial) || decide (s.graft.st = .promoting)
  | _ => false

/-- The verification needs the Awl. -/
def graftNeedsAwl : Instr → Bool
  | .graftVerify _ _ => true
  | _ => false

/-- A Graft job done, with what the flash port reports where it had to wait for it. -/
def graftEnds (c : Instr) (o : Option FlashRes) (s : State) : State := let x := graftRun c o s; workEnds x.2 x.1

/-- A Graft job at the flash port: at once, or in its turn (Table 1.4). (Log entry 138: DESIGN CHOICE, unsafe.) -/
def graftAtFlash (c : Instr) (s : State) : State :=
  if flashIdle s || graftRefuses c s then graftEnds c none s
  else flashQueue (.graft (!graftNeedsAwl c)) (workWaits c s)

/-- A Graft job in its turn at the Awl, where it needs it (R503), and then at the flash port.
(Log entry 134: DEDUCED, unsafe.) -/
def graftTurn (c : Instr) (s : State) : State :=
  if !graftNeedsAwl c || graftRefuses c s then graftAtFlash c s
  else if awlIdle s then graftAtFlash c (unitServed true s)
  else awlQueue .graftVerify none none (workWaits c s)

/-- A piece's checks, with Seam granted to Graft, and what follows them. -/
def graftPieceTurn (c : Instr) (k : Nat) (crc : Word) (data : List Byte) (s : State) : State :=
  match graftPieceCheck k crc data s with
  | (s, some a) => workEnds a s
  | (s, none) => graftTurn c s

/-- A Graft job with its payload's form checked: refused without the flash, else its work begins. -/
def graftJob (formOk : Bool) (begin' : State → State) (s : State) : State × Option Answer :=
  if !formOk then (s, some answerBadArg)
  else if !s.flash.ok then (s, some answerUnavailable)
  else (begin' s, none)

/-- The start of a piece: its check claims Seam, and waits for the lease where it is not free (R181). -/
def graftPieceStart (c : Instr) (k : Nat) (crc : Word) (data : List Byte) (s : State) : State :=
  if pieceNeedsSeam s k && !seamFree .graft s then seamAsk .graft (workWaits c s)
  else graftPieceTurn c k crc data (graftClaim s)

def openPayload (manifest : List Byte) (start : Byte) : List Byte := manifest ++ [start, 0, 0, 0]

def piecePayload (index : Half) (crc : Word) (data : List Byte) : List Byte :=
  le 2 index.toNat ++ [0, 0] ++ le 4 crc.toNat ++ data

/-! ### The relay (R423 to R427) -/

/-- Chunks of at most 254 bytes with CHUNK and LAST (Table 14.3). -/
def relayChunks (bs : List Byte) : List (List Byte) :=
  let n := max 1 ((bs.length + 253) / 254)
  (List.range n).map fun i => [BitVec.ofNat 8 i, BitVec.ofNat 8 (b2n (i + 1 = n))] ++ (bs.drop (254 * i)).take 254

def relaySend (ty : Nat) (dest : Fin 8) (bs : List Byte) (s : State) : State :=
  (relayChunks bs).foldl (fun s c => reinSend ty false dest c s) s

/-- A chunk received: its frame forwarded as it came (R416), and what its source has sent so far of the relayed frame, the
whole of it once LAST has come; a chunk out of order ends what it belonged to. A chunk longer than its frame allows is a
bad frame (R415). (Log entry 191: DEDUCED, unsafe.) -/
def relayPart (parts : List RelayPart) (src : Fin 8) (chunk : Byte) (last : Bool) (bytes : List Byte) :
    List RelayPart × Option (List Byte) :=
  let rest := parts.filter fun x => x.src ≠ src
  let had : Option (List Byte) := if chunk = 0 then some []
    else (parts.find? fun x => x.src = src && decide (x.next = chunk.toNat)).map RelayPart.bytes
  match had with
  | none => (rest, none)
  | some b => if last then (rest, some (b ++ bytes)) else (rest ++ [{ src, next := chunk.toNat + 1, bytes := b ++ bytes }], none)

def relayPayload (chunk : Byte) (last : Bool) (bytes : List Byte) : List Byte := [chunk, BitVec.ofNat 8 (b2n last)] ++ bytes

/-- One RELAY_REQ or RELAY_RSP frame arrives. -/
def relayForward (ty : Nat) (h : ReinHdr) (chunk : Byte) (last : Bool) (bytes : List Byte) (s : State) : State :=
  if !reinForwards s then s
  else if reinFits ty (bytes.length + 2) then reinForward ty h (reinOwn s h) (relayPayload chunk last bytes) s
  else modRein (fun r => { r with rxErrs := bump 12 r.rxErrs }) s

/-- DONE with a RELAY_STATUS other than delivered, and REIN_RELAY_FAIL. -/
def relayFail (dest status : Nat) (s : State) : State :=
  jobResult 0x03 [BitVec.ofNat 8 status, 0] (emit (devEv 0x0E06 3 [BitVec.ofNat 8 dest, BitVec.ofNat 8 status]) s)

/-- R423, R426. -/
def relayRun (dest : Nat) (frame : List Byte) (s : State) : State :=
  if dest = s.rein.addr.val then jobFail 1 s
  else if s.rein.state ≠ 0 then relayFail dest 2 s
  else if (reinParticipants s).any fun e => addrOf s e = dest then
    relaySend 7 (ix8 dest) frame (modRein (fun r => { r with relayDest := some (ix8 dest) }) s)
  else relayFail dest 1 s

/-- (Log entry 92: DEDUCED, unsafe.) -/
def relayStart (p : List Byte) (s : State) : State × Option Answer :=
  if p.length < 4 ∨ numAt p 1 3 ≠ 0 then (s, some answerBadArg)
  else if !strapUp s then (s, some answerUnavailable)
  else (relayRun (numAt p 0 1) (p.drop 4) (reinBegin s), none)

/-- R424: the verdict of a relayed frame; kind L is refused by state, but REIN_RELAY is answered BAD_ARG (R423).
(Log entries 90: DEDUCED, unsafe; 191: DEDUCED, unsafe.) -/
def relayVerdict (s : State) (frame : List Byte) : Nat :=
  let v := frameVerdict { s with host := { s.host with taken := s.rein.relayTaken } } frame
  if v = 1 ∧ longCmd (frameCmd frame) ∧ frameCmd frame ≠ 0x38 then 6 else v

/-- The answer of a relayed command: its LAST_CMD record, and its response to the source.
(Log entry 90: DEDUCED, unsafe.) -/
def relayRespond (src : Fin 8) (cmd : Nat) (seq : Byte) (st : Nat) (a : Answer) (s : State) : State :=
  let s := { s with host := { s.host with last := lastOf s (BitVec.ofNat 8 cmd) seq st a } }
  relaySend 8 src (1 :: rspBytes { rsp := a.rsp, seq := seq, payload := a.payload, station := st }) s

/-- A relayed FLASH_READ: at once, or in its turn at the flash port (Table 1.4). -/
def relayFlashRead (src : Fin 8) (seq : Byte) (p : List Byte) (s : State) : State :=
  match flashReadCheck seq p s with
  | (s, some x) => relayRespond src 0x10 seq 0 x s
  | (s, none) =>
    let a := numAt p 0 4
    let n := numAt p 4 2
    if flashIdle s then relayRespond src 0x10 seq 0 (answerOk (flashBytes s a n)) s
    else flashQueue (.relayRead src seq a n) s

/-- A relayed command at DEST. (Log entry 91: DESIGN CHOICE, safe.) -/
def relayExecute (src : Fin 8) (frame : List Byte) (s : State) : State :=
  let cmd := frameCmd frame
  let seq := frameSeq frame
  let p := framePayload frame
  let t : BitVec 256 := freeValue s
  if cmd = 0x10 then relayFlashRead src seq p s
  else
    let x := if cmd = 0x38 then (s, answerBadArg)
      else syncBody cmd seq p (t.extractLsb' 0 16).toInt (t.extractLsb' 16 16).toInt (if cmd = 0x08 then drawn s else s)
    relayRespond src cmd seq (cmdStation cmd p) x.2 x.1

/-- R424, R427: the frame checked, executed and answered; a relayed RESET acts once its answer has left.
(Log entry 90: DEDUCED, unsafe.) -/
def relayServe (src : Fin 8) (frame : List Byte) (s : State) : State :=
  let v := relayVerdict s frame
  if v ≠ 1 then relaySend 8 src [BitVec.ofNat 8 v] s
  else
    let s := relayExecute src frame (modRein (fun r => { r with relayTaken := some (frameSeq frame, frameCheck frame) }) s)
    if frameCmd frame = 0x3F ∧ s.host.last.rsp = 0x01 then crownReset 0x100 0 true s else s

/-- R425: the answer has arrived, its first byte VERDICT. -/
def relayAnswer (src : Fin 8) (answer : List Byte) (s : State) : State :=
  let verdict := answer.getD 0 0
  let response := answer.drop 1
  if s.rein.relayDest ≠ some src then s
  else jobResult 0x03 ([0, verdict] ++ if verdict = 1 then response else []) (modRein (fun r => { r with relayDest := none }) s)

/-- R425: 9.0 ms without an answer. -/
def relayTimeout (s : State) : State :=
  match s.rein.relayDest with
  | none => s
  | some d => relayFail d.val 3 (modRein (fun r => { r with relayDest := none }) s)

/-! ### The requests, each with its command -/

def identReq (seq : Byte) : HostReq := syncReq 0x01 seq [] 0 0

def regReadReq (seq : Byte) (addr : Half) (count : Byte) : HostReq := syncReq 0x02 seq (le 2 addr.toNat ++ [count, 0]) 0 0

/-- COUNT is the number of values. -/
def regWriteReq (seq : Byte) (addr : Half) (vals : List Word) : HostReq :=
  syncReq 0x03 seq (le 2 addr.toNat ++ [BitVec.ofNat 8 vals.length, 0] ++ vals.flatMap fun v => le 4 v.toNat) 0 0

def regModifyReq (seq : Byte) (addr : Half) (mask v : Word) : HostReq :=
  syncReq 0x04 seq (le 2 addr.toNat ++ [0, 0] ++ le 4 mask.toNat ++ le 4 v.toNat) 0 0

def summaryReq (seq : Byte) (tempCrown tempRoot : Int) : HostReq := syncReq 0x08 seq [] tempCrown tempRoot

def ringReadReq (seq index count : Byte) : HostReq := syncReq 0x09 seq [index, count] 0 0

def journalReadReq (seq : Byte) (index : Half) (count : Byte) : HostReq :=
  syncReq 0x0A seq (le 2 index.toNat ++ [count, 0]) 0 0

def flashReadReq (seq : Byte) (addr : Word) (len : Half) : HostReq :=
  let p := le 4 addr.toNat ++ le 2 len.toNat ++ [0, 0]
  { frame := hostFrame 0x10 seq p, act := flashReadTurn seq p }

/-- LEN is the number of data bytes. -/
def flashWriteReq (seq : Byte) (addr : Word) (data : List Byte) : HostReq :=
  let p := le 4 addr.toNat ++ le 2 data.length ++ [0, 0] ++ data
  longReq 0x11 seq p (flashWriteStart seq p)

def flashEraseReq (seq : Byte) (addr : Word) : HostReq :=
  let p := le 4 addr.toNat
  longReq 0x12 seq p (flashEraseStart seq p)

def hwBurnReq (seq row source pulse flags : Byte) (mask : BitVec 64) (vppMv : Nat) (tempC : Int) : HostReq :=
  let p := [row, source, pulse, flags] ++ le 8 mask.toNat
  longReq 0x20 seq p (hwBurnStart seq p tempC vppMv)

def hwLockReq (seq wregions rregions : Byte) : HostReq :=
  let p : List Byte := [wregions, rregions, 0, 0]
  longReq 0x21 seq p (hwLockStart seq p)

def nonceGetReq (seq : Byte) : HostReq := syncReq 0x28 seq [] 0 0

def hwEvalLockReq (seq : Byte) (key sig : List Byte) : HostReq := signedReq (.hwEvalLock seq key sig) seq 0x22 key sig []

def plainSignedReq (seq inner : Byte) (key sig ip : List Byte) : HostReq :=
  signedReq (.signed seq inner key sig ip) seq inner key sig ip

def keyProvisionReq (seq : Byte) (key sig : List Byte) (item : Byte) (value : List Byte) : HostReq :=
  signedReq (.keyProvision seq key sig item value) seq 0x50 key sig ([item, 0, 0, 0] ++ value)

def keyReprovisionReq (seq : Byte) (key sig confirm : List Byte) : HostReq :=
  signedReq (.keyReprovision seq key sig confirm) seq 0x51 key sig confirm

def patternKeySetReq (seq : Byte) (key sig eph ct tag : List Byte) : HostReq :=
  signedReq (.patternKeySet seq key sig eph ct tag) seq 0x52 key sig (eph ++ ct ++ tag)

def graftOpenReq (seq : Byte) (manifest : List Byte) (start : Byte) (r : FlashRes) : HostReq :=
  longReq 0x30 seq (openPayload manifest start)
    (graftJob (manifest.length = 256) (graftTurn (.graftOpen seq manifest start r)))

def graftPieceReq (seq : Byte) (index : Half) (crc : Word) (data : List Byte) (r : FlashRes) : HostReq :=
  longReq 0x31 seq (piecePayload index crc data)
    (graftJob (data.length = 512) (graftPieceStart (.graftPiece seq index crc data r) index.toNat crc data))

def graftStateReq (seq : Byte) : HostReq := syncReq 0x32 seq [] 0 0

def graftVerifyReq (seq : Byte) (r : FlashRes) : HostReq := longReq 0x33 seq [] (graftJob true (graftTurn (.graftVerify seq r)))

def graftDiscardReq (seq : Byte) (r : FlashRes) : HostReq :=
  longReq 0x34 seq [] (graftJob true (graftTurn (.graftDiscard seq r)))

def reinRelayReq (seq dest : Byte) (frame : List Byte) : HostReq :=
  let p := [dest, 0, 0, 0] ++ frame
  longReq 0x38 seq p (relayStart p)

def resetReq (seq : Byte) (magic : List Byte) : HostReq := syncReq 0x3F seq magic 0 0

/-- PGnCAP0 or PGnCAP1 (R378). -/
def captureReadReq (seq : Byte) (n : Fin 8) (second : Bool) : HostReq :=
  syncReq 0x02 seq (le 2 (0x4410 + 0x20 * n.val + 4 * b2n second) ++ [1, 0]) 0 0

def awlwaitReadReq (seq : Byte) : HostReq := syncReq 0x02 seq (le 2 0x2008 ++ [1, 0]) 0 0

/-- What a frame that passes every check does, by its bytes alone: all of it, but for a command that takes a measured value
or the outcome of Graft's flash work, whose row has them; of that one, the refusal of another payload (R162).
(Log entry 182: DESIGN CHOICE, unsafe.) -/
def frameAct (bs : List Byte) : Option (State → State) :=
  let cmd := frameCmd bs
  let seq := frameSeq bs
  let p := framePayload bs
  let bad (form : Bool) : Option (State → State) := if form then none else some (hostRespond answerBadArg)
  let long (start : State → State × Option Answer) : Option (State → State) := some (longReq cmd seq p start).act
  let key := slice p 4 64
  let sig := slice p 68 64
  match cmd with
  | 0x08 => bad (p = [])
  | 0x10 => some (flashReadTurn seq p)
  | 0x11 => long (flashWriteStart seq p)
  | 0x12 => long (flashEraseStart seq p)
  | 0x20 => bad (hwBurnForm p)
  | 0x21 => long (hwLockStart seq p)
  | 0x29 => long (signedStart (.signed seq (p.getD 0 0) key sig (p.drop 132)) seq p)
  | 0x30 => bad (p.length = 260 && numAt p 257 3 == 0)
  | 0x31 => bad (p.length = 520 && numAt p 2 2 == 0)
  | 0x33 | 0x34 => bad (p = [])
  | 0x38 => long (relayStart p)
  | _ => some (syncReq cmd seq p 0 0).act

/-- The request of a command of Table 6.5. -/
def hostReqOf : Instr → Option HostReq
  | .ident seq => some (identReq seq)
  | .regRead seq addr count => some (regReadReq seq addr count)
  | .regWrite seq addr vals => some (regWriteReq seq addr vals)
  | .regModify seq addr mask v => some (regModifyReq seq addr mask v)
  | .summary seq tc tr => some (summaryReq seq tc tr)
  | .ringRead seq index count => some (ringReadReq seq index count)
  | .journalRead seq index count => some (journalReadReq seq index count)
  | .flashRead seq addr len => some (flashReadReq seq addr len)
  | .flashWrite seq addr data => some (flashWriteReq seq addr data)
  | .flashErase seq addr => some (flashEraseReq seq addr)
  | .hwBurn seq row source pulse flags mask vppMv tempC => some (hwBurnReq seq row source pulse flags mask vppMv tempC)
  | .hwLock seq w r => some (hwLockReq seq w r)
  | .hwEvalLock seq key sig => some (hwEvalLockReq seq key sig)
  | .nonceGet seq => some (nonceGetReq seq)
  | .signed seq inner key sig ip => some (plainSignedReq seq inner key sig ip)
  | .keyProvision seq key sig item v => some (keyProvisionReq seq key sig item v)
  | .keyReprovision seq key sig confirm => some (keyReprovisionReq seq key sig confirm)
  | .patternKeySet seq key sig eph ct tag => some (patternKeySetReq seq key sig eph ct tag)
  | .graftOpen seq m start r => some (graftOpenReq seq m start r)
  | .graftPiece seq k crc d r => some (graftPieceReq seq k crc d r)
  | .graftState seq => some (graftStateReq seq)
  | .graftVerify seq r => some (graftVerifyReq seq r)
  | .graftDiscard seq r => some (graftDiscardReq seq r)
  | .reinRelay seq dest frame => some (reinRelayReq seq dest frame)
  | .reset seq magic => some (resetReq seq magic)
  | .captureRead seq n second => some (captureReadReq seq n second)
  | .awlwaitRead seq => some (awlwaitReadReq seq)
  | .hostFrameBad (0x5A :: bs) => (frameAct bs).map fun act => { frame := bs, act }
  | _ => none

/-! ### What waited for Seam, for the Awl and for the flash port -/

/-- A bad request whose check had to wait. -/
def badChecked (bs : List Byte) (s : State) : State :=
  let v := frameVerdict s bs
  let s := seamCheck .host (some (decide (v ≠ 3))) s
  if v = 1 then s else requestBad v (frameSeq bs) s

/-- Seam is granted to the host port: the request that waited is checked, or the response that waited is completed. -/
def hostGranted (s : State) : State :=
  match s.host.asked with
  | none => hostOwed s
  | some c =>
    let s := { s with host := { s.host with asked := none } }
    match hostReqOf c, c with
    | some q, _ => hostChecked q s
    | none, .hostFrameBad mosi => badChecked (mosi.drop 1) s
    | none, _ => s

/-- R181, R182: the oldest claim is granted. The host port makes its check at once and releases (R185). -/
def seamGrant (s : State) : State :=
  if s.seam.holder.isSome then s
  else
    let s := { s with seam := seamGrantOne s.seam }
    if s.seam.holder = some .host then
      let s := hostGranted s
      { s with seam := seamReleaseOp .host s.seam }
    else s

/-- Graft's piece check ends: with the lease, or with the lease withdrawn (R184). -/
def graftPieceDue (s : State) : State :=
  match s.host.job.bind HostJob.work with
  | some (.graftPiece seq k crc d r) =>
    if s.seam.holder = some .graft || s.seam.revoked.contains .graft then
      graftPieceTurn (.graftPiece seq k crc d r) k.toNat crc d s
    else s
  | _ => s

/-- R157: the job's work is done. -/
def jobDone (s : State) : State := hostCompletion (graftPieceDue s)

/-- What the end of the Pocket's, the host port's or Graft's unit in service begins. -/
def unitWork (u : AwlUse) (s : State) : State :=
  match u, s.host.job.bind HostJob.work with
  | .pocket i v, _ => keyPress i v s
  | .signed, some c =>
    match signedParts c with
    | some x => workDone (signedRun false x.1 x.2.1 x.2.2.1 x.2.2.2 s)
    | none => s
  | .graftVerify, some c => graftAtFlash c s
  | _, _ => s

/-- The operation in service completes, and what its holder then does. -/
def awlDone (ok : Bool) (us : Nat) (s : State) : State :=
  match s.awl.head with
  | none => s
  | some u => let s := unitDone ok us s; if ok && u.wanted then unitWork u.use s else s

/-! ### The end of a flash transfer (R23, Table 1.4) -/

/-- The outcome of the flash's present transfer. A failed program or erase of the host leaves free bytes,
and its DETAIL is free. (Log entry 26: DESIGN CHOICE, safe.) -/
def flashTransferDone (r : FlashRes) (markOk : Bool) (s : State) : State :=
  match s.flash.current, r with
  | none, _ => s
  | some (.recordRead _), .ok => recordReadDone s
  | some (.recordRead _), .fail => recordReadFail s
  | some (.recordWrite _), .ok => recordWriteDone (flashGood s)
  | some (.recordWrite _), .fail => recordWriteFail s
  | some .journal, .ok => flashNext (journalWritten (flashGood s))
  | some .journal, .fail => flashNext (journalFailed markOk s)
  | some (.hostWrite a d), .ok => flashNext (jobOk (flashProgram a d (flashGood s)))
  | some (.hostWrite a d), .fail =>
    let s := flashFailed 1 a (tornProgram a d.length s)
    flashNext (drawn (jobFail ((freeValue s).extractLsb' 0 32).toNat s))
  | some (.hostErase a), .ok => flashNext (jobOk (flashEraseRange a 4096 (flashGood s)))
  | some (.hostErase a), .fail =>
    let s := flashFailed 2 a (tornErase a 4096 s)
    flashNext (drawn (jobFail ((freeValue s).extractLsb' 0 32).toNat s))
  | some (.hostRead a n), .ok => flashNext (hostRespond (answerOk (flashBytes s a n)) (flashGood s))
  | some (.hostRead a _), .fail => flashNext (hostRespond answerUnavailable (flashFailed 0 a s))
  | some (.relayRead src seq a n), .ok => flashNext (relayRespond src 0x10 seq 0 (answerOk (flashBytes s a n)) (flashGood s))
  | some (.relayRead src seq a _), .fail => flashNext (relayRespond src 0x10 seq 0 answerUnavailable (flashFailed 0 a s))
  | some (.graft _), r =>
    match s.host.job.bind HostJob.work with
    | some c => flashNext (graftEnds c (some r) s)
    | none => flashNext s
  | some .copy, r => flashNext (graftCopy r s)

/-- While a boot polls the flash it is the poll that ends (R627); else the present transfer. -/
def flashOpDone (r : FlashRes) (markOk : Bool) (s : State) : State :=
  if s.flash.wip then flashReady r s else flashTransferDone r markOk s

/-- A transaction with a first MOSI byte: a request, a read, or neither, which does nothing but return STATUS and then
bytes that the manual leaves open (R148, R149). A request of a command whose row has more than its bytes, and which
passes every check, is that row's. -/
def hostTransaction (mosi : List Byte) (s : State) : State :=
  match mosi with
  | [] => s
  | b :: bs =>
    if b = 0xA5 then hostRead mosi.length s
    else if !isOpen s then { s with host := { s.host with miso := [] } }
    else if b = 0x5A then
      match frameAct bs with
      | some act => hostAsk (.hostFrameBad mosi) { frame := bs, act } s
      | none =>
        if frameVerdict s bs = 1 then s
        else
          let s := requestMiso bs.length s
          match frameEarly s bs with
          | some v => requestBad v (frameSeq bs) s
          | none =>
            if seamFree .host s then badChecked bs s
            else seamAsk .host { s with host := { s.host with asked := some (.hostFrameBad mosi) } }
    else
      let free := (List.range bs.length).map fun i => (Config.random (s.freeCtr + i)).extractLsb' 0 8
      { s with freeCtr := s.freeCtr + bs.length, host := { s.host with miso := statusByte s :: free } }

/-! ### The family's meanings -/

/-- HOST_READ of `n` bytes. -/
def execHostRead (n : Nat) (s : State) : Host.Outcome State Fault Refusal := complete s (hostRead n s)

/-- IDENT. -/
def execIdent (seq : Byte) (s : State) : Host.Outcome State Fault Refusal :=
  complete s (hostAsk (.ident seq) (identReq seq) s)

/-- REG_READ. -/
def execRegRead (seq : Byte) (addr : Half) (count : Byte) (s : State) : Host.Outcome State Fault Refusal :=
  complete s (hostAsk (.regRead seq addr count) (regReadReq seq addr count) s)

/-- REG_WRITE. -/
def execRegWrite (seq : Byte) (addr : Half) (vals : List Word) (s : State) : Host.Outcome State Fault Refusal :=
  complete s (hostAsk (.regWrite seq addr vals) (regWriteReq seq addr vals) s)

/-- REG_MODIFY. -/
def execRegModify (seq : Byte) (addr : Half) (mask v : Word) (s : State) : Host.Outcome State Fault Refusal :=
  complete s (hostAsk (.regModify seq addr mask v) (regModifyReq seq addr mask v) s)

/-- SUMMARY, with the two dies' temperatures in 0.1 °C. -/
def execSummary (seq : Byte) (tempCrown tempRoot : Int) (s : State) : Host.Outcome State Fault Refusal :=
  complete s (hostAsk (.summary seq tempCrown tempRoot) (summaryReq seq tempCrown tempRoot) s)

/-- RING_READ. -/
def execRingRead (seq index count : Byte) (s : State) : Host.Outcome State Fault Refusal :=
  complete s (hostAsk (.ringRead seq index count) (ringReadReq seq index count) s)

/-- JOURNAL_READ. -/
def execJournalRead (seq : Byte) (index : Half) (count : Byte) (s : State) : Host.Outcome State Fault Refusal :=
  complete s (hostAsk (.journalRead seq index count) (journalReadReq seq index count) s)

/-- FLASH_READ. -/
def execFlashRead (seq : Byte) (addr : Word) (len : Half) (s : State) : Host.Outcome State Fault Refusal :=
  complete s (hostAsk (.flashRead seq addr len) (flashReadReq seq addr len) s)

/-- FLASH_WRITE. -/
def execFlashWrite (seq : Byte) (addr : Word) (data : List Byte) (s : State) : Host.Outcome State Fault Refusal :=
  complete s (hostAsk (.flashWrite seq addr data) (flashWriteReq seq addr data) s)

/-- FLASH_ERASE. -/
def execFlashErase (seq : Byte) (addr : Word) (s : State) : Host.Outcome State Fault Refusal :=
  complete s (hostAsk (.flashErase seq addr) (flashEraseReq seq addr) s)

/-- HW_BURN, with the die temperature in °C and VPP in mV. -/
def execHwBurn (seq row source pulse flags : Byte) (mask : BitVec 64) (vppMv : Nat) (tempC : Int) (s : State) :
    Host.Outcome State Fault Refusal :=
  complete s (hostAsk (.hwBurn seq row source pulse flags mask vppMv tempC) (hwBurnReq seq row source pulse flags mask vppMv tempC) s)

/-- HW_LOCK. -/
def execHwLock (seq wregions rregions : Byte) (s : State) : Host.Outcome State Fault Refusal :=
  complete s (hostAsk (.hwLock seq wregions rregions) (hwLockReq seq wregions rregions) s)

/-- HW_EVAL_LOCK: SIGNED with INNER 0x22. -/
def execHwEvalLock (seq : Byte) (key sig : List Byte) (s : State) : Host.Outcome State Fault Refusal :=
  complete s (hostAsk (.hwEvalLock seq key sig) (hwEvalLockReq seq key sig) s)

/-- NONCE_GET. -/
def execNonceGet (seq : Byte) (s : State) : Host.Outcome State Fault Refusal :=
  complete s (hostAsk (.nonceGet seq) (nonceGetReq seq) s)

/-- SIGNED. -/
def execSigned (seq inner : Byte) (key sig payload : List Byte) (s : State) : Host.Outcome State Fault Refusal :=
  complete s (hostAsk (.signed seq inner key sig payload) (plainSignedReq seq inner key sig payload) s)

/-- KEY_PROVISION: SIGNED with INNER 0x50. -/
def execKeyProvision (seq : Byte) (key sig : List Byte) (item : Byte) (value : List Byte) (s : State) :
    Host.Outcome State Fault Refusal :=
  complete s (hostAsk (.keyProvision seq key sig item value) (keyProvisionReq seq key sig item value) s)

/-- KEY_REPROVISION: SIGNED with INNER 0x51. -/
def execKeyReprovision (seq : Byte) (key sig confirm : List Byte) (s : State) : Host.Outcome State Fault Refusal :=
  complete s (hostAsk (.keyReprovision seq key sig confirm) (keyReprovisionReq seq key sig confirm) s)

/-- PATTERN_KEY_SET: SIGNED with INNER 0x52. -/
def execPatternKeySet (seq : Byte) (key sig eph ct tag : List Byte) (s : State) : Host.Outcome State Fault Refusal :=
  complete s (hostAsk (.patternKeySet seq key sig eph ct tag) (patternKeySetReq seq key sig eph ct tag) s)

/-- GRAFT_OPEN, with the outcome of its flash work. -/
def execGraftOpen (seq : Byte) (manifest : List Byte) (start : Byte) (r : FlashRes) (s : State) :
    Host.Outcome State Fault Refusal :=
  complete s (hostAsk (.graftOpen seq manifest start r) (graftOpenReq seq manifest start r) s)

/-- GRAFT_PIECE, with the outcome of its flash work. -/
def execGraftPiece (seq : Byte) (index : Half) (crc : Word) (data : List Byte) (r : FlashRes) (s : State) :
    Host.Outcome State Fault Refusal :=
  complete s (hostAsk (.graftPiece seq index crc data r) (graftPieceReq seq index crc data r) s)

/-- GRAFT_STATE. -/
def execGraftState (seq : Byte) (s : State) : Host.Outcome State Fault Refusal :=
  complete s (hostAsk (.graftState seq) (graftStateReq seq) s)

/-- GRAFT_VERIFY, with the outcome of its flash work. -/
def execGraftVerify (seq : Byte) (r : FlashRes) (s : State) : Host.Outcome State Fault Refusal :=
  complete s (hostAsk (.graftVerify seq r) (graftVerifyReq seq r) s)

/-- GRAFT_DISCARD, with the outcome of its flash work. -/
def execGraftDiscard (seq : Byte) (r : FlashRes) (s : State) : Host.Outcome State Fault Refusal :=
  complete s (hostAsk (.graftDiscard seq r) (graftDiscardReq seq r) s)

/-- REIN_RELAY. -/
def execReinRelay (seq dest : Byte) (frame : List Byte) (s : State) : Host.Outcome State Fault Refusal :=
  complete s (hostAsk (.reinRelay seq dest frame) (reinRelayReq seq dest frame) s)

/-- RESET. -/
def execReset (seq : Byte) (magic : List Byte) (s : State) : Host.Outcome State Fault Refusal :=
  complete s (hostAsk (.reset seq magic) (resetReq seq magic) s)

/-- CAPTURE_READ: REG_READ of PGnCAP0 or PGnCAP1 (R378). -/
def execCaptureRead (seq : Byte) (n : Fin 8) (second : Bool) (s : State) : Host.Outcome State Fault Refusal :=
  complete s (hostAsk (.captureRead seq n second) (captureReadReq seq n second) s)

/-- AWLWAIT_READ: REG_READ of AWLWAIT (R9). -/
def execAwlwaitRead (seq : Byte) (s : State) : Host.Outcome State Fault Refusal :=
  complete s (hostAsk (.awlwaitRead seq) (awlwaitReadReq seq) s)

/-- RESET_TIMEOUT: 10 ms after the response of RESET became complete (R168). -/
def execResetTimeout (s : State) : Host.Outcome State Fault Refusal :=
  complete s <|
    -- a later request may be pending
    if s.host.resetArmed && !s.host.job.any (fun j => j.cmd = 0x3F) then crownReset 0x100 0 true s
    else if s.boot.together.host then
      -- R66: together with another reset
      crownReset 0x100 0 true { s with boot := { s.boot with together := { s.boot.together with host := false } } }
    else s

/-- NONCE_EXPIRE. -/
def execNonceExpire (s : State) : Host.Outcome State Fault Refusal :=
  complete s { s with host := { s.host with nonce := none } }

/-- JOB_DONE. -/
def execJobDone (s : State) : Host.Outcome State Fault Refusal := complete s (jobDone s)

/-- SEAM_GRANT. -/
def execSeamGrant (s : State) : Host.Outcome State Fault Refusal := complete s (seamGrant s)

/-- AWL_UNIT_DONE. -/
def execAwlUnitDone (ok : Bool) (awlUs : Nat) (s : State) : Host.Outcome State Fault Refusal :=
  complete s (awlDone ok awlUs s)

/-- FLASH_OP_DONE; `markOk` says whether a failed journal position could be marked torn (R653). -/
def execFlashOpDone (r : FlashRes) (markOk : Bool) (s : State) : Host.Outcome State Fault Refusal :=
  complete s (flashOpDone r markOk s)

/-- HOST_FRAME_BAD: a transaction by its MOSI bytes, which no other command is (R148, R153). -/
def execHostFrameBad (mosi : List Byte) (s : State) : Host.Outcome State Fault Refusal :=
  complete s (hostTransaction mosi s)

/-- RELAY_REQ: one frame of a relayed request, served here with its last chunk (R424). -/
def execRelayReq (h : ReinHdr) (chunk : Byte) (last : Bool) (bytes : List Byte) (s : State) :
    Host.Outcome State Fault Refusal :=
  complete s <|
    let s := relayForward 7 h chunk last bytes (reinBegin s)
    if reinForUs s h && reinFits 7 (bytes.length + 2) then
      let x := relayPart s.rein.relayReqs h.src chunk last bytes
      let s := modRein (fun r => { r with relayReqs := x.1 }) s
      match x.2 with
      | some frame => relayServe h.src frame s
      | none => s
    else s

/-- RELAY_RSP: one frame of a relayed answer, taken with its last chunk (R425). -/
def execRelayRsp (h : ReinHdr) (chunk : Byte) (last : Bool) (bytes : List Byte) (s : State) :
    Host.Outcome State Fault Refusal :=
  complete s <|
    let s := relayForward 8 h chunk last bytes (reinBegin s)
    if reinForUs s h && reinFits 8 (bytes.length + 2) then
      let x := relayPart s.rein.relayRsps h.src chunk last bytes
      let s := modRein (fun r => { r with relayRsps := x.1 }) s
      match x.2 with
      | some answer => relayAnswer h.src answer s
      | none => s
    else s

/-- RELAY_TIMEOUT. -/
def execRelayTimeout (s : State) : Host.Outcome State Fault Refusal := complete s (relayTimeout s)

end Sys2Proof.Machine
end

