-- ==== Sys2Proof/Machine/Dispatch.lean ====
section
/-! DEFINITION. One arm per command of the opcode table, each one call of its meaning. -/

namespace Sys2Proof.Machine

def exec (i : Instr) (s : State) : Host.Outcome State Fault Refusal :=
  match i with
  | .powerOnReset c => Sys2Proof.Machine.execPowerOnReset c s
  | .rstNAssert lowNs => Sys2Proof.Machine.execRstNAssert lowNs s
  | .bootStart env => Sys2Proof.Machine.execBootStart env s
  | .patternFetchDone rootOk patOk => Sys2Proof.Machine.execPatternFetchDone rootOk patOk s
  | .signatureVerified => Sys2Proof.Machine.execSignatureVerified s
  | .grainSelftestDone fails pat => Sys2Proof.Machine.execGrainSelftestDone fails pat s
  | .groupUnpowered g vinMv => Sys2Proof.Machine.execGroupUnpowered g vinMv s
  | .groupPowered g vinMv => Sys2Proof.Machine.execGroupPowered g vinMv s
  | .vddioLevelSample mv => Sys2Proof.Machine.execVddioLevelSample mv s
  | .vddioUv => Sys2Proof.Machine.execVddioUv s
  | .vcoreUv meas lasted => Sys2Proof.Machine.execVcoreUv meas lasted s
  | .refoscStop => Sys2Proof.Machine.execRefoscStop s
  | .vcoreLoopEval floor meas slack vdd18Mv => Sys2Proof.Machine.execVcoreLoopEval floor meas slack vdd18Mv s
  | .vcoreStepUp slack vdd18Mv => Sys2Proof.Machine.execVcoreStepUp slack vdd18Mv s
  | .vcctlWrite who v => Sys2Proof.Machine.execVcctlWrite who v s
  | .registerWrite who addr v => Sys2Proof.Machine.execRegisterWrite who addr v s
  | .hostRead n => Sys2Proof.Machine.execHostRead n s
  | .ident seq => Sys2Proof.Machine.execIdent seq s
  | .regRead seq addr count => Sys2Proof.Machine.execRegRead seq addr count s
  | .regWrite seq addr vals => Sys2Proof.Machine.execRegWrite seq addr vals s
  | .regModify seq addr mask v => Sys2Proof.Machine.execRegModify seq addr mask v s
  | .summary seq tempCrown tempRoot => Sys2Proof.Machine.execSummary seq tempCrown tempRoot s
  | .ringRead seq index count => Sys2Proof.Machine.execRingRead seq index count s
  | .journalRead seq index count => Sys2Proof.Machine.execJournalRead seq index count s
  | .flashRead seq addr len => Sys2Proof.Machine.execFlashRead seq addr len s
  | .flashWrite seq addr data => Sys2Proof.Machine.execFlashWrite seq addr data s
  | .flashErase seq addr => Sys2Proof.Machine.execFlashErase seq addr s
  | .hwBurn seq row source pulse flags mask vppMv tempC => Sys2Proof.Machine.execHwBurn seq row source pulse flags mask vppMv tempC s
  | .hwLock seq wregions rregions => Sys2Proof.Machine.execHwLock seq wregions rregions s
  | .hwEvalLock seq key sig => Sys2Proof.Machine.execHwEvalLock seq key sig s
  | .nonceGet seq => Sys2Proof.Machine.execNonceGet seq s
  | .signed seq inner key sig payload => Sys2Proof.Machine.execSigned seq inner key sig payload s
  | .keyProvision seq key sig item value => Sys2Proof.Machine.execKeyProvision seq key sig item value s
  | .keyReprovision seq key sig confirm => Sys2Proof.Machine.execKeyReprovision seq key sig confirm s
  | .patternKeySet seq key sig eph ct tag => Sys2Proof.Machine.execPatternKeySet seq key sig eph ct tag s
  | .graftOpen seq manifest start r => Sys2Proof.Machine.execGraftOpen seq manifest start r s
  | .graftPiece seq index crc data r => Sys2Proof.Machine.execGraftPiece seq index crc data r s
  | .graftState seq => Sys2Proof.Machine.execGraftState seq s
  | .graftVerify seq r => Sys2Proof.Machine.execGraftVerify seq r s
  | .graftDiscard seq r => Sys2Proof.Machine.execGraftDiscard seq r s
  | .reinRelay seq dest frame => Sys2Proof.Machine.execReinRelay seq dest frame s
  | .reset seq magic => Sys2Proof.Machine.execReset seq magic s
  | .resetTimeout => Sys2Proof.Machine.execResetTimeout s
  | .nonceExpire => Sys2Proof.Machine.execNonceExpire s
  | .jobDone => Sys2Proof.Machine.execJobDone s
  | .flashOpDone r markOk => Sys2Proof.Machine.execFlashOpDone r markOk s
  | .seamClaim who alg release => Sys2Proof.Machine.execSeamClaim who alg release s
  | .seamRelease who => Sys2Proof.Machine.execSeamRelease who s
  | .seamGrant => Sys2Proof.Machine.execSeamGrant s
  | .seamLeaseRevoked => Sys2Proof.Machine.execSeamLeaseRevoked s
  | .seamDataWrite who width v => Sys2Proof.Machine.execSeamDataWrite who width v s
  | .seamFoldWrite who width v => Sys2Proof.Machine.execSeamFoldWrite who width v s
  | .seamCompare who expect => Sys2Proof.Machine.execSeamCompare who expect s
  | .tick gap => Sys2Proof.Machine.execTick gap s
  | .rootHeartbeatSend => Sys2Proof.Machine.execRootHeartbeatSend s
  | .heartbeat fromRoot missed => Sys2Proof.Machine.execHeartbeat fromRoot missed s
  | .ack atCrown => Sys2Proof.Machine.execAck atCrown s
  | .strapFrameBad atCrown line sent => Sys2Proof.Machine.execStrapFrameBad atCrown line sent s
  | .strapRetransmit byCrown => Sys2Proof.Machine.execStrapRetransmit byCrown s
  | .trip p => Sys2Proof.Machine.execTrip p s
  | .alarm => Sys2Proof.Machine.execAlarm s
  | .resync f => Sys2Proof.Machine.execResync f s
  | .ccEvent p => Sys2Proof.Machine.execCcEvent p s
  | .pdRx p => Sys2Proof.Machine.execPdRx p s
  | .pdTx p own => Sys2Proof.Machine.execPdTx p own s
  | .portCmd p op => Sys2Proof.Machine.execPortCmd p op s
  | .portRsp p => Sys2Proof.Machine.execPortRsp p s
  | .fallbackSet p off => Sys2Proof.Machine.execFallbackSet p off s
  | .params => Sys2Proof.Machine.execParams s
  | .load offset => Sys2Proof.Machine.execLoad offset s
  | .metroFrame ports => Sys2Proof.Machine.execMetroFrame ports s
  | .stats laneRate => Sys2Proof.Machine.execStats laneRate s
  | .rootStrapLoss => Sys2Proof.Machine.execRootStrapLoss s
  | .crownStrapLoss byHeartbeat => Sys2Proof.Machine.execCrownStrapLoss byHeartbeat s
  | .crownResetWireAssert => Sys2Proof.Machine.execCrownResetWireAssert s
  | .crownResetWireRelease => Sys2Proof.Machine.execCrownResetWireRelease s
  | .holdExpire p => Sys2Proof.Machine.execHoldExpire p s
  | .ccDebounceExpire p => Sys2Proof.Machine.execCcDebounceExpire p s
  | .pdDebounceExpire p => Sys2Proof.Machine.execPdDebounceExpire p s
  | .debounceExtended p timer => Sys2Proof.Machine.execDebounceExtended p timer s
  | .drpToggle p => Sys2Proof.Machine.execDrpToggle p s
  | .tryTimerExpire p t => Sys2Proof.Machine.execTryTimerExpire p t s
  | .vbusDisconnect p => Sys2Proof.Machine.execVbusDisconnect p s
  | .vconnOcTrip p => Sys2Proof.Machine.execVconnOcTrip p s
  | .ccOvpTrip p line => Sys2Proof.Machine.execCcOvpTrip p line s
  | .errorRecoveryEnd p ccLow => Sys2Proof.Machine.execErrorRecoveryEnd p ccLow s
  | .ccConfigWrite who p reg v => Sys2Proof.Machine.execCcConfigWrite who p reg v s
  | .bmcPacketRx p pkt => Sys2Proof.Machine.execBmcPacketRx p pkt s
  | .floodSet p high inPacket => Sys2Proof.Machine.execFloodSet p high inPacket s
  | .floodClear p inPacket => Sys2Proof.Machine.execFloodClear p inPacket s
  | .hushRequest p w => Sys2Proof.Machine.execHushRequest p w s
  | .hushRefused p cause => Sys2Proof.Machine.execHushRefused p cause s
  | .hushWindowOpen p => Sys2Proof.Machine.execHushWindowOpen p s
  | .hushWindowEnd p => Sys2Proof.Machine.execHushWindowEnd p s
  | .hardResetSignal p => Sys2Proof.Machine.execHardResetSignal p s
  | .srcTransitionExpire p => Sys2Proof.Machine.execSrcTransitionExpire p s
  | .pdTransitionFail p => Sys2Proof.Machine.execPdTransitionFail p s
  | .ppsTimeout p => Sys2Proof.Machine.execPpsTimeout p s
  | .eprKeepaliveTimeout p => Sys2Proof.Machine.execEprKeepaliveTimeout p s
  | .senderResponseTimeout p => Sys2Proof.Machine.execSenderResponseTimeout p s
  | .goodcrcTimeout p => Sys2Proof.Machine.execGoodcrcTimeout p s
  | .swapTimeout p => Sys2Proof.Machine.execSwapTimeout p s
  | .vconnSourceOnTimeout p => Sys2Proof.Machine.execVconnSourceOnTimeout p s
  | .authWaitExpire p => Sys2Proof.Machine.execAuthWaitExpire p s
  | .discoverIdentityTimer p => Sys2Proof.Machine.execDiscoverIdentityTimer p s
  | .sinkTxExpire p => Sys2Proof.Machine.execSinkTxExpire p s
  | .chunkTimeout p => Sys2Proof.Machine.execChunkTimeout p s
  | .sourceCapTimer p t => Sys2Proof.Machine.execSourceCapTimer p t s
  | .backfeedEnd p detach => Sys2Proof.Machine.execBackfeedEnd p detach s
  | .inrushSlewEnd p => Sys2Proof.Machine.execInrushSlewEnd p s
  | .inrushFail p vbusMv => Sys2Proof.Machine.execInrushFail p vbusMv s
  | .gateFault p gateB mv => Sys2Proof.Machine.execGateFault p gateB mv s
  | .fastTrip p kind measured => Sys2Proof.Machine.execFastTrip p kind measured s
  | .unlatch who p => Sys2Proof.Machine.execUnlatch who p s
  | .forceOff who p on => Sys2Proof.Machine.execForceOff who p on s
  | .dischargeEnd p vbusMv => Sys2Proof.Machine.execDischargeEnd p vbusMv s
  | .rearm who g => Sys2Proof.Machine.execRearm who g s
  | .inputDroop p vinMv droopUs => Sys2Proof.Machine.execInputDroop p vinMv droopUs s
  | .droopRecover p => Sys2Proof.Machine.execDroopRecover p s
  | .backfeedGcutClose g => Sys2Proof.Machine.execBackfeedGcutClose g s
  | .complianceEnter p => Sys2Proof.Machine.execComplianceEnter p s
  | .compliancePersist p => Sys2Proof.Machine.execCompliancePersist p s
  | .complianceExit p => Sys2Proof.Machine.execComplianceExit p s
  | .cmpLatch n inputUv => Sys2Proof.Machine.execCmpLatch n inputUv s
  | .blankEnd n inputUv => Sys2Proof.Machine.execBlankEnd n inputUv s
  | .cmpSelftest who test cmp => Sys2Proof.Machine.execCmpSelftest who test cmp s
  | .cmpSelftestDone sample exchanged => Sys2Proof.Machine.execCmpSelftestDone sample exchanged s
  | .pgRun who n => Sys2Proof.Machine.execPgRun who n s
  | .pgStop who n => Sys2Proof.Machine.execPgStop who n s
  | .pgPeriodStart n => Sys2Proof.Machine.execPgPeriodStart n s
  | .pgWidthEnd n => Sys2Proof.Machine.execPgWidthEnd n s
  | .captureRead seq n second => Sys2Proof.Machine.execCaptureRead seq n second s
  | .metroReading p r => Sys2Proof.Machine.execMetroReading p r s
  | .ppsClFloor p => Sys2Proof.Machine.execPpsClFloor p s
  | .refCheck dev => Sys2Proof.Machine.execRefCheck dev s
  | .groupEvent own h code data => Sys2Proof.Machine.execGroupEvent own h code data s
  | .enum h id calGen participant => Sys2Proof.Machine.execEnum h id calGen participant s
  | .reinEnumStart => Sys2Proof.Machine.execReinEnumStart s
  | .enumResend => Sys2Proof.Machine.execEnumResend s
  | .reinFrameBad line => Sys2Proof.Machine.execReinFrameBad line s
  | .reinSilence => Sys2Proof.Machine.execReinSilence s
  | .reinLoopbackDone ok devices => Sys2Proof.Machine.execReinLoopbackDone ok devices s
  | .brk head cause before position => Sys2Proof.Machine.execBrk head cause before position s
  | .mark k sampleUv => Sys2Proof.Machine.execMark k sampleUv s
  | .veto addr => Sys2Proof.Machine.execVeto addr s
  | .announce h gen src segment => Sys2Proof.Machine.execAnnounce h gen src segment s
  | .sweepData h gen reading => Sys2Proof.Machine.execSweepData h gen reading s
  | .commit h gen mask readings => Sys2Proof.Machine.execCommit h gen mask readings s
  | .abort h gen reason => Sys2Proof.Machine.execAbort h gen reason s
  | .sweepTimer => Sys2Proof.Machine.execSweepTimer s
  | .sweepNow who => Sys2Proof.Machine.execSweepNow who s
  | .sweepMarkSend sampleUv => Sys2Proof.Machine.execSweepMarkSend sampleUv s
  | .sweepAdopt => Sys2Proof.Machine.execSweepAdopt s
  | .relayReq h chunk last bytes => Sys2Proof.Machine.execRelayReq h chunk last bytes s
  | .relayRsp h chunk last bytes => Sys2Proof.Machine.execRelayRsp h chunk last bytes s
  | .relayTimeout => Sys2Proof.Machine.execRelayTimeout s
  | .sapStart => Sys2Proof.Machine.execSapStart s
  | .sapStop => Sys2Proof.Machine.execSapStop s
  | .mpptSample vocMv => Sys2Proof.Machine.execMpptSample vocMv s
  | .chargeEnd rsvMv => Sys2Proof.Machine.execChargeEnd rsvMv s
  | .chargeRestart rsvMv => Sys2Proof.Machine.execChargeRestart rsvMv s
  | .sapChgTemp tenthsC => Sys2Proof.Machine.execSapChgTemp tenthsC s
  | .chgTempResume => Sys2Proof.Machine.execChgTempResume s
  | .gaugeSample g => Sys2Proof.Machine.execGaugeSample g s
  | .sapClockCarry => Sys2Proof.Machine.execSapClockCarry s
  | .thresholdWrite who which v => Sys2Proof.Machine.execThresholdWrite who which v s
  | .wakeBall => Sys2Proof.Machine.execWakeBall s
  | .wakeTimer => Sys2Proof.Machine.execWakeTimer s
  | .wakeHoldEnd => Sys2Proof.Machine.execWakeHoldEnd s
  | .reserveLost rsvMv => Sys2Proof.Machine.execReserveLost rsvMv s
  | .sapBridgeZeroize bridgeMs => Sys2Proof.Machine.execSapBridgeZeroize bridgeMs s
  | .reserveReturned bridgeMs => Sys2Proof.Machine.execReserveReturned bridgeMs s
  | .awlUnitStart => Sys2Proof.Machine.execAwlUnitStart s
  | .awlUnitDone ok awlUs => Sys2Proof.Machine.execAwlUnitDone ok awlUs s
  | .recordReadDone => Sys2Proof.Machine.execRecordReadDone s
  | .recordWriteDone => Sys2Proof.Machine.execRecordWriteDone s
  | .wcSatZeroize who => Sys2Proof.Machine.execWcSatZeroize who s
  | .awlRngFail test => Sys2Proof.Machine.execAwlRngFail test s
  | .awlwaitRead seq => Sys2Proof.Machine.execAwlwaitRead seq s
  | .barkSample b => Sys2Proof.Machine.execBarkSample b s
  | .barkGlitch sensor => Sys2Proof.Machine.execBarkGlitch sensor s
  | .barkActiveClear sensor => Sys2Proof.Machine.execBarkActiveClear sensor s
  | .bkraiseWrite who v => Sys2Proof.Machine.execBkraiseWrite who v s
  | .satchelRead who line found => Sys2Proof.Machine.execSatchelRead who line found s
  | .satchelPartialWrite who addr bytes found => Sys2Proof.Machine.execSatchelPartialWrite who addr bytes found s
  | .satchelLineWrite who line bytes => Sys2Proof.Machine.execSatchelLineWrite who line bytes s
  | .satwinWrite who k isB v => Sys2Proof.Machine.execSatwinWrite who k isB v s
  | .tkcommit who next => Sys2Proof.Machine.execTkcommit who next s
  | .tackCommit => Sys2Proof.Machine.execTackCommit s
  | .epochSatClear who => Sys2Proof.Machine.execEpochSatClear who s
  | .wdAArmed who v => Sys2Proof.Machine.execWdAArmed who v s
  | .wdaService who v => Sys2Proof.Machine.execWdaService who v s
  | .wdaWindowOpen => Sys2Proof.Machine.execWdaWindowOpen s
  | .wdAExpired => Sys2Proof.Machine.execWdAExpired s
  | .wdbWindowOpen => Sys2Proof.Machine.execWdbWindowOpen s
  | .wdbService => Sys2Proof.Machine.execWdbService s
  | .wdBExpired early => Sys2Proof.Machine.execWdBExpired early s
  | .wdbStormClear => Sys2Proof.Machine.execWdbStormClear s
  | .wdClockMonitorTrip isB => Sys2Proof.Machine.execWdClockMonitorTrip isB s
  | .wdMonLost isB => Sys2Proof.Machine.execWdMonLost isB s
  | .wdClockReturn isB => Sys2Proof.Machine.execWdClockReturn isB s
  | .supervisorTick tokens => Sys2Proof.Machine.execSupervisorTick tokens s
  | .standReloaded k badLine => Sys2Proof.Machine.execStandReloaded k badLine s
  | .confirm who v => Sys2Proof.Machine.execConfirm who v s
  | .graftCopyBlock r => Sys2Proof.Machine.execGraftCopyBlock r s
  | .graftTrialTimeout => Sys2Proof.Machine.execGraftTrialTimeout s
  | .hwBurnStart tempC vppMv => Sys2Proof.Machine.execHwBurnStart tempC vppMv s
  | .hwCellPulse outcome vppMv => Sys2Proof.Machine.execHwCellPulse outcome vppMv s
  | .hwShadowApply who v => Sys2Proof.Machine.execHwShadowApply who v s
  | .hwShadowRemove who v => Sys2Proof.Machine.execHwShadowRemove who v s
  | .journalSearch r => Sys2Proof.Machine.execJournalSearch r s
  | .journalDrop => Sys2Proof.Machine.execJournalDrop s
  | .ringTimeCarry => Sys2Proof.Machine.execRingTimeCarry s
  | .uptimeCarry => Sys2Proof.Machine.execUptimeCarry s
  | .hostFrameBad mosi => Sys2Proof.Machine.execHostFrameBad mosi s
  | .ccRecognitionChange p cc1 cc2 => Sys2Proof.Machine.execCcRecognitionChange p cc1 cc2 s
  | .hardResetTimer p t => Sys2Proof.Machine.execHardResetTimer p t s

end Sys2Proof.Machine
end

