-- ==== Sys2Proof/Machine/Step.lean ====
section
/-! DEFINITION. The block's step: the command at the front of the queue is taken out and executed. -/

namespace Sys2Proof.Machine

/-- Take the front command and run it on the state with the queue's rest; with nothing waiting the block idles (log
entry 3). (Log entries 3: DESIGN CHOICE, safe; 155: DESIGN CHOICE, unsafe.) -/
def step (s : State) : Host.Outcome State Fault Refusal :=
  match s.pending with
  | [] => .next s
  | c :: t => exec c { s with pending := t }

/-- The state with the command that a word spells put at the front of its queue; no row of the table gives bits, so no
word spells one and the state stays as it is. -/
def State.withFetchWord (s : State) (nbits w : Nat) : State :=
  match Sys2Proof.decodeTableWord nbits w with
  | some c => { s with pending := c :: s.pending }
  | none => s

end Sys2Proof.Machine
end

