-- ==== Sys2Proof/Machine/Balls.lean ====
section
/-! DEFINITION. The levels at the output balls (Table 2.8, Table 3.6, R40): what each ball group shows of the state. Every
function reads the state; none changes it. -/

namespace Sys2Proof.Machine

/-- What an output ball shows. -/
inductive Level where
  | low | high | threeState | driven
  deriving DecidableEq, Repr

/-- The first three columns of Table 2.8 for the balls of Crown: a reset hold, a Crown reset with the boot that follows it,
or neither. The integrity hold is a reset hold; Limp is none. -/
inductive BallHold where
  | resetHold | crownReset | none
  deriving DecidableEq, Repr

def ballHold (s : State) : BallHold :=
  match s.boot.phase with
  | .resetHold | .integrityHold => .resetHold
  | .ready | .limp => .none
  | _ => if s.boot.cold then .resetHold else .crownReset

/-- Pn_GA and Pn_GB drive their transistors on; in a pulsed inrush they follow PGn (R320). -/
def gateBall (s : State) (p : Fin 8) : Bool := gatesDriven (portCinch s p) s.pgs[p] && portPowered s p

/-- GCUT_x drives its switch on (R39, R335). -/
def gcutBall (s : State) (g : Fin 2) : Bool := !gcutOff s g

/-- Pn_DSCH conducts (R332). -/
def dschBall (s : State) (p : Fin 8) : Bool := dschOn s p

/-- What Pn_CC1 and Pn_CC2 present; open in an unpowered group and in a reset hold. -/
def ccBall (s : State) (p : Fin 8) : CcTerm := if portPowered s p then (portCc s p).term else .opened

/-- The current of Pn_VSET, in its code; zero and open are one here. -/
def vsetBall (s : State) (p : Fin 8) : Int := if portPowered s p then (portCinch s p).vset else 0

/-- Pn_EW. -/
def ewBall (s : State) (p : Fin 8) : Level := if portPowered s p && (portCinch s p).ew then .high else .low

/-- EWARN (R341). -/
def ewarnBall (s : State) : Level := if ewarn s then .high else .low

/-- SPI_MISO (R146): driven only in a transaction, and by an open port alone. -/
def misoBall (s : State) (csLow : Bool) : Level := if csLow && isOpen s then .driven else .threeState

/-- IRQ_N, released or pulled low (R175); released in a reset hold, the integrity hold among them. -/
def irqBall (s : State) : Level :=
  if isOpen s && irqAsserted s && decide (ballHold s = .none) then .low else .threeState

/-- RSTOUT_N: high at ready and in Limp (Table 3.6). -/
def rstOutBall (s : State) : Level :=
  match s.boot.phase with
  | .ready | .limp => .high
  | _ => .low

/-- QSPI_CS_N: high but while the flash port has a transfer. -/
def qspiCsBall (s : State) : Level :=
  match s.boot.phase with
  | .resetHold | .crownReset => .high
  | _ => if s.flash.current.isSome then .low else .high

/-- QSPI_CLK and QSPI_IO0 to QSPI_IO3. -/
def qspiBall (s : State) : Level :=
  match s.boot.phase with
  | .resetHold | .crownReset => .threeState
  | _ => if s.flash.current.isSome then .driven else .threeState

/-- REIN_OUT_D and REIN_OUT_S: low through a reset and its boot, until the ring may run. -/
def reinOutBall (s : State) : Level :=
  if !(s.power.groupUp[0] || s.power.groupUp[1]) then .threeState
  else if ballHold s = .none then .driven else .low

/-- TAP_TDO: three-state in a reset, and for good after the evaluation lock. -/
def tdoBall (s : State) : Level := if ballHold s = .none && !evalFuse s then .driven else .threeState

/-- Where a port's balls stand in a reset hold with its group powered (Table 2.8). -/
def portHeld (s : State) (p : Fin 8) : Prop :=
  gateBall s p = false ∧ dschBall s p = true ∧ ccBall s p = .opened ∧ vsetBall s p = 0 ∧ ewBall s p = .low

/-- Where a port's balls stand with its group unpowered (Table 2.8). -/
def portDark (s : State) (p : Fin 8) : Prop :=
  gateBall s p = false ∧ dschBall s p = false ∧ ccBall s p = .opened ∧ vsetBall s p = 0 ∧ ewBall s p = .low

end Sys2Proof.Machine
end

