-- ==== Sys2Proof/Safety.lean ====
section
/-! DEFINITION. What a safe step is, and the words that claims about a step use: which parts of the state it keeps, and what
holds in every state that a step leaves. -/

namespace Sys2Proof.Machine

/-- A part of the machine, one for each field of `State` that a register, buffer or mode of the spec lives in. -/
inductive Part where
  | pending | power | boot | heart | grain | pattern | host | seam | strap | ports | shown | groups | cmps | cmpTest | pgs | metro
  | rein | sap | pocket | awl | bark | satchel | tack | wda | wdb | graft | flash | time | ring | policy
  deriving DecidableEq, Repr

/-- Part `p` is the same in both states. -/
def samePart (a b : State) : Part → Prop
  | .pending => b.pending = a.pending
  | .power => b.power = a.power
  | .boot => b.boot = a.boot
  | .heart => b.heart = a.heart
  | .grain => b.grain = a.grain
  | .pattern => b.pattern = a.pattern
  | .host => b.host = a.host
  | .seam => b.seam = a.seam
  | .strap => b.strap = a.strap
  | .ports => b.ports = a.ports
  | .shown => b.shown = a.shown
  | .groups => b.groups = a.groups
  | .cmps => b.cmps = a.cmps
  | .cmpTest => b.cmpTest = a.cmpTest
  | .pgs => b.pgs = a.pgs
  | .metro => b.metro = a.metro
  | .rein => b.rein = a.rein
  | .sap => b.sap = a.sap
  | .pocket => b.pocket = a.pocket
  | .awl => b.awl = a.awl
  | .bark => b.bark = a.bark
  | .satchel => b.satchel = a.satchel
  | .tack => b.tack = a.tack
  | .wda => b.wda = a.wda
  | .wdb => b.wdb = a.wdb
  | .graft => b.graft = a.graft
  | .flash => b.flash = a.flash
  | .time => b.time = a.time
  | .ring => b.ring = a.ring
  | .policy => b.policy = a.policy

/-- Every part outside a list is the same in both states. -/
def keepsBut (changed : List Part) (a b : State) : Prop := ∀ p : Part, p ∉ changed → samePart a b p

/-- The flash, the Satchel and the Heartwood cells are in canonical form. -/
def canonical (s : State) : Prop :=
  mwf erased s.flash.mem = true ∧ mwf 0 s.satchel.mem = true ∧ mwf {} s.heart.cells = true

/-- What holds after every step: no event waits, and no active alarm of DEV_ALARMS is missing from its latch while the host
port is open. -/
def settled (s : State) : Prop :=
  s.raised = [] ∧ (isOpen s = true → devAlarms s &&& ~~~s.host.devAlarmsLatched = 0)

/-- A port's LAST_EVENT with another code. -/
def withLast (c : Half) (q : Port) : Port := { q with pd := { q.pd with lastEvent := c } }

/-- From `a` to `b` only the listed parts change, and what the end of any step may touch: IRQSTAT and the latch of
DEV_ALARMS, LAST_EVENT of the ports, the Ring, and the flash port's queue. No byte of the flash changes unless the flash is
listed. -/
def changesOnly (changed : List Part) (a b : State) : Prop :=
  keepsBut (changed ++ [.host, .ports, .ring, .flash]) a b
    ∧ (Part.host ∉ changed → ∃ k l, b.host = { a.host with irqStat := k, devAlarmsLatched := l })
    ∧ (Part.ports ∉ changed → ∀ p : Fin 8, ∃ c, b.ports[p] = withLast c a.ports[p])
    ∧ (Part.flash ∉ changed → b.flash.mem = a.flash.mem ∧ b.flash.ok = a.flash.ok)

/-- The frame of a command: it completes from every state, and changes only the listed parts. -/
def confined (i : Instr) (changed : List Part) : Prop :=
  ∀ s : State, ∃ t, exec i s = .next t ∧ changesOnly changed s t

/-- The frame of a command in the states of a kind. -/
def confinedIf (may : State → Prop) (i : Instr) (changed : List Part) : Prop :=
  ∀ s : State, may s → ∃ t, exec i s = .next t ∧ changesOnly changed s t

/-- What the frames that waited for room at an end of the Strap may change when they go out with another one. -/
def strapParts : List Part :=
  [.power, .boot, .pattern, .host, .strap, .ports, .shown, .groups, .cmps, .pgs, .sap, .pocket, .awl, .wda, .wdb, .graft,
    .flash, .policy]

/-- Every port but `p` is as it was, apart from LAST_EVENT. -/
def otherPortsKept (p : Fin 8) (a b : State) : Prop :=
  ∀ k : Fin 8, k ≠ p → b.ports[k] = withLast b.ports[k].pd.lastEvent a.ports[k]

/-- The interrupts of the changes from `a` to `b` stand in IRQSTAT (Table 6.12). -/
def irqsStand (a b : State) : Prop := noticeBits a b &&& ~~~b.host.irqStat = 0

/-- No Heartwood cell that reads 1 in `a` reads 0 in `b`. -/
def cellsOnlyRise (a b : State) : Prop :=
  ∀ row : Nat, (hwRow a.heart.cells row).data &&& ~~~(hwRow b.heart.cells row).data = 0
    ∧ (hwRow a.heart.cells row).parity &&& ~~~(hwRow b.heart.cells row).parity = 0
    ∧ ((hwRow a.heart.cells row).closed = true → (hwRow b.heart.cells row).closed = true)

/-- The Tack allows a requester's write of the register at a host address. -/
def maySet (who : Requester) (addr : Nat) (s : State) : Prop := (allowed who (regAccess true addr) s).2 = true

/-- The step from `a` to `b` wrote one entry into the Ring, with the timestamp of `a`. -/
def logged (e : Event) (a b : State) : Prop := b.ring = ringPut e a.time.stamp a.ring

/-- No frame waits for room at either end. -/
def noneHeld (s : State) : Prop := s.strap.crownTx.held = [] ∧ s.strap.rootTx.held = []

/-- A frame as it stands on the lanes. -/
def onLane (toCrown : Bool) (hdr : Half) (payload : List Byte) : LaneFrame :=
  { toCrown, hdr, chars := some (frameChars hdr payload) }

/-- The frame is one that its sender has to send, goes out at once, and is the one that its receiver accepts next
(R202). -/
def frameGoes (b : StrapBody) (s : State) : Prop :=
  frameMay b s = true ∧ noneHeld s ∧ (strapEnd (towardCrown b) s).unacked.length < 8
    ∧ (strapEnd (towardCrown b) s).nextSeq = (strapEnd (!towardCrown b) s).rxNext
    ∧ (towardCrown b = true → crownUp s = true)

/-- A message on SOP, neither flooded nor faulty in its form, with the policy's answers to it. -/
def goodRx (m : PdMsg) (pol : PdPolicy) : RxPacket := { flooded := false, sop := .sop, flaw := none, msg := m, pol := pol }

/-- `k` is the next packet that Root delivers to the stand of port `p`. -/
def rxFirst (p : Fin 8) (k : RxPacket) (s : State) : State := modPd p (fun q => { q with rxq := k :: q.rxq }) s

/-- The debounce that runs at port `p` is `timer`, its programmed time has not passed before, and nothing lengthens it
(R260). -/
def debounceEnds (p : Fin 8) (timer : DebTimer) (s : State) : Prop :=
  (portCc s p).debExtended = false
    ∧ (portCc s p).debounce.any (fun d => decide (d.timer = timer) && !debLengthened s (portCc s p) d) = true

/-! ### Host commands -/

/-- The open host port takes the correct frame of a command at once: Seam is free for its check and for its response, and
nobody waits for it (R181, R185). -/
def accepts (cmd : Nat) (seq : Byte) (p : List Byte) (s : State) : Prop :=
  isOpen s = true ∧ frameVerdict s (hostFrame cmd seq p) = 1 ∧ seamFree .host s = true ∧ s.seam.waiting = []

/-- The state in which a command that has been taken does its work: its STATUS returned, its CRC compared by Seam. -/
def taking (cmd : Nat) (seq : Byte) (p : List Byte) (s : State) : State :=
  requestTaken (hostFrame cmd seq p) (seamCheck .host (some true) (requestMiso (hostFrame cmd seq p).length s))

/-- The buffer holds a response with SEQ, and nothing is pending. -/
def answers (rsp : Byte) (payload : List Byte) (seq : Byte) (t : State) : Prop :=
  t.host.buf.rsp = rsp ∧ t.host.buf.payload = payload ∧ t.host.buf.seq = seq ∧ t.host.rspReady = true ∧ t.host.job = none

/-- The buffer holds ACCEPTED and the job is pending. -/
def pends (seq : Byte) (t : State) : Prop :=
  t.host.buf.rsp = 0x02 ∧ t.host.buf.payload = [] ∧ t.host.buf.seq = seq ∧ t.host.rspReady = true
    ∧ t.host.job.isSome = true

/-- The pending job has its completion. -/
def completed (rsp : Byte) (payload : List Byte) (t : State) : Prop :=
  t.host.job.map HostJob.result = some (some (rsp, payload))

/-- The Tack allows every access of a host command. -/
def hostMay (cmd : Nat) (seq : Byte) (accs : List HostAccess) (s : State) : Prop := (hostTack cmd seq accs s).2 = none

/-- A SIGNED command's nonce stands, and its key and signature are good (R169 to R171). -/
def signatureGood (inner : Nat) (key sig ip : List Byte) (s : State) : Prop :=
  (allZero (ownerKeyDigest s 0) && allZero (ownerKeyDigest s 1)) = false ∧ (keyStatus s key).1 = 0
    ∧ (s.host.nonce.any fun n => ecdsaVerify key (signedDigest s n inner ip) sig) = true

end Sys2Proof.Machine
end

