-- ==== Sys2Proof/Certificates/Slice0/Obligations.lean ====
section
/-! DEFINITION. The statements for the provers: what steps, resets, each family of commands and the registers do, in the
words of the rules of spec/. `OBLIGATIONS.json` gives each its tier, its basis and its citations. -/

open Sys2Proof
open Sys2Proof.Machine

/-- With command c at the front of the queue, step is exec of c on the state with the queue's rest; on an empty queue
the block idles. The queue is the model's own, as log entry 3 says. No command of the table faults or is refused:
exec answers a next state for every command and state, with the same queue. (95_what_each_step_holds.md, log entry
3) -/
def Obligations.StepRunsFront : Prop :=
  (∀ (c : Instr) (rest : List Instr) (s : State), s.pending = c :: rest → step s = exec c { s with pending := rest })
    ∧ (∀ s : State, s.pending = [] → step s = .next s)
    ∧ (∀ (c : Instr) (s : State), ∃ t, exec c s = .next t ∧ t.pending = s.pending)

/-- A power-on leaves RSTCAUSE with its POR bits alone, but for those of a Crown reset that has not booted yet (log
entry 45); RST_N low for 1.0 µs or longer adds RSTN to the causes kept and counts one boot, unless a reset whose
boot has not begun stands already; below 100 ns it is no reset. Both leave Crown's registers at their reset values
and the balls as Table 2.8 has them: a port of a powered group held with its discharge on, one of an unpowered group
with everything off, GCUT off, RSTOUT_N low and IRQ_N released. Concluded to complete, with the effect of its own:
powerOnReset, rstNAssert. (R62, R66, R67, R40, R42, Table 2.8, Table 3.4, Table 3.8) -/
def Obligations.PowerOnAndRstN : Prop :=
  (∀ (c : PorCause) (s : State), ∃ t, exec (.powerOnReset c) s = .next t
      ∧ t.boot.phase = .resetHold
      ∧ t.boot.cause = (if s.boot.phase = .crownReset then s.boot.arrived else 0)
          ||| (match c with | .vdd18 => 1 | .vin => 2 | .both => 3)
      ∧ t.boot.resetCount = {} ∧ t.power.vcctl = State.reset.power.vcctl ∧ t.power.ovrSeen = false
      ∧ t.host = {} ∧ t.tack = {} ∧ t.seam = {} ∧ t.grain = {} ∧ t.wda = {} ∧ t.wdb = {} ∧ t.graft = {} ∧ t.rein = {}
      ∧ t.strap.codeRunning = false ∧ t.heart.shadows = [] ∧ t.heart.running = none
      ∧ t.seam.holder = none
      ∧ (∀ p : Fin 8, if t.power.groupUp[groupOf p] then portHeld t p else portDark t p)
      ∧ (∀ g : Fin 2, gcutBall t g = false) ∧ rstOutBall t = .low ∧ irqBall t = .threeState ∧ reinOutBall t ≠ .driven)
    ∧ (∀ (lowNs : Nat) (s : State), 1000 ≤ lowNs → ∃ t, exec (.rstNAssert lowNs) s = .next t
      ∧ t.boot.phase = .resetHold ∧ t.boot.cause = s.boot.cause ||| 4
      ∧ t.boot.resetCount = (if crownRuns s then bump 8 s.boot.resetCount else s.boot.resetCount)
      ∧ t.power.vcctl = State.reset.power.vcctl ∧ t.power.ovrSeen = false ∧ t.host = {} ∧ t.tack = {} ∧ t.wdb = {}
      ∧ t.flash.current = none ∧ t.flash.waiting = [] ∧ t.strap.codeRunning = false
      ∧ (∀ p : Fin 8, if t.power.groupUp[groupOf p] then portHeld t p else portDark t p)
      ∧ (∀ g : Fin 2, gcutBall t g = false) ∧ rstOutBall t = .low ∧ irqBall t = .threeState)
    ∧ (∀ (lowNs : Nat) (s : State), lowNs < 100 → ∃ t, exec (.rstNAssert lowNs) s = .next t
      ∧ t.boot = s.boot ∧ t.power = s.power ∧ t.strap = s.strap)

/-- From a Crown that runs, each of these causes starts a Crown reset: RSTCAUSE keeps its bits and gains the cause's,
RESET_COUNT counts one boot, the Crown-reset wire is asserted, VCCTL and OVR_SEEN are kept and the set-point returns
to 1.10 V. A VCORE undervoltage below 2 µs resets nothing. Concluded to complete, with the effect of its own:
vddioUv, vcoreUv, wdBExpired. (R66, R67, R198, Table 3.4, Table 3.8) -/
def Obligations.CrownResetCauses : Prop :=
  (∀ s : State, crownRuns s = true → ∃ t, exec .vddioUv s = .next t
      ∧ t.boot.phase = .crownReset ∧ t.boot.cause = s.boot.cause ||| 0x800
          ∧ t.boot.resetCount = bump 8 s.boot.resetCount
      ∧ t.power.vddio = false ∧ t.power.vcctl = s.power.vcctl ∧ t.power.ovrSeen = s.power.ovrSeen
      ∧ t.power.setpoint = 0x6E ∧ t.strap.wire = true)
    ∧ (∀ (meas : Byte) (s : State), crownRuns s = true → ∃ t, exec (.vcoreUv meas true) s = .next t
      ∧ t.boot.phase = .crownReset ∧ t.boot.cause = s.boot.cause ||| 0x400
          ∧ t.boot.resetCount = bump 8 s.boot.resetCount
      ∧ t.power.vcctl = s.power.vcctl ∧ t.power.setpoint = 0x6E ∧ t.strap.wire = true)
    ∧ (∀ (meas : Byte) (s : State), ∃ t, exec (.vcoreUv meas false) s = .next t
      ∧ t.boot = s.boot ∧ t.power = { s.power with vcoreMeas := meas })
    ∧ (∀ (early : Bool) (s : State), s.wdb.running = true → crownRuns s = true →
        ∃ t, exec (.wdBExpired early) s = .next t
      ∧ t.boot.phase = .crownReset ∧ t.boot.cause = s.boot.cause ||| 0x20
          ∧ t.boot.resetCount = bump 8 s.boot.resetCount
      ∧ t.wdb.storm = s.wdb.storm + 1 ∧ t.wdb.lastCause = (if early then 2 else 1)
      ∧ t.wdb.expiries = bump 8 s.wdb.expiries ∧ t.wdb.running = false ∧ t.strap.wire = true)

/-- When a group's VIN falls while the other group runs, the group's ports are Unpowered with their balls as Table 2.8
has them, GCUT off with them, and the other group's power bit stays; when it rises, its unpowered ports leave that
state where their stand reaches them or in Limp. The VDDIO sample fixes the 3.3 V mode at 2.60 V. When the reference
oscillator stops, Root stops every generator and reports the number of attached ports that took their fallback:
those that a trip, a detach or an earlier fallback had not settled in the loss. Concluded to complete, with the
effect of its own: groupUnpowered, groupPowered, vddioLevelSample, refoscStop. (R39, R40, R56, R57, R646, Table 2.8,
Table 3.2, Table 3.7) -/
def Obligations.SupplyChanges : Prop :=
  (∀ (g : Fin 2) (mv : Nat) (s : State), s.power.groupUp[g] = true → s.power.groupUp[1 - g] = true →
      ∃ t, exec (.groupUnpowered g mv) s = .next t
      ∧ t.power.groupUp[g] = false ∧ t.power.groupUp[1 - g] = true ∧ t.power.vinMv[g] = mv ∧ gcutBall t g = false
      ∧ ∀ p : Fin 8, groupOf p = g → portDark t p ∧ (portCinch t p).gates = false ∧ (portCc t p).vconnOn = false
          ∧ ((portCc t p).state = .groupUnpowered ∨ (portCc t p).state = .outOfService))
    ∧ (∀ (g : Fin 2) (mv : Nat) (s : State), s.power.groupUp[g] = false →
      ∃ t, exec (.groupPowered g mv) s = .next t
      ∧ t.power.groupUp[g] = true ∧ t.power.vinMv[g] = mv
      ∧ ∀ p : Fin 8, groupOf p = g →
          ((s.boot.phase = .limp ∨ (isReady s = true ∧ portReach s p = true)) → (portCc t p).state ≠ .groupUnpowered)
          ∧ (s.boot.phase ≠ .limp → portReach s p = false → (portCc t p).state = (portCc s p).state))
    ∧ (∀ (mv : Nat) (s : State), ∃ t, exec (.vddioLevelSample mv) s = .next t
      ∧ t.power = { s.power with vddio := true, vddio33 := decide (2600 ≤ mv) })
    ∧ (∀ s : State, s.power.refoscRunning = true → s.strap.codeRunning = true → ∃ t, exec .refoscStop s = .next t
      ∧ t.power.refoscRunning = false
      ∧ t.power.refoscReport = some (allPorts.filter fun p => rootAttached (portCc s p)
          && !s.strap.holds[p].fellBack && !s.strap.holds[p].tripped && !s.strap.holds[p].detached).length
      ∧ ∀ n : Fin 8, t.pgs[n].run = false)

/-- At ready an evaluation takes the timing floor, the measured voltages and the override they mean. With the Strap up
at both ends, a set-point at or below the rule's value moves to that value; one above it steps down by one code when
every slack is above 5 % or when it stands above what SW_CEIL allows; otherwise, and while the Strap is lost, it
holds. No set-point passes the hard maximum of R79. A canary below 2 % raises the set-point by 4 codes (20 mV) under
the same cap; a write of VCCTL that the Tack allows is kept, raises the set-point to what SW_FLOOR asks for and
lowers it to what SW_CEIL allows. Concluded to complete, with the effect of its own: vcoreLoopEval, vcoreStepUp,
vcctlWrite. (R75, R76, R77, R79, R80, R82, R83) -/
def Obligations.CoreVoltageLoop : Prop :=
  (∀ (floor meas : Byte) (slack : List Int) (mv : Nat) (s : State), isReady s = true →
      ∃ t, exec (.vcoreLoopEval floor meas slack mv) s = .next t
      ∧ t.power.timingFloor = floor.toNat ∧ t.power.vcoreMeas = meas ∧ t.power.vcctl = s.power.vcctl
      ∧ t.power.vdd18Mv = mv ∧ t.power.setpoint ≤ vcHard t
      ∧ t.power.override = decide (swCeil s < floor.toNat)
      ∧ t.power.ovrSeen = (s.power.ovrSeen || decide (swCeil s < floor.toNat))
      ∧ (vcHeld s = true → t.power.setpoint = min s.power.setpoint (vcHard t))
      ∧ (vcHeld s = false → s.power.setpoint ≤ vcRule t → t.power.setpoint = min (vcRule t) (vcHard t))
      ∧ (vcHeld s = false → vcRule t < s.power.setpoint →
          (slack.all (fun x => decide (12 < x)) = true ∨ vcCap t < s.power.setpoint) →
          t.power.setpoint = min (s.power.setpoint - 1) (vcHard t))
      ∧ (vcHeld s = false → vcRule t < s.power.setpoint → slack.all (fun x => decide (12 < x)) = false →
          s.power.setpoint ≤ vcCap t → t.power.setpoint = min s.power.setpoint (vcHard t)))
    ∧ (∀ (slack : Int) (mv : Nat) (s : State), isReady s = true → slack < 6 →
      ∃ t, exec (.vcoreStepUp slack mv) s = .next t
      ∧ t.power.vdd18Mv = mv ∧ t.power.timingFloor = s.power.timingFloor
      ∧ t.power.setpoint = min (max s.power.setpoint (min (s.power.setpoint + 4) (vcCap s))) (vcHard t))
    ∧ (∀ (slack : Int) (mv : Nat) (s : State), 6 ≤ slack → isReady s = true →
      ∃ t, exec (.vcoreStepUp slack mv) s = .next t
      ∧ t.power.vdd18Mv = mv ∧ t.power.setpoint = min s.power.setpoint (vcHard t) ∧ t.power.vcctl = s.power.vcctl
      ∧ t.power.timingFloor = s.power.timingFloor)
    ∧ (∀ (who : Requester) (v : Word) (s : State), isReady s = true → maySet who 0x4C00 s →
      ∃ t, exec (.vcctlWrite who v) s = .next t
      ∧ t.power.vcctl = v &&& 0x00FFFF01 ∧ t.power.timingFloor = s.power.timingFloor
      ∧ t.power.override = decide (swCeil t < s.power.timingFloor)
      ∧ t.power.setpoint = (if vcHeld s then s.power.setpoint
          else min (min (max s.power.setpoint (vcRule t)) (vcCap t)) (vcHard t)))

/-- Where the boot may begin, a failed start check enters the integrity hold with FAIL_KIND and FAIL_ROW and every gate
off; a passed one records INTEGRITY_OK and EVAL_LOCK as this boot takes it, starts WD-B in boot mode and goes on to
the fetch, unless four WD-B expiries in a row, outside a trial boot, lead to Limp. A flash whose write-in-progress
bit reads 1 after its Reset is polled first: the fetch waits until the poll reads 0. Without a running reference
oscillator, or with both groups down, the boot does not begin. Concluded to complete, with the effect of its own:
bootStart, patternFetchDone, flashOpDone. (R55, R72, R90, R115, R565, R570, R627, R645, Table 3.5, Table 4.3) -/
def Obligations.BootStartCheck : Prop :=
  (∀ (env : BootEnv) (s : State), bootMay s = true → startCheck s.heart.cells env.lateRow ≠ none →
      ∃ t, exec (.bootStart env) s = .next t
      ∧ t.boot.phase = .integrityHold
          ∧ startCheck s.heart.cells env.lateRow = some (t.heart.failKind, t.heart.failRow)
      ∧ t.heart.integrityOk = false ∧ t.boot.t0 = s.time.now ∧ t.strap.codeRunning = false
      ∧ (∀ p : Fin 8, (portCinch t p).gates = false) ∧ (∀ g : Fin 2, t.groups[g].gcutOpen = true))
    ∧ (∀ (env : BootEnv) (s : State), bootMay s = true → startCheck s.heart.cells env.lateRow = none →
      (env.flashBusy = true ∨ s.wdb.storm < 4) →
      ∃ t, exec (.bootStart env) s = .next t
      ∧ t.boot.phase = .fetch ∧ t.flash.wip = env.flashBusy ∧ t.heart.integrityOk = true ∧ t.heart.failKind = 0
          ∧ t.boot.evaluated = evalFuse s
      ∧ t.boot.t0 = s.time.now ∧ t.wdb.running = true ∧ t.wdb.bootMode = true ∧ t.wdb.inWindow = false)
    ∧ (∀ (env : BootEnv) (s : State), bootMay s = true → startCheck s.heart.cells env.lateRow = none →
      env.flashBusy = false → 4 ≤ s.wdb.storm →
      ∃ t, exec (.bootStart env) s = .next t
      ∧ t.wdb.storm = 0 ∧ (t.graft.trialNow = true → t.boot.phase = .fetch)
      ∧ (t.graft.trialNow = false → t.boot.phase = .limp ∧ t.boot.limp = true ∧ t.boot.bootSlot = 3
          ∧ t.pattern.reasonFirst = 0x10 ∧ t.strap.codeRunning = false))
    ∧ (∀ (rootOk patOk : Bool) (s : State), s.flash.wip = true →
        ∃ t, exec (.patternFetchDone rootOk patOk) s = .next t
      ∧ t.boot.phase = s.boot.phase ∧ t.boot.slot = s.boot.slot ∧ t.flash.wip = true)
    ∧ (∀ (r : FlashRes) (markOk : Bool) (s : State), s.flash.wip = true → s.wdb.storm < 4 →
      ∃ t, exec (.flashOpDone r markOk) s = .next t
      ∧ t.flash.wip = false ∧ t.boot.phase = s.boot.phase ∧ (s.boot.phase = .fetch → t.flash.ok = decide (r = .ok)))
    ∧ (∀ (env : BootEnv) (s : State), bootMay s = false → ∃ t, exec (.bootStart env) s = .next t
      ∧ t.boot = s.boot ∧ t.power = s.power)

/-- A fetched slot goes on to the signature only when its manifest, its Root code image and its Pattern image pass their
checks; the signature verdict then starts the Root code load. A first refusal moves to the other slot with
SLOT_RETRY and REASON_FIRST; a second one enters Limp. Concluded to complete, with the effect of its own:
patternFetchDone, signatureVerified. (R70, R71, R135, R140, R208, Table 5.9, Table 8.5) -/
def Obligations.LoaderVerdicts : Prop :=
  (∀ (rootOk patOk : Bool) (s : State), s.boot.phase = .fetch → s.flash.wip = false →
    ∃ t, exec (.patternFetchDone rootOk patOk) s = .next t
      ∧ (t.boot.phase = .verify ↔
          (rootOk = true ∧ bundleFormat (slotManifest s s.boot.slot) = true
              ∧ rootCheck s (slotRoot s s.boot.slot) = none
            ∧ patOk = true
            ∧ patCheck s (rootStamp (slotRoot s s.boot.slot)) (slotPattern s s.boot.slot) = none))
      ∧ (t.boot.phase = .verify → t.boot.slot = s.boot.slot ∧ t.boot.cause = s.boot.cause)
      ∧ (t.boot.phase ≠ .verify → s.boot.second = false →
          t.boot.phase = .fetch ∧ t.boot.slot = 1 - s.boot.slot ∧ t.boot.second = true
          ∧ t.boot.cause = s.boot.cause ||| 0x1000)
      ∧ (t.boot.phase ≠ .verify → s.boot.second = true →
          t.boot.phase = .limp ∧ t.boot.bootSlot = 3 ∧ t.boot.cause = s.boot.cause ||| 0x2000))
    ∧ (∀ (patOk : Bool) (s : State), s.boot.phase = .fetch → s.flash.wip = false → s.boot.second = false →
      ∃ t, exec (.patternFetchDone false patOk) s = .next t
      ∧ t.pattern.reasonFirst = 0x0E ∧ t.strap.rootReason = 1 ∧ t.boot.failFirst = 3)
    ∧ (∀ s : State, s.boot.phase = .verify → ∃ t, exec .signatureVerified s = .next t
      ∧ (t.boot.phase = .rootLoad ↔ patVerifies (slotPattern s s.boot.slot) = true)
      ∧ (t.boot.phase = .rootLoad → t.boot.slot = s.boot.slot ∧ t.pattern = s.pattern)
      ∧ (t.boot.phase ≠ .rootLoad → s.boot.second = false →
          t.boot.phase = .fetch ∧ t.boot.slot = 1 - s.boot.slot ∧ t.boot.failFirst = 1 ∧ t.pattern.reasonFirst = 0x09)
      ∧ (t.boot.phase ≠ .rootLoad → s.boot.second = true → t.boot.phase = .limp ∧ t.pattern.reasonSecond = 0x09))

/-- At the end of the self-test GRSTAT records the failed stands; with every present stand placed the device is ready
with BOOT_TIME, the booted slot, READY raised on IRQ_N, WD-B on its fused period and, where the Pattern states no
values, the port registers at the values R643 gives; where a stand other than a port stand cannot be placed it
enters Limp. Concluded to complete, with the effect of its own: grainSelftestDone. (R68, R142, R143, R144, R565,
R595, R643, Table 3.5) -/
def Obligations.GrainReady : Prop :=
  (∀ (fails : BitVec 16) (pat : PatternStart) (s : State), s.boot.phase = .selftest → pat.writes = [] →
      (grainTest fails (grainConfigure (slotPattern s s.boot.slot) (loadIdentity (slotPattern s s.boot.slot) s))).2 = true →
      ∃ t, exec (.grainSelftestDone fails pat) s = .next t
      ∧ t.boot.phase = .ready ∧ t.boot.ready = true ∧ t.boot.bootTime = s.time.now - s.boot.t0
      ∧ t.boot.bootSlot = BitVec.ofNat 2 s.boot.slot.val ∧ t.boot.limp = s.boot.limp
      ∧ t.host.irqStat.getLsbD 7 = true ∧ t.wdb.bootMode = false ∧ t.grain.fault = fails
      ∧ t.pattern.portMask = patPortMask (slotPattern s s.boot.slot) ∧ t.sap.record = []
      ∧ (∀ p : Fin 8, (patPortMask (slotPattern s s.boot.slot)).getLsbD p.val = true →
          (portMetro t p).loopCfg = 0x00885300 ∧ (portCinch t p).cfg = 0x0064AD00
          ∧ (portCinch t p).i2tCfg = 0x03200200 ∧ (portPd t p).cfg = 0x00500000 ∧ (portCc t p).time0W = 0x964B3200))
    ∧ (∀ (pat : PatternStart) (s : State), s.boot.phase = .selftest → pat.writes = [] →
      ∃ t, exec (.grainSelftestDone 0 pat) s = .next t ∧ t.boot.phase = .ready
      ∧ t.pattern.relocations = s.pattern.relocations)
    ∧ (∀ (fails : BitVec 16) (pat : PatternStart) (s : State), s.boot.phase = .selftest →
      (grainTest fails (grainConfigure (slotPattern s s.boot.slot) (loadIdentity (slotPattern s s.boot.slot) s))).2 = false →
      ∃ t, exec (.grainSelftestDone fails pat) s = .next t
      ∧ t.boot.phase = .limp ∧ t.boot.limp = true ∧ t.boot.cause = s.boot.cause ||| 0x2000 ∧ t.grain.fault = fails
      ∧ t.pattern.reasonSecond = 0x0F ∧ t.strap.codeRunning = false)

/-- At ready, with the Strap up, the reference oscillator running and no supervisor stalled, a present stand that gives
its token is live; one that misses its first token is not yet stalled; one that misses its second, with fewer than
two stalls in the last 10 s, is declared stalled, counts in STALL_COUNT and is reloaded. A reload that completes
counts in the stand's RELOADS; one stopped by a line of the stand's copy whose tag fails poisons the line and leaves
the stand out and the supervisor stopped. Concluded to complete, with the effect of its own: supervisorTick,
standReloaded. (R126, R127, R130, R131) -/
def Obligations.SupervisorTokens : Prop :=
  (∀ (tokens : BitVec 16) (k : Fin 16) (s : State), isReady s = true → timersRun s = true → s.grain.supStalled = false →
      presentStand s k = true → s.grain.stands[k].out = false → s.grain.stands[k].reloading = false →
      ∃ t, exec (.supervisorTick tokens) s = .next t
      ∧ (tokens.getLsbD k.val = true → t.grain.stands[k] = { s.grain.stands[k] with missed := 0, live := true })
      ∧ (tokens.getLsbD k.val = false → t.grain.stands[k].live = false)
      ∧ (tokens.getLsbD k.val = false → s.grain.stands[k].missed = 0 →
          t.grain.stands[k] = { s.grain.stands[k] with missed := 1, live := false })
      ∧ (tokens.getLsbD k.val = false → 1 ≤ s.grain.stands[k].missed → s.grain.stands[k].role ≠ 2 →
          (recent s 10000000 s.grain.stands[k].stalls).length < 2 →
          t.grain.stands[k].reloading = true
          ∧ t.grain.stands[k].stalls = recent s 10000000 s.grain.stands[k].stalls ++ [s.time.now])
      ∧ (tokens.getLsbD k.val = false → 1 ≤ s.grain.stands[k].missed → s.grain.stands[k].role ≠ 2 →
          2 ≤ (recent s 10000000 s.grain.stands[k].stalls).length →
          t.grain.stands[k].out = true ∧ t.grain.fault.getLsbD (s.grain.stands[k].phys % 16) = true
            ∨ 16 ≤ s.grain.stands[k].phys))
    ∧ (∀ (k : Fin 16) (s : State), s.grain.stands[k].reloading = true → reloadLine k none s = none →
      ∃ t, exec (.standReloaded k none) s = .next t
      ∧ t.grain.stands[k] = { s.grain.stands[k] with reloading := false, reloads := bump 7 s.grain.stands[k].reloads }
      ∧ t.grain.supStopped = s.grain.supStopped)
    ∧ (∀ (k : Fin 16) (line : Nat) (s : State), s.grain.stands[k].reloading = true → line / 256 = k.val →
      ∃ t, exec (.standReloaded k (some line)) s = .next t
      ∧ t.grain.stands[k] = { s.grain.stands[k] with reloading := false, out := true } ∧ t.grain.supStopped = true
      ∧ t.satchel.poisoned.contains line = true)

/-- The first write of WDACFG with OPEN 1 to 7 at ready arms WD-A, and once armed a write changes nothing. A service
with the expected key inside the window starts a new period and flips the key; a wrong key or an early service
expires it, as the period's end does, with their causes and EXPIRIES counted; with RESET_EN an expiry resets Crown.
A service with the right key restarts an expired WD-A. WD-B's window opens once it is out of boot mode; a service
that may be given inside the window starts a new period, and one before it is an early expiry. A boot that stays
ready clears the storm count. A clock monitor trip expires WD-B with WDB_CLK, and WD-A with cause 4; a lost
monitoring oscillator sets MON_LOST; after the LF oscillator's return a channel leaves the fallback clock. Concluded
to complete, with the effect of its own: wdAArmed, wdaService, wdaWindowOpen, wdAExpired, wdbWindowOpen, wdbService,
wdbStormClear, wdClockMonitorTrip, wdMonLost, wdClockReturn. (R473, R547, R549, R550, R551, R553, R554, R559, R560,
R566, R567, Table 18.2) -/
def Obligations.Watchdogs : Prop :=
  (∀ (who : Requester) (v : Word) (s : State), isReady s = true → maySet who 0x1400 s → s.wda.state = 0 →
      field v 10 8 ≠ 0 → ∃ t, exec (.wdAArmed who v) s = .next t
      ∧ t.wda.state = 1 ∧ t.wda.cfg = v &&& 0xFFFF0711 ∧ t.wda.nextKey = false ∧ t.wda.inWindow = false
      ∧ t.wda.startAt = s.strap.rootTime.toNat ∧ t.wda.expiries = s.wda.expiries)
    ∧ (∀ (who : Requester) (v : Word) (s : State), s.wda.state ≠ 0 → ∃ t, exec (.wdAArmed who v) s = .next t
      ∧ t.wda = s.wda)
    ∧ (∀ (who : Requester) (s : State), maySet who 0x1404 s → s.wda.state = 1 → s.wda.inWindow = true →
      ∃ t, exec (.wdaService who (wdaKey s)) s = .next t
      ∧ t.wda = { s.wda with nextKey := !s.wda.nextKey, inWindow := false, startAt := s.strap.rootTime.toNat })
    ∧ (∀ (who : Requester) (v : Word) (s : State), maySet who 0x1404 s → s.wda.state = 1 → flag s.wda.cfg 0 = false →
      v ≠ wdaKey s → ∃ t, exec (.wdaService who v) s = .next t
      ∧ t.wda.state = 2 ∧ t.wda.lastCause = 3 ∧ t.wda.expiries = bump 8 s.wda.expiries ∧ t.boot.phase = s.boot.phase)
    ∧ (∀ (who : Requester) (s : State), maySet who 0x1404 s → s.wda.state = 1 → flag s.wda.cfg 0 = false →
      s.wda.inWindow = false → ∃ t, exec (.wdaService who (wdaKey s)) s = .next t
      ∧ t.wda.state = 2 ∧ t.wda.lastCause = 2 ∧ t.wda.expiries = bump 8 s.wda.expiries)
    ∧ (∀ (who : Requester) (s : State), maySet who 0x1404 s → s.wda.state = 2 →
      ∃ t, exec (.wdaService who (wdaKey s)) s = .next t
      ∧ t.wda.state = 1 ∧ t.wda.nextKey = !s.wda.nextKey ∧ t.wda.offPorts = 0 ∧ t.wda.safePorts = 0)
    ∧ (∀ s : State, s.wda.state = 1 → ∃ t, exec .wdaWindowOpen s = .next t ∧ t.wda = { s.wda with inWindow := true })
    ∧ (∀ s : State, s.wda.state = 1 → flag s.wda.cfg 0 = false → ∃ t, exec .wdAExpired s = .next t
      ∧ t.wda.state = 2 ∧ t.wda.lastCause = 1 ∧ t.wda.expiries = bump 8 s.wda.expiries
      ∧ t.wda.policyDue = (s.wda.policyDue || !rootSeen s))
    ∧ (∀ s : State, s.wda.state = 1 → flag s.wda.cfg 0 = true → crownRuns s = true → ∃ t, exec .wdAExpired s = .next t
      ∧ t.boot.phase = .crownReset ∧ t.boot.cause = s.boot.cause ||| 0x80 ∧ t.wda.state = 0 ∧ t.wda.lastCause = 1
      ∧ t.wda.expiries = bump 8 s.wda.expiries)
    ∧ (∀ s : State, s.wdb.running = true → s.wdb.bootMode = false → ∃ t, exec .wdbWindowOpen s = .next t
      ∧ t.wdb = { s.wdb with inWindow := true })
    ∧ (∀ s : State, s.wdb.bootMode = true → ∃ t, exec .wdbWindowOpen s = .next t ∧ t.wdb = s.wdb)
    ∧ (∀ s : State, s.wdb.running = true → wdbServes s = true → s.wdb.inWindow = true →
      ∃ t, exec .wdbService s = .next t ∧ t.wdb = { s.wdb with inWindow := false } ∧ t.boot = s.boot)
    ∧ (∀ s : State, s.wdb.running = true → wdbServes s = true → s.wdb.inWindow = false →
      ∃ t, exec .wdbService s = .next t ∧ t.boot.phase = .crownReset ∧ t.boot.cause = s.boot.cause ||| 0x20
      ∧ t.wdb.lastCause = 2 ∧ t.wdb.storm = s.wdb.storm + 1)
    ∧ (∀ s : State, isReady s = true → ∃ t, exec .wdbStormClear s = .next t ∧ t.wdb = { s.wdb with storm := 0 })
    ∧ (∀ s : State, s.wdb.running = true → crownRuns s = true → ∃ t, exec (.wdClockMonitorTrip true) s = .next t
      ∧ t.boot.phase = .crownReset ∧ t.boot.cause = s.boot.cause ||| 0x40 ∧ t.wdb.lastCause = 4
      ∧ t.wdb.expiries = bump 8 s.wdb.expiries)
    ∧ (∀ s : State, s.wda.state = 1 → flag s.wda.cfg 0 = false → ∃ t, exec (.wdClockMonitorTrip false) s = .next t
      ∧ t.wda.state = 2 ∧ t.wda.lastCause = 4 ∧ t.wda.expiries = bump 8 s.wda.expiries)
    ∧ (∀ s : State, s.wdb.running = true → ∃ t, exec (.wdMonLost true) s = .next t
      ∧ t.wdb = { s.wdb with monLost := true } ∧ t.wda = s.wda)
    ∧ (∀ s : State, s.wda.state = 1 → ∃ t, exec (.wdMonLost false) s = .next t
      ∧ t.wdb = { s.wdb with monLost := true } ∧ t.wda = s.wda)
    ∧ (∀ s : State, s.sap.running = true → ∃ t, exec (.wdClockReturn true) s = .next t
      ∧ t.wdb = { s.wdb with fallbackClk := false } ∧ t.wda = s.wda)
    ∧ (∀ s : State, s.sap.running = true → ∃ t, exec (.wdClockReturn false) s = .next t
      ∧ t.wda = { s.wda with fallbackClk := false } ∧ t.wdb = s.wdb)

/-- A TICK advances Crown's timer cells unless the link is lost, and Crown sends a heartbeat at its first TICK, after a
gap and after every 20th, on the lanes with its header and CRC, with LOST as Crown has declared it, its CODE and its
acknowledgement; Root's heartbeat carries its 1 µs count, 20 µs more each time, and Root's own LOST. At the next
heartbeat of Root's that arrives Crown adds ticks that it missed and counts one slip; one with LOST declares the
loss; the third valid Crown heartbeat in a row during a loss starts the RESYNC exchange at port 0. With the
oscillator stopped neither end sends any. Concluded to complete, with the effect of its own: tick,
rootHeartbeatSend, heartbeat. (R122, R204, R205, R206, R215, R216, R223, R645) -/
def Obligations.StrapTicksAndHeartbeats : Prop :=
  (∀ (gap : Bool) (s : State), crownRuns s = true → s.power.refoscRunning = true → s.power.refoscRestart = false →
      (s.strap.link = .up ∨ s.strap.link = .notYetUp) → ∃ t, exec (.tick gap) s = .next t
      ∧ t.time.now = s.time.now + 1 ∧ t.time.stamp = s.time.stamp + 1)
    ∧ (∀ (gap : Bool) (s : State), crownRuns s = true → (s.strap.link = .lost ∨ s.strap.link = .resync) →
      ∃ t, exec (.tick gap) s = .next t ∧ t.time = s.time)
    ∧ (∀ (gap : Bool) (s : State), crownRuns s = true →
        (s.power.refoscRunning = true ∨ s.power.refoscRestart = true) →
      ∃ t, exec (.tick gap) s = .next t
      ∧ t.power.refoscRunning = true ∧ t.power.refoscRestart = false
      ∧ t.strap = (if s.strap.hbTicks.all (fun n => gap || decide (19 ≤ n)) then
          { s.strap with
            ticksSince := s.strap.ticksSince + 1, hbTicks := some 0
            crownTx := { s.strap.crownTx with ackDue := false }
            crownHb := s.strap.crownHb ++ [{ time := s.strap.lastTime, lost := s.strap.crownLost
                                             code := s.strap.codeRunning, ack := ackOwed s.strap.crownTx }]
            lanes := [onLane false (frameHeader 1 0 0 (ackOwed s.strap.crownTx))
              (le 4 s.strap.lastTime.toNat ++ le 2 (b2n s.strap.crownLost + 2 * b2n s.strap.codeRunning))] }
          else { s.strap with
            ticksSince := s.strap.ticksSince + 1, hbTicks := s.strap.hbTicks.map (· + 1), lanes := [] }))
    ∧ (∀ s : State, s.power.refoscRunning = true → ∃ t, exec .rootHeartbeatSend s = .next t
      ∧ t.strap = { s.strap with
          rootTime := s.strap.rootTime + 20, rootTx := { s.strap.rootTx with ackDue := false }
          rootHb := s.strap.rootHb ++ [{ time := s.strap.rootTime + 20, lost := s.strap.rootLost
                                         code := s.strap.codeRunning, ack := ackOwed s.strap.rootTx }]
          lanes := [onLane true (frameHeader 1 0 0 (ackOwed s.strap.rootTx))
            (le 4 (s.strap.rootTime + 20).toNat ++ le 2 (b2n s.strap.rootLost + 2 * b2n s.strap.codeRunning))] })
    ∧ (∀ (gap : Bool) (s : State), s.power.refoscRunning = false → s.power.refoscRestart = false →
      (∃ t, exec (.tick gap) s = .next t ∧ t.strap = { s.strap with lanes := [] } ∧ t.time = s.time)
      ∧ ∃ t, exec .rootHeartbeatSend s = .next t ∧ t.strap = { s.strap with lanes := [] })
    ∧ (∀ (missed : Nat) (s : State) (b : Beat), (s.strap.rootHb.drop missed).head? = some b → b.lost = false →
      crownRuns s = true → strapUp s = true → noneHeld s → s.strap.compareNext = true →
      ∃ t, exec (.heartbeat true missed) s = .next t
      ∧ t.strap.lastTime = b.time ∧ t.strap.ticksSince = 0 ∧ t.strap.link = .up
      ∧ t.strap.rootHb = s.strap.rootHb.drop (missed + 1)
      ∧ t.time.now = s.time.now + ((b.time - s.strap.lastTime).toNat - s.strap.ticksSince)
      ∧ t.strap.slips = (if (b.time - s.strap.lastTime).toNat ≤ s.strap.ticksSince then s.strap.slips
          else bump 16 s.strap.slips))
    ∧ (∀ (missed : Nat) (s : State) (b : Beat), (s.strap.rootHb.drop missed).head? = some b → b.lost = false →
      crownRuns s = true → strapUp s = true → noneHeld s → s.strap.compareNext = false →
      ∃ t, exec (.heartbeat true missed) s = .next t
      ∧ t.time.now = s.time.now ∧ t.time.stamp = b.time ∧ t.strap.slips = s.strap.slips ∧ t.strap.compareNext = true)
    ∧ (∀ (missed : Nat) (s : State) (b : Beat), (s.strap.rootHb.drop missed).head? = some b → b.lost = true →
      crownRuns s = true → strapUp s = true → ∃ t, exec (.heartbeat true missed) s = .next t
      ∧ t.strap.link = .lost ∧ t.strap.crownLost = true ∧ t.strap.lastCause = 1
          ∧ t.strap.lossCount = bump 8 s.strap.lossCount)
    ∧ (∀ (s : State) (b : Beat), s.strap.crownHb.head? = some b → s.strap.rootLost = true → s.strap.wire = false →
      s.strap.link = .lost → ∃ t, exec (.heartbeat false 0) s = .next t
      ∧ t.strap.crownHb = s.strap.crownHb.drop 1
      ∧ (s.strap.goodHb < 2 → t.strap.link = .lost ∧ t.strap.goodHb = s.strap.goodHb + 1)
      ∧ (2 ≤ s.strap.goodHb → t.strap.link = .resync ∧ t.strap.crownTx = {} ∧ t.strap.rootTx = {}
          ∧ t.strap.resyncNext = 0))
    ∧ (∀ (missed : Nat) (s : State), (s.strap.crownHb.drop missed).isEmpty = true → noneHeld s →
      ∃ t, exec (.heartbeat false missed) s = .next t ∧ t.strap = { s.strap with lanes := [] })

/-- An ACK drops the frames it covers at the other end. A frame arrives with its SEQ the next in order and is owed an
acknowledgement; while eight are unacknowledged it waits in service-class order and has no effect. A frame whose
characters R201 discards counts at its receiver, at Root also ending a run of good heartbeats, and leaves its
sender's frame unacknowledged; any other counts nothing. A retransmission counts each frame Crown sends again, and a
frame that was lost then takes effect. STATS gives RX_ERRS_ROOT and the lane rate; a METRO frame gives the readings
of at most nine ports; a frame that waited goes out before a later one, and once an acknowledgement makes room; a
PORT_RSP of an incomplete load in step 5 brings the one repeat with STRAP_LOAD_RETRY, and a second one refuses the
slot with Strap reason 7. Concluded to complete, with the effect of its own: ack, fallbackSet, strapFrameBad,
strapRetransmit, stats, metroFrame, portRsp. Where a clause assumes s.raised = []: no event waits to be written;
every step leaves it so (StepsSettleAlarmsAndIrqs). (R200, R201, R202, R203, R210, STRAP+0x008) -/
def Obligations.StrapFrameCounts : Prop :=
  (∀ s : State, s.strap.crownTx.held = [] → ∃ t, exec (.ack true) s = .next t
      ∧ t.strap.crownTx.unacked = (ackSplit (s.strap.rootTx.rxNext - 1) s.strap.crownTx.unacked).2
      ∧ t.strap.rootTx = { s.strap.rootTx with ackDue := false })
    ∧ (∀ s : State, s.strap.rootTx.held = [] → ∃ t, exec (.ack false) s = .next t
      ∧ t.strap.rootTx.unacked = (ackSplit (s.strap.crownTx.rxNext - 1) s.strap.rootTx.unacked).2
      ∧ t.strap.crownTx = { s.strap.crownTx with ackDue := false } ∧ t.strap.fallbackAck = s.strap.fallbackAck)
    ∧ (∀ (p : Fin 8) (off : Bool) (s : State), frameGoes (.fallbackSet p off) s →
      ∃ t, exec (.fallbackSet p off) s = .next t
      ∧ t.strap.crownTx.nextSeq = s.strap.crownTx.nextSeq + 1
      ∧ t.strap.rootTx.rxNext = s.strap.rootTx.rxNext + 1 ∧ t.strap.rootTx.ackDue = true
      ∧ t.strap.crownTx.unacked = s.strap.crownTx.unacked ++
          [{ hdr := frameHeader 0xB p.val s.strap.crownTx.nextSeq (ackOwed s.strap.crownTx), body := .fallbackSet p off
             payload := some [BitVec.ofNat 8 (b2n off)] }]
      ∧ t.strap.lanes = [onLane false (frameHeader 0xB p.val s.strap.crownTx.nextSeq (ackOwed s.strap.crownTx))
          [BitVec.ofNat 8 (b2n off)]])
    ∧ (∀ (p : Fin 8) (off : Bool) (s : State), frameMay (.fallbackSet p off) s = true →
        8 ≤ s.strap.crownTx.unacked.length →
      s.strap.rootTx.held = [] → ∃ t, exec (.fallbackSet p off) s = .next t
      ∧ t.strap = { s.strap with
          lanes := []
          crownTx := { s.strap.crownTx with
            held := holdFrame (.fallbackSet p off, some [BitVec.ofNat 8 (b2n off)]) s.strap.crownTx.held } })
    ∧ (∀ (p k : Fin 8) (off on : Bool) (s : State), frameMay (.fallbackSet p off) s = true →
      s.strap.rootTx.held = [] → s.strap.crownTx.unacked = [] → s.strap.crownTx.nextSeq = s.strap.rootTx.rxNext →
      s.strap.crownTx.held = [(.fallbackSet k on, some [BitVec.ofNat 8 (b2n on)])] →
      ∃ t, exec (.fallbackSet p off) s = .next t
      ∧ t.strap.crownTx.held = []
          ∧ (t.strap.crownTx.unacked.map SentFrame.body) = [.fallbackSet k on, .fallbackSet p off]
      ∧ t.strap.lanes.length = 2 ∧ t.strap.rootTx.rxNext = s.strap.rootTx.rxNext + 2)
    ∧ (∀ (p : Fin 8) (off : Bool) (q : BitVec 4) (f : SentFrame) (s : State), rootSeen s = true →
      ∃ t, exec (.ack true) { s with strap := { s.strap with
            rootTx := { s.strap.rootTx with rxNext := q + 1, held := [] }
            crownTx := { s.strap.crownTx with
              nextSeq := q + 1, unacked := [{ f with hdr := frameHeader 0xB p.val q none }]
              held := [(.fallbackSet p off, some [BitVec.ofNat 8 (b2n off)])] } } } = .next t
      ∧ t.strap.crownTx.held = [] ∧ t.strap.holds[p].fallbackOff = off ∧ t.strap.rootTx.rxNext = q + 2
      ∧ (t.strap.crownTx.unacked.map SentFrame.body) = [.fallbackSet p off])
    ∧ (∀ (line : StrapLine) (s : State), frameBad true line = true → crownRuns s = true →
      ∃ t, exec (.strapFrameBad true line none) s = .next t
      ∧ t.strap = { s.strap with rxCrown := bump 12 s.strap.rxCrown, lanes := [] })
    ∧ (∀ (line : StrapLine) (s : State), frameBad false line = true →
      ∃ t, exec (.strapFrameBad false line none) s = .next t
      ∧ t.strap = { s.strap with rootErrs := bump 12 s.strap.rootErrs, goodHb := 0, lanes := [] })
    ∧ (∀ (p : Fin 8) (off : Bool) (line : StrapLine) (s : State), frameBad false line = true →
      frameMay (.fallbackSet p off) s = true → noneHeld s → s.strap.crownTx.unacked.length < 8 →
      ∃ t, exec (.strapFrameBad false line (some (.fallbackSet p off))) s = .next t
      ∧ t.strap.holds = s.strap.holds ∧ t.strap.rootTx = s.strap.rootTx ∧ t.strap.rootErrs = bump 12 s.strap.rootErrs
      ∧ t.strap.crownTx.unacked.length = s.strap.crownTx.unacked.length + 1)
    ∧ (∀ (atCrown : Bool) (line : StrapLine) (sent : Option StrapBody) (s : State), frameBad atCrown line = false →
      ∃ t, exec (.strapFrameBad atCrown line sent) s = .next t ∧ t.strap = { s.strap with lanes := [] })
    ∧ (∀ s : State, s.strap.retx.n + s.strap.crownTx.unacked.length ≤ 65535 →
        ∃ t, exec (.strapRetransmit true) s = .next t
      ∧ t.strap.retx = { s.strap.retx with n := s.strap.retx.n + s.strap.crownTx.unacked.length })
    ∧ (∀ s : State, ∃ t, exec (.strapRetransmit false) s = .next t ∧ t.strap.retx = s.strap.retx)
    ∧ (∀ (p : Fin 8) (off : Bool) (q : BitVec 4) (s : State), rootSeen s = true → ∃ t, exec (.strapRetransmit true)
        { s with strap := { s.strap with
            rootTx := { s.strap.rootTx with rxNext := q }
            crownTx := { nextSeq := q + 1, unacked := [{ hdr := frameHeader 0xB p.val q none, body := .fallbackSet p off }] } } }
          = .next t
      ∧ t.strap.holds[p] = { s.strap.holds[p] with fallbackOff := off }
      ∧ t.strap.rootTx.rxNext = q + 1 ∧ t.strap.rootTx.ackDue = true)
    ∧ (∀ (lane : Byte) (s : State), rootSeen s = true → noneHeld s → ∃ t, exec (.stats lane) s = .next t
      ∧ t.strap.rootTx.ackDue = false ∧ t.strap.lanes =
          [{ toCrown := true, hdr := frameHeader 0xF 0 0 (ackOwed s.strap.rootTx), chars := none }]
      ∧ t.strap.rxRoot.n = s.strap.rootErrs.n ∧ t.strap.laneRate = lane.toNat)
    ∧ (∀ (lane : Byte) (s : State), rootSeen s = false → ∃ t, exec (.stats lane) s = .next t
      ∧ t.strap = { s.strap with lanes := [] })
    ∧ (∀ (ports : List (Fin 8)) (p : Fin 8) (s : State), rootSeen s = true → noneHeld s →
      ∃ t, exec (.metroFrame ports) s = .next t ∧ t.strap.rootTx.ackDue = false ∧ t.strap.lanes =
          [{ toCrown := true, hdr := frameHeader 0xE 0 0 (ackOwed s.strap.rootTx), chars := none }]
      ∧ portMetro t p = (if ports.length ≤ 9
          ∧ p ∈ ports then { portMetro s p with stale := false } else portMetro s p))
    ∧ (∀ (ports : List (Fin 8)) (p : Fin 8) (s : State), rootSeen s = false →
        ∃ t, exec (.metroFrame ports) s = .next t
      ∧ portMetro t p = portMetro s p ∧ t.strap = { s.strap with lanes := [] })
    ∧ (∀ (p : Fin 8) (s : State) (off : Nat), s.strap.loadFailed = some off → frameGoes (.portRsp p) s →
      s.boot.phase = .rootLoad → s.strap.retried = false → s.raised = [] → ∃ t, exec (.portRsp p) s = .next t
      ∧ t.strap.retried = true ∧ t.strap.loadFailed = none ∧ t.boot = s.boot
      ∧ logged (devEv 0x0D06 4 (le 2 off)) s t)
    ∧ (∀ (p : Fin 8) (s : State), s.strap.loadFailed.isSome = true → frameGoes (.portRsp p) s →
      s.boot.phase = .rootLoad → s.strap.retried = true → ∃ t, exec (.portRsp p) s = .next t
      ∧ t.strap.rootReason = 7 ∧ (t.boot.phase = .fetch ∨ t.boot.phase = .limp)
      ∧ (s.boot.second = false → t.boot.slot = 1 - s.boot.slot))

/-- PARAMS gives Root the hold times of HOLD_P0 to HOLD_P7 and the manifest's fallbacks; a running code that matches the
slot's ends step 5 without a load, and otherwise every port in hold takes the fallback that Root held for it until
then, and the load begins with no code running. Outside step 5 neither PARAMS nor LOAD is sent. LOADs carry the
slot's Root code in ascending OFFSET; the ending one starts the code only when every offset has arrived, and
otherwise discards it with the highest offset reached. A FALLBACK_SET takes effect at Root at once, and STFALLBK
shows it from Root's acknowledgement. Concluded to complete, with the effect of its own: params, load, fallbackSet,
ack. (R65, R209, R210, R222) -/
def Obligations.RootCodeLoad : Prop :=
  (∀ (p : Fin 8) (s : State), frameGoes .params s → rootMatches s = true → ∃ t, exec .params s = .next t
      ∧ t.boot.phase = .selftest ∧ t.strap.codeRunning = true ∧ t.boot.rootReloaded = s.boot.rootReloaded
      ∧ t.strap.holds[p].holdCode = holdCode s p ∧ t.strap.holds[p].inHold = s.strap.holds[p].inHold
      ∧ t.strap.holds[p].fallbackOff = ((patFallback (slotPattern s s.boot.slot)).getD p.val 0 == 1))
    ∧ (∀ s : State, s.boot.phase ≠ .rootLoad → ∃ t, exec .params s = .next t ∧ t.boot = s.boot
      ∧ t.strap = { s.strap with lanes := [] })
    ∧ (∀ (p : Fin 8) (s : State), frameGoes .params s → rootMatches s = false → ∃ t, exec .params s = .next t
      ∧ t.boot = s.boot ∧ t.strap.codeRunning = false ∧ t.strap.params = true
      ∧ t.strap.loadSize = rootCodeSize (bootRoot s) ∧ t.strap.loadVer = rootVersion (bootRoot s)
      ∧ t.strap.loadData = [] ∧ t.strap.loadNext = 0 ∧ t.strap.holds[p].holdCode = holdCode s p)
    ∧ (∀ (p : Fin 8) (s : State), frameGoes .params s → rootMatches s = false → s.strap.codeRunning = true →
      s.strap.holds[p].inHold = true → ∃ t, exec .params s = .next t
      ∧ t.strap.holds[p].inHold = false ∧ t.strap.holds[p].fellBack = true
      ∧ t.strap.holds[p].fellBackOff = s.strap.holds[p].fallbackOff)
    ∧ (∀ (off : Half) (s : State), s.boot.phase ≠ .rootLoad → ∃ t, exec (.load off) s = .next t
      ∧ t.boot = s.boot ∧ t.strap = { s.strap with lanes := [] })
    ∧ (∀ (off : Half) (s : State), frameGoes (.load off) s → off ≠ 0xFFFF → ∃ t, exec (.load off) s = .next t
      ∧ t.strap.loadData = s.strap.loadData.filter (fun g => g.1 ≠ off.toNat)
          ++ [(off.toNat, slice (rootCode (bootRoot s)) off.toNat 32)]
      ∧ t.strap.loadNext = off.toNat + 1 ∧ t.strap.codeRunning = s.strap.codeRunning)
    ∧ (∀ (off : Half) (s : State), off.toNat < s.strap.loadNext → ∃ t, exec (.load off) s = .next t
      ∧ t.boot = s.boot ∧ t.strap = { s.strap with lanes := [] })
    ∧ (∀ s : State, frameGoes (.load 0xFFFF) s →
      loadRun s.strap.loadData ((s.strap.loadSize + 31) / 32) 0 = (s.strap.loadSize + 31) / 32 →
      ∃ t, exec (.load 0xFFFF) s = .next t
      ∧ t.strap.codeRunning = true ∧ t.strap.codeDigest = rootDigest (bootRoot s) ∧ t.strap.rootVer = s.strap.loadVer
      ∧ t.strap.rootCode = (loadPrefix s.strap.loadData ((s.strap.loadSize + 31) / 32) 0).take s.strap.loadSize
      ∧ t.strap.params = false ∧ t.boot.phase = .selftest ∧ t.boot.rootReloaded = true)
    ∧ (∀ s : State, frameGoes (.load 0xFFFF) s →
      loadRun s.strap.loadData ((s.strap.loadSize + 31) / 32) 0 ≠ (s.strap.loadSize + 31) / 32 →
      ∃ t, exec (.load 0xFFFF) s = .next t
      ∧ t.strap.codeRunning = false ∧ t.strap.params = false ∧ t.boot = s.boot
      ∧ t.strap.loadFailed = some (if loadRun s.strap.loadData ((s.strap.loadSize + 31) / 32) 0 = 0 then 0xFFFF
          else 32 * (loadRun s.strap.loadData ((s.strap.loadSize + 31) / 32) 0 - 1)))
    ∧ (∀ (p : Fin 8) (off : Bool) (s : State), frameGoes (.fallbackSet p off) s →
      ∃ t, exec (.fallbackSet p off) s = .next t
      ∧ t.strap.holds[p] = { s.strap.holds[p] with fallbackOff := off } ∧ t.strap.fallbackAck = s.strap.fallbackAck
      ∧ t.strap.fallbackDue = s.strap.fallbackDue ++ [(s.strap.crownTx.nextSeq, p, off)])
    ∧ (∀ (p : Fin 8) (off : Bool) (q : BitVec 4) (s : State), ∃ t, exec (.ack true)
        { s with strap := { s.strap with
            fallbackDue := [(q, p, off)], rootTx := { s.strap.rootTx with rxNext := q + 1 }
            crownTx := { unacked := [{ hdr := frameHeader 0xB p.val q none, body := .fallbackSet p off }] } } } = .next t
      ∧ t.strap.fallbackAck = withFallback p off s.strap.fallbackAck ∧ t.strap.fallbackDue = []
      ∧ t.strap.crownTx.unacked = [])

/-- Root's declaration starts the hold of every attached port whose hold time is not zero, while loaded code runs;
Crown's, by its own timer or by the next heartbeat with LOST, marks the loss with its cause, counts it, shows every
port with a contract in Root hold and clears what waited for PD_TX; the wire's assertion declares the loss at Root
at once, has Root restart a stopped reference oscillator, and where Crown had declared none is counted with cause
0b100; it is released once the boot has reached step 5. Concluded to complete, with the effect of its own:
rootStrapLoss, crownStrapLoss, crownResetWireAssert, crownResetWireRelease. (R198, R213, R216, R217, R218, R227,
R645, R647) -/
def Obligations.StrapLossDeclared : Prop :=
  (∀ (p : Fin 8) (s : State), s.strap.link = .up → s.strap.rootLost = false → s.strap.holds[p].standHold = false →
      s.strap.holds[p].holdCode ≠ 0 → s.strap.holds[p].outcome = none → s.strap.holds[p].fellBack = false →
      s.strap.holds[p].tripped = false → s.strap.holds[p].detached = false → s.strap.holds[p].hardReset = false →
      ∃ t, exec .rootStrapLoss s = .next t
      ∧ t.strap.rootLost = true ∧ t.strap.link = .up ∧ t.strap.params = false
      ∧ t.strap.holds[p].inHold = (rootAttached (portCc s p) && s.strap.codeRunning)
      ∧ t.strap.holds[p].timerRunning = (rootAttached (portCc s p) && s.strap.codeRunning)
      ∧ t.strap.holds[p].hadContract = (rootAttached (portCc s p) && (portPd s p).explicit)
      ∧ t.strap.holds[p].rpLevel = rpLevel (portCc s p)
      ∧ t.strap.holds[p].outcome = none ∧ portCinch t p = portCinch s p ∧ portCc t p = portCc s p)
    ∧ (∀ s : State, s.strap.link = .notYetUp → ∃ t, exec .rootStrapLoss s = .next t ∧ t.strap = s.strap)
    ∧ (∀ (byHb : Bool) (s : State), crownRuns s = true → (strapUp s || s.strap.crownResync) = true →
      (byHb = true → s.strap.rootHb.any (fun b => b.lost) = true) → ∃ t, exec (.crownStrapLoss byHb) s = .next t
      ∧ t.strap.link = .lost ∧ t.strap.crownLost = true ∧ t.strap.lastCause = (if byHb then 1 else 2)
      ∧ t.strap.lossCount = bump 8 s.strap.lossCount ∧ t.power = s.power ∧ t.shown.isSome = true
      ∧ (isOpen s = true → t.host.irqStat.getLsbD 3 = true)
      ∧ ∀ p : Fin 8, (portPd t p).txq = []
          ∧ ((portPd s p).explicit = true → (portCc t p).state = .rootHold ∧ (portCinch t p).st = .holdKept
              ∧ (portCinch t p).gates = (portCinch s p).gates))
    ∧ (∀ s : State, s.strap.rootHb.any (fun b => b.lost) = false → ∃ t, exec (.crownStrapLoss true) s = .next t
      ∧ t.strap = s.strap)
    ∧ (∀ s : State, ∃ t, exec .crownResetWireAssert s = .next t
      ∧ t.strap.wire = true ∧ t.strap.link = .lost ∧ t.strap.rootLost = true ∧ t.strap.crownLost = true
      ∧ t.power = { s.power with refoscRestart := !s.power.refoscRunning }
      ∧ t.strap.hbTicks = none ∧ t.strap.goodHb = 0
      ∧ (s.strap.crownLost = false →
          t.strap.lastCause = 4 ∧ t.strap.lossCount = bump 8 s.strap.lossCount ∧ t.strap.wireLoss = true)
      ∧ (s.strap.crownLost = true → t.strap.lastCause = s.strap.lastCause ∧ t.strap.lossCount = s.strap.lossCount))
    ∧ (∀ s : State, (s.boot.phase = .rootLoad ∨ s.boot.phase = .selftest ∨ s.boot.phase = .ready ∨ s.boot.phase = .limp) →
      ∃ t, exec .crownResetWireRelease s = .next t ∧ t.strap = { s.strap with wire := false })
    ∧ (∀ s : State, (s.boot.phase = .resetHold ∨ s.boot.phase = .crownReset ∨ s.boot.phase = .fetch) →
      ∃ t, exec .crownResetWireRelease s = .next t ∧ t.strap = s.strap)

/-- At the expiry of a running hold timer the hold is over: with fallback 0x00 a source of a powered group goes to
vSafe5V with Rp at the Type-C current that Root held for it and a sink or backfeed port keeps Rd and its gates; with
0x01 the gates go off, discharge comes on and CC opens. Concluded to complete, with the effect of its own:
holdExpire. (R220) -/
def Obligations.HoldExpiryFallback : Prop :=
  (∀ (p : Fin 8) (s : State), s.strap.holds[p].inHold = true → s.strap.holds[p].timerRunning = true →
      s.strap.holds[p].frozen = false → s.strap.holds[p].fallbackOff = false → (portPd s p).source = true →
      ∃ t, exec (.holdExpire p) s = .next t
      ∧ (portCinch t p).vset = 0 ∧ (portCinch t p).contractMv = 5000
      ∧ (portCc t p).term = (if portPowered s p then .rp s.strap.holds[p].rpLevel else .opened)
      ∧ (portCinch t p).gates = (portCinch s p).gates
      ∧ t.strap.holds[p] = { s.strap.holds[p] with
          inHold := false, timerRunning := false, fellBack := true, fellBackOff := false })
    ∧ (∀ (p : Fin 8) (s : State), s.strap.holds[p].inHold = true → s.strap.holds[p].timerRunning = true →
      s.strap.holds[p].frozen = false → s.strap.holds[p].fallbackOff = false → (portPd s p).source = false →
      ∃ t, exec (.holdExpire p) s = .next t
      ∧ portCc t p = portCc s p ∧ (portCinch t p).gates = (portCinch s p).gates
      ∧ (portCinch t p).dsch = (portCinch s p).dsch ∧ (portCinch t p).st = (portCinch s p).st
      ∧ t.strap.holds[p] = { s.strap.holds[p] with
          inHold := false, timerRunning := false, fellBack := true, fellBackOff := false })
    ∧ (∀ (p : Fin 8) (s : State), s.strap.holds[p].inHold = true → s.strap.holds[p].timerRunning = true →
      s.strap.holds[p].frozen = false → s.strap.holds[p].fallbackOff = true → ∃ t, exec (.holdExpire p) s = .next t
      ∧ (portCinch t p).gates = false ∧ (portCinch t p).dsch = portPowered s p ∧ (portCc t p).term = .opened
      ∧ t.strap.holds[p] = { s.strap.holds[p] with
          inHold := false, timerRunning := false, fellBack := true, fellBackOff := true })
    ∧ (∀ (p : Fin 8) (s : State), s.strap.holds[p].timerRunning = false → ∃ t, exec (.holdExpire p) s = .next t
      ∧ t.strap = s.strap ∧ portCinch t p = portCinch s p)

/-- A TRIP that Crown's stand can act on records the trip and turns the port's gates off; ALARM REFOSC_FAIL sets its
alarm and entry whether or not a loss is declared. In port order, a port's RESYNC gives its OUTCOME, freezes its
hold timer and shows its fallback; the ending RESYNC brings the link up and clears both losses. CC_EVENT gives the
stand the levels; PORT_CMD makes Root act on a port that is in no hold, and does nothing at one that is. Concluded
to complete, with the effect of its own: trip, alarm, resync, ccEvent, portCmd. Where a clause assumes s.raised =
[]: no event waits to be written; every step leaves it so (StepsSettleAlarmsAndIrqs). (R200, R218, R222, R223, R224,
R225, R646, R648, Table 8.3) -/
def Obligations.StrapReports : Prop :=
  (∀ (p : Fin 8) (s : State) (k : Byte × Half), s.strap.holds[p].tripDue = some k → k.1 ≠ 0 → frameGoes (.trip p) s →
      standActs s p = true → ∃ t, exec (.trip p) s = .next t
      ∧ t.strap.holds[p].tripDue = none ∧ (portCinch t p).gates = false ∧ (portCinch t p).dsch = portPowered s p
      ∧ (portCinch t p).lastTrip = BitVec.ofNat 3 k.1.toNat ∧ (portCinch t p).trips = bump 8 (portCinch s p).trips)
    ∧ (∀ (s : State) (n : Nat), s.power.refoscReport = some n → frameGoes .alarm s → s.raised = [] →
      ∃ t, exec .alarm s = .next t
      ∧ t.host.devAlarms.getLsbD 1 = true ∧ t.power.refoscReport = some n
      ∧ logged (devEv 0x0006 6 [BitVec.ofNat 8 (satTo 8 n)]) s t)
    ∧ (∀ (p : Fin 8) (s : State), frameGoes (.resync (.port p)) s → ∃ t, exec (.resync (.port p)) s = .next t
      ∧ t.strap.holds[p] = { s.strap.holds[p] with
          outcome := some (outcomeOf s p), timerRunning := false, frozen := s.strap.holds[p].inHold }
      ∧ t.strap.fallbackAck = withFallback p s.strap.holds[p].fallbackOff s.strap.fallbackAck
      ∧ t.strap.link = .resync ∧ t.strap.resyncNext = p.val + 1)
    ∧ (∀ (p : Fin 8) (s : State), s.strap.resyncNext ≠ p.val → ∃ t, exec (.resync (.port p)) s = .next t
      ∧ t.strap = { s.strap with lanes := [] })
    ∧ (∀ s : State, frameGoes (.resync .ending) s → ∃ t, exec (.resync .ending) s = .next t
      ∧ t.strap.link = .up ∧ t.strap.crownLost = false ∧ t.strap.rootLost = false ∧ t.strap.wireLoss = false
      ∧ t.strap.lastDuration = satTo 16 ((s.strap.rootTime - BitVec.ofNat 32 s.strap.lossStart).toNat / 10)
      ∧ t.shown = none
      ∧ (s.strap.wireLoss = false → isOpen s = true → t.host.irqStat.getLsbD 4 = true))
    ∧ (∀ s : State, s.strap.resyncNext ≠ 8 → ∃ t, exec (.resync .ending) s = .next t
      ∧ t.strap = { s.strap with lanes := [] })
    ∧ (∀ (p : Fin 8) (s : State) (e : CcReport), (portCc s p).events.head? = some e → frameGoes (.ccEvent p) s →
      ∃ t, exec (.ccEvent p) s = .next t
      ∧ (portCc t p).cc1 = e.cc1 ∧ (portCc t p).cc2 = e.cc2 ∧ (portCc t p).events = (portCc s p).events.drop 1)
    ∧ (∀ (p : Fin 8) (l : Fin 3) (s : State), frameGoes (.portCmd p (.presentRp l)) s → s.strap.codeRunning = true →
      s.strap.holds[p].inHold = false → s.strap.holds[p].standHold = false →
      ∃ t, exec (.portCmd p (.presentRp l)) s = .next t
      ∧ portCc t p = { portCc s p with term := if portPowered s p then .rp l else .opened })
    ∧ (∀ (p : Fin 8) (s : State), frameGoes (.portCmd p .fastOff) s → s.strap.codeRunning = true →
      s.strap.holds[p].inHold = false → s.strap.holds[p].standHold = false →
      ∃ t, exec (.portCmd p .fastOff) s = .next t
      ∧ (portCinch t p).gates = false ∧ (portCinch t p).dsch = portPowered s p)
    ∧ (∀ (p : Fin 8) (c : Int) (s : State), frameGoes (.portCmd p (.vset c)) s → s.strap.codeRunning = true →
      s.strap.holds[p].inHold = false → s.strap.holds[p].standHold = false →
      ∃ t, exec (.portCmd p (.vset c)) s = .next t
      ∧ portCinch t p = { portCinch s p with vset := limitCode (portCinch s p) c })
    ∧ (∀ (p : Fin 8) (w : Word) (s : State), frameGoes (.portCmd p (.setFt w)) s → s.strap.codeRunning = true →
      s.strap.holds[p].inHold = false → s.strap.holds[p].standHold = false →
      ∃ t, exec (.portCmd p (.setFt w)) s = .next t ∧ portCinch t p = { portCinch s p with rootFt := w })
    ∧ (∀ (p : Fin 8) (op : PortOp) (s : State), noneHeld s →
        (s.strap.codeRunning = false ∨ s.strap.holds[p].inHold = true) →
      ∃ t, exec (.portCmd p op) s = .next t ∧ portCinch t p = portCinch s p ∧ portCc t p = portCc s p)

/-- tCCDebounce with the partner stable attaches a source with its gates turned on, a sink, or starts Try.SRC;
tPDDebounce takes an open AttachWait back to Unattached and detaches a source whose partner is gone; a debounce that
the flood flag lengthens goes on past its programmed time with DEB_EXTENDED set, and counts in DEB_EXTS when it
completes, which it does not while R260 lengthens it; DRP toggles between the Unattached states; tTryTimeout leaves
Try.SRC where Rd stands on no one line; the wait after it attaches as sink with Rp on one line and VBUS there, and
else ends Unattached; a sink that loses VBUS outside the swaps and transitions of R651 goes to Unattached.SNK, and
within them does not. (The Try.SRC path is log entry 20's, VBUS there log entry 201's, the model's choices.)
Concluded to complete, with the effect of its own: ccDebounceExpire, pdDebounceExpire, debounceExtended, drpToggle,
tryTimerExpire, vbusDisconnect. (R16, R236, R237, R238, R260, R261, R650, R651, Table 9.3) -/
def Obligations.TypeCAttach : Prop :=
  (∀ (p : Fin 8) (s : State), standTimes s p = true → (portCc s p).state = .attachWaitSrc →
    srcSees (portCc s p) = true →
      ¬((portCc s p).cc1 = .rd ∧ (portCc s p).cc2 = .rd) →
      debounceEnds p .cc s →
      serviceable s p = true → s.power.groupUp[groupOf p] = true → flag (portCinch s p).cfg 24 = false →
      (portCinch s p).backfeed = false → ∃ t, exec (.ccDebounceExpire p) s = .next t
      ∧ (portCc t p).state = .attachedSrc ∧ (portCc t p).orient = decide ((portCc s p).cc2 = .rd)
      ∧ (portPd t p).source = true ∧ (portPd t p).dfp = true ∧ (portCinch t p).gates = true
          ∧ (portCinch t p).st = .inrush)
    ∧ (∀ (p : Fin 8) (s : State), standTimes s p = true → (portCc s p).state = .attachWaitSnk →
        snkSees (portCc s p) = true →
      ¬(isRp (portCc s p).cc1 = true ∧ isRp (portCc s p).cc2 = true) →
      debounceEnds p .cc s →
      ∃ t, exec (.ccDebounceExpire p) s = .next t
      ∧ (if ccRole (portCc s p) = 2 ∧ flag (portCc s p).cfg 9 = true then
          (portCc t p).state = .trySrc
          ∧ (portCc t p).term = (if portPowered s p then .rp (rpLevel (portCc s p)) else .opened)
        else (portCc t p).state = .attachedSnk ∧ (portPd t p).source = false ∧ (portPd t p).step = .snkWaitCaps))
    ∧ (∀ (p : Fin 8) (s : State), standTimes s p = true →
      ((portCc s p).state = .attachWaitSrc ∨ (portCc s p).state = .attachWaitSnk) → bothOpen (portCc s p) = true →
      debounceEnds p .pd s →
      serviceable s p = true → s.power.groupUp[groupOf p] = true → ∃ t, exec (.pdDebounceExpire p) s = .next t
      ∧ (portCc t p).state = (if field (portCc s p).cfgW 5 4 = 1
          ∨ (field (portCc s p).cfgW 5 4 = 2
          ∧ (portCc s p).state = .attachWaitSnk) then .unattachedSnk else .unattachedSrc)
      ∧ (portCc t p).debounce = none)
    ∧ (∀ (p : Fin 8) (s : State), standTimes s p = true → (portCc s p).state = .attachedSrc →
      attachedSeen (portCc s p) ≠ .rd →
      debounceEnds p .pd s →
      ∃ t, exec (.pdDebounceExpire p) s = .next t
      ∧ isAttached (portCc t p).state = false ∧ (portCinch t p).gates = false ∧ (portPd t p).explicit = false)
    ∧ (∀ (p : Fin 8) (s : State) (d : Debounce), (portCc s p).debounce = some d → standTimes s p = true →
      d.timer = .pd → (portCc s p).debExtended = false → debLengthened s (portCc s p) d = true →
      ∃ t, exec (.pdDebounceExpire p) s = .next t ∧ portCc t p = { portCc s p with debExtended := true })
    ∧ (∀ (p : Fin 8) (s : State) (d : Debounce), (portCc s p).debounce = some d → standTimes s p = true →
      (portCc s p).debExtended = true → debLengthened s (portCc s p) d = false → (portCc s p).state = .errorRecovery →
      ∃ t, exec (.debounceExtended p d.timer) s = .next t
      ∧ portCc t p = { portCc s p with debExts := bump 6 (portCc s p).debExts, debExtended := false, debounce := none })
    ∧ (∀ (p : Fin 8) (s : State) (d : Debounce), (portCc s p).debounce = some d →
      ((portCc s p).debExtended = false ∨ debLengthened s (portCc s p) d = true) →
      ∃ t, exec (.debounceExtended p d.timer) s = .next t ∧ portCc t p = portCc s p)
    ∧ (∀ (p : Fin 8) (s : State), standTimes s p = true → ccRole (portCc s p) = 2 → ccPending (portCc s p) = false →
      (portCc s p).state = .unattachedSrc →
      ∃ t, exec (.drpToggle p) s = .next t ∧ (portCc t p).term = .rd
      ∧ (portCc t p).state = (if snkSees (portCc s p) then .attachWaitSnk else .unattachedSnk))
    ∧ (∀ (p : Fin 8) (s : State), standTimes s p = true → ccRole (portCc s p) = 2 → ccPending (portCc s p) = false →
      (portCc s p).state = .unattachedSnk →
      ∃ t, exec (.drpToggle p) s = .next t ∧ (portCc t p).term = .rp (rpLevel (portCc s p))
      ∧ (portCc t p).state = (if srcSees (portCc s p) then .attachWaitSrc else .unattachedSrc))
    ∧ (∀ (p : Fin 8) (s : State), standTimes s p = true → (portCc s p).state = .trySrc → oneRd (portCc s p) = false →
      ∃ t, exec (.tryTimerExpire p .tryTimeout) s = .next t ∧ (portCc t p).state = .tryWaitSnk
      ∧ (portCc t p).term = (if portPowered s p then .rd else .opened))
    ∧ (∀ (p : Fin 8) (s : State), standTimes s p = true → (portCc s p).state = .tryWaitSnk →
        oneRp (portCc s p) = false →
      serviceable s p = true → s.power.groupUp[groupOf p] = true →
      ∃ t, exec (.tryTimerExpire p .drpTryWait) s = .next t
      ∧ (portCc t p).state ≠ .tryWaitSnk ∧ isAttached (portCc t p).state = false
      ∧ (field (portCc s p).cfgW 5 4 = 2 → bothOpen (portCc s p) = true → (portCc t p).state = .unattachedSnk))
    ∧ (∀ (p : Fin 8) (s : State), standTimes s p = true → (portCc s p).state = .tryWaitSnk →
        oneRp (portCc s p) = true →
      debounceEnds p .cc s → ∃ t, exec (.ccDebounceExpire p) s = .next t
      ∧ (portCc t p).state = (if 3670 ≤ vbusMv (portMetro s p) then .attachedSnk else .tryWaitSnk)
      ∧ (portCc t p).debounce = none)
    ∧ (∀ (p : Fin 8) (t0 : TryTimer) (s : State), (portCc s p).state ≠ .trySrc → (portCc s p).state ≠ .tryWaitSnk →
      ∃ t, exec (.tryTimerExpire p t0) s = .next t ∧ portCc t p = portCc s p)
    ∧ (∀ (p : Fin 8) (s : State), standTimes s p = true → rootWatches s p = false →
        (portCc s p).state = .attachedSnk →
      vbusExempt (portPd s p) = false → ∃ t, exec (.vbusDisconnect p) s = .next t
      ∧ isAttached (portCc t p).state = false ∧ (portCinch t p).gates = false ∧ (portPd t p).explicit = false
      ∧ (serviceable t p = true → s.power.groupUp[groupOf p] = true → bothOpen (portCc s p) = true →
          (portCc t p).state = .unattachedSnk))
    ∧ (∀ (p : Fin 8) (s : State), rootWatches s p = false → vbusExempt (portPd s p) = true →
      ∃ t, exec (.vbusDisconnect p) s = .next t ∧ portCc t p = portCc s p)

/-- A VCONN overcurrent turns the switch off, discharges its line and latches; a CC over-voltage opens both lines and
leads to ErrorRecovery, whose end returns the port once both lines have been below 5.5 V; a configuration write is
held as written, and takes effect at once only while the port is Unattached; Root's recognition changes what Root
shows, ends a CC discharge once the line that carried VCONN is seen below 0.8 V (which recognised levels say so is
log entry 179, the model's choice) and is reported to the stand in a CC_EVENT while Crown can be told, the stand's
own levels staying; in hold a source whose partner is gone is detached. Concluded to complete, with the effect of
its own: vconnOcTrip, ccOvpTrip, errorRecoveryEnd, ccConfigWrite, ccRecognitionChange. (R200, R221, R232, R234,
R244, R245, R246, R247, R248) -/
def Obligations.VconnAndCcFaults : Prop :=
  (∀ (p : Fin 8) (s : State), (portCc s p).vconnOn = true → ∃ t, exec (.vconnOcTrip p) s = .next t
      ∧ (portCc t p).vconnOn = false ∧ (portCc t p).vconnOc = true ∧ (portCc t p).vconnLatched = true
      ∧ (portCc t p).ccDischarge = true)
    ∧ (∀ (p : Fin 8) (line : Bool) (s : State), rootAlone s p = false → (portCc s p).state ≠ .outOfService →
      s.groups[groupOf p].gcutOpen = false → ∃ t, exec (.ccOvpTrip p line) s = .next t
      ∧ (portCc t p).state = .errorRecovery ∧ (portCc t p).term = .opened ∧ (portCc t p).ccOvp = true
      ∧ (portCc t p).vconnOn = false ∧ (portCinch t p).gates = false)
    ∧ (∀ (p : Fin 8) (line : Bool) (s : State), rootAlone s p = true → ∃ t, exec (.ccOvpTrip p line) s = .next t
      ∧ t.strap.holds[p].tripped = true ∧ t.strap.holds[p].inHold = false ∧ (portCinch t p).gates = false
      ∧ (portCinch t p).dsch = portPowered s p ∧ (portCc t p).term = .opened)
    ∧ (∀ (p : Fin 8) (ccLow : Bool) (s : State), ccRuns s p = true → (portCc s p).state = .errorRecovery →
      ((portCc s p).ovpTrip = false ∨ ccLow = true) → ∃ t, exec (.errorRecoveryEnd p ccLow) s = .next t
          ∧ (portCc t p).state ≠ .errorRecovery ∧ (portCc t p).ovpTrip = false
      ∧ (serviceable s p = false → (portCc t p).state = .outOfService))
    ∧ (∀ (p : Fin 8) (s : State), (portCc s p).ovpTrip = true → ∃ t, exec (.errorRecoveryEnd p false) s = .next t
      ∧ portCc t p = portCc s p)
    ∧ (∀ (who : Requester) (p : Fin 8) (v : Word) (s : State), maySet who (0x8104 + 0x400 * p.val) s →
      ∃ t, exec (.ccConfigWrite who p 1 v) s = .next t
      ∧ (portCc t p).time0W = v &&& 0xFFFFFF00
      ∧ (isUnattached (portCc s p).state = false → (portCc t p).time0 = (portCc s p).time0)
      ∧ (isUnattached (portCc s p).state = true → standActs s p = true → (portCc t p).time0 = v &&& 0xFFFFFF00))
    ∧ (∀ (who : Requester) (p : Fin 8) (v : Word) (s : State), maySet who (0x8100 + 0x400 * p.val) s →
      isUnattached (portCc s p).state = false → ∃ t, exec (.ccConfigWrite who p 0 v) s = .next t
      ∧ (field v 5 4 = 3 → portCc t p = { portCc s p with
          cfgW := (v &&& 0x00000EC0) ||| ((portCc s p).cfgW &&& 0x30) })
      ∧ (field v 5 4 ≠ 3 → portCc t p = { portCc s p with cfgW := v &&& 0x00000EF0 }))
    ∧ (∀ (p : Fin 8) (cc1 cc2 : CcSeen) (s : State), s.boot.phase ≠ .limp → rootWatches s p = false →
      ∃ t, exec (.ccRecognitionChange p cc1 cc2) s = .next t
      ∧ portCc t p = { portCc s p with
          rootCc1 := cc1, rootCc2 := cc2
          ccDischarge := (portCc s p).ccDischarge
            && !belowDischarge (portCc s p) (if (portCc s p).orient then cc1 else cc2)
          events := if portReach s p then (portCc s p).events ++ [ccReport (portCc s p) cc1 cc2] else [] })
    ∧ (∀ (p : Fin 8) (cc1 cc2 : CcSeen) (s : State), rootWatches s p = true → s.strap.holds[p].wasSource = true →
      (if (portCc s p).orient then cc2 else cc1) ≠ .rd → ∃ t, exec (.ccRecognitionChange p cc1 cc2) s = .next t
      ∧ t.strap.holds[p].detached = true ∧ t.strap.holds[p].inHold = false ∧ (portCinch t p).gates = false)

/-- The flood flag sets while its own band is enabled, counting FLOOD_IDLE outside a packet, and clears. Root answers a
good packet that is not flooded with GoodCRC on its ordered set and forwards it; in hold it sends none; a packet in
which the flag was set is flooded, gets no GoodCRC and counts in FLOOD_PKTS, whatever its CRC; a packet with a bad
CRC counts in CRC_ERRS and is not forwarded. With the oscillator stopped, no attached line, in Debug Accessory or
after a CC_OVP trip nothing is received or answered. A Hush request is pending and sent where R262 allows it and
NOT_AVAILABLE otherwise; a refusal, the window's start and its end move HUSHCTL.STATUS, and a refusal ends the
request's own AMS only; in a Strap loss these timers do not act. Concluded to complete, with the effect of its own:
floodSet, floodClear, bmcPacketRx, hushRequest, hushRefused, hushWindowOpen, hushWindowEnd. Where a clause assumes
s.raised = []: no event waits to be written; every step leaves it so (StepsSettleAlarmsAndIrqs). (R219, R250, R251,
R252, R253, R255, R256, R262, R264, R266, R267) -/
def Obligations.FloodAndHush : Prop :=
  (∀ (p : Fin 8) (high : Bool) (bit : Option Nat) (s : State), bandOn (portCc s p) high = true →
      (portCc s p).floodNow = false → ∃ t, exec (.floodSet p high bit) s = .next t
      ∧ (portCc t p).floodNow = true ∧ (portCc t p).floodHigh = high
      ∧ (portCc t p).pktFlood = ((portCc s p).pktFlood <|> bit.map fun b => (high, b))
      ∧ (portCc t p).floodIdle = (if bit.isSome then (portCc s p).floodIdle else bump 10 (portCc s p).floodIdle))
    ∧ (∀ (p : Fin 8) (high : Bool) (bit : Option Nat) (s : State), bandOn (portCc s p) high = false →
      ∃ t, exec (.floodSet p high bit) s = .next t ∧ portCc t p = portCc s p)
    ∧ (∀ (p : Fin 8) (s : State), (portCc s p).floodNow = true → ∃ t, exec (.floodClear p false) s = .next t
      ∧ portCc t p = { portCc s p with floodNow := false, lastFlood := some s.time.now })
    ∧ (∀ (p : Fin 8) (s : State), (portCc s p).floodNow = true → ∃ t, exec (.floodClear p true) s = .next t
      ∧ (portCc t p).floodNow = false ∧ (portCc t p).pktFlood.isSome = true)
    ∧ (∀ (p : Fin 8) (pkt : BmcPacket) (s : State), bmcOn s p = true → pkt.crcOk = false →
      ∃ t, exec (.bmcPacketRx p pkt) s = .next t
      ∧ (portPd t p).crcErrs = bump 12 (portPd s p).crcErrs ∧ (portPd t p).rxq = (portPd s p).rxq
      ∧ (portPd t p).line = none)
    ∧ (∀ (p : Fin 8) (pkt : BmcPacket) (s : State), bmcOn s p = true →
      (packetFlood (portCc s p)).isSome = true → ∃ t, exec (.bmcPacketRx p pkt) s = .next t
      ∧ (portCc t p).floodPkts = bump 12 (portCc s p).floodPkts ∧ (portCc t p).pktFlood = none
      ∧ (portPd t p).line = none)
    ∧ (∀ (p : Fin 8) (pkt : BmcPacket) (s : State), bmcOn s p = true → pkt.crcOk = true →
      packetFlood (portCc s p) = none → isReady s = true → rootAlone s p = false → pkt.msg ≠ .goodCrc →
      s.raised = [] →
      ∃ t, exec (.bmcPacketRx p pkt) s = .next t ∧ portCc t p = portCc s p
      ∧ portPd t p = { portPd s p with
          line := some { sop := pkt.sop, msg := .goodCrc }
          rxq := (portPd s p).rxq
            ++ [{ flooded := false, sop := pkt.sop, flaw := pkt.flaw, msg := pkt.msg, pol := pkt.pol }] })
    ∧ (∀ (p : Fin 8) (pkt : BmcPacket) (s : State), bmcOn s p = true → s.strap.holds[p].inHold = true →
      ∃ t, exec (.bmcPacketRx p pkt) s = .next t ∧ (portPd t p).line = none)
    ∧ (∀ (p : Fin 8) (pkt : BmcPacket) (s : State), (s.power.refoscRunning = false ∨ (portCc s p).state = .debugAcc
        ∨ isUnattached (portCc s p).state = true ∨ (portCc s p).ovpTrip = true ∨ (portCc s p).term = .opened) →
        s.raised = [] →
      ∃ t, exec (.bmcPacketRx p pkt) s = .next t ∧ portPd t p = portPd s p ∧ portCc t p = portCc s p)
    ∧ (∀ (who : Requester) (p : Fin 8) (v : Word) (s : State), maySet who (0x8118 + 0x400 * p.val) s →
        flag v 31 = true →
      hushBusy (portCc s p) = false → ∃ t, exec (.hushRequest p (some (who, v))) s = .next t
      ∧ (hushAllowed s p = true → (portCc t p).hushStatus = .pending ∧ (portPd t p).ams = amsHush
          ∧ (portPd t p).txq = (portPd s p).txq ++ [TxMsg.mk .sop (.hushReq (hushHeader s 0)
              (hushVdo (v.extractLsb' 16 8) (BitVec.ofNat 16 (max 1 (min 5000 (field v 15 0))))))])
      ∧ (hushAllowed s p = false → (portCc t p).hushStatus = .notAvailable ∧ (portPd t p).txq = (portPd s p).txq))
    ∧ (∀ (p : Fin 8) (s : State), flag (portCc s p).floodCfg 15 = false → ∃ t, exec (.hushRequest p none) s = .next t
      ∧ portCc t p = portCc s p)
    ∧ (∀ (p : Fin 8) (c : HushRefusal) (s : State), standTimes s p = true → (portCc s p).hushStatus = .pending →
      ∃ t, exec (.hushRefused p c) s = .next t ∧ (portCc t p).hushStatus = .refused
      ∧ (portPd t p).ams = (if (portPd s p).ams = amsHush then 0 else (portPd s p).ams))
    ∧ (∀ (p : Fin 8) (c : HushRefusal) (s : State), standTimes s p = false → s.raised = [] →
      (∃ t, exec (.hushRefused p c) s = .next t ∧ portCc t p = portCc s p ∧ portPd t p = portPd s p)
      ∧ (∃ t, exec (.hushWindowOpen p) s = .next t ∧ portCc t p = portCc s p)
      ∧ (∃ t, exec (.hushWindowEnd p) s = .next t ∧ portCc t p = portCc s p))
    ∧ (∀ (p : Fin 8) (s : State), standTimes s p = true → (portCc s p).hushStatus = .granted →
        ∃ t, exec (.hushWindowOpen p) s = .next t
      ∧ portCc t p = { portCc s p with hushStatus := .opened, hushOpenAt := s.time.now })
    ∧ (∀ (p : Fin 8) (s : State), standTimes s p = true → (portCc s p).hushStatus = .opened →
        ∃ t, exec (.hushWindowEnd p) s = .next t
      ∧ portCc t p = { portCc s p with hushStatus := .idle })

/-- PD_RX delivers the oldest packet that Root has received. A flooded message changes nothing else; a fault of form is
a violation of its class; an acceptable Request is answered Accept and starts tSrcTransition with its objects
pending, one that fails a check is a violation of that check's class, and while the policy holds the budget it is
answered Wait; Get_Revision is answered; GoodCRC to Source_Capabilities makes the list sent the offer. PD_TX
transmits the first waiting message unless Root may not transmit; with what the Pattern asks for, a port in a
contract starts a swap. Concluded to complete, with the effect of its own: pdRx, pdTx. Where a clause assumes
s.raised = []: no event waits to be written; every step leaves it so (StepsSettleAlarmsAndIrqs). (R219, R251, R271,
R279, R280, R281, R282, R286, R310, Table 10.2, Table 10.4) -/
def Obligations.PdMessages : Prop :=
  (∀ (p : Fin 8) (k : RxPacket) (rest : List RxPacket) (s : State), (portPd s p).rxq = k :: rest → k.flooded = true →
      frameGoes (.pdRx p) s → s.raised = [] → ∃ t, exec (.pdRx p) s = .next t
      ∧ portPd t p = { portPd s p with rxq := rest } ∧ portCc t p = portCc s p)
    ∧ (∀ (p : Fin 8) (k : RxPacket) (f : PdFlaw) (s : State), k.flooded = false →
      frameGoes (.pdRx p) (rxFirst p { k with flaw := some f } s) →
      standActs s p = true → isAttached (portCc s p).state = true → (portPd s p).bistTest = false →
      ∃ t, exec (.pdRx p) (rxFirst p { k with flaw := some f } s) = .next t
      ∧ (portPd t p).lastClass = BitVec.ofNat 8 (flawClass f).val
      ∧ (portPd t p).violCount = bump 16 (portPd s p).violCount)
    ∧ (∀ (p : Fin 8) (rdo : Word) (pol : PdPolicy) (s : State),
      frameGoes (.pdRx p) (rxFirst p (goodRx (.request rdo) pol) s) → standActs s p = true →
      isAttached (portCc s p).state = true → (portPd s p).bistTest = false → sharedStalled s = false →
      (portPd s p).source = true → (portPd s p).caps ≠ [] →
          ((portPd s p).step = .srcCaps ∨ (portPd s p).step = .ready) →
      ∃ t, exec (.pdRx p) (rxFirst p (goodRx (.request rdo) pol) s) = .next t
      ∧ (judge (portPd s p) false rdo = none → pol.holdBudget = false → (portMetro s p).fault = false →
          (portPd t p).step = .srcTransition ∧ (portPd t p).pendRdo = rdo
              ∧ (portPd t p).pendPdo = reqPdo (portPd s p) rdo
          ∧ (portPd t p).txq = (portPd s p).txq ++ [{ sop := .sop, msg := .accept }] ∧ (portPd t p).waits = 0)
      ∧ (judge (portPd s p) false rdo = none → pol.holdBudget = true → (portPd s p).waits < 5 →
          (portPd t p).txq = (portPd s p).txq ++ [{ sop := .sop, msg := .wait }]
          ∧ (portPd t p).waits = (portPd s p).waits + 1 ∧ (portPd t p).step = (portPd s p).step)
      ∧ (∀ k : Fin 24, judge (portPd s p) false rdo = some k → (portPd t p).lastClass = BitVec.ofNat 8 k.val
          ∧ (portPd t p).violCount = bump 16 (portPd s p).violCount))
    ∧ (∀ (p : Fin 8) (rdo : Word) (pol : PdPolicy) (s : State),
      frameGoes (.pdRx p) (rxFirst p (goodRx (.request rdo) pol) s) → standActs s p = true →
      isAttached (portCc s p).state = true → (portPd s p).bistTest = false → sharedStalled s = true → s.raised = [] →
      ∃ t, exec (.pdRx p) (rxFirst p (goodRx (.request rdo) pol) s) = .next t
      ∧ portPd t p = { portPd s p with held := (portPd s p).held ++ [(.request rdo, pol)] })
    ∧ (∀ (p : Fin 8) (pol : PdPolicy) (s : State), frameGoes (.pdRx p) (rxFirst p (goodRx .getRevision pol) s) →
      standActs s p = true → isAttached (portCc s p).state = true → (portPd s p).bistTest = false →
      ∃ t, exec (.pdRx p) (rxFirst p (goodRx .getRevision pol) s) = .next t
      ∧ (portPd t p).txq = (portPd s p).txq ++ [{ sop := .sop, msg := .revision 3 }]
      ∧ (portPd t p).step = (portPd s p).step)
    ∧ (∀ (p : Fin 8) (pdos : List Word) (pol : PdPolicy) (s : State),
      frameGoes (.pdRx p) (rxFirst p (goodRx .goodCrc pol) s) → standActs s p = true →
      isAttached (portCc s p).state = true → ∃ t, exec (.pdRx p)
          (modPd p (fun q => { q with await := some { sop := .sop, msg := .sourceCaps pdos } })
            (rxFirst p (goodRx .goodCrc pol) s)) = .next t
      ∧ (portPd t p).caps = pdos ∧ (portPd t p).step = .srcCaps ∧ (portPd t p).await = none)
    ∧ (∀ (p : Fin 8) (s : State), frameGoes (.pdTx p none) s → txFree s p = true → s.raised = [] →
      ∃ t, exec (.pdTx p none) s = .next t
      ∧ portPd t p = { portPd s p with
          txq := (portPd s p).txq.tail, await := (portPd s p).txq.head?, line := (portPd s p).txq.head?, retry := 0
          msgIdTx := (portPd s p).msgIdTx + 1 })
    ∧ (∀ (p : Fin 8) (s : State), txFree s p = false → s.raised = [] →
      ∃ t, exec (.pdTx p none) s = .next t ∧ portPd t p = portPd s p)
    ∧ (∀ (p : Fin 8) (s : State), frameGoes (.pdTx p (some .prSwap)) s → standActs s p = true →
      (portPd s p).step = .ready → (portPd s p).ams = 0 → (portCinch s p).backfeed = false →
      ∃ t, exec (.pdTx p (some .prSwap)) s = .next t ∧ (portPd t p).step = .prsSent ∧ (portPd t p).ams = amsPrSwap)
    ∧ (∀ (p : Fin 8) (s : State), frameGoes (.pdTx p (some .drSwap)) s → standActs s p = true →
      (portPd s p).step = .ready → (portPd s p).ams = 0 → ∃ t, exec (.pdTx p (some .drSwap)) s = .next t
      ∧ (portPd t p).step = .drsSent ∧ ((portPd s p).dfp = true → (portPd t p).hushMode = false))

/-- Hard Reset signalling that reaches an attached line ends the contract, and in hold makes the port take its fallback;
tSrcTransition moves the loop to the pending voltage, or turns the gates off in a PR_Swap; a level not confirmed in
time, and a VCONN_Swap that cannot turn VCONN on, send Hard Reset; the Hard Reset timers take VBUS off, VCONN as it
was, and restore it; tSinkTx ends its wait. While the Strap is lost or the reference oscillator stopped, these
timers do not act. Concluded to complete, with the effect of its own: hardResetSignal, srcTransitionExpire,
pdTransitionFail, vconnSourceOnTimeout, hardResetTimer, sinkTxExpire. Where a clause assumes s.raised = []: no event
waits to be written; every step leaves it so (StepsSettleAlarmsAndIrqs). (R16, R216, R221, R243, R279, R283, R284,
R288, R290, R311, Table 10.9) -/
def Obligations.PdHardResetAndTransitions : Prop :=
  (∀ (p : Fin 8) (s : State), bmcOn s p = true → s.strap.holds[p].inHold = true →
    ∃ t, exec (.hardResetSignal p) s = .next t
      ∧ t.strap.holds[p].inHold = false ∧ t.strap.holds[p].hardReset = true ∧ t.strap.holds[p].fellBack = true
      ∧ (s.strap.holds[p].fallbackOff = true → (portCinch t p).gates = false
          ∧ (portCinch t p).dsch = portPowered s p))
    ∧ (∀ (p : Fin 8) (s : State), bmcOn s p = true → s.strap.holds[p].inHold = false → standActs s p = true →
      isAttached (portCc s p).state = true → ∃ t, exec (.hardResetSignal p) s = .next t
      ∧ (portPd t p).explicit = false ∧ (portPd t p).pdo = 0 ∧ (portPd t p).rdo = 0 ∧ (portPd t p).eprMode = false
      ∧ (portPd t p).auth = .none ∧ (portPd t p).hardResets = bump 8 (portPd s p).hardResets
      ∧ (portPd t p).step = (if (portPd s p).source then .hardResetHold else .snkHardReset)
      ∧ (portCinch t p).contractMv = 5000)
    ∧ (∀ (p : Fin 8) (s : State), bmcOn s p = false → s.raised = [] → ∃ t, exec (.hardResetSignal p) s = .next t
      ∧ portPd t p = portPd s p ∧ portCinch t p = portCinch s p)
    ∧ (∀ (p : Fin 8) (s : State), standTimes s p = true → (portPd s p).step = .srcTransition →
      (portCinch s p).compliance = false →
      ((portCinch s p).contractMv ≠ reqMv (portPd s p).pendPdo (portPd s p).pendRdo ∨ (portMetro s p).confirmed = false) →
      ∃ t, exec (.srcTransitionExpire p) s = .next t
      ∧ (portPd t p).step = .srcSettling
      ∧ (portCinch t p).contractMv = reqMv (portPd s p).pendPdo (portPd s p).pendRdo)
    ∧ (∀ (p : Fin 8) (s : State), standTimes s p = true → (portPd s p).step = .prsSrcAccepted →
        ∃ t, exec (.srcTransitionExpire p) s = .next t
      ∧ (portPd t p).step = .prsSrcOff ∧ (portCinch t p).gates = false)
    ∧ (∀ (p : Fin 8) (s : State), standTimes s p = true → (portPd s p).step = .srcSettling →
        ∃ t, exec (.pdTransitionFail p) s = .next t
      ∧ (portPd t p).hardResets = bump 8 (portPd s p).hardResets ∧ (portPd t p).explicit = false
      ∧ (portPd t p).step = (if (portPd s p).source then .hardResetHold else .snkHardReset))
    ∧ (∀ (p : Fin 8) (s : State), standTimes s p = true → (portPd s p).step = .vcsOn → (portCc s p).vconnOn = false →
      ∃ t, exec (.vconnSourceOnTimeout p) s = .next t ∧ (portPd t p).hardResets = bump 8 (portPd s p).hardResets
      ∧ (portPd t p).explicit = false)
    ∧ (∀ (p : Fin 8) (s : State), standTimes s p = true → (portPd s p).step = .hardResetHold →
      ∃ t, exec (.hardResetTimer p .psHardReset) s = .next t
      ∧ (portPd t p).step = .hardResetOff ∧ (portCinch t p).gates = false ∧ portCc t p = portCc s p)
    ∧ (∀ (p : Fin 8) (s : State), standTimes s p = true → (portPd s p).step = .hardResetOff → serviceable s p = true →
      s.power.groupUp[groupOf p] = true → flag (portCinch s p).cfg 24 = false →
      ∃ t, exec (.hardResetTimer p .srcRecover) s = .next t
      ∧ (portPd t p).step = .srcStartup ∧ (portCinch t p).gates = true
          ∧ (portCc t p).term = .rp (rpLevel (portCc s p)))
    ∧ (∀ (p : Fin 8) (s : State), standTimes s p = true → s.raised = [] → ∃ t, exec (.sinkTxExpire p) s = .next t
      ∧ portPd t p = { portPd s p with sinkTxWait := false })
    ∧ (∀ (p : Fin 8) (s : State), (strapUp s = false ∨ s.power.refoscRunning = false) → s.raised = [] →
      (∃ t, exec (.srcTransitionExpire p) s = .next t ∧ portPd t p = portPd s p ∧ portCinch t p = portCinch s p)
      ∧ (∃ t, exec (.pdTransitionFail p) s = .next t ∧ portPd t p = portPd s p)
      ∧ (∃ t, exec (.sinkTxExpire p) s = .next t ∧ portPd t p = portPd s p))

/-- Where its condition holds, each timeout counts one violation of its class: 8 EPR keep-alive, 9 PPS, 11 GoodCRC after
its retries, 12 tSenderResponse, 16 chunking, 21 AUTH_WAIT, 23 swap; a GoodCRC timeout retries first; Discover
Identity and Source_Capabilities are sent again up to their counts; the end of backfeed asks for PR_Swap, which an
open GCUT holds back; AUTH_WAIT counts only while a Security_Response is awaited. Concluded to complete, with the
effect of its own: eprKeepaliveTimeout, ppsTimeout, goodcrcTimeout, senderResponseTimeout, chunkTimeout,
authWaitExpire, swapTimeout, discoverIdentityTimer, sourceCapTimer, backfeedEnd. Where a clause assumes s.raised =
[]: no event waits to be written; every step leaves it so (StepsSettleAlarmsAndIrqs). (R275, R285, R288, R295, R301,
R308, R311, Table 10.5, Table 10.9) -/
def Obligations.PdTimeouts : Prop :=
  (∀ (p : Fin 8) (s : State), standTimes s p = true → (portPd s p).eprMode = true →
      ∃ t, exec (.eprKeepaliveTimeout p) s = .next t ∧ (portPd t p).lastClass = 8
      ∧ (portPd t p).violCount = bump 16 (portPd s p).violCount)
    ∧ (∀ (p : Fin 8) (s : State), standTimes s p = true → (portPd s p).source = true → (portPd s p).explicit = true →
      pdoPps (portPd s p).pdo = true → ∃ t, exec (.ppsTimeout p) s = .next t ∧ (portPd t p).lastClass = 9
      ∧ (portPd t p).violCount = bump 16 (portPd s p).violCount)
    ∧ (∀ (p : Fin 8) (s : State), standTimes s p = true → (portPd s p).await.isSome = true → (portPd s p).retry < 2 →
      ∃ t, exec (.goodcrcTimeout p) s = .next t
      ∧ (portPd t p).retry = (portPd s p).retry + 1 ∧ (portPd t p).retries = bump 12 (portPd s p).retries
      ∧ (portPd t p).await = (portPd s p).await ∧ (portPd t p).violCount = (portPd s p).violCount)
    ∧ (∀ (p : Fin 8) (s : State), standTimes s p = true →
        (portPd s p).await = some { sop := .sop, msg := .accept } → 2 ≤ (portPd s p).retry →
      ∃ t, exec (.goodcrcTimeout p) s = .next t ∧ (portPd t p).lastClass = 11
      ∧ (portPd t p).violCount = bump 16 (portPd s p).violCount ∧ (portPd t p).await = none)
    ∧ (∀ (p : Fin 8) (s : State), standTimes s p = true →
        ((portPd s p).step = .srcCaps ∨ (portPd s p).step = .snkRequested) →
      ∃ t, exec (.senderResponseTimeout p) s = .next t ∧ (portPd t p).lastClass = 12
      ∧ (portPd t p).violCount = bump 16 (portPd s p).violCount)
    ∧ (∀ (p : Fin 8) (s : State), standTimes s p = true → ∃ t, exec (.chunkTimeout p) s = .next t
      ∧ (portPd t p).lastClass = 16 ∧ (portPd t p).violCount = bump 16 (portPd s p).violCount)
    ∧ (∀ (p : Fin 8) (s : State), standTimes s p = true → (portPd s p).auth = .challenge →
      (portPd s p).authAwait = true → ∃ t, exec (.authWaitExpire p) s = .next t
      ∧ (portPd t p).lastClass = 21 ∧ (portPd t p).violCount = bump 16 (portPd s p).violCount)
    ∧ (∀ (p : Fin 8) (s : State), standTimes s p = true →
      ((portPd s p).step = .prsSrcWait ∨ (portPd s p).step = .prsSnkWait ∨ (portPd s p).step = .frsWait
          ∨ (portPd s p).step = .frsPsWait) →
      ∃ t, exec (.swapTimeout p) s = .next t ∧ (portPd t p).lastClass = 23
      ∧ (portPd t p).violCount = bump 16 (portPd s p).violCount)
    ∧ (∀ (p : Fin 8) (s : State), standTimes s p = true → (portPd s p).discWaiting = true →
        (portPd s p).discTries < 20 →
      ∃ t, exec (.discoverIdentityTimer p) s = .next t
      ∧ (portPd t p).discTries = (portPd s p).discTries + 1
          ∧ (portPd t p).txq = (portPd s p).txq ++ [{ sop := .sopPrime, msg := .discoverIdentity }])
    ∧ (∀ (p : Fin 8) (s : State), standTimes s p = true → (portPd s p).discWaiting = true →
        20 ≤ (portPd s p).discTries →
      ∃ t, exec (.discoverIdentityTimer p) s = .next t ∧ (portPd t p).discWaiting = false ∧ (portPd t p).cable = 0)
    ∧ (∀ (p : Fin 8) (s : State), standTimes s p = true → (portPd s p).source = true → (portPd s p).explicit = false →
      (portPd s p).step = .srcStartup → (portPd s p).discWaiting = false → sharedStalled s = false →
      ∃ t, exec (.sourceCapTimer p .sendSourceCap) s = .next t
      ∧ ((portPd s p).capsCount < 50 → (portPd t p).capsCount = (portPd s p).capsCount + 1)
      ∧ (50 ≤ (portPd s p).capsCount → (portPd t p).step = .idle))
    ∧ (∀ (p : Fin 8) (s : State), (portCinch s p).backfeed = true →
      s.groups[groupOf p].gcutOpen = false → portPowered s p = true → standTimes s p = true →
      (portPd s p).ams = 0 → ∃ t, exec (.backfeedEnd p false) s = .next t
      ∧ (portPd t p).step = .prsSent ∧ (portPd t p).ams = amsPrSwap
          ∧ (portPd t p).txq = (portPd s p).txq ++ [{ sop := .sop, msg := .prSwap }])
    ∧ (∀ (p : Fin 8) (s : State), (portCinch s p).backfeed = true → s.groups[groupOf p].gcutOpen = true →
        s.raised = [] →
      ∃ t, exec (.backfeedEnd p false) s = .next t ∧ portPd t p = portPd s p)
    ∧ (∀ (p : Fin 8) (s : State), (portPd s p).authAwait = false → s.raised = [] →
      ∃ t, exec (.authWaitExpire p) s = .next t ∧ portPd t p = portPd s p)

/-- Inrush by slew ends in On (or Backfeed) with the pumps full; a failed inrush, a gate fault and a fast trip turn the
gates off, start the discharge, set LAST_TRIP and count in TRIP_COUNT; below TRIP_LIMIT trips in 10 s the port goes
to ErrorRecovery, at it the port latches off, out of service; alone, Root turns the gates off and marks the hold
tripped. What does not reach the threshold of Table 11.2 trips nothing: for over-voltage the higher of the old and
the new contract voltage counts during a transition. In pulsed inrush a forward crossing ends the pulse instead.
Concluded to complete, with the effect of its own: inrushSlewEnd, inrushFail, gateFault, fastTrip. (R318, R319,
R321, R322, R323, R324, R327, R328, R221, Table 11.2) -/
def Obligations.InrushAndTrips : Prop :=
  (∀ (p : Fin 8) (s : State), inrushing (portCinch s p) = true → flag (portCinch s p).cfg 24 = false →
      ∃ t, exec (.inrushSlewEnd p) s = .next t ∧ (portCinch t p).pumpOk = true ∧ (portCinch t p).gates = true
      ∧ ((portCinch s p).st = .inrush → (portCinch t p).st = (if (portCinch s p).backfeed then .backfeed else .on)))
    ∧ (∀ (p : Fin 8) (s : State), inrushing (portCinch s p) = false →
      ∃ t, exec (.inrushSlewEnd p) s = .next t ∧ portCinch t p = portCinch s p)
    ∧ (∀ (p : Fin 8) (mv : Nat) (s : State), inrushing (portCinch s p) = true → rootAlone s p = false →
      ∃ t, exec (.inrushFail p mv) s = .next t ∧ (portCinch t p).gates = false
      ∧ (portCinch t p).dsch = portPowered s p
      ∧ (portCinch t p).lastTrip = 5 ∧ (portCinch t p).trips = bump 8 (portCinch s p).trips)
    ∧ (∀ (p : Fin 8) (b : Bool) (mv : Nat) (s : State), (portCinch s p).gates = true →
        inrushing (portCinch s p) = false →
      rootAlone s p = false → ∃ t, exec (.gateFault p b mv) s = .next t
      ∧ (portCinch t p).gates = false ∧ (portCinch t p).dsch = portPowered s p ∧ (portCinch t p).pumpOk = false
      ∧ (portCinch t p).lastTrip = 6 ∧ (portCinch t p).trips = bump 8 (portCinch s p).trips)
    ∧ (∀ (p : Fin 8) (k : TripKind) (m : Nat) (s : State), fastCrosses s p k m = true → rootAlone s p = false →
      (k = .forward → (portCinch s p).gates = true → s.pgs[p].owned = false) →
      ∃ t, exec (.fastTrip p k m) s = .next t
      ∧ (portCinch t p).gates = false ∧ (portCinch t p).dsch = portPowered s p
      ∧ ((portCinch s p).stuck = false → (portCinch t p).st = .fastTrip)
      ∧ (portCinch t p).lastTrip = BitVec.ofNat 3 (tripCode k) ∧ (portCinch t p).trips = bump 8 (portCinch s p).trips
      ∧ ((portCc s p).state ≠ .outOfService → (portPd t p).explicit = false ∧ (portCc t p).term = .opened))
    ∧ (∀ (p : Fin 8) (k : TripKind) (m : Nat) (s : State), fastCrosses s p k m = true → rootAlone s p = false →
      field (portCinch s p).ft 5 3 = 0 → (portCinch s p).latched = false →
      (portCc s p).state ≠ .outOfService → s.groups[groupOf p].gcutOpen = false →
      (k = .forward → (portCinch s p).gates = true → s.pgs[p].owned = false) →
      ∃ t, exec (.fastTrip p k m) s = .next t
      ∧ (portCc t p).state = .errorRecovery ∧ (portCinch t p).latched = false)
    ∧ (∀ (p : Fin 8) (k : TripKind) (m : Nat) (s : State), fastCrosses s p k m = true → rootAlone s p = false →
      field (portCinch s p).ft 5 3 ≠ 0 →
      field (portCinch s p).ft 5 3 ≤ (recent s 10000000 (portCinch s p).tripTimes).length + 1 →
      (k = .forward → (portCinch s p).gates = true → s.pgs[p].owned = false) → ∃ t, exec (.fastTrip p k m) s = .next t
      ∧ (portCc t p).state = .outOfService ∧ (portCinch t p).latched = true)
    ∧ (∀ (p : Fin 8) (k : TripKind) (m : Nat) (s : State), fastCrosses s p k m = true → rootAlone s p = true →
      (k = .forward → (portCinch s p).gates = true → s.pgs[p].owned = false) → ∃ t, exec (.fastTrip p k m) s = .next t
      ∧ (portCinch t p).gates = false ∧ (portCinch t p).dsch = portPowered s p
      ∧ t.strap.holds[p].tripped = true ∧ t.strap.holds[p].inHold = false)
    ∧ (∀ (p : Fin 8) (m : Nat) (s : State), fastCrosses s p .forward m = true → (portCinch s p).gates = true →
      s.pgs[p].owned = true → ∃ t, exec (.fastTrip p .forward m) s = .next t
      ∧ (portCinch t p).gates = true ∧ (portCinch t p).trips = (portCinch s p).trips)
    ∧ (∀ (p : Fin 8) (k : TripKind) (m : Nat) (s : State), fastCrosses s p k m = false →
      ∃ t, exec (.fastTrip p k m) s = .next t ∧ portCinch t p = portCinch s p ∧ t.strap = s.strap)
    ∧ (∀ (p : Fin 8) (m : Nat) (s : State), s.boot.phase ≠ .limp →
      100 * m < 99 * max 5750 (max (portCinch s p).oldMv (portCinch s p).contractMv * (100 + ovPercent (portCinch s p)) / 100) →
      ∃ t, exec (.fastTrip p .overVoltage m) s = .next t ∧ portCinch t p = portCinch s p)

/-- UNLATCH takes a latched port out of the latch; FORCE_OFF takes a port out of service with its gates off; while no
request reaches the port, the bit alone changes. REARM closes the group's GCUT and puts every port in use under
test, out of service; with the Strap lost it waits for the restore. A discharge interval ends with VBUS at or below
0.8 V in Off, and with VBUS still up, gates off, no Rp and no backfeed in STUCK_ON, which Root alone meets by its
own part; in Reset hold the discharge stays on, and a port that the Pattern marks unused raises no STUCK_ON.
Concluded to complete, with the effect of its own: unlatch, forceOff, rearm, dischargeEnd. (R14, R62, R81, R329,
R330, R333, R334, R336, R337, Table 2.9) -/
def Obligations.PortRequestsAndDischarge : Prop :=
  (∀ (who : Requester) (p : Fin 8) (s : State), maySet who (0x8014 + 0x400 * p.val) s → (portCinch s p).latched = true →
      ∃ t, exec (.unlatch who p) s = .next t ∧ (portCinch t p).latched = false
      ∧ (portCinch t p).forceOff = (portCinch s p).forceOff)
    ∧ (∀ (who : Requester) (p : Fin 8) (s : State), maySet who (0x8014 + 0x400 * p.val) s →
        (portCinch s p).latched = false →
      ∃ t, exec (.unlatch who p) s = .next t ∧ portCinch t p = portCinch s p ∧ portCc t p = portCc s p)
    ∧ (∀ (who : Requester) (p : Fin 8) (s : State), maySet who (0x8014 + 0x400 * p.val) s →
        (portCinch s p).forceOff = false →
      portReach s p = true → ∃ t, exec (.forceOff who p true) s = .next t
      ∧ (portCinch t p).forceOff = true ∧ (portCinch t p).gates = false
      ∧ (portCc t p).state = .outOfService ∧ (portCc t p).term = .opened ∧ (portPd t p).explicit = false)
    ∧ (∀ (who : Requester) (p : Fin 8) (on : Bool) (s : State), maySet who (0x8014 + 0x400 * p.val) s →
      portReach s p = false → ∃ t, exec (.forceOff who p on) s = .next t
      ∧ portCinch t p = { portCinch s p with forceOff := on } ∧ portCc t p = portCc s p)
    ∧ (∀ (who : Requester) (p : Fin 8) (s : State), maySet who (0x8014 + 0x400 * p.val) s →
        (portCinch s p).forceOff = true →
      portReach s p = true → ∃ t, exec (.forceOff who p false) s = .next t ∧ (portCinch t p).forceOff = false
      ∧ ((portCinch s p).latched = true → (portCc t p).state = .outOfService))
    ∧ (∀ (who : Requester) (g : Fin 2) (s : State), maySet who 0x500C s → rootSeen s = true →
        s.power.groupUp[g] = true →
      (groupPorts g).any (fun p => portUsed s p) = true → ∃ t, exec (.rearm who g) s = .next t
      ∧ t.groups[g].gcutOpen = false ∧ t.groups[g].cause = 0 ∧ t.groups[g].rearming = true
      ∧ (∀ p : Fin 8, p ∈ groupPorts g → (portCc t p).state = .outOfService ∧ (portCinch t p).stuck = false
          ∧ (portCinch t p).gates = false ∧ (portCinch t p).stuckTest = portUsed s p))
    ∧ (∀ (who : Requester) (g : Fin 2) (s : State), maySet who 0x500C s → rootSeen s = false →
      ∃ t, exec (.rearm who g) s = .next t ∧ t.groups[g] = { s.groups[g] with rearmDue := true })
    ∧ (∀ (p : Fin 8) (mv : Nat) (s : State), (portCinch s p).dsch = true → s.boot.cold = false → mv ≤ 800 →
      (portCinch s p).st = .discharging → (portPd s p).step ≠ .prsSrcOff → s.groups[groupOf p].rearming = false →
      ∃ t, exec (.dischargeEnd p mv) s = .next t
      ∧ (portCinch t p).dsch = false ∧ (portCinch t p).st = .off ∧ (portCinch t p).stuck = (portCinch s p).stuck)
    ∧ (∀ (p : Fin 8) (mv : Nat) (s : State), (portCinch s p).dsch = true → s.boot.cold = false → 800 < mv →
      (portCinch s p).gates = false → portUsed s p = true → rootSeen s = true →
      (portCinch s p).backfeed = false → (portCc s p).state ≠ .attachedSnk → isRp (portCc s p).rootCc1 = false →
      isRp (portCc s p).rootCc2 = false → ∃ t, exec (.dischargeEnd p mv) s = .next t
      ∧ (portCinch t p).stuck = true ∧ (portCinch t p).st = .stuckOn ∧ (portCc t p).state = .outOfService
      ∧ (gcutFitted s (groupOf p) = true → t.groups[groupOf p].gcutOpen = true ∧ t.groups[groupOf p].cause = 1)
      ∧ (gcutFitted s (groupOf p) = false → t.groups[groupOf p].gcutOpen = s.groups[groupOf p].gcutOpen))
    ∧ (∀ (p : Fin 8) (mv : Nat) (s : State), (portCinch s p).dsch = true → s.boot.cold = false → 800 < mv →
      (portCinch s p).gates = false → portUsed s p = true → rootSeen s = false →
      (portCinch s p).backfeed = false → (portCc s p).state ≠ .attachedSnk → isRp (portCc s p).rootCc1 = false →
      isRp (portCc s p).rootCc2 = false → ∃ t, exec (.dischargeEnd p mv) s = .next t
      ∧ (portCinch t p).stuck = true ∧ (portCinch t p).stuckDue = some mv
      ∧ (gcutFitted s (groupOf p) = true → t.groups[groupOf p].gcutOpen = true ∧ t.groups[groupOf p].cause = 1))
    ∧ (∀ (p : Fin 8) (mv : Nat) (s : State), s.boot.cold = false → portUsed s p = false →
      ∃ t, exec (.dischargeEnd p mv) s = .next t ∧ (portCinch t p).stuck = (portCinch s p).stuck)
    ∧ (∀ (p : Fin 8) (mv : Nat) (s : State), ((portCinch s p).dsch = false ∨ s.boot.cold = true) →
      ∃ t, exec (.dischargeEnd p mv) s = .next t ∧ portCinch t p = portCinch s p ∧ t.groups = s.groups)

/-- A droop below DROOP_V at an armed port sets EW, signals FRS and turns its gates off, and sheds every port of
SHED_MASK in its group whose gates were on; EWARN goes high where the port's EWARN_EN is set; at or above DROOP_V
(so always with DROOP_V 0), or with the group unpowered, nothing happens; with the Strap lost the entry waits for
the restore; recovery clears EW; GCUT closes if backfeed opened it and nothing keeps it open. COMPLIANCE is entered
from On while the ceiling binds, counted, and left for On once it does not. Concluded to complete, with the effect
of its own: inputDroop, droopRecover, backfeedGcutClose, complianceEnter, complianceExit, compliancePersist. (R284,
R292, R339, R340, R341, R342, R345, R350, R351, R353, R354) -/
def Obligations.DroopBackfeedCompliance : Prop :=
  (∀ (p : Fin 8) (mv us : Nat) (s : State), mv < 250 * field (portCinch s p).rootDroop 31 24 → portPowered s p = true →
      s.boot.cold = false → rootSeen s = true →
      (portPd s p).frsArmed = true → rootAlone s p = false → (portPd s p).source = true →
      s.groups[groupOf p].gcutOpen = false → ∃ t, exec (.inputDroop p mv us) s = .next t
      ∧ (portCinch t p).ew = true ∧ (portCinch t p).gates = false ∧ (portPd t p).frsSignalled = true
      ∧ (portPd t p).frsArmed = false ∧ (portPd t p).step = .frsWait
      ∧ (∀ k : Fin 8, k ∈ groupPorts (groupOf p) → k ≠ p → shedPort s k = true → (portCinch t k).gates = false))
    ∧ (∀ (p : Fin 8) (mv us : Nat) (s : State),
      (250 * field (portCinch s p).rootDroop 31 24 ≤ mv ∨ portPowered s p = false ∨ s.boot.cold = true) →
      ∃ t, exec (.inputDroop p mv us) s = .next t ∧ portCinch t p = portCinch s p)
    ∧ (∀ (p : Fin 8) (mv us : Nat) (s : State), mv < 250 * field (portCinch s p).rootDroop 31 24 →
        portPowered s p = true →
      s.boot.cold = false → (portPd s p).frsArmed = false →
      ∃ t, exec (.inputDroop p mv us) s = .next t ∧ (portCinch t p).ew = true
      ∧ (portCinch t p).gates = (portCinch s p).gates ∧ (portPd t p).frsSignalled = (portPd s p).frsSignalled
      ∧ ewBall t p = .high ∧ (flag (portCinch s p).rootDroop 23 = true → ewarnBall t = .high)
      ∧ (rootSeen s = false → (portCinch t p).droopDue = some mv))
    ∧ (∀ (p : Fin 8) (s : State), ∃ t, exec (.droopRecover p) s = .next t
      ∧ portCinch t p = { portCinch s p with ew := false })
    ∧ (∀ (g : Fin 2) (s : State), s.groups[g].gcutOpen = true → s.groups[g].cause = 2 → gcutMayClose s g = true →
      ∃ t, exec (.backfeedGcutClose g) s = .next t ∧ t.groups[g].gcutOpen = false ∧ t.groups[g].cause = 0)
    ∧ (∀ (g : Fin 2) (s : State), (s.groups[g].cause ≠ 2 ∨ gcutMayClose s g = false) →
      ∃ t, exec (.backfeedGcutClose g) s = .next t ∧ t.groups = s.groups)
    ∧ (∀ (p : Fin 8) (s : State), (portCinch s p).st = .on → (portCinch s p).ceiling = true →
        (portMetro s p).fault = false →
      rootAlone s p = false →
      ∃ t, exec (.complianceEnter p) s = .next t ∧ (portCinch t p).st = .compliance
      ∧ (portCinch t p).compliance = true
      ∧ (portCinch t p).gates = (portCinch s p).gates
      ∧ (portCinch t p).compliances = bump 8 (portCinch s p).compliances
      ∧ ((portPd s p).rev ≠ 1 → (portPd s p).step = .ready →
          (portPd t p).txq = (portPd s p).txq ++ [{ sop := .sop, msg := .alert }]))
    ∧ (∀ (p : Fin 8) (s : State), ((portMetro s p).fault = true ∨ (portCinch s p).ceiling = false) →
      ∃ t, exec (.complianceEnter p) s = .next t ∧ portCinch t p = portCinch s p)
    ∧ (∀ (p : Fin 8) (s : State), (portCinch s p).compliance = true → (portCinch s p).ceiling = false →
      (portMetro s p).fault = false → rootAlone s p = false → ∃ t, exec (.complianceExit p) s = .next t
      ∧ portCinch t p = { portCinch s p with st := .on, compliance := false })
    ∧ (∀ (p : Fin 8) (s : State), (portCinch s p).compliance = true → ∃ t, exec (.compliancePersist p) s = .next t
      ∧ portCinch t p = portCinch s p)

/-- The raw output follows the inputs by POL and HYST. A comparator that is on and outside its window latches when its
raw output is 1, counting once, and trips each running generator its mask names with an active output; inside the
window it does not latch until the window ends. The self-check starts unless the comparator can trip a running
generator (REFUSED); its end gives PASS or FAIL by Table 12.2, and a raw output that is 1 then latches. Concluded to
complete, with the effect of its own: cmpLatch, blankEnd, cmpSelftest, cmpSelftestDone. (R356, R357, R358, R361,
R366, R367, R368, R376, R377, Table 12.2) -/
def Obligations.Comparators : Prop :=
  (∀ (n : Fin 8) (uv : Int) (s : State), cmpOn s n = true → cmpHeld s n = false → s.cmps[n].blanking = false →
      s.cmps[n].latch = false → cmpSense s.cmps[n] uv = true → ∃ t, exec (.cmpLatch n uv) s = .next t
      ∧ t.cmps[n].input = uv ∧ t.cmps[n].raw = true ∧ t.cmps[n].latch = true
          ∧ t.cmps[n].count = bump 16 s.cmps[n].count
      ∧ (∀ k : Fin 8, field s.cmps[n].cfg 31 24 >>> k.val % 2 = 1 → s.pgs[k].run = true → t.pgs[k].out = false))
    ∧ (∀ (n : Fin 8) (uv : Int) (s : State), cmpOn s n = true →
        (cmpSense s.cmps[n] uv = false ∨ s.cmps[n].blanking = true) →
      ∃ t, exec (.cmpLatch n uv) s = .next t
      ∧ t.cmps[n].raw = cmpSense s.cmps[n] uv ∧ t.cmps[n].latch = s.cmps[n].latch ∧ t.cmps[n].count = s.cmps[n].count)
    ∧ (∀ (n : Fin 8) (uv : Int) (s : State), cmpOn s n = true → ∃ t, exec (.cmpLatch n uv) s = .next t
      ∧ (flag s.cmps[n].cfg 4 = false → cmpHystUv s.cmps[n].cfg < 2 * uv → t.cmps[n].raw = true)
      ∧ (flag s.cmps[n].cfg 4 = false → 2 * uv < -cmpHystUv s.cmps[n].cfg → t.cmps[n].raw = false)
      ∧ (flag s.cmps[n].cfg 4 = true → 2 * uv < -cmpHystUv s.cmps[n].cfg → t.cmps[n].raw = true)
      ∧ (flag s.cmps[n].cfg 4 = true → cmpHystUv s.cmps[n].cfg < 2 * uv → t.cmps[n].raw = false))
    ∧ (∀ (n : Fin 8) (uv : Int) (s : State), cmpOn s n = false → ∃ t, exec (.cmpLatch n uv) s = .next t
      ∧ t.cmps = s.cmps.set n { s.cmps[n] with input := uv } ∧ t.pgs = s.pgs)
    ∧ (∀ (n : Fin 8) (uv : Int) (s : State), cmpOn s n = true → s.cmps[n].blanking = true → cmpHeld s n = false →
      ∃ t, exec (.blankEnd n uv) s = .next t
      ∧ t.cmps[n].blanking = false ∧ t.cmps[n].raw = cmpSense s.cmps[n] uv
      ∧ t.cmps[n].latch = (s.cmps[n].latch || cmpSense s.cmps[n] uv)
      ∧ t.cmps[n].count = (if cmpSense s.cmps[n] uv && !s.cmps[n].latch then bump 16 s.cmps[n].count else s.cmps[n].count))
    ∧ (∀ (who : Requester) (test : BitVec 3) (n : Fin 8) (s : State), maySet who 0x4040 s → s.cmpTest.result ≠ 1 →
      (test = 1 ∨ test = 2 ∨ test = 3) → ∃ t, exec (.cmpSelftest who test n) s = .next t
      ∧ t.cmpTest.test = test ∧ t.cmpTest.cmp = n
      ∧ (cmpTestRefused s n = true → t.cmpTest.result = 4)
      ∧ (cmpTestRefused s n = false → t.cmpTest.result = 1 ∧ t.cmpTest.runCmp = n ∧ t.cmpTest.runTest = test))
    ∧ (∀ (sample exchanged : Bool) (s : State), s.cmpTest.result = 1 →
      ∃ t, exec (.cmpSelftestDone sample exchanged) s = .next t
      ∧ (s.cmpTest.runTest = 1 → t.cmpTest.result = (if exchanged = !sample then 2 else 3))
      ∧ (s.cmpTest.runTest = 2 → t.cmpTest.result = (if sample = flag s.cmps[s.cmpTest.runCmp].cfg 4 then 2 else 3))
      ∧ (s.cmpTest.runTest = 3 → t.cmpTest.result = (if sample = !flag s.cmps[s.cmpTest.runCmp].cfg 4 then 2 else 3))
      ∧ (s.cmps[s.cmpTest.runCmp].raw = false → t.cmps = s.cmps)
      ∧ (cmpOn s s.cmpTest.runCmp = true → s.cmps[s.cmpTest.runCmp].raw = true →
          s.cmps[s.cmpTest.runCmp].blanking = false → t.cmps[s.cmpTest.runCmp].latch = true))
    ∧ (∀ (sample exchanged : Bool) (s : State), s.cmpTest.result ≠ 1 →
      ∃ t, exec (.cmpSelftestDone sample exchanged) s = .next t ∧ t.cmpTest = s.cmpTest ∧ t.cmps = s.cmps
      ∧ t.pgs = s.pgs)

/-- RUN 1 starts continuous, single and burst generators with the timing written, the output active while WIDTH is not 0
and nothing trips it; Off and a reserved MODE do not start, nor does a generator that Cinch owns; RUN 0 stops at
once with the output inactive; a period start is the policy stand's event; at PERIOD single stops, burst stops after
its last pulse, continuous begins again; at WIDTH the output ends. Concluded to complete, with the effect of its
own: pgRun, pgStop, pgPeriodStart, pgWidthEnd. (R360, R370, R371, R372, R373, R377, R378, R379, Table 12.3) -/
def Obligations.PulseGenerators : Prop :=
  (∀ (who : Requester) (n : Fin 8) (s : State), maySet who (0x4408 + 0x20 * n.val) s → s.power.refoscRunning = true →
      s.pgs[n].owned = false → (pgMode s.pgs[n] = 1 ∨ pgMode s.pgs[n] = 2 ∨ pgMode s.pgs[n] = 3) →
      ((List.finRange 8).all fun k => field s.cmps[k].cfg 31 24 >>> n.val % 2 == 0) = true →
      ∃ t, exec (.pgRun who n) s = .next t
      ∧ t.pgs[n].run = true ∧ t.pgs[n].time = s.pgs[n].timeW ∧ t.pgs[n].count = 0
      ∧ t.pgs[n].out = decide (pgWidth { s.pgs[n] with time := s.pgs[n].timeW } ≠ 0)
      ∧ (isReady s = true → rootSeen s = true → PolicyEvent.generator n ∈ t.policy)
      ∧ (pgMode s.pgs[n] = 3 → t.pgs[n].burstLeft = max 1 (field s.pgs[n].cfg 23 16)))
    ∧ (∀ (who : Requester) (n : Fin 8) (s : State), maySet who (0x4408 + 0x20 * n.val) s →
      (s.pgs[n].owned = true ∨ pgMode s.pgs[n] = 0 ∨ 4 ≤ pgMode s.pgs[n]) → ∃ t, exec (.pgRun who n) s = .next t
      ∧ t.pgs = s.pgs)
    ∧ (∀ (who : Requester) (n : Fin 8) (s : State), maySet who (0x4408 + 0x20 * n.val) s →
      ∃ t, exec (.pgStop who n) s = .next t
      ∧ t.pgs[n] = { s.pgs[n] with run := false, out := false, count := 0, burstLeft := 0 })
    ∧ (∀ (n : Fin 8) (s : State), s.pgs[n].run = true → (pgMode s.pgs[n] = 2 ∨ (pgMode s.pgs[n] = 3
        ∧ s.pgs[n].burstLeft ≤ 1)) →
      ∃ t, exec (.pgPeriodStart n) s = .next t ∧ t.pgs[n].run = false ∧ t.pgs[n].out = false)
    ∧ (∀ (n : Fin 8) (s : State), s.pgs[n].run = true →
      (pgMode s.pgs[n] = 1 ∨ (pgMode s.pgs[n] = 3 ∧ 1 < s.pgs[n].burstLeft)) →
      ((List.finRange 8).all fun k => field s.cmps[k].cfg 31 24 >>> n.val % 2 == 0) = true →
      ∃ t, exec (.pgPeriodStart n) s = .next t
      ∧ t.pgs[n].run = true ∧ t.pgs[n].count = 0 ∧ t.pgs[n].time = s.pgs[n].timeW
      ∧ t.pgs[n].burstLeft = (if pgMode s.pgs[n] = 3 then s.pgs[n].burstLeft - 1 else s.pgs[n].burstLeft)
      ∧ (capSrc0 s.pgs[n] = 0x11 → t.pgs[n].cap0 = capPut 0 s.pgs[n].cap0))
    ∧ (∀ (n : Fin 8) (s : State), s.pgs[n].run = false → ∃ t, exec (.pgPeriodStart n) s = .next t ∧ t.pgs = s.pgs)
    ∧ (∀ (n : Fin 8) (s : State), s.pgs[n].run = true → ∃ t, exec (.pgWidthEnd n) s = .next t
      ∧ t.pgs[n] = { s.pgs[n] with out := false, count := BitVec.ofNat 16 (pgWidth s.pgs[n]) })

/-- A reading pair outside calibration writes VBUS (held at its top) and counts SEQ; a channel in its window repeats its
reading; the sign of the current says which energy register counts, with the remainder kept. A calibration result
more than 200 ppm off is not used: its window is repeated, and a second one is a metrology fault. A channel that
gives no result puts its port in metrology fault with cause 6, and a reference deviation beyond 300 ppm puts every
port in use there with cause 5; the PPS floor ends the contract by Hard Reset. Concluded to complete, with the
effect of its own: metroReading, refCheck, ppsClFloor. Where a clause assumes s.raised = []: no event waits to be
written; every step leaves it so (StepsSettleAlarmsAndIrqs). (R19, R381, R382, R385, R389, R390, R392, R395, R397,
R407, Table 2.9, Table 13.4) -/
def Obligations.MetrologyReadings : Prop :=
  (∀ (p : Fin 8) (r : Reading) (s : State), s.strap.codeRunning = true → r.silent = none → r.calV = none →
    r.calI = none →
      (portMetro s p).sampled = false → ∃ t, exec (.metroReading p r) s = .next t
      ∧ (portMetro t p).vbus = min 262140 r.vbus ∧ (portMetro t p).seq = (portMetro s p).seq + 1
      ∧ (portMetro t p).vCal = false ∧ (portMetro t p).iCal = false
      ∧ (portMetro t p).ovr = decide (150000000 < r.shuntNv.natAbs)
      ∧ t.power.vinMv[groupOf p] = r.vinMv
      ∧ (0 < (portMetro t p).ibus → (portMetro t p).ein = (portMetro s p).ein ∧ (portMetro t p).eoutRem =
          ((portMetro s p).eoutRem + (portMetro t p).vbus * (portMetro t p).ibus.natAbs) % energyUnits)
      ∧ ((portMetro t p).ibus ≤ 0 → (portMetro t p).eout = (portMetro s p).eout ∧ (portMetro t p).einRem =
          ((portMetro s p).einRem + (portMetro t p).vbus * (portMetro t p).ibus.natAbs) % energyUnits))
    ∧ (∀ (p : Fin 8) (r : Reading) (w : CalWin) (s : State), s.strap.codeRunning = true →
      ∃ t, exec (.metroReading p { r with calV := some w, calI := none, silent := none }) s = .next t
      ∧ (portMetro t p).vbus = (portMetro s p).vbus ∧ (portMetro t p).vCal = true ∧ (portMetro t p).iCal = false)
    ∧ (∀ (p : Fin 8) (r : Reading) (w : CalWin) (s : State), s.strap.codeRunning = true →
      ∃ t, exec (.metroReading p { r with calV := none, calI := some w, silent := none }) s = .next t
      ∧ (portMetro t p).ibus = (portMetro s p).ibus ∧ (portMetro t p).iCal = true
      ∧ (portMetro t p).ovr = (portMetro s p).ovr)
    ∧ (∀ (p : Fin 8) (r : Reading) (w : CalWin) (s : State), s.strap.codeRunning = true → 200 < w.dev.natAbs →
      ((portMetro s p).vGainNext = true ∨ w.shiftMv ≤ 100) → portUsed s p = true → (portMetro s p).fault = false →
      ∃ t, exec (.metroReading p { r with calV := some w, calI := none, silent := none }) s = .next t
      ∧ (portMetro t p).vCorr = (portMetro s p).vCorr
      ∧ ((portMetro s p).vBad = false → (portMetro t p).fault = false ∧ (portMetro t p).vBad = true
          ∧ (portMetro t p).vGainNext = (portMetro s p).vGainNext)
      ∧ ((portMetro s p).vBad = true → (portMetro t p).fault = true
          ∧ (portMetro t p).cause = (if (portMetro s p).vGainNext then 2 else 1)))
    ∧ (∀ (p : Fin 8) (r : Reading) (ch : Fin 2) (s : State), s.strap.codeRunning = true → portUsed s p = true →
      (portMetro s p).fault = false → ∃ t, exec (.metroReading p { r with silent := some ch }) s = .next t
      ∧ (portMetro t p).fault = true ∧ (portMetro t p).cause = 6
      ∧ (portMetro t p).faultCount = bump 8 (portMetro s p).faultCount ∧ (portMetro t p).vbus = (portMetro s p).vbus)
    ∧ (∀ (p : Fin 8) (r : Reading) (s : State), s.strap.codeRunning = false →
        ∃ t, exec (.metroReading p r) s = .next t
      ∧ portMetro t p = portMetro s p)
    ∧ (∀ (dev : Int) (s : State), s.strap.codeRunning = true → 300 < dev.natAbs →
        ∃ t, exec (.refCheck dev) s = .next t
      ∧ t.metro.refDev = dev ∧ t.metro.refFault = true ∧ t.metro.refClean = 0
      ∧ (∀ p : Fin 8, (portUsed s p = true → (portMetro t p).fault = true ∧ (portMetro t p).cause = 5)
          ∧ (portUsed s p = false → portMetro t p = portMetro s p)))
    ∧ (∀ (dev : Int) (s : State), s.strap.codeRunning = true → dev.natAbs ≤ 300 →
        ∃ t, exec (.refCheck dev) s = .next t
      ∧ t.metro.refDev = dev ∧ t.metro.refFault = false ∧ t.metro.refClean = s.metro.refClean + 1)
    ∧ (∀ (p : Fin 8) (s : State), (portPd s p).explicit = true → (portPd s p).source = true →
        pdoPps (portPd s p).pdo = true →
      standTimes s p = true →
      (portMetro s p).targetUv < 100000 * field (portPd s p).pdo 15 8 → ∃ t, exec (.ppsClFloor p) s = .next t
      ∧ (portPd t p).explicit = false ∧ (portPd t p).hardResets = bump 8 (portPd s p).hardResets
      ∧ (portPd t p).step = .hardResetHold)
    ∧ (∀ (p : Fin 8) (s : State), ((portPd s p).explicit = false ∨ (portPd s p).source = false ∨ pdoPps (portPd s p).pdo = false
        ∨ standTimes s p = false ∨ 100000 * field (portPd s p).pdo 15 8 ≤ (portMetro s p).targetUv) →
      s.raised = [] → ∃ t, exec (.ppsClFloor p) s = .next t ∧ portPd t p = portPd s p)

/-- A group event of another device is delivered to the policy and forwarded with HOPS one more unless DEST or SRC is
this device; one of the device's own policy stand goes out to every other device; valid input starts an enumeration
with this device's own ENUM; an ENUM of another device joins the list and is forwarded; one of another device starts
an enumeration where none runs, but for the ENUM of a device not yet heard that comes within 2 ms of the closing and
completes it (log entry 145); where the Rein stand takes no part it is only forwarded, and ends the break; with more
than eight devices known none starts; the returning own ENUM sets COUNT, STATE and the address by R418, or declares
oversize past eight; a frame bad by its characters (R415) only counts in RX_ERRS. Concluded to complete, with the
effect of its own: groupEvent, reinEnumStart, enumResend, enum, reinFrameBad. (R414, R415, R416, R417, R418, R419,
R428) -/
def Obligations.ReinEnumeration : Prop :=
  (∀ (h : ReinHdr) (code : Half) (data : BitVec 48) (s : State), reinForUs s h = true →
    ∃ t, exec (.groupEvent false h code data) s = .next t
      ∧ t.policy = s.policy ++ [.group code data])
    ∧ (∀ (h : ReinHdr) (code : Half) (data : BitVec 48) (s : State), reinUp s = true →
        ∃ t, exec (.groupEvent true h code data) s = .next t
      ∧ t.policy = s.policy ∧ t.rein = { s.rein with seq := s.rein.seq + 1, sent :=
        [.frame 1 { hops := 0, src := s.rein.addr, bcast := true, dest := 0, seq := s.rein.seq }
          (le 2 code.toNat ++ le 6 data.toNat)] })
    ∧ (∀ (h : ReinHdr) (code : Half) (data : BitVec 48) (s : State), reinUp s = false →
      ∃ t, exec (.groupEvent true h code data) s = .next t ∧ t.policy = s.policy
      ∧ t.rein = { s.rein with sent := [] })
    ∧ (∀ (h : ReinHdr) (code : Half) (data : BitVec 48) (s : State), reinForUs s h = false →
      ∃ t, exec (.groupEvent false h code data) s = .next t ∧ t.policy = s.policy)
    ∧ (∀ (h : ReinHdr) (code : Half) (data : BitVec 48) (s : State), reinForwards s = true →
      ∃ t, exec (.groupEvent false h code data) s = .next t
      ∧ t.rein = { s.rein with sent :=
          (if reinOwn s h = true ∨ 14 < h.hops.val + 1 then []
           else [.frame 1 { h with hops := h.hops + 1 } (le 2 code.toNat ++ le 6 data.toNat)]) })
    ∧ (∀ s : State, reinUp s = true → s.rein.enumerating = false → reinIsClosed s = false → s.rein.oversize = false →
      ∃ t, exec .reinEnumStart s = .next t
      ∧ t.rein.state = 3 ∧ t.rein.enumerating = true ∧ t.rein.seen.length = 1
      ∧ t.rein.sent = [.frame 2 { hops := 0, src := s.rein.addr, bcast := true, dest := 0, seq := s.rein.seq }
          (enumPayload (ownId s) s.metro.calGen true)])
    ∧ (∀ s : State, reinUp s = true → s.rein.enumerating = true → s.rein.oversize = false →
        ∃ t, exec .enumResend s = .next t
      ∧ t.rein.sent.length = 1 ∧ t.rein.seq = s.rein.seq + 1 ∧ t.rein.seen = s.rein.seen)
    ∧ (∀ (h : ReinHdr) (g : Half) (b : Bool) (s : State), reinUp s = true → s.rein.enumerating = true →
      h.hops.val < 8 → s.rein.seen.length ≤ 8 → ∃ t, exec (.enum h (ownId s) g b) s = .next t
      ∧ t.rein.state = (if h.hops.val = 0 then 2 else 0) ∧ t.rein.count = h.hops.val + 1
      ∧ t.rein.addr = enumAddr s ∧ t.rein.enumerating = false ∧ t.rein.sent = [])
    ∧ (∀ (h : ReinHdr) (g : Half) (b : Bool) (s : State), reinUp s = true → s.rein.enumerating = true →
      8 ≤ h.hops.val → ∃ t, exec (.enum h (ownId s) g b) s = .next t
      ∧ t.rein.state = 1 ∧ t.rein.cause = 3 ∧ t.rein.oversize = true)
    ∧ (∀ (h : ReinHdr) (id : Nat) (g : Half) (b : Bool) (s : State), reinUp s = true → s.rein.enumerating = true →
      id ≠ ownId s → h.hops.val ≤ 13 → s.rein.seen.length < 8 → ∃ t, exec (.enum h id g b) s = .next t
      ∧ (⟨id, h.hops.val, g, b⟩ : EnumSeen) ∈ t.rein.seen ∧ t.rein.enumerating = true
      ∧ t.rein.sent = [.frame 2 { h with hops := h.hops + 1 } (enumPayload id g b)])
    ∧ (∀ (h : ReinHdr) (id : Nat) (g : Half) (b : Bool) (s : State), reinUp s = true → s.rein.enumerating = false →
      reinIsClosed s = false → s.rein.oversize = false → id ≠ ownId s → h.hops.val ≤ 13 →
      ∃ t, exec (.enum h id g b) s = .next t
      ∧ t.rein.state = 3 ∧ t.rein.enumerating = true ∧ (⟨id, h.hops.val, g, b⟩ : EnumSeen) ∈ t.rein.seen
      ∧ t.rein.sent = [.frame 2 { h with hops := h.hops + 1 } (enumPayload id g b),
          .frame 2 { hops := 0, src := s.rein.addr, bcast := true, dest := 0, seq := s.rein.seq }
            (enumPayload (ownId s) s.metro.calGen true)]
      ∧ t.rein.brkSeen = false)
    ∧ (∀ (h : ReinHdr) (id : Nat) (g : Half) (b : Bool) (s : State), reinUp s = true → s.rein.enumerating = false →
      reinIsClosed s = true → s.rein.oversize = false → id ≠ ownId s → h.hops.val ≤ 13 →
      ((s.rein.seen.any fun x => x.id = id) || passed s s.rein.closedAt 2000) = true →
      ∃ t, exec (.enum h id g b) s = .next t
      ∧ t.rein.state = 3 ∧ t.rein.enumerating = true ∧ t.rein.brkSeen = false ∧ t.rein.sent.length = 2)
    ∧ (∀ (h : ReinHdr) (id : Nat) (g : Half) (b : Bool) (s : State), reinUp s = true → s.rein.enumerating = false →
      reinIsClosed s = true → s.rein.oversize = false → id ≠ ownId s →
      ((s.rein.seen.any fun x => x.id = id) || passed s s.rein.closedAt 2000) = false →
      ∃ t, exec (.enum h id g b) s = .next t
      ∧ t.rein.state = s.rein.state ∧ t.rein.enumerating = false ∧ (⟨id, h.hops.val, g, b⟩ : EnumSeen) ∈ t.rein.seen
      ∧ t.rein.addr = enumAddr t)
    ∧ (∀ (h : ReinHdr) (id : Nat) (g : Half) (b : Bool) (s : State), reinUp s = true → s.rein.enumerating = false →
      s.rein.oversize = true → ∃ t, exec (.enum h id g b) s = .next t
      ∧ t.rein.state = s.rein.state ∧ t.rein.enumerating = false ∧ t.rein.oversize = true)
    ∧ (∀ (h : ReinHdr) (id : Nat) (g : Half) (b : Bool) (s : State), reinUp s = false →
      ∃ t, exec (.enum h id g b) s = .next t ∧ t.rein = { s.rein with brkSeen := false, sent :=
          (if reinForwards s = false ∨ id = ownId s ∨ 14 < h.hops.val + 1 then []
           else [.frame 2 { h with hops := h.hops + 1 } (enumPayload id g b)]) })
    ∧ (∀ s : State, (reinUp s = false ∨ s.rein.oversize = true) → ∃ t, exec .reinEnumStart s = .next t
      ∧ t.rein = { s.rein with sent := [] })
    ∧ (∀ (l : StrapLine) (s : State), reinForwards s = true → reinBad l = true →
        ∃ t, exec (.reinFrameBad l) s = .next t
      ∧ t.rein = { s.rein with rxErrs := bump 12 s.rein.rxErrs })
    ∧ (∀ (l : StrapLine) (s : State), reinBad l = false → ∃ t, exec (.reinFrameBad l) s = .next t ∧ t.rein = s.rein)

/-- Silence starts the loop-back, whose end sends one BRK with HEAD this device and CAUSE 1 or 2 and breaks the ring
here; a received BRK or VETO is forwarded once and, before adoption, abandons the sweep with LAST_RESULT 4 and
DEV_ALARMS bit 10; a VETO is forwarded once for each address; a MARK is forwarded once, 1 to 16 add a sample, 16
sends the device's reading to the leader, 20 without COMMIT has the device send VETO, 21 decides; an index below one
already seen belongs to a sweep whose ANNOUNCE was lost and forgets the old one (log entry 190). Concluded to
complete, with the effect of its own: reinSilence, reinLoopbackDone, brk, veto, mark. (R412, R413, R420, R421, R434) -/
def Obligations.ReinBreaks : Prop :=
  (∀ s : State, isReady s = true → reinForwards s = true → s.rein.looping = false → (s.rein.brkSeen = true →
    s.rein.head ≠ s.rein.addr) →
      ∃ t, exec .reinSilence s = .next t ∧ t.rein = { s.rein with looping := true, sent := [] })
    ∧ (∀ s : State, (reinForwards s = false ∨ (s.rein.brkSeen = true ∧ s.rein.head = s.rein.addr)) →
      ∃ t, exec .reinSilence s = .next t ∧ t.rein = { s.rein with sent := [] })
    ∧ (∀ (ok : Bool) (n : Fin 9) (s : State), s.rein.looping = true → ∃ t, exec (.reinLoopbackDone ok n) s = .next t
      ∧ t.rein.state = 1 ∧ t.rein.head = s.rein.addr ∧ t.rein.cause = (if ok then 1 else 2) ∧ t.rein.position = 0
      ∧ t.rein.segmentLen = n.val ∧ t.rein.brkSeen = true ∧ t.rein.enumerating = false
      ∧ t.rein.breaks = bump 12 s.rein.breaks ∧ t.rein.looping = false
      ∧ t.rein.sent = [.brk s.rein.addr (if ok then 1 else 2) (!s.rein.marksSeen.contains 21)]
      ∧ (s.rein.marksSeen.contains 21 = false → t.rein.sweep = none)
      ∧ (s.rein.marksSeen.contains 21 = true → t.rein.sweep = s.rein.sweep))
    ∧ (∀ (ok : Bool) (n : Fin 9) (s : State), s.rein.looping = false → ∃ t, exec (.reinLoopbackDone ok n) s = .next t
      ∧ t.rein = { s.rein with sent := [] })
    ∧ (∀ (head : Fin 8) (c : BitVec 2) (before : Bool) (pos : Nat) (s : State), reinForwards s = true →
        isReady s = true →
      (s.rein.brkSeen = true → s.rein.head ≠ head) → ∃ t, exec (.brk head c before pos) s = .next t
      ∧ t.rein.state = 1 ∧ t.rein.head = head ∧ t.rein.cause = c ∧ t.rein.position = brkPosition s head pos
          ∧ t.rein.enumerating = false
      ∧ t.rein.breaks = bump 12 s.rein.breaks ∧ t.rein.sent = [.brk head c before]
      ∧ (before = true → s.rein.sweep.isSome = true → t.rein.sweep = none ∧ t.rein.lastResult = 4
          ∧ t.host.devAlarms.getLsbD 10 = true)
      ∧ (before = false → t.rein.sweep = s.rein.sweep) ∧ t.metro = s.metro)
    ∧ (∀ (head : Fin 8) (c : BitVec 2) (before : Bool) (pos : Nat) (s : State), s.rein.brkSeen = true →
      s.rein.head = head → ∃ t, exec (.brk head c before pos) s = .next t ∧ t.rein = { s.rein with sent := [] })
    ∧ (∀ (a : Fin 8) (s : State), reinForwards s = true → s.rein.vetoesSeen.contains a = false →
      ∃ t, exec (.veto a) s = .next t ∧ t.rein.vetoesSeen = s.rein.vetoesSeen ++ [a] ∧ t.rein.sent = [.veto a]
      ∧ t.rein.sweep = none ∧ t.metro = s.metro
      ∧ (s.rein.sweep.isSome = true → t.rein.lastResult = 4))
    ∧ (∀ (a : Fin 8) (s : State), s.rein.vetoesSeen.contains a = true → ∃ t, exec (.veto a) s = .next t
      ∧ t.rein = { s.rein with sent := [] })
    ∧ (∀ (s : State) (w : Sweep), s.rein.sweep = some w → ∀ (k uv : Nat), reinForwards s = true →
        isReady s = true → 1 ≤ k → k ≤ 15 →
      s.rein.marksSeen.contains k = false → s.rein.marksSeen.any (k < ·) = false → w.leader = false →
      ∃ t, exec (.mark k uv) s = .next t
      ∧ t.rein.sweep = some { w with sum := w.sum + uv, samples := w.samples + 1 } ∧ t.rein.sent = [.mark k]
      ∧ t.rein.marksSeen = s.rein.marksSeen ++ [k])
    ∧ (∀ (s : State) (w : Sweep), s.rein.sweep = some w → ∀ (uv : Nat), reinForwards s = true → isReady s = true →
      s.rein.marksSeen.contains 21 = false → s.rein.marksSeen.any (21 < ·) = false → w.leader = false →
      ∃ t, exec (.mark 21 uv) s = .next t
      ∧ t.rein.sweep = some { w with decided := true } ∧ t.rein.sent = [.mark 21])
    ∧ (∀ (s : State) (w : Sweep), s.rein.sweep = some w → ∀ (uv : Nat), reinUp s = true → w.leader = false →
      s.rein.marksSeen.contains 16 = false → s.rein.marksSeen.any (16 < ·) = false → s.rein.oversize = false →
      ∃ t, exec (.mark 16 uv) s = .next t
      ∧ t.rein.sent = [.mark 16, .frame 4
          { hops := 0, src := s.rein.addr, bcast := false, dest := (if w.segment then s.rein.head else 0), seq := s.rein.seq }
          (le 2 w.gen.toNat ++ le 4 (sweepReading { w with sum := w.sum + uv, samples := w.samples + 1 }))])
    ∧ (∀ (s : State) (w : Sweep), s.rein.sweep = some w → ∀ (uv : Nat), reinForwards s = true → isReady s = true →
      s.rein.marksSeen.contains 20 = false → s.rein.marksSeen.any (20 < ·) = false → w.leader = false →
      ∃ t, exec (.mark 20 uv) s = .next t
      ∧ (w.committed = true → t.rein.sweep = some w ∧ t.rein.sent = [.mark 20])
      ∧ (w.committed = false → t.rein.sweep = none ∧ t.rein.lastResult = 4
          ∧ t.rein.sent = [.mark 20, .veto s.rein.addr] ∧ s.rein.addr ∈ t.rein.vetoesSeen))
    ∧ (∀ (k uv : Nat) (s : State), reinForwards s = true → isReady s = true → 1 ≤ k → k ≤ 15 →
      s.rein.marksSeen.contains k = false → s.rein.marksSeen.any (k < ·) = true →
      s.rein.sweep.any (·.leader) = false →
      s.rein.sweep.any (·.decided) = false → ∃ t, exec (.mark k uv) s = .next t
      ∧ t.rein.sweep = none ∧ t.rein.marksSeen = [k] ∧ t.rein.vetoesSeen = [] ∧ t.rein.sent = [.mark k])
    ∧ (∀ (k uv : Nat) (s : State), s.rein.marksSeen.contains k = true → ∃ t, exec (.mark k uv) s = .next t
      ∧ t.rein = { s.rein with sent := [] })

/-- SWEEP_TIMER and SWEEP_NOW start a sweep at a leader with three participants, and record too few below that; ANNOUNCE
joins it; SWEEP_DATA reaches its leader only; COMMIT computes the correction, a factor of the gain, and ABORT drops
the generation, with the Strap lost too; the leader's MARKs follow Table 14.4, and at 18 it commits with every
reading or aborts; adoption writes CAL_GEN and SEGMENT only after the decision and with a correction. Concluded to
complete, with the effect of its own: sweepTimer, sweepNow, announce, sweepData, commit, abort, sweepMarkSend,
sweepAdopt. (R393, R429, R430, R431, R432, R433, R434, R435, Table 14.4) -/
def Obligations.ReinSweeps : Prop :=
  (∀ s : State, reinUp s = true → s.rein.sweep = none → sweepLeads s = true → s.rein.oversize = false →
      field s.rein.cfg 31 24 ≠ 0 → ∃ t, exec .sweepTimer s = .next t
      ∧ ((sweepMembers s).length < 3 → t.rein.lastResult = 5 ∧ t.rein.sweep = none ∧ t.rein.sent = [])
      ∧ (3 ≤ (sweepMembers s).length →
          t.rein.sweep = some { gen := sweepGen s, src := flag s.rein.cfg 23, segment := !reinIsClosed s, leader := true }
          ∧ t.rein.marksSeen = [] ∧ t.rein.sent.length = 1))
    ∧ (∀ s : State, field s.rein.cfg 31 24 = 0 → ∃ t, exec .sweepTimer s = .next t
        ∧ t.rein = { s.rein with sent := [] })
    ∧ (∀ (who : Requester) (s : State), maySet who 0x3800 s → reinUp s = true → s.rein.sweep = none →
        sweepLeads s = true →
      s.rein.oversize = false → 3 ≤ (sweepMembers s).length → ∃ t, exec (.sweepNow who) s = .next t
      ∧ t.rein.sweep = some { gen := sweepGen s, src := flag s.rein.cfg 23, segment := !reinIsClosed s, leader := true })
    ∧ (∀ (who : Requester) (s : State), maySet who 0x3800 s → (s.rein.sweep.isSome = true ∨ sweepLeads s = false) →
      ∃ t, exec (.sweepNow who) s = .next t ∧ t.rein = { s.rein with sent := [] })
    ∧ (∀ (h : ReinHdr) (gen : Half) (src seg : Bool) (s : State), reinForUs s h = true →
      ∃ t, exec (.announce h gen src seg) s = .next t
      ∧ t.rein.sweep = some { gen, src, segment := seg, leader := false } ∧ t.rein.marksSeen = []
          ∧ t.rein.vetoesSeen = [])
    ∧ (∀ (s : State) (w : Sweep), s.rein.sweep = some w → ∀ (h : ReinHdr) (reading : Nat), reinForUs s h = true →
        w.leader = true →
      ∃ t, exec (.sweepData h w.gen reading) s = .next t
      ∧ (t.rein.sweep.map Sweep.readings) = some (w.readings.filter (fun x => x.1 ≠ h.src.val) ++ [(h.src.val, reading)]))
    ∧ (∀ (s : State) (w : Sweep), s.rein.sweep = some w →
        ∀ (h : ReinHdr) (gen : Half) (reading : Nat), (w.leader = false ∨ w.gen ≠ gen) →
      ∃ t, exec (.sweepData h gen reading) s = .next t
      ∧ t.rein.sweep = some w)
    ∧ (∀ (s : State) (w : Sweep), s.rein.sweep = some w →
        ∀ (h : ReinHdr) (mask : Byte) (rs : List Nat), reinForUs s h = true → w.leader = false →
      ∃ t, exec (.commit h w.gen mask rs) s = .next t
      ∧ t.rein.sweep = some { w with committed := true, correction :=
          (if w.segment = true ∧ s.rein.position < 2 then none
           else sweepCorrection ((sweepUses s w mask).map fun a => ((List.range 8).map fun k => rs.getD k 0).getD a 0)
             (rs.getD s.rein.addr.val 0)) }
      ∧ t.rein.used = (sweepUses s w mask).length ∧ t.metro = s.metro)
    ∧ (∀ (s : State) (w : Sweep), s.rein.sweep = some w → ∀ (h : ReinHdr) (reason : Byte), isReady s = true →
      reinForwards s = true → h.src ≠ s.rein.addr → (h.bcast = true ∨ h.dest = s.rein.addr) →
      ∃ t, exec (.abort h w.gen reason) s = .next t
      ∧ t.rein.sweep = none ∧ t.rein.lastResult = 4 ∧ t.metro = s.metro)
    ∧ (∀ (s : State) (w : Sweep), s.rein.sweep = some w → ∀ (uv : Nat), isReady s = true → w.leader = true →
        w.nextMark ≤ 15 → 1 ≤ w.nextMark →
      ∃ t, exec (.sweepMarkSend uv) s = .next t
      ∧ t.rein.sweep = some { w with nextMark := w.nextMark + 1, sum := w.sum + uv, samples := w.samples + 1 }
      ∧ t.rein.sent = [.mark w.nextMark])
    ∧ (∀ (s : State) (w : Sweep), s.rein.sweep = some w → ∀ (uv : Nat), reinUp s = true → w.leader = true →
      w.nextMark = 18 → s.rein.oversize = false →
      (((sweepMembers s).map (addrOf s)).all fun a => w.readings.any fun r => r.1 = a) = false →
      ∃ t, exec (.sweepMarkSend uv) s = .next t
      ∧ t.rein.sweep = none ∧ t.rein.lastResult = 4 ∧ t.metro = s.metro ∧ t.host.devAlarms.getLsbD 10 = true)
    ∧ (∀ (s : State) (w : Sweep), s.rein.sweep = some w → ∀ (uv : Nat), reinUp s = true → w.leader = true →
      w.nextMark = 18 → s.rein.oversize = false →
      (((sweepMembers s).map (addrOf s)).all fun a => w.readings.any fun r => r.1 = a) = true →
      ∃ t, exec (.sweepMarkSend uv) s = .next t
      ∧ (t.rein.sweep.map Sweep.committed) = some true ∧ (t.rein.sweep.map Sweep.nextMark) = some 20
      ∧ t.rein.sent.length = 2)
    ∧ (∀ (s : State) (w : Sweep), s.rein.sweep = some w → ∀ c : Nat × Nat, w.correction = some c → w.decided = true →
      ∃ t, exec .sweepAdopt s = .next t
      ∧ t.metro.calGen = w.gen ∧ t.metro.segment = w.segment
          ∧ t.metro.crossGain = (s.metro.crossGain.1 * c.1, s.metro.crossGain.2 * c.2)
      ∧ t.rein.lastResult = (if w.segment then 2 else 1) ∧ t.rein.ownDev = gainPpm c ∧ t.rein.sweep = none)
    ∧ (∀ (s : State) (w : Sweep), s.rein.sweep = some w → (w.decided = false ∨ w.correction = none) →
      ∃ t, exec .sweepAdopt s = .next t ∧ t.metro = s.metro)

/-- A Sap start with a reserve fitted gives the SAP and Bark registers their reset values and an empty Pocket with
K3_LOCKED, cause Sap start; a stop leaves no slot content; MPPT regulates at MPPT_FRAC/32 of the open-circuit
voltage; charging ends at the charge voltage, restarts below the restart voltage while a path of Table 15.1 is open,
and stops while the temperature is outside its window. Concluded to complete, with the effect of its own: sapStart,
sapStop, mpptSample, chargeEnd, chargeRestart, sapChgTemp, chgTempResume. (R18, R49, R436, R437, R440, R445, R446,
R473, R478, R509, Table 15.3) -/
def Obligations.SapStartStopAndCharge : Prop :=
  (∀ s : State, s.sap.running = false → s.sap.noReserve = false → ∃ t, exec .sapStart s = .next t
      ∧ t.sap = { running := true, cold := true } ∧ t.pocket.slots = .replicate 16 0 ∧ t.pocket.nonce = none
      ∧ t.pocket.k3Locked = true ∧ t.pocket.k3Cause = 2 ∧ t.pocket.powered = false ∧ t.pocket.writeCount = 0)
    ∧ (∀ s : State, (s.sap.running = true ∨ s.sap.noReserve = true) → ∃ t, exec .sapStart s = .next t
        ∧ t.sap = s.sap ∧ t.pocket = s.pocket)
    ∧ (∀ s : State, s.sap.running = true → ∃ t, exec .sapStop s = .next t
      ∧ t.sap.running = false ∧ t.sap.level = 0 ∧ t.sap.clock = 0 ∧ t.pocket.slots = .replicate 16 0
          ∧ t.pocket.nonce = none
      ∧ t.pocket.powered = false
      ∧ (∀ i : Fin 20, t.pocket.items[i].state = .absent))
    ∧ (∀ (mv : Nat) (s : State), s.sap.running = true → ∃ t, exec (.mpptSample mv) s = .next t
      ∧ t.sap = { s.sap with sapinMv := mv * mpptFrac s / 32 })
    ∧ (∀ (mv : Nat) (s : State), s.sap.running = true → s.sap.charging = true → chargeMv s ≤ mv →
        reserveLithium s = false →
      ∃ t, exec (.chargeEnd mv) s = .next t
      ∧ t.sap = { s.sap with charging := false, ended := true, rsvMv := mv })
    ∧ (∀ (mv : Nat) (s : State), (s.sap.charging = false ∨ (reserveLithium s = false ∧ mv < chargeMv s)) →
      ∃ t, exec (.chargeEnd mv) s = .next t ∧ t.sap = s.sap)
    ∧ (∀ (mv : Nat) (s : State), s.sap.running = true → s.sap.charging = true → reserveLithium s = true →
      ∃ t, exec (.chargeEnd mv) s = .next t
      ∧ t.sap = { s.sap with charging := false, ended := true, rsvMv := mv, learned := true, capEst := satTo 16 (s.sap.liUj / 100000) })
    ∧ (∀ (mv : Nat) (s : State), s.sap.running = true → s.sap.rsvPresent = true → s.sap.tempHold = false →
      chargePath s = true → ∃ t, exec (.chargeRestart mv) s = .next t
      ∧ (mv < restartMv s → t.sap = { s.sap with charging := true, ended := false, rsvMv := mv })
      ∧ (restartMv s ≤ mv → t.sap = s.sap))
    ∧ (∀ (mv : Nat) (s : State), (chargePath s = false ∨ s.sap.rsvPresent = false) →
        ∃ t, exec (.chargeRestart mv) s = .next t
      ∧ t.sap = s.sap)
    ∧ (∀ (tc : Int) (s : State), s.sap.running = true → reserveLithium s = true → s.sap.tempHold = false →
      (tc < chgTmin s ∨ chgTmax s < tc) → ∃ t, exec (.sapChgTemp tc) s = .next t
      ∧ t.sap.tempHold = true ∧ t.sap.charging = false ∧ t.sap.level = s.sap.level)
    ∧ (∀ (tc : Int) (s : State), reserveLithium s = false → ∃ t, exec (.sapChgTemp tc) s = .next t ∧ t.sap = s.sap)
    ∧ (∀ s : State, s.sap.running = true → s.sap.tempHold = true → ∃ t, exec .chgTempResume s = .next t
      ∧ t.sap = { s.sap with tempHold := false, charging := !s.sap.ended && s.sap.rsvPresent && chargePath s })

/-- A gauge sample counts SAPCLOCK by 1 s (8 s at Dry but for the first one after a Sap start), measures a
supercapacitor's energy as half C times V squared less V_STOP squared, drops the level to the highest whose entry
condition is not met, or raises it by one once the next threshold plus HYST is reached; falling to Dry clears the
Pocket; a threshold that breaks the order is not written and sets ORDER_ERR. Concluded to complete, with the effect
of its own: gaugeSample, sapClockCarry, thresholdWrite. (R448, R449, R453, R455, R456, R457, R458, R467, Table 15.4) -/
def Obligations.SapGaugeAndLevels : Prop :=
  (∀ (g : GaugeIn) (s : State), s.sap.running = true → ∃ t, exec (.gaugeSample g) s = .next t
      ∧ t.sap.clock = s.sap.clock + (if s.sap.level = 0 ∧ s.sap.cold = false then 8 else 1)
      ∧ t.sap.rsvMv = g.rsvMv ∧ t.sap.harvestUw = (if sapSrcKind s ≠ 0 then g.harvestUw else 0)
      ∧ (reserveLithium s = false →
          t.sap.gauge = satTo 24 (capEnergy (learnCap (if chargePath s then g.rise else none) s.sap.capEst) g.rsvMv)))
    ∧ (∀ (g : GaugeIn) (s : State), s.sap.running = false → ∃ t, exec (.gaugeSample g) s = .next t ∧ t.sap = s.sap)
    ∧ (∀ (g : GaugeIn) (s : State), s.sap.running = true → s.sap.rsvPresent = true → g.openRsv = false →
      levelAtMost (gaugeMeasure (gaugeSeen s g) s) < s.sap.level → ∃ t, exec (.gaugeSample g) s = .next t
      ∧ t.sap.level = levelAtMost (gaugeMeasure (gaugeSeen s g) s)
      ∧ (t.sap.level = 0 → t.pocket.slots = .replicate 16 0 ∧ t.pocket.nonce = none ∧ t.pocket.powered = false))
    ∧ (∀ (g : GaugeIn) (s : State), s.sap.running = true → s.sap.rsvPresent = true → g.openRsv = false →
      s.sap.level ≤ levelAtMost (gaugeMeasure (gaugeSeen s g) s) → s.sap.level < 3 →
      ∃ t, exec (.gaugeSample g) s = .next t
      ∧ t.sap.level = (if riseThreshold s s.sap.level ≤ (gaugeMeasure (gaugeSeen s g) s).sap.gauge then s.sap.level + 1 else s.sap.level))
    ∧ (∀ (g : GaugeIn) (s : State), s.sap.running = true → s.sap.rsvPresent = false →
        ∃ t, exec (.gaugeSample g) s = .next t
      ∧ t.sap.level = s.sap.level)
    ∧ (∀ s : State, s.sap.running = true → s.sap.clock = 0xFFFFFFFF → ∃ t, exec .sapClockCarry s = .next t
      ∧ t.sap.clock = 0 ∧ t.sap.level = s.sap.level)
    ∧ (∀ (who : Requester) (w : Fin 4) (v : Word) (s : State), maySet who (0x3010 + 4 * w.val) s →
        s.sap.running = true →
      ∃ t, exec (.thresholdWrite who w v) s = .next t
      ∧ (thresholdsOrdered { s with sap := withThreshold w (field v 23 0) s.sap } = true →
          t.sap = withThreshold w (field v 23 0) s.sap)
      ∧ (thresholdsOrdered { s with sap := withThreshold w (field v 23 0) s.sap } = false →
          t.sap = { s.sap with orderErr := true }))

/-- An armed wake ball or timer holds the Bark awake and records LAST_SRC; an unarmed one does nothing; the end of
WAKE_HOLD ends it; losing the reserve stops charging, sets BRIDGE, caps the level at Lean while VDD18 stands and
shows in BARK_ACTIVE[6]; the bridge's zeroize erases the Pocket only without VDD18; the return ends the bridge.
Concluded to complete, with the effect of its own: wakeBall, wakeTimer, wakeHoldEnd, reserveLost, sapBridgeZeroize,
reserveReturned. (R462, R465, R466, R467, R468, R470, Table 15.4) -/
def Obligations.SapWakeAndReserve : Prop :=
  (∀ s : State, flag s.sap.wake 7 = true → wakeArmed s 1 = true → ∃ t, exec .wakeBall s = .next t
      ∧ t.sap.wakeHolding = true ∧ t.sap.lastSrc = 1 ∧ t.sap.level = s.sap.level)
    ∧ (∀ s : State, (flag s.sap.wake 7 = false ∨ wakeArmed s 1 = false) → ∃ t, exec .wakeBall s = .next t
        ∧ t.sap = s.sap)
    ∧ (∀ s : State, field s.sap.wake 31 16 ≠ 0 → wakeArmed s 0xA = true → ∃ t, exec .wakeTimer s = .next t
      ∧ t.sap.wakeHolding = true ∧ t.sap.lastSrc = 0xA)
    ∧ (∀ s : State, ∃ t, exec .wakeHoldEnd s = .next t ∧ t.sap = { s.sap with wakeHolding := false })
    ∧ (∀ (mv : Nat) (s : State), s.sap.running = true → s.sap.rsvPresent = true →
        ∃ t, exec (.reserveLost mv) s = .next t
      ∧ t.sap.rsvPresent = false ∧ t.sap.bridge = true ∧ t.sap.charging = false ∧ t.sap.keepalive = s.power.vdd18
      ∧ t.bark.active.getLsbD 6 = true
      ∧ t.sap.level = (if s.power.vdd18 = true ∧ 2 < s.sap.level.val then 2 else s.sap.level))
    ∧ (∀ (mv : Nat) (s : State), s.sap.rsvPresent = false → ∃ t, exec (.reserveLost mv) s = .next t ∧ t.sap = s.sap)
    ∧ (∀ (ms : Nat) (s : State), s.sap.running = true → s.sap.rsvPresent = false → s.power.vdd18 = false →
      ∃ t, exec (.sapBridgeZeroize ms) s = .next t
      ∧ t.pocket.slots = .replicate 16 0 ∧ t.pocket.nonce = none ∧ t.sap.zeroCount = bump 8 s.sap.zeroCount)
    ∧ (∀ (ms : Nat) (s : State), (s.sap.rsvPresent = true ∨ s.power.vdd18 = true) →
      ∃ t, exec (.sapBridgeZeroize ms) s = .next t ∧ t.pocket = s.pocket ∧ t.sap = s.sap)
    ∧ (∀ (ms : Nat) (s : State), s.sap.running = true → s.sap.rsvPresent = false →
      ∃ t, exec (.reserveReturned ms) s = .next t
      ∧ t.sap.rsvPresent = true ∧ t.sap.bridge = false ∧ t.sap.keepalive = false ∧ t.bark.active.getLsbD 6 = false)

/-- AWL_UNIT_START takes the first unit of the queue when none is in service and its record is not still being read; a
unit that completes counts in UNITS, one that fails in FAILS; an ECDH completes the authentication unless its item
was erased meanwhile (R506); a failed hash, certificate or response unit of a wanted authentication is a violation
of class 21; a hash unit's success is its comparison with the slot of the port's trust anchor, and brings the first
certificate unit; a responder's challenge is answered with the signature of its digest under slot 0; a unit that
nothing wants completes without effect, and its holder's next one then joins the queue; a failed generator clears
RNG_OK. Concluded to complete, with the effect of its own: awlUnitStart, awlUnitDone, awlRngFail. (R298, R301, R302,
R303, R502, R504, R505, R506) -/
def Obligations.AwlQueueAndUnits : Prop :=
  (∀ (u : AwlUnit) (rest : List AwlUnit) (s : State), u.needs = none → u.output = none → rngNeeded u.use = false →
      s.awl.head = none → s.awl.queue = u :: rest → ∃ t, exec .awlUnitStart s = .next t
      ∧ t.awl.head = some u ∧ t.awl.queue = rest)
    ∧ (∀ s : State, s.awl.head.isSome = true → ∃ t, exec .awlUnitStart s = .next t ∧ t.awl = s.awl
        ∧ t.pocket = s.pocket)
    ∧ (∀ (s : State) (u : AwlUnit), s.awl.queue.head? = some u → readPending s u = true → s.awl.head = none →
      ∃ t, exec .awlUnitStart s = .next t ∧ t.awl.head = none ∧ t.awl.queue = s.awl.queue)
    ∧ (∀ (s : State) (u : AwlUnit), s.awl.head = some u → ∀ (ok : Bool) (us : Nat), u.wanted = false →
        s.awl.behind = [] →
      ∃ t, exec (.awlUnitDone ok us) s = .next t
      ∧ t.awl.head = none ∧ t.awl.units = bump 16 s.awl.units ∧ t.awl.queue = s.awl.queue
      ∧ t.awl.fails = (if unitOk s u ok then s.awl.fails else bump 12 s.awl.fails))
    ∧ (∀ (s : State) (u v : AwlUnit), s.awl.head = some u → ∀ (ok : Bool) (us : Nat), u.wanted = false →
      s.awl.behind = [v] → sameHolder u.use v.use = true → (s.awl.queue.any fun w => sameHolder u.use w.use) = false →
      ∃ t, exec (.awlUnitDone ok us) s = .next t
      ∧ t.awl.head = none ∧ t.awl.behind = [] ∧ t.awl.queue = s.awl.queue ++ [{ v with arrivedAt := s.time.now }])
    ∧ (∀ (s : State) (u : AwlUnit), s.awl.head = some u → ∀ (ok : Bool) (us : Nat) (p : Fin 8), u.use = .authHash p →
      u.wanted = true → rootOk s p = true → s.awl.behind = [] →
      (s.awl.queue.any fun w => sameHolder u.use w.use) = false → ∃ t, exec (.awlUnitDone ok us) s = .next t
      ∧ t.awl.units = bump 16 s.awl.units ∧ t.awl.fails = s.awl.fails
      ∧ (t.awl.queue.map AwlUnit.use) = s.awl.queue.map AwlUnit.use ++ [.authCert p])
    ∧ (∀ (s : State) (u : AwlUnit), s.awl.head = some u → ∀ (ok : Bool) (us : Nat) (p : Fin 8), u.use = .authHash p →
      u.wanted = true → rootOk s p = false → ∃ t, exec (.awlUnitDone ok us) s = .next t
      ∧ t.awl.units = bump 16 s.awl.units ∧ t.awl.fails = bump 12 s.awl.fails
      ∧ (portPd t p).lastClass = 21 ∧ (portPd t p).violCount = bump 16 (portPd s p).violCount)
    ∧ (∀ (s : State) (u : AwlUnit), s.awl.head = some u → ∀ (us : Nat) (p : Fin 8) (d : List Byte),
      strapUp s = true → u.use = .responder p d → u.wanted = true → ∃ t, exec (.awlUnitDone true us) s = .next t
      ∧ (portPd t p).txq = (portPd s p).txq ++
          [⟨.sop, .securityResponse 2 (ecdsaSign s.pocket.slots[0].toNat d) 0 0 true⟩])
    ∧ (∀ (s : State) (u : AwlUnit), s.awl.head = some u →
        ∀ (us : Nat) (p : Fin 8), (item s (sessionItem p)).state ≠ .absent → u.use = .authEcdh p → u.wanted = true →
      ∃ t, exec (.awlUnitDone true us) s = .next t
      ∧ (portPd t p).auth = .authenticated ∧ (portPd t p).authFailedAlarm = false)
    ∧ (∀ (s : State) (u : AwlUnit), s.awl.head = some u →
        ∀ (us : Nat) (p : Fin 8), (item s (sessionItem p)).state = .absent → u.use = .authEcdh p → u.wanted = true →
      ∃ t, exec (.awlUnitDone true us) s = .next t
      ∧ (portPd t p).auth = .noSlot ∧ (portPd t p).authFailedAlarm = true)
    ∧ (∀ (test : Byte) (s : State), ∃ t, exec (.awlRngFail test) s = .next t ∧ t.awl = { s.awl with rngOk := false })

/-- A finished record read frees the flash port and marks the units that waited for it; a record write that verifies
puts the record's bytes into the flash at its place in the log and makes it the item's current record; with the log
kept blank ahead of it; a write of 1 to WC_SAT zeroizes every slot and starts WRITE_COUNT again. Concluded to
complete, with the effect of its own: recordReadDone, recordWriteDone, wcSatZeroize. (R487, R491, R495, R496, R498,
Table 16.2) -/
def Obligations.PocketRecordsAndZeroize : Prop :=
  (∀ (i : Fin 20) (s : State), s.flash.current = some (.recordRead i) → ∃ t, exec .recordReadDone s = .next t
      ∧ t.flash.mem = s.flash.mem ∧ t.flash.ok = s.flash.ok ∧ t.pocket = s.pocket
      ∧ t.awl.head = s.awl.head ∧ t.awl.queue =
          s.awl.queue.map (fun u => if u.needs = some i then { u with readDone := true } else u))
    ∧ (∀ (i : Fin 20) (b : Buffered) (s : State), itemClass i = 3 → b.item = i →
      s.flash.current = some (.recordWrite i) → s.pocket.buffer = [b] → ∃ t, exec .recordWriteDone s = .next t
      ∧ t.pocket.items[i] = { s.pocket.items[i] with current := true, record := b.index, wc := b.wc }
      ∧ t.pocket.buffer = [] ∧ t.pocket.slots = s.pocket.slots
      ∧ t.flash.mem = (sectorClear ((b.index / 64 + 1) % 15) (flashProgram (recordAddr s b.index) (bufferBytes s i)
          (if b.index % 64 = 0 then sectorClear (b.index / 64) s else s))).flash.mem)
    ∧ (∀ s : State, s.flash.current = none → ∃ t, exec .recordWriteDone s = .next t ∧ t.pocket = s.pocket
      ∧ t.flash.mem = s.flash.mem)
    ∧ (∀ (who : Requester) (s : State), maySet who 0x1C00 s → crownUp s = false →
      ∃ t, exec (.wcSatZeroize who) s = .next t
      ∧ t.pocket.slots = .replicate 16 0 ∧ t.pocket.nonce = none ∧ t.pocket.wcSat = false ∧ t.pocket.writeCount = 0
      ∧ (∀ i : Fin 20, t.pocket.items[i].state = .absent))
    ∧ (∀ (who : Requester) (s : State), maySet who 0x1C00 s →
      ∃ t, exec (.wcSatZeroize who) s = .next t
      ∧ t.pocket.wcSat = false ∧ t.pocket.writeCount = 0
      ∧ (∀ k : Fin 16, 2 ≤ k.val → t.pocket.slots[k] = 0) ∧ (∀ i : Fin 20, 2 ≤ i.val →
          t.pocket.items[i].state = .absent))

/-- A condition of an enabled sensor that a sample shows sets ACTIVE, LATCHED and the count once, and the alarms of one
sample act at no lower class than its own; a sampled sensor clears at its second clean sample; a continuous sensor
sets ACTIVE on its event and clears on its own command; an alarm at K2 or K3 erases every leasable slot, and K3
locks; BKRAISE only rises in the evaluated configuration. Concluded to complete, with the effect of its own:
barkSample, barkGlitch, barkActiveClear, bkraiseWrite. (R512, R513, R514, R515, R516, R517, R518, R520, R522, Table
17.2, Table 17.3) -/
def Obligations.BarkAlarms : Prop :=
  (∀ (b : BarkIn) (k : Fin 7) (s : State), barkRate s ≠ 0 → (s.bark.samples + 1) % 4096 ≠ 0 → sampleSees s k = true →
      b.cond.getLsbD k.val = true → sensorOn s k = true → s.bark.active.getLsbD k.val = false →
      ∃ t, exec (.barkSample b) s = .next t
      ∧ t.bark.active.getLsbD k.val = true ∧ t.bark.latched.getLsbD k.val = true
      ∧ t.bark.counts[k] = bump 8 s.bark.counts[k] ∧ t.bark.lastValid = true
      ∧ (2 ≤ effClass s k.val → ∀ j : Fin 16, 2 ≤ j.val → t.pocket.slots[j] = 0)
      ∧ effClass s k.val ≤ t.bark.lastClass.toNat
      ∧ (effClass s k.val = 3 → t.pocket.k3Locked = true ∧ t.pocket.k3Cause = 1))
    ∧ (∀ (b : BarkIn) (k : Fin 7) (s : State), barkRate s ≠ 0 → (s.bark.samples + 1) % 4096 ≠ 0 → k ∈ sampledSensors →
      b.cond.getLsbD k.val = false → s.bark.active.getLsbD k.val = true → s.bark.clean[k] ≤ 1 →
      ∃ t, exec (.barkSample b) s = .next t
      ∧ t.bark.active.getLsbD k.val = decide (s.bark.clean[k] = 0) ∧ t.bark.counts[k] = s.bark.counts[k])
    ∧ (∀ (b : BarkIn) (s : State), barkRate s = 0 → ∃ t, exec (.barkSample b) s = .next t ∧ t.bark = s.bark
      ∧ t.pocket = s.pocket)
    ∧ (∀ (k : Fin 7) (s : State), k ∈ continuousSensors → glitchSeen s k = true → barkRate s ≠ 0 →
        sensorOn s k = true →
      s.bark.active.getLsbD k.val = false → ∃ t, exec (.barkGlitch k) s = .next t
      ∧ t.bark.active = s.bark.active ||| (1 <<< k.val) ∧ t.bark.latched = s.bark.latched ||| (1 <<< k.val)
      ∧ t.bark.counts[k] = bump 8 s.bark.counts[k] ∧ t.bark.lastClass = BitVec.ofNat 2 (effClass s k.val)
      ∧ (effClass s k.val = 0 → t.pocket = s.pocket)
      ∧ (effClass s k.val = 1 → ∀ p : Fin 8, t.pocket.items[sessionItem p].state = .absent))
    ∧ (∀ (k : Fin 7) (s : State), (k ∉ continuousSensors ∨ s.bark.active.getLsbD k.val = true) →
      ∃ t, exec (.barkGlitch k) s = .next t ∧ t.bark.counts = s.bark.counts ∧ t.pocket = s.pocket)
    ∧ (∀ (k : Fin 7) (s : State), k ∈ continuousSensors → ∃ t, exec (.barkActiveClear k) s = .next t
      ∧ t.bark = { s.bark with active := s.bark.active &&& ~~~((1 : BitVec 7) <<< k.val) })
    ∧ (∀ (who : Requester) (v : Word) (s : State), maySet who 0x2408 s → s.sap.running = true →
      ∃ t, exec (.bkraiseWrite who v) s = .next t
      ∧ (barkEval s = false → t.bark = { s.bark with raise := v.extractLsb' 0 14 })
      ∧ (barkEval s = true → ∀ b : Fin 7,
          code2 t.bark.raise b.val = max (code2 (v.extractLsb' 0 14) b.val) (code2 s.bark.raise b.val)))

/-- An allowed read of an unprotected or verified line returns its bytes; a tag that does not verify over the bytes a
disturbance has left poisons the line, counts it and returns an error, and a partial write is then not performed; an
allowed line write stores the line with the tag of its index and data under the tag key, which each Crown boot draws
anew, and clears its poison; a denied access changes nothing in memory; a window write that would overlap sets
WIN_ERR only. Concluded to complete, with the effect of its own: satchelRead, satchelPartialWrite, satchelLineWrite,
bootStart, satwinWrite. (R524, R526, R527, R528, R530, R531, R537) -/
def Obligations.SatchelAccesses : Prop :=
  (∀ (who : Requester) (line : Nat) (f : Option (BitVec 256)) (s : State),
      (allowed who (satAccess false line) s).2 = true → line < 8192 →
      (windowOf s line = none ∨ (line ∉ s.satchel.poisoned ∧ tagBad (disturb line f s) line = false)) →
      ∃ t, exec (.satchelRead who line f) s = .next t
      ∧ t.satchel = { (disturb line f s).satchel with lastData := lineBytes (disturb line f s) line, lastError := false })
    ∧ (∀ (who : Requester) (line : Nat) (s : State), (allowed who (satAccess false line) s).2 = true → line < 8192 →
      windowOf s line = none → ∃ t, exec (.satchelRead who line none) s = .next t
      ∧ t.satchel = { s.satchel with lastData := lineBytes s line, lastError := false })
    ∧ (∀ (who : Requester) (line : Nat) (f : Option (BitVec 256)) (s : State),
      (allowed who (satAccess false line) s).2 = true → line < 8192 → (windowOf s line).isSome = true →
      line ∉ s.satchel.poisoned → tagBad (disturb line f s) line = true →
      ∃ t, exec (.satchelRead who line f) s = .next t
      ∧ t.satchel.lastData = List.replicate 32 0 ∧ t.satchel.lastError = true ∧ line ∈ t.satchel.poisoned
      ∧ t.satchel.poisonCount = bump 8 s.satchel.poisonCount ∧ t.satchel.lastLine = line
      ∧ t.satchel.mem = (disturb line f s).satchel.mem)
    ∧ (∀ (who : Requester) (a : Nat) (bs : List Byte) (f : Option (BitVec 256)) (s : State),
      (allowed who (satAccess true (a / 32)) s).2 = true → a / 32 < 8192 →
      (windowOf s (a / 32) = none ∨ (a / 32 ∉ s.satchel.poisoned ∧ tagBad (disturb (a / 32) f s) (a / 32) = false)) →
      ∃ t, exec (.satchelPartialWrite who a bs f) s = .next t
      ∧ t.satchel.mem = mwrite 0 (disturb (a / 32) f s).satchel.mem a (bs.take (32 - a % 32))
          ∧ t.satchel.lastError = false
      ∧ tagBad t (a / 32) = false)
    ∧ (∀ (who : Requester) (a : Nat) (bs : List Byte) (f : Option (BitVec 256)) (s : State),
      (allowed who (satAccess true (a / 32)) s).2 = true → a / 32 < 8192 → (windowOf s (a / 32)).isSome = true →
      a / 32 ∉ s.satchel.poisoned → tagBad (disturb (a / 32) f s) (a / 32) = true →
      ∃ t, exec (.satchelPartialWrite who a bs f) s = .next t
      ∧ t.satchel.mem = (disturb (a / 32) f s).satchel.mem ∧ t.satchel.lastError = true ∧ a / 32 ∈ t.satchel.poisoned)
    ∧ (∀ (who : Requester) (line : Nat) (bs : List Byte) (s : State), (allowed who (satAccess true line) s).2 = true →
      line < 8192 → ∃ t, exec (.satchelLineWrite who line bs) s = .next t
      ∧ t.satchel.mem = mwrite 0 s.satchel.mem (32 * line) (slice bs 0 32)
      ∧ t.satchel.poisoned = s.satchel.poisoned.filter (· ≠ line) ∧ t.satchel.lastError = false
      ∧ tagBad t line = false ∧ storedTag t line = Config.satTag s.satchel.key line (lineValue t line))
    ∧ (∀ (env : BootEnv) (s : State), bootMay s = true → startCheck s.heart.cells env.lateRow = none →
      ∃ t, exec (.bootStart env) s = .next t
      ∧ ∃ k, k < t.freeCtr ∧ s.freeCtr ≤ k ∧ t.satchel.key = (Config.random k).extractLsb' 0 128)
    ∧ (∀ (who : Requester) (line a : Nat) (bs : List Byte) (s : State), (allowed who (satAccess true line) s).2 = false →
      a / 32 = line → (∃ t, exec (.satchelLineWrite who line bs) s = .next t
      ∧ t.satchel.mem = s.satchel.mem ∧ t.satchel.poisoned = s.satchel.poisoned ∧ t.satchel.lastError = true))
    ∧ (∀ (who : Requester) (k : Fin 8) (isB : Bool) (v : Word) (s : State),
      maySet who (0x2F00 + 8 * k.val + 4 * b2n isB) s → 2 ≤ k.val →
      (s.boot.evaluated = false ∨ s.tack.committed = false) →
      ∃ t, exec (.satwinWrite who k isB v) s = .next t
      ∧ (isB = true → winsOverlap s.satchel.winA (s.satchel.winB.set k (v &&& 0x1FFF)) = false →
          t.satchel = { s.satchel with winB := s.satchel.winB.set k (v &&& 0x1FFF) })
      ∧ (isB = true → winsOverlap s.satchel.winA (s.satchel.winB.set k (v &&& 0x1FFF)) = true →
          t.satchel = { s.satchel with winErr := true })
      ∧ (isB = false → winsOverlap (s.satchel.winA.set k (v &&& 0x8F001FFF)) s.satchel.winB = false →
          t.satchel = { s.satchel with winA := s.satchel.winA.set k (v &&& 0x8F001FFF) })
      ∧ (isB = false → winsOverlap (s.satchel.winA.set k (v &&& 0x8F001FFF)) s.satchel.winB = true →
          t.satchel = { s.satchel with winErr := true }))
    ∧ (∀ (who : Requester) (k : Fin 8) (isB : Bool) (v : Word) (s : State), k.val < 2 →
      ∃ t, exec (.satwinWrite who k isB v) s = .next t ∧ t.satchel = s.satchel)

/-- For every requester, a read of a poisoned protected line and a partial write within it answer with an error; the
access changes no byte of the Satchel (what a disturbance had left in the cells stays), and the line stays poisoned.
Concluded to complete, with the effect of its own: satchelRead, satchelPartialWrite. (R529) -/
def Obligations.PoisonedLineAnswers : Prop :=
  (∀ (who : Requester) (line : Nat) (f : Option (BitVec 256)) (s : State), (windowOf s line).isSome = true →
      line ∈ s.satchel.poisoned → ∃ t, exec (.satchelRead who line f) s = .next t
      ∧ t.satchel.lastError = true ∧ t.satchel.mem = (disturb line f s).satchel.mem ∧ line ∈ t.satchel.poisoned)
    ∧ (∀ (who : Requester) (a : Nat) (bs : List Byte) (f : Option (BitVec 256)) (s : State),
      (windowOf s (a / 32)).isSome = true → a / 32 ∈ s.satchel.poisoned →
      ∃ t, exec (.satchelPartialWrite who a bs f) s = .next t
      ∧ t.satchel.lastError = true ∧ t.satchel.mem = (disturb (a / 32) f s).satchel.mem ∧ a / 32 ∈ t.satchel.poisoned)
    ∧ (∀ (line : Nat) (s : State), disturb line none s = s)

/-- A commit of the next epoch over valid staged rules starts to drain with the old rules in force; any other gives its
COMMIT_RESULT and no drain, and one at epoch 0xFFFF, which can count no further, sets EPOCH_SAT with result 4; when
the drain ends the staged copy becomes the rules, the epoch counts by one and COMMIT_RESULT reads done; EPOCH_SAT's
clear restarts the count at 1; a denied write is not performed and counts. Concluded to complete, with the effect of
its own: tkcommit, tackCommit, epochSatClear. (R536, R537, R539, R540, R543, R544) -/
def Obligations.TackCommits : Prop :=
  (∀ (who : Requester) (next : Half) (s : State), maySet who 0x2C04 s → commitRefusal s next = none →
      ∃ t, exec (.tkcommit who next) s = .next t
      ∧ t.tack.draining = some (s.tack.staged, s.time.now) ∧ t.tack.rules = s.tack.rules ∧ t.tack.epoch = s.tack.epoch
      ∧ t.tack.result = s.tack.result)
    ∧ (∀ (who : Requester) (next : Half) (s : State), maySet who 0x2C04 s → (commitRefusal s next).isSome = true →
      ∃ t, exec (.tkcommit who next) s = .next t
      ∧ t.tack = { s.tack with
          result := BitVec.ofNat 3 ((commitRefusal s next).getD 0)
          epochSat := s.tack.epochSat || decide (commitRefusal s next = some 4) })
    ∧ (∀ (who : Requester) (next : Half) (s : State), maySet who 0x2C04 s → s.tack.draining = none →
        s.tack.epoch = 0xFFFF →
      ∃ t, exec (.tkcommit who next) s = .next t ∧ t.tack = { s.tack with result := 4, epochSat := true })
    ∧ (∀ (rs : Vector Rule 32) (at0 : Nat) (s : State), ∃ t,
      exec .tackCommit { s with tack := { s.tack with draining := some (rs, at0) } } = .next t
      ∧ t.tack = { s.tack with
          rules := rs, draining := none, epoch := s.tack.epoch + 1, result := 1, committed := true })
    ∧ (∀ s : State, s.tack.draining = none → ∃ t, exec .tackCommit s = .next t ∧ t.tack = s.tack)
    ∧ (∀ (who : Requester) (s : State), maySet who 0x2C00 s → s.tack.draining = none → s.tack.epochSat = true →
      ∃ t, exec (.epochSatClear who) s = .next t ∧ t.tack = { s.tack with epochSat := false, epoch := 1 })
    ∧ (∀ (who : Requester) (s : State), s.tack.draining.isSome = true → ∃ t, exec (.epochSatClear who) s = .next t
      ∧ t.tack.epoch = s.tack.epoch ∧ t.tack.epochSat = s.tack.epochSat)
    ∧ (∀ (who : Requester) (next : Half) (s : State), ¬ maySet who 0x2C04 s →
        ∃ t, exec (.tkcommit who next) s = .next t
      ∧ t.tack.draining = s.tack.draining ∧ t.tack.result = s.tack.result
      ∧ t.tack.denyCount = bump 16 s.tack.denyCount ∧ t.tack.lastSpace = 0)

/-- An accepted TKCOMMIT copies the staged table in that one step. While the commit drains, no register write changes
the copy; when it becomes active the rules are the copy, whatever has been staged since. Concluded to complete, with
the effect of its own: tkcommit, registerWrite, tackCommit. (R541) -/
def Obligations.StagedTableCopied : Prop :=
  (∀ (who : Requester) (next : Half) (s : State), maySet who 0x2C04 s → commitRefusal s next = none →
      ∃ t, exec (.tkcommit who next) s = .next t ∧ t.tack.draining.map Prod.fst = some s.tack.staged
      ∧ t.tack.staged = s.tack.staged)
    ∧ (∀ (who : Requester) (addr : Half) (v : Word) (s : State), s.tack.draining.isSome = true →
      ∃ t, exec (.registerWrite who addr v) s = .next t ∧ t.tack.draining = s.tack.draining
      ∧ t.tack.rules = s.tack.rules)
    ∧ (∀ (rs : Vector Rule 32) (at0 : Nat) (s : State), ∃ t,
      exec .tackCommit { s with tack := { s.tack with draining := some (rs, at0) } } = .next t
      ∧ t.tack.rules = rs ∧ t.tack.staged = s.tack.staged)

/-- A claim of a served requester joins the queue once, unless ALG is invalid or it already claims or holds; the grant
gives the oldest claim a fresh computation and leaves MATCH and MISMATCH, and a host port that wants nothing any
more releases at once; release frees the lease; 500 µs after the grant a holder other than the host port is revoked
and counted; the host's writes have no effect. Concluded to complete, with the effect of its own: seamClaim,
seamGrant, seamLeaseRevoked. (R180, R181, R182, R184, R190) -/
def Obligations.SeamLease : Prop :=
  (∀ (who : Requester) (alg : BitVec 2) (s : State), who ≠ .host → seamServes who s = true → alg ≠ 3 →
      s.seam.holder ≠ some who → s.seam.waiting.any (fun c => c.1 = who) = false →
      ∃ t, exec (.seamClaim who alg false) s = .next t
      ∧ t.seam = { s.seam with alg := alg, waiting := s.seam.waiting ++ [(who, alg)], revoked := s.seam.revoked.filter (· ≠ who) })
    ∧ (∀ (who : Requester) (alg : BitVec 2) (s : State), (alg = 3 ∨ s.seam.holder = some who) →
      ∃ t, exec (.seamClaim who alg false) s = .next t
      ∧ t.seam.waiting = s.seam.waiting ∧ t.seam.holder = s.seam.holder ∧ t.seam.run = s.seam.run)
    ∧ (∀ (alg : BitVec 2) (rel : Bool) (s : State), ∃ t, exec (.seamClaim .host alg rel) s = .next t
        ∧ t.seam = s.seam)
    ∧ (∀ (r : Requester) (a : BitVec 2) (rest : List (Requester × BitVec 2)) (s : State), r ≠ .host →
      s.seam.holder = none → s.seam.waiting = (r, a) :: rest → ∃ t, exec .seamGrant s = .next t
      ∧ t.seam.isMatch = s.seam.isMatch ∧ t.seam.mismatch = s.seam.mismatch ∧ t.host.job = s.host.job
      ∧ t.seam.holder = some r ∧ t.seam.holderAlg = a ∧ t.seam.run = crcInit a ∧ t.seam.waiting = rest
      ∧ t.seam.foldDone = false ∧ t.seam.dataSeen = false ∧ t.seam.invalid = false ∧ t.seam.resultValid = false)
    ∧ (∀ (a : BitVec 2) (rest : List (Requester × BitVec 2)) (s : State), s.seam.holder = none →
      s.seam.waiting = (.host, a) :: rest → s.host.asked = none → s.host.job = none → ∃ t, exec .seamGrant s = .next t
      ∧ t.seam.holder = none ∧ t.seam.waiting = rest)
    ∧ (∀ s : State, s.seam.holder.isSome = true → ∃ t, exec .seamGrant s = .next t ∧ t.seam = s.seam)
    ∧ (∀ (r : Requester) (s : State), r ≠ .host → s.seam.holder = some r → ∃ t, exec .seamLeaseRevoked s = .next t
      ∧ t.seam.holder = none ∧ t.seam.run = 0 ∧ t.seam.resultValid = false ∧ t.seam.invalid = true
          ∧ r ∈ t.seam.revoked
      ∧ t.seam.waiting = s.seam.waiting ∧ t.seam.revocations = bump 12 s.seam.revocations)
    ∧ (∀ s : State, (s.seam.holder = none ∨ s.seam.holder = some .host) → ∃ t, exec .seamLeaseRevoked s = .next t
      ∧ t.seam = s.seam)

/-- After the holder's release the lease is free and the running value is gone; when that requester claims again and is
granted, the computation is a new one: the initial value, no fold, no data, no result. Concluded to complete, with
the effect of its own: seamRelease, seamClaim. (R183) -/
def Obligations.SeamReleaseDiscards : Prop :=
  ∀ (who : Requester) (alg : BitVec 2) (s : State), who ≠ .host → seamServes who s = true → alg ≠ 3 →
      s.seam.holder = some who → s.seam.waiting = [] →
      ∃ t, exec (.seamRelease who) s = .next t ∧ t.seam.holder = none ∧ t.seam.run = 0 ∧ t.seam.resultValid = false
      ∧ ∃ u, exec (.seamClaim who alg false) t = .next u
      ∧ ∃ v, exec .seamGrant u = .next v
      ∧ v.seam.holder = some who ∧ v.seam.run = crcInit alg ∧ v.seam.foldDone = false ∧ v.seam.dataSeen = false
      ∧ v.seam.resultValid = false ∧ v.seam.invalid = false

/-- The holder's data write feeds its bytes least significant first; a fold write before the first data feeds the same
way, and after it feeds nothing and sets INVALID; a compare sets MATCH or MISMATCH and counts a mismatch without
ending the computation; a requester without the lease changes nothing. Concluded to complete, with the effect of its
own: seamDataWrite, seamFoldWrite, seamCompare. (R186, R188, R189, R190, R191, R192, R193) -/
def Obligations.SeamComputation : Prop :=
  (∀ (who : Requester) (w : Fin 3) (v : Word) (s : State), who ≠ .host → s.seam.holder = some who →
      ∃ t, exec (.seamDataWrite who w v) s = .next t
      ∧ t.seam = { s.seam with
          run := (le (2 ^ w.val) v.toNat).foldl (crcFeed s.seam.holderAlg) s.seam.run
          dataSeen := true, resultValid := true })
    ∧ (∀ (who : Requester) (w : Fin 3) (v : Word) (s : State), s.seam.holder ≠ some who →
      ∃ t, exec (.seamDataWrite who w v) s = .next t ∧ t.seam = s.seam)
    ∧ (∀ (who : Requester) (w : Fin 3) (v : Word) (s : State), who ≠ .host → s.seam.holder = some who →
      ∃ t, exec (.seamFoldWrite who w v) s = .next t
      ∧ (s.seam.dataSeen = false → t.seam = { s.seam with
          run := (le (2 ^ w.val) v.toNat).foldl (crcFeed s.seam.holderAlg) s.seam.run, foldDone := true, resultValid := true })
      ∧ (s.seam.dataSeen = true → t.seam = { s.seam with invalid := true }))
    ∧ (∀ (who : Requester) (w : Fin 3) (v : Word) (s : State), s.seam.holder ≠ some who →
      ∃ t, exec (.seamFoldWrite who w v) s = .next t ∧ t.seam = s.seam)
    ∧ (∀ (who : Requester) (x : Word) (s : State), who ≠ .host → s.seam.holder = some who → who ∉ s.seam.revoked →
      ∃ t, exec (.seamCompare who x) s = .next t
      ∧ t.seam.run = s.seam.run ∧ t.seam.holder = s.seam.holder
      ∧ (crcFinal s.seam.holderAlg s.seam.run = x → s.seam.invalid = false →
          t.seam = { s.seam with isMatch := true, mismatch := false })
      ∧ ((crcFinal s.seam.holderAlg s.seam.run ≠ x ∨ s.seam.invalid = true) → t.seam.mismatch = true
          ∧ t.seam.isMatch = false
          ∧ t.seam.mismatches = bump 16 s.seam.mismatches))
    ∧ (∀ (who : Requester) (x : Word) (s : State), s.seam.holder ≠ some who → who ∉ s.seam.revoked →
      ∃ t, exec (.seamCompare who x) s = .next t ∧ t.seam = s.seam)

/-- The end of every command's work writes what that work raised: a permutation of it in ascending station number, each
entry at the index after NEWEST modulo 256 with every other index unchanged. (R604) -/
def Obligations.RingEntryOrder : Prop :=
  (∀ a b : State, (finish a b).ring = (sortEvents b.raised).foldl (fun r e => ringPut e b.time.stamp r) b.ring)
    ∧ (∀ es : List Event, (sortEvents es).Perm es ∧
      (sortEvents es).Pairwise (fun x y => x.code.toNat / 256 ≤ y.code.toNat / 256))
    ∧ (∀ (e : Event) (stamp : Word) (r : Ring), (ringPut e stamp r).newest = r.newest + 1
      ∧ (∀ k : Byte, (ringPut e stamp r).entries[k.toNat]'(k.isLt) =
          (if k = r.newest + 1 then entryBytes e (ringPut e stamp r).gen stamp else r.entries[k.toNat]'(k.isLt))))

/-- The search finds the newest entry and the next position only when the flash answers; a failed one leaves it unfound;
copies whose Ring index holds another entry are dropped and counted; a journal transfer that succeeds programs the
oldest copy at the next index with its generation; the carry of the timestamp and of UPTIME wraps to 0 with its
event, while Crown counts Root's ticks (R122, R204). Concluded to complete, with the effect of its own:
journalSearch, journalDrop, flashOpDone, ringTimeCarry, uptimeCarry. Where a clause assumes s.raised = []: no event
waits to be written; every step leaves it so (StepsSettleAlarmsAndIrqs). (R602, R608, R609, R610, R611, R652, R653) -/
def Obligations.JournalAndTime : Prop :=
  (∀ s : State, isReady s = true → s.ring.found = false → ∃ t, exec (.journalSearch .ok) s = .next t
      ∧ t.ring.found = true ∧ t.ring.jEmpty = (journalNewest (journalValid s)).isNone ∧ t.flash.ok = true
      ∧ t.flash.mem = s.flash.mem
      ∧ t.ring.jNext = (if journalNewest (journalValid s) = none then 0 else
          if journalTorn s ((((journalNewest (journalValid s)).getD (0, 0)).1 + 1) % 4096) then
            (((((journalNewest (journalValid s)).getD (0, 0)).1 + 1) % 4096) + 1) % 4096
          else (((journalNewest (journalValid s)).getD (0, 0)).1 + 1) % 4096))
    ∧ (∀ s : State, isReady s = true → ∃ t, exec (.journalSearch .fail) s = .next t
      ∧ t.ring.found = s.ring.found ∧ t.ring.jNext = s.ring.jNext ∧ t.flash.ok = false
          ∧ t.host.devAlarms.getLsbD 2 = true)
    ∧ (∀ s : State, isReady s = false → s.boot.phase ≠ .limp → s.raised = [] →
      ∃ t, exec (.journalSearch .ok) s = .next t
      ∧ t.ring = s.ring)
    ∧ (∀ s : State, (s.ring.copies.all fun c => decide (s.ring.entries[c.1.toNat]'(c.1.isLt) = c.2)) = true →
      s.raised = [] → ∃ t, exec .journalDrop s = .next t ∧ t.ring = s.ring)
    ∧ (∀ (c : Byte × BitVec 128) (s : State), s.ring.entries[c.1.toNat]'(c.1.isLt) ≠ c.2 → s.raised = [] →
      ∃ t, exec .journalDrop { s with ring := { s.ring with copies := [c] } } = .next t
      ∧ c ∉ t.ring.copies ∧ t.ring.drops = bump 16 s.ring.drops ∧ t.flash.mem = s.flash.mem)
    ∧ (∀ (ok : Bool) (c : Byte × BitVec 128) (s : State), s.ring.entries[c.1.toNat]'(c.1.isLt) = c.2 →
      s.ring.jNext % 256 ≠ 0 → s.ring.jNext < 4096 → isReady s = true → s.flash.wip = false → s.raised = [] →
      ∃ t, exec (.flashOpDone .ok ok) { s with
          ring := { s.ring with copies := [c], found := true }, flash := { s.flash with current := some .journal } } = .next t
      ∧ t.ring.copies = [] ∧ t.ring.jIndex = s.ring.jNext ∧ t.ring.jNext = (s.ring.jNext + 1) % 4096
      ∧ t.flash.mem = (flashProgram (journalAddr s s.ring.jNext) (journalBytes c.2 (journalNextGen s.ring)) s).flash.mem)
    ∧ (∀ s : State, ticksCount s = true → s.time.stamp = 0xFFFFFFFF → s.raised = [] →
        ∃ t, exec .ringTimeCarry s = .next t
      ∧ t.time.stamp = 0 ∧ t.time.now = s.time.now + 1 ∧ (crownUp s = true → t.ring ≠ s.ring))
    ∧ (∀ s : State, ticksCount s = true → s.time.uptime = 0xFFFFFFFF → s.time.uptimeUs < 1000000 →
        ∃ t, exec .uptimeCarry s = .next t
      ∧ t.time.uptime = 0 ∧ t.time.uptimeUs = 0)
    ∧ (∀ s : State, (s.time.stamp ≠ 0xFFFFFFFF ∨ ticksCount s = false) → ∃ t, exec .ringTimeCarry s = .next t
      ∧ t.time = s.time)
    ∧ (∀ s : State, ticksCount s = false → ∃ t, exec .uptimeCarry s = .next t ∧ t.time = s.time)

/-- A transaction returns STATUS first; a request that fails a check sets VERDICT and its count and leaves the slot and
buffer alone, and another first byte does nothing; a whole read clears RSP_READY and ends a completed job, one of
RESET's OK resets Crown, a shorter one ends nothing, and at a closed port no byte returns; JOB_DONE puts the
completion into the buffer; RESET with its magic arms the reset, which the timeout performs; NONCE_EXPIRE destroys
the nonce. Concluded to complete, with the effect of its own: hostFrameBad, ident, hostRead, jobDone, nonceExpire,
reset, resetTimeout. (R152, R153, R155, R157, R158, R168, Table 6.1, Table 6.4) -/
def Obligations.HostSlotAndFrames : Prop :=
  (∀ (bs : List Byte) (s : State), isOpen s = true → frameVerdict s bs ≠ 1 →
      ((frameEarly s bs).isSome = true ∨ seamFree .host s = true) → ∃ t, exec (.hostFrameBad (0x5A :: bs)) s = .next t
      ∧ t.host.miso = statusByte s :: List.replicate bs.length 0
      ∧ t.host.verdict = BitVec.ofNat 8 (frameVerdict s bs) ∧ t.host.verdictSeq = frameSeq bs
      ∧ t.host.takenSeq = s.host.takenSeq ∧ t.host.buf = s.host.buf ∧ t.host.job = s.host.job
      ∧ t.host.rspReady = s.host.rspReady
      ∧ t.host.busyCount = (if frameVerdict s bs = 2 then bump 12 s.host.busyCount else s.host.busyCount)
      ∧ t.host.crcErrs = (if frameVerdict s bs = 3 then bump 16 s.host.crcErrs else s.host.crcErrs)
      ∧ t.seam.mismatches = (if frameVerdict s bs = 3 then bump 16 s.seam.mismatches else s.seam.mismatches)
      ∧ (frameVerdict s bs = 3 → t.seam.mismatch = true ∧ t.seam.isMatch = false)
      ∧ t.host.formatSeen = (s.host.formatSeen || decide (frameVerdict s bs = 4)))
    ∧ (∀ (b : Byte) (bs : List Byte) (s : State), isOpen s = true → b ≠ 0x5A → b ≠ 0xA5 →
      ∃ t, exec (.hostFrameBad (b :: bs)) s = .next t
      ∧ t.host.miso.head? = some (statusByte s) ∧ t.host.miso.length = bs.length + 1
      ∧ t.host.verdict = s.host.verdict ∧ t.host.buf = s.host.buf ∧ t.host.job = s.host.job
      ∧ t.host.rspReady = s.host.rspReady ∧ t.seam = s.seam)
    ∧ (∀ (seq : Byte) (s : State), isOpen s = true → frameVerdict s (hostFrame 0x01 seq []) ≠ 1 →
      ((frameEarly s (hostFrame 0x01 seq [])).isSome = true ∨ seamFree .host s = true) →
          ∃ t, exec (.ident seq) s = .next t
      ∧ t.host.buf = s.host.buf ∧ t.host.job = s.host.job ∧ t.host.takenSeq = s.host.takenSeq ∧ t.host.verdict ≠ 1)
    ∧ (∀ (n : Nat) (s : State), isOpen s = true → n < (readBytes s).length → ∃ t, exec (.hostRead n) s = .next t
      ∧ t.host.miso = (readBytes s).take n ∧ t.host.rspReady = s.host.rspReady ∧ t.host.job = s.host.job)
    ∧ (∀ (n : Nat) (s : State), isOpen s = true → (readBytes s).length ≤ n → s.host.resetArmed = false →
      ∃ t, exec (.hostRead n) s = .next t
      ∧ t.host.miso.take (readBytes s).length = readBytes s ∧ t.host.rspReady = false
      ∧ t.host.job = (if s.host.jobDone then none else s.host.job) ∧ t.host.jobDone = false)
    ∧ (∀ (n : Nat) (s : State), isOpen s = false → ∃ t, exec (.hostRead n) s = .next t
      ∧ t.host.miso = [] ∧ t.host.rspReady = s.host.rspReady ∧ t.host.job = s.host.job)
    ∧ (∀ (n : Nat) (s : State), isReady s = true → (readBytes s).length ≤ n → s.host.resetArmed = true →
      s.host.buf.rsp = 0x01 → s.host.buf.cmd = 0x3F → ∃ t, exec (.hostRead n) s = .next t
      ∧ t.boot.phase = .crownReset ∧ t.boot.cause.getLsbD 8 = true ∧ t.host.resetArmed = false)
    ∧ (∀ (s : State) (j : HostJob), s.host.job = some j → ∀ r : Byte × List Byte, j.result = some r →
        j.answer = none →
      j.work = none → s.host.jobDone = false → seamFree .host s = true → ∃ t, exec .jobDone s = .next t
      ∧ t.host.buf = { cmd := j.cmd, rsp := r.1, seq := j.seq, payload := r.2, station := j.station }
      ∧ t.host.last.cmd = j.cmd ∧ t.host.last.seq = j.seq ∧ t.host.last.rsp = r.1
      ∧ t.host.rspReady = true ∧ t.host.jobDone = true)
    ∧ (∀ s : State, s.host.job = none → ∃ t, exec .jobDone s = .next t ∧ t.host.buf = s.host.buf
      ∧ t.host.rspReady = s.host.rspReady)
    ∧ (∀ s : State, ∃ t, exec .nonceExpire s = .next t ∧ t.host.nonce = none ∧ t.pocket = s.pocket)
    ∧ (∀ (seq : Byte) (s : State), accepts 0x3F seq [0x52, 0x53, 0x54, 0x21] s →
      ∃ t, exec (.reset seq [0x52, 0x53, 0x54, 0x21]) s = .next t
      ∧ answers 0x01 [] seq t ∧ t.host.resetArmed = true ∧ t.boot = s.boot)
    ∧ (∀ (seq : Byte) (magic : List Byte) (s : State), accepts 0x3F seq magic s → magic ≠ [0x52, 0x53, 0x54, 0x21] →
      ∃ t, exec (.reset seq magic) s = .next t ∧ answers 0x10 [] seq t ∧ t.host.resetArmed = s.host.resetArmed)
    ∧ (∀ s : State, s.host.resetArmed = true → s.host.job = none → isReady s = true →
        ∃ t, exec .resetTimeout s = .next t
      ∧ t.boot.phase = .crownReset ∧ t.boot.cause.getLsbD 8 = true ∧ t.host.resetArmed = false)
    ∧ (∀ s : State, s.host.resetArmed = false → s.boot.together.host = false → ∃ t, exec .resetTimeout s = .next t
        ∧ t.boot = s.boot)

/-- Each accepted read answers OK with what it reads: DEVICE_ID and the version; the register's word; SUMMARY's 384
bytes with its generation counted first; Ring entries as written; journal and flash bytes; Graft's state; a capture
with its RC flags cleared; the longest Awl wait, cleared. A bad span answers BAD_ARG, a register of Root's without
the Strap UNAVAILABLE. Concluded to complete, with the effect of its own: ident, regRead, summary, ringRead,
journalRead, flashRead, flashOpDone, nonceGet, graftState, captureRead, awlwaitRead. (R9, R164, R165, R172, R174,
R378, R606, R607, Table 6.6) -/
def Obligations.HostReads : Prop :=
  (∀ (seq : Byte) (s : State), accepts 0x01 seq [] s → ∃ t, exec (.ident seq) s = .next t
      ∧ answers 0x01 (deviceId s ++ [0x01, 0x00, BitVec.ofNat 8 (b2n Config.variantG1)] ++ List.replicate 13 0) seq t)
    ∧ (∀ (seq : Byte) (addr : Half) (s : State), accepts 0x02 seq (le 2 addr.toNat ++ [1, 0]) s →
      regsCut s [addr.toNat] = false → hostMay 0x02 seq [hostReg s false addr.toNat] s →
      ∃ t, exec (.regRead seq addr 1) s = .next t
      ∧ answers 0x01 (le 4 (regRead addr.toNat (taking 0x02 seq (le 2 addr.toNat ++ [1, 0]) s)).1.toNat) seq t)
    ∧ (∀ (seq : Byte) (addr : Half) (n : Byte) (s : State), accepts 0x02 seq (le 2 addr.toNat ++ [n, 0]) s →
      (n = 0 ∨ 64 < n.toNat ∨ addr.toNat / 0x400 ≠ (addr.toNat + 4 * (n.toNat - 1)) / 0x400) →
      ∃ t, exec (.regRead seq addr n) s = .next t ∧ answers 0x10 [] seq t)
    ∧ (∀ (seq : Byte) (addr : Half) (s : State), accepts 0x02 seq (le 2 addr.toNat ++ [1, 0]) s →
      regsCut s [addr.toNat] = true → ∃ t, exec (.regRead seq addr 1) s = .next t ∧ answers 0x12 [] seq t)
    ∧ (∀ (seq : Byte) (tc tr : Int) (s : State), accepts 0x08 seq [] s → ∃ t, exec (.summary seq tc tr) s = .next t
      ∧ t.host.sumGen = bump 32 s.host.sumGen ∧ t.host.buf.payload.length = 384
      ∧ t.host.buf.payload.take 4 = le 4 t.host.sumGen.n ∧ t.host.buf.rsp = 0x01 ∧ t.host.job = none)
    ∧ (∀ (seq i n : Byte) (s : State), accepts 0x09 seq [i, n] s → 1 ≤ n.toNat → n.toNat ≤ 32 →
      ∃ t, exec (.ringRead seq i n) s = .next t
      ∧ answers 0x01 ((List.range n.toNat).flatMap fun k =>
          le 16 (s.ring.entries[(i.toNat + k) % 256]'(Nat.mod_lt _ (by decide))).toNat) seq t)
    ∧ (∀ (seq i n : Byte) (s : State), accepts 0x09 seq [i, n] s → (n = 0 ∨ 32 < n.toNat) →
      ∃ t, exec (.ringRead seq i n) s = .next t ∧ answers 0x10 [] seq t)
    ∧ (∀ (seq : Byte) (i : Half) (s : State), accepts 0x0A seq (le 2 i.toNat ++ [1, 0]) s → i.toNat ≤ 4095 →
      s.flash.ok = true → hostMay 0x0A seq [hostFlash false (journalAddr s i.toNat) 16] s →
      ∃ t, exec (.journalRead seq i 1) s = .next t
      ∧ answers 0x01 (flashBytes s (journalAddr s i.toNat) 16) seq t)
    ∧ (∀ (seq : Byte) (a : Word) (n : Half) (s : State), accepts 0x10 seq (le 4 a.toNat ++ le 2 n.toNat ++ [0, 0]) s →
      1 ≤ n.toNat → n.toNat ≤ 512 → a.toNat + n.toNat ≤ flashLimit s → s.flash.ok = true →
      hostMay 0x10 seq [hostFlash false a.toNat n.toNat] s → ∃ t, exec (.flashRead seq a n) s = .next t
      ∧ (flashIdle s = true → answers 0x01 (flashBytes s a.toNat n.toNat) seq t)
      ∧ (flashIdle s = false → t.host.job.isSome = true ∧ t.host.rspReady = false
          ∧ (t.flash.current = some (.hostRead a.toNat n.toNat) ∨ .hostRead a.toNat n.toNat ∈ t.flash.waiting)))
    ∧ (∀ (a n : Nat) (mk : Bool) (s : State) (j : HostJob), s.host.job = some j →
        s.flash.current = some (.hostRead a n) →
      s.flash.wip = false → seamFree .host s = true → ∃ t, exec (.flashOpDone .ok mk) s = .next t
      ∧ answers 0x01 (flashBytes s a n) j.seq t)
    ∧ (∀ (seq : Byte) (s : State), accepts 0x28 seq [] s → s.awl.rngOk = true → ∃ t, exec (.nonceGet seq) s = .next t
      ∧ t.host.nonce.isSome = true ∧ answers 0x01 (t.host.nonce.getD []) seq t ∧ t.host.buf.payload.length = 16)
    ∧ (∀ (seq : Byte) (s : State), accepts 0x28 seq [] s → s.awl.rngOk = false → ∃ t, exec (.nonceGet seq) s = .next t
      ∧ t.host.nonce = none ∧ answers 0x12 [] seq t)
    ∧ (∀ (seq : Byte) (s : State), accepts 0x32 seq [] s → ∃ t, exec (.graftState seq) s = .next t
      ∧ answers 0x01 (graftStatePayload s) seq t ∧ t.graft = s.graft)
    ∧ (∀ (seq : Byte) (n : Fin 8) (b : Bool) (s : State),
      accepts 0x02 seq (le 2 (0x4410 + 0x20 * n.val + 4 * b2n b) ++ [1, 0]) s →
      hostMay 0x02 seq [hostReg s false (0x4410 + 0x20 * n.val + 4 * b2n b)] s →
      ∃ t, exec (.captureRead seq n b) s = .next t
      ∧ answers 0x01 (le 4 (capWord (if b then s.pgs[n].cap1 else s.pgs[n].cap0)).toNat) seq t
      ∧ (b = false → t.pgs[n] = { s.pgs[n] with cap0 := { s.pgs[n].cap0 with valid := false, overrun := false } })
      ∧ (b = true → t.pgs[n] = { s.pgs[n] with cap1 := { s.pgs[n].cap1 with valid := false, overrun := false } }))
    ∧ (∀ (seq : Byte) (s : State), accepts 0x02 seq (le 2 0x2008 ++ [1, 0]) s →
      hostMay 0x02 seq [hostReg s false 0x2008] s → ∃ t, exec (.awlwaitRead seq) s = .next t
      ∧ answers 0x01 (le 4 (regWord s 0x2008).toNat) seq t ∧ t.awl = { s.awl with maxWait := 0 })

/-- REGISTER_WRITE, REG_WRITE and REG_MODIFY complete with the register's own new value (shown of IRQEN, SEVTHR and
CALCFG); a register write that the Tack allows has the register's effect and no other; a denied one changes nothing
but the Tack's record of it; REG_WRITE answers OK; REG_MODIFY answers the old word and writes the masked mixture of
old and new. Concluded to complete, with the effect of its own: registerWrite, regWrite, regModify. (R8, R166, R167,
R537) -/
def Obligations.RegisterWrites : Prop :=
  (∀ (who : Requester) (v : Word) (s : State), maySet who 0x408 s → ∃ t, exec (.registerWrite who 0x408 v) s = .next t
      ∧ t.host.irqEn = v.extractLsb' 0 12 ∧ t.metro = s.metro)
    ∧ (∀ (who : Requester) (v : Word) (s : State), maySet who 0x3C00 s →
        ∃ t, exec (.registerWrite who 0x3C00 v) s = .next t
      ∧ t.metro = { s.metro with calCfg := v &&& 7 } ∧ t.rein = s.rein)
    ∧ (∀ (seq : Byte) (v w : Word) (s : State), accepts 0x03 seq (le 2 0x408 ++ [2, 0] ++ le 4 v.toNat ++ le 4 w.toNat) s →
      hostMay 0x03 seq [hostReg s true 0x408, hostReg s true 0x40C] s →
      ∃ t, exec (.regWrite seq 0x408 [v, w]) s = .next t
      ∧ answers 0x01 [] seq t ∧ t.host.irqEn = v.extractLsb' 0 12 ∧ t.host.sevThreshold = w.extractLsb' 0 3)
    ∧ (∀ (seq : Byte) (mask v : Word) (s : State), accepts 0x04 seq (le 2 0x3C00 ++ [0, 0] ++ le 4 mask.toNat ++ le 4 v.toNat) s →
      regsCut s [0x3C00] = false → hostMay 0x04 seq [hostReg s false 0x3C00, hostReg s true 0x3C00] s →
      ∃ t, exec (.regModify seq 0x3C00 mask v) s = .next t
      ∧ answers 0x01 (le 4 s.metro.calCfg.toNat) seq t
      ∧ t.metro = { s.metro with calCfg := ((s.metro.calCfg &&& ~~~mask) ||| (v &&& mask)) &&& 7 })
    ∧ (∀ (who : Requester) (addr : Half) (v : Word) (s : State), maySet who addr.toNat s →
      ∃ t, exec (.registerWrite who addr v) s = .next t
      ∧ keepsBut [.host, .ports, .ring, .flash] (regWrite who addr.toNat v s) t)
    ∧ (∀ (who : Requester) (addr : Half) (v : Word) (s : State), ¬ maySet who addr.toNat s →
      ∃ t, exec (.registerWrite who addr v) s = .next t
      ∧ keepsBut [.tack, .host, .ports, .ring, .flash] s t ∧ t.tack.denyCount = bump 16 s.tack.denyCount
      ∧ t.tack.rules = s.tack.rules ∧ t.flash.mem = s.flash.mem)
    ∧ (∀ (seq : Byte) (addr : Half) (v : Word) (s : State), accepts 0x03 seq (le 2 addr.toNat ++ [1, 0] ++ le 4 v.toNat) s →
      hostMay 0x03 seq [hostReg s true addr.toNat] s → ∃ t, exec (.regWrite seq addr [v]) s = .next t
      ∧ answers 0x01 [] seq t
      ∧ keepsBut [.host, .ports, .ring, .flash]
          (regWrite .host addr.toNat v (taking 0x03 seq (le 2 addr.toNat ++ [1, 0] ++ le 4 v.toNat) s)) t)
    ∧ (∀ (seq : Byte) (addr : Half) (v : Word) (s : State), accepts 0x03 seq (le 2 addr.toNat ++ [1, 0] ++ le 4 v.toNat) s →
      ¬ hostMay 0x03 seq [hostReg s true addr.toNat] s → ∃ t, exec (.regWrite seq addr [v]) s = .next t
      ∧ answers 0x11 (le 4 0) seq t ∧ keepsBut [.seam, .tack, .host, .ports, .ring, .flash] s t)
    ∧ (∀ (seq : Byte) (addr : Half) (mask v : Word) (s : State),
      accepts 0x04 seq (le 2 addr.toNat ++ [0, 0] ++ le 4 mask.toNat ++ le 4 v.toNat) s →
      regsCut s [addr.toNat] = false →
      hostMay 0x04 seq [hostReg s false addr.toNat, hostReg s true addr.toNat] s → addr.toNat / 0x400 ≠ 0x11 →
      addr ≠ 0x2008 → ∃ t, exec (.regModify seq addr mask v) s = .next t
      ∧ answers 0x01 (le 4 (regWord (taking 0x04 seq (le 2 addr.toNat ++ [0, 0] ++ le 4 mask.toNat ++ le 4 v.toNat) s)
          addr.toNat).toNat) seq t
      ∧ keepsBut [.host, .ports, .ring, .flash]
          (regWrite .host addr.toNat ((regWord (taking 0x04 seq (le 2 addr.toNat ++ [0, 0] ++ le 4 mask.toNat
            ++ le 4 v.toNat) s) addr.toNat &&& ~~~mask) ||| (v &&& mask))
            (taking 0x04 seq (le 2 addr.toNat ++ [0, 0] ++ le 4 mask.toNat ++ le 4 v.toNat) s)) t)
    ∧ (∀ (seq : Byte) (addr : Half) (mask v : Word) (s : State),
      accepts 0x04 seq (le 2 addr.toNat ++ [0, 0] ++ le 4 mask.toNat ++ le 4 v.toNat) s →
      regsCut s [addr.toNat] = true →
      ∃ t, exec (.regModify seq addr mask v) s = .next t ∧ answers 0x12 [] seq t
      ∧ keepsBut [.seam, .host, .ports, .ring, .flash] s t)

/-- An accepted flash job answers ACCEPTED and waits for the flash port; its success programs or erases exactly its
bytes and completes the job; HW_BURN and HW_LOCK join the engine's queue; REIN_RELAY sends its frame, or completes
at once where R423 and R426 say so; DEST puts a request together from its chunks, executes only synchronous
commands, remembers the one it took and answers; the answer, or its timeout, completes the job. Concluded to
complete, with the effect of its own: flashWrite, flashErase, flashOpDone, hwBurn, hwLock, reinRelay, relayReq,
relayRsp, relayTimeout. (R23, R97, R155, R423, R424, R425, R426, Table 6.6) -/
def Obligations.HostLongJobs : Prop :=
  (∀ (seq : Byte) (a : Word) (d : List Byte) (s : State),
      accepts 0x11 seq (le 4 a.toNat ++ le 2 d.length ++ [0, 0] ++ d) s → 1 ≤ d.length → d.length ≤ 256 →
      a.toNat / 256 = (a.toNat + d.length - 1) / 256 → a.toNat + d.length ≤ flashLimit s → s.flash.ok = true →
      hostMay 0x11 seq [hostFlash true a.toNat d.length] s → ∃ t, exec (.flashWrite seq a d) s = .next t
      ∧ pends seq t ∧ t.flash.mem = s.flash.mem
      ∧ (t.flash.current = some (.hostWrite a.toNat d) ∨ .hostWrite a.toNat d ∈ t.flash.waiting))
    ∧ (∀ (seq : Byte) (a : Word) (s : State), accepts 0x12 seq (le 4 a.toNat) s → a.toNat % 4096 = 0 →
      a.toNat + 4096 ≤ flashLimit s → s.flash.ok = true → hostMay 0x12 seq [hostFlash true a.toNat 4096] s →
      ∃ t, exec (.flashErase seq a) s = .next t ∧ pends seq t ∧ t.flash.mem = s.flash.mem
      ∧ (t.flash.current = some (.hostErase a.toNat) ∨ .hostErase a.toNat ∈ t.flash.waiting))
    ∧ (∀ (seq : Byte) (a : Word) (s : State), accepts 0x12 seq (le 4 a.toNat) s → a.toNat % 4096 ≠ 0 →
      ∃ t, exec (.flashErase seq a) s = .next t ∧ answers 0x10 [] seq t ∧ t.flash.mem = s.flash.mem)
    ∧ (∀ (a : Nat) (d : List Byte) (mk : Bool) (j : HostJob) (s : State), j.long = true → s.flash.wip = false → ∃ t,
      exec (.flashOpDone .ok mk) { s with
        flash := { s.flash with current := some (.hostWrite a d) }, host := { s.host with job := some { j with result := none } } }
        = .next t
      ∧ t.flash.mem = (flashProgram a d s).flash.mem ∧ t.flash.ok = true ∧ completed 0x03 [] t)
    ∧ (∀ (a : Nat) (mk : Bool) (j : HostJob) (s : State), j.long = true → s.flash.wip = false → ∃ t,
      exec (.flashOpDone .ok mk) { s with
        flash := { s.flash with current := some (.hostErase a) }, host := { s.host with job := some { j with result := none } } }
        = .next t
      ∧ t.flash.mem = (flashEraseRange a 4096 s).flash.mem ∧ completed 0x03 [] t)
    ∧ (∀ (seq row : Byte) (src : Bool) (pulse : Byte) (fl : Bool) (mask : BitVec 64) (vpp : Nat) (tc : Int)
      (s : State), s.heart.waiting ≠ [] →
          accepts 0x20 seq ([row, BitVec.ofNat 8 (b2n src), pulse, BitVec.ofNat 8 (b2n fl)] ++ le 8 mask.toNat) s →
      5 ≤ pulse.toNat → pulse.toNat ≤ 40 →
      hostMay 0x20 seq [{ units := heartAccess true row.toNat, addr := row.toNat }] s →
      ∃ t, exec (.hwBurn seq row (BitVec.ofNat 8 (b2n src)) pulse (BitVec.ofNat 8 (b2n fl)) mask vpp tc) s = .next t
      ∧ pends seq t ∧ t.heart.cells = s.heart.cells
      ∧ t.heart.waiting = s.heart.waiting ++ [{ kind := .row row src pulse.toNat fl mask, host := true }])
    ∧ (∀ (seq w r : Byte) (s : State), accepts 0x21 seq [w, r, 0, 0] s →
      hostMay 0x21 seq [{ units := regionUnits (w ||| r), addr := 0 }] s → ∃ t, exec (.hwLock seq w r) s = .next t
      ∧ pends seq t ∧ t.heart = { s.heart with waiting := s.heart.waiting ++ [{ kind := .lock w r, host := true }] })
    ∧ (∀ (seq dest : Byte) (f : List Byte) (s : State), accepts 0x38 seq ([dest, 0, 0, 0] ++ f) s → strapUp s = true →
      ∃ t, exec (.reinRelay seq dest f) s = .next t ∧ pends seq t
      ∧ (dest.toNat = s.rein.addr.val → completed 0x04 (le 4 1) t)
      ∧ (dest.toNat ≠ s.rein.addr.val → s.rein.state ≠ 0 → completed 0x03 [2, 0] t)
      ∧ (dest.toNat ≠ s.rein.addr.val → s.rein.state = 0 →
          ((reinParticipants s).any fun e => addrOf s e = dest.toNat) = false → completed 0x03 [1, 0] t)
      ∧ (dest.toNat ≠ s.rein.addr.val → s.rein.state = 0 → s.rein.oversize = false →
          ((reinParticipants s).any fun e => addrOf s e = dest.toNat) = true →
          t.rein.relayDest = some (ix8 dest.toNat) ∧ t.rein.sent.length = (relayChunks f).length))
    ∧ (∀ (h : ReinHdr) (f : List Byte) (s : State), reinForUs s h = true → f.length ≤ 254 → relayVerdict s f ≠ 1 →
      ∃ t, exec (.relayReq h 0 true f) s = .next t
      ∧ t.host = { s.host with irqStat := t.host.irqStat, devAlarmsLatched := t.host.devAlarmsLatched }
      ∧ t.rein.relayDest = s.rein.relayDest ∧ t.rein.relayTaken = s.rein.relayTaken
      ∧ (s.rein.oversize = false → 1 ≤ t.rein.sent.length))
    ∧ (∀ (h : ReinHdr) (f : List Byte) (s : State), reinForUs s h = true → f.length ≤ 254 →
      ∃ t, exec (.relayReq h 0 false f) s = .next t
      ∧ t.rein.relayReqs = s.rein.relayReqs.filter (fun x => x.src ≠ h.src) ++ [{ src := h.src, next := 1, bytes := f }]
      ∧ t.host = { s.host with irqStat := t.host.irqStat, devAlarmsLatched := t.host.devAlarmsLatched })
    ∧ (∀ (h : ReinHdr) (seq : Byte) (a b : List Byte) (n : Byte) (s : State), reinForUs s h = true →
      a ++ b = hostFrame 0x01 seq [] → (n = 0 → a = []) →
      (n ≠ 0 → s.rein.relayReqs = [{ src := h.src, next := n.toNat, bytes := a }]) →
      relayVerdict s (hostFrame 0x01 seq []) = 1 → s.rein.oversize = false →
      ∃ t, exec (.relayReq h n true b) s = .next t
      ∧ t.rein.relayTaken = some (frameSeq (hostFrame 0x01 seq []), frameCheck (hostFrame 0x01 seq []))
      ∧ t.host.last.cmd = 0x01 ∧ t.host.last.seq = seq ∧ t.host.last.rsp = 0x01 ∧ t.host.buf = s.host.buf
      ∧ t.host.job = s.host.job ∧ 1 ≤ t.rein.sent.length)
    ∧ (∀ (s : State) (j : HostJob), s.host.job = some j → ∀ (h : ReinHdr) (v : Byte) (resp : List Byte),
      reinForUs s h = true → resp.length ≤ 253 → s.rein.relayDest = some h.src → j.long = true → j.result = none →
      ∃ t, exec (.relayRsp h 0 true (v :: resp)) s = .next t
      ∧ completed 0x03 ([0, v] ++ (if v = 1 then resp else [])) t ∧ t.rein.relayDest = none)
    ∧ (∀ (s : State) (j : HostJob), s.host.job = some j → s.rein.relayDest.isSome = true → j.long = true →
        j.result = none →
      ∃ t, exec .relayTimeout s = .next t
      ∧ completed 0x03 [3, 0] t ∧ t.rein.relayDest = none)
    ∧ (∀ s : State, s.rein.relayDest = none → ∃ t, exec .relayTimeout s = .next t ∧ t.rein = s.rein
      ∧ t.host.job = s.host.job)

/-- Without an owner key every SIGNED completes SIG_FAIL; a SIGNED verifies at once where the Awl is idle and in its
turn where it is not (Table 1.4), and then uses up the nonce; with a bad signature it completes SIG_FAIL, without a
nonce NONCE_STALE; a good one runs its inner command: HW_EVAL_LOCK joins the burn queue, KEY_PROVISION presses its
record, KEY_REPROVISION zeroizes and clears K3_LOCKED, PATTERN_KEY_SET replaces the Pattern key. Concluded to
complete, with the effect of its own: signed, awlUnitDone, hwEvalLock, keyProvision, keyReprovision, patternKeySet.
(R114, R169, R170, R171, R487, R507, R508, Table 16.6) -/
def Obligations.SignedCommands : Prop :=
  (∀ (seq inner : Byte) (key sig ip : List Byte) (s : State), accepts 0x29 seq (signedPayload inner key sig ip) s →
      key.length = 64 → sig.length = 64 → innerLength inner.toNat = some ip.length → awlIdle s = true →
      (inner = 0x50 → numAt ip 1 3 = 0) →
      hostMay 0x29 seq (if inner = 0x22 then [{ units := heartAccess true 0xC0, addr := 0xC0 }] else []) s →
      ∃ t, exec (.signed seq inner key sig ip) s = .next t ∧ pends seq t ∧ t.host.nonce = none
      ∧ ((allZero (ownerKeyDigest s 0) && allZero (ownerKeyDigest s 1)) = true → completed 0x13 [] t
          ∧ t.pocket = s.pocket)
      ∧ ((allZero (ownerKeyDigest s 0) && allZero (ownerKeyDigest s 1)) = false → s.host.nonce = none →
          completed 0x14 [] t ∧ t.pocket = s.pocket ∧ t.heart = s.heart)
      ∧ ((allZero (ownerKeyDigest s 0) && allZero (ownerKeyDigest s 1)) = false → s.host.nonce.isSome = true →
          ¬ signatureGood inner.toNat key sig ip s → completed 0x13 [] t ∧ t.pocket = s.pocket ∧ t.heart = s.heart))
    ∧ (∀ (seq inner : Byte) (key sig ip : List Byte) (s : State), accepts 0x29 seq (signedPayload inner key sig ip) s →
      innerLength inner.toNat = none → (allZero (ownerKeyDigest s 0) && allZero (ownerKeyDigest s 1)) = false →
      ∃ t, exec (.signed seq inner key sig ip) s = .next t
      ∧ answers 0x10 [] seq t ∧ t.host.nonce = s.host.nonce)
    ∧ (∀ (seq inner : Byte) (key sig ip : List Byte) (s : State), accepts 0x29 seq (signedPayload inner key sig ip) s →
      (allZero (ownerKeyDigest s 0) && allZero (ownerKeyDigest s 1)) = true →
      ∃ t, exec (.signed seq inner key sig ip) s = .next t
      ∧ pends seq t ∧ completed 0x13 [] t ∧ t.host.nonce = none ∧ t.pocket = s.pocket ∧ t.heart = s.heart)
    ∧ (∀ (seq inner : Byte) (key sig ip : List Byte) (s : State), accepts 0x29 seq (signedPayload inner key sig ip) s →
      key.length = 64 → sig.length = 64 → innerLength inner.toNat = some ip.length → awlIdle s = false →
      (s.awl.queue.any fun u => decide (u.use = .signed)) = false →
          (s.awl.head.any fun u => decide (u.use = .signed)) = false →
      (allZero (ownerKeyDigest s 0) && allZero (ownerKeyDigest s 1)) = false → (inner = 0x50 → numAt ip 1 3 = 0) →
      hostMay 0x29 seq (if inner = 0x22 then [{ units := heartAccess true 0xC0, addr := 0xC0 }] else []) s →
      ∃ t, exec (.signed seq inner key sig ip) s = .next t ∧ pends seq t ∧ t.host.nonce = s.host.nonce
      ∧ t.awl.head = s.awl.head ∧ (t.awl.queue.map AwlUnit.use) = s.awl.queue.map AwlUnit.use ++ [.signed])
    ∧ (∀ (us : Nat) (seq inner : Byte) (key sig ip : List Byte) (u : AwlUnit) (j : HostJob) (s : State), j.long = true →
      u.wanted = true → u.use = .signed → ¬ signatureGood inner.toNat key sig ip s →
      ∃ t, exec (.awlUnitDone true us) { s with
        awl := { s.awl with head := some u }
        host := { s.host with job := some { j with result := none, work := some (.signed seq inner key sig ip) } } } = .next t
      ∧ t.host.nonce = none ∧ (completed 0x13 [] t ∨ completed 0x14 [] t) ∧ t.awl.head = none
          ∧ t.awl.units = bump 16 s.awl.units)
    ∧ (∀ (seq : Byte) (key sig : List Byte) (s : State), accepts 0x29 seq (signedPayload 0x22 key sig []) s →
      key.length = 64 → sig.length = 64 → awlIdle s = true →
      hostMay 0x29 seq [{ units := heartAccess true 0xC0, addr := 0xC0 }] s →
      signatureGood 0x22 key sig [] s → ∃ t, exec (.hwEvalLock seq key sig) s = .next t
      ∧ pends seq t ∧ t.heart = { s.heart with waiting := s.heart.waiting ++ [{ kind := .evalLock, host := true }] })
    ∧ (∀ (seq : Byte) (key sig : List Byte) (item : Byte) (v : List Byte) (s : State),
      accepts 0x29 seq (signedPayload 0x50 key sig ([item, 0, 0, 0] ++ v)) s → key.length = 64 → sig.length = 64 →
      v.length = 32 → signatureGood 0x50 key sig ([item, 0, 0, 0] ++ v) s → awlIdle s = true → wrapReady s = true →
      2 ≤ item.toNat →
      item.toNat ≤ 9 →
      keyRefusal s = none → s.flash.ok = true → s.pocket.wcSat = false → s.pocket.writeCount ≠ 2 ^ 48 - 1 →
      ∃ t, exec (.keyProvision seq key sig item v) s = .next t
      ∧ pends seq t ∧ t.pocket.writeCount = s.pocket.writeCount + 1
      ∧ (t.pocket.buffer.any fun b => decide (b.item = ix20 item.toNat) && decide (b.wc = s.pocket.writeCount + 1)) = true
      ∧ t.pocket.slots = s.pocket.slots)
    ∧ (∀ (seq : Byte) (key sig : List Byte) (item : Byte) (v : List Byte) (s : State),
      accepts 0x29 seq (signedPayload 0x50 key sig ([item, 0, 0, 0] ++ v)) s → key.length = 64 → sig.length = 64 →
      v.length = 32 → signatureGood 0x50 key sig ([item, 0, 0, 0] ++ v) s → awlIdle s = true →
      (item.toNat < 2 ∨ 9 < item.toNat) →
      ∃ t, exec (.keyProvision seq key sig item v) s = .next t ∧ completed 0x04 (le 4 6) t ∧ t.pocket = s.pocket)
    ∧ (∀ (seq : Byte) (key sig : List Byte) (s : State),
      accepts 0x29 seq (signedPayload 0x51 key sig [0x52, 0x50, 0x56, 0x21]) s → key.length = 64 → sig.length = 64 →
      signatureGood 0x51 key sig [0x52, 0x50, 0x56, 0x21] s → awlIdle s = true → s.sap.running = true →
      ∃ t, exec (.keyReprovision seq key sig [0x52, 0x50, 0x56, 0x21]) s = .next t
      ∧ completed 0x03 [] t ∧ t.pocket.k3Locked = false ∧ t.pocket.k3Cause = 0
      ∧ (∀ k : Fin 16, 2 ≤ k.val → t.pocket.slots[k] = 0))
    ∧ (∀ (seq : Byte) (key sig eph ct tag v : List Byte) (k : Fin 16) (s : State),
      accepts 0x29 seq (signedPayload 0x52 key sig (eph ++ ct ++ tag)) s → key.length = 64 → sig.length = 64 →
      eph.length = 64 → ct.length = 32 → tag.length = 16 → signatureGood 0x52 key sig (eph ++ ct ++ tag) s →
      awlIdle s = true →
      keyRefusal s = none → patternUnwrap (eph ++ ct ++ tag) s = some v → (item s patternKeyItem).slot = some k →
      ∃ t, exec (.patternKeySet seq key sig eph ct tag) s = .next t
      ∧ completed 0x03 [] t ∧ t.pocket.slots[k] = toSlot v ∧ t.pocket.items[patternKeyItem].state = .resident)

/-- While Seam is not free, a request that passes the first two checks of Table 6.4 waits with its claim in the order
and nothing else happens to it, a completion waits as due, and a piece of GRAFT_PIECE that needs its check waits
with its job; when the lease comes, the request is checked and executed, or refused, and the lease is free again;
the job that waited puts its completion into the buffer; and Graft's check follows its grant. Concluded to complete,
with the effect of its own: ident, seamGrant, jobDone. (R155, R157, R180, R181, R185, R192, R194) -/
def Obligations.SeamWaits : Prop :=
  (∀ (seq : Byte) (s : State), isOpen s = true → seamFree .host s = false → frameVerdict s (hostFrame 0x01 seq []) = 1 →
      ∃ t, exec (.ident seq) s = .next t
      ∧ t.host.asked = some (.ident seq) ∧ t.seam.holder = s.seam.holder ∧ t.seam.run = s.seam.run
      ∧ (t.seam.waiting.any fun c => decide (c.1 = .host)) = true
      ∧ t.host.job = s.host.job ∧ t.host.buf = s.host.buf ∧ t.host.verdict = s.host.verdict
          ∧ t.host.rspReady = s.host.rspReady)
    ∧ (∀ (seq : Byte) (s : State), isOpen s = true → s.host.asked.isSome = true →
        frameEarly s (hostFrame 0x01 seq []) = some 2
      → ∃ t, exec (.ident seq) s = .next t ∧ t.host.busyCount = bump 12 s.host.busyCount ∧ t.host.asked = s.host.asked
      ∧ t.host.buf = s.host.buf ∧ t.seam = s.seam)
    ∧ (∀ (seq : Byte) (a : BitVec 2) (s : State), isOpen s = true → s.seam.holder = none →
        s.seam.waiting = [(.host, a)] →
      s.host.asked = some (.ident seq) →
      frameVerdict { s with host := { s.host with asked := none } } (hostFrame 0x01 seq []) = 1 →
      ∃ t, exec .seamGrant s = .next t
      ∧ answers 0x01 (deviceId s ++ [0x01, 0x00, BitVec.ofNat 8 (b2n Config.variantG1)] ++ List.replicate 13 0) seq t
      ∧ t.host.asked = none ∧ t.seam.holder = none ∧ t.seam.waiting = [] ∧ t.seam.isMatch = true
          ∧ t.seam.mismatch = false)
    ∧ (∀ (bs : List Byte) (a : BitVec 2) (s : State), isOpen s = true → s.seam.holder = none →
        s.seam.waiting = [(.host, a)] →
      s.host.asked = some (.hostFrameBad (0x5A :: bs)) →
      frameVerdict { s with host := { s.host with asked := none } } bs = 3 → ∃ t, exec .seamGrant s = .next t
      ∧ t.host.verdict = 3 ∧ t.host.crcErrs = bump 16 s.host.crcErrs ∧ t.seam.mismatches = bump 16 s.seam.mismatches
      ∧ t.seam.mismatch = true ∧ t.host.asked = none ∧ t.seam.holder = none ∧ t.host.buf = s.host.buf)
    ∧ (∀ (s : State) (j : HostJob), s.host.job = some j → ∀ r : Byte × List Byte, j.result = some r → j.work = none →
      s.host.jobDone = false → seamFree .host s = false → ∃ t, exec .jobDone s = .next t
      ∧ t.host.buf = s.host.buf ∧ t.host.jobDone = false ∧ t.host.job = some { j with due := true }
      ∧ ((t.seam.waiting.any fun c => decide (c.1 = .host)) = true))
    ∧ (∀ (a : BitVec 2) (s : State) (j : HostJob), s.host.job = some j → ∀ r : Byte × List Byte, j.result = some r →
      j.answer = none → j.due = true → s.host.jobDone = false → s.host.asked = none → s.seam.holder = none →
      s.seam.waiting = [(.host, a)] → ∃ t, exec .seamGrant s = .next t
      ∧ t.host.buf = { cmd := j.cmd, rsp := r.1, seq := j.seq, payload := r.2, station := j.station }
          ∧ t.host.jobDone = true
      ∧ t.seam.holder = none)
    ∧ (∀ (a : BitVec 2) (s : State) (j : HostJob), s.host.job = some j → ∀ x : Byte × List Byte, j.answer = some x →
      x.1 ≠ 0x02 → j.due = false → s.host.asked = none → s.seam.holder = none → s.seam.waiting = [(.host, a)] →
      ∃ t, exec .seamGrant s = .next t ∧ answers x.1 x.2 j.seq t ∧ t.seam.holder = none)
    ∧ (∀ (seq : Byte) (k : Half) (crc : Word) (d : List Byte) (r : FlashRes) (a b : BitVec 2) (n : Fin 16) (s : State),
      isOpen s = true → s.seam.holder = none → s.seam.waiting = [(.host, a), (.stand n, b)] →
      s.host.asked = some (.graftPiece seq k crc d r) →
      frameVerdict { s with host := { s.host with asked := none } } (hostFrame 0x31 seq (piecePayload k crc d)) = 1 →
      d.length = 512 → s.flash.ok = true → pieceNeedsSeam s k.toNat = true → ∃ t, exec .seamGrant s = .next t
      ∧ t.host.asked = none ∧ t.host.job.bind HostJob.work = some (.graftPiece seq k crc d r)
      ∧ t.seam.holder = none ∧ t.seam.waiting = [(.stand n, b), (.graft, 0), (.host, 0)]
      ∧ t.graft = s.graft ∧ t.flash.mem = s.flash.mem)
    ∧ (∀ (seq : Byte) (k : Half) (crc : Word) (d : List Byte) (r : FlashRes) (j : HostJob) (s : State), j.long = true →
      graftPieceRefusal s k.toNat crc (slice d 0 512) = some 6 → ∃ t, exec .jobDone { s with
        seam := { s.seam with holder := some .graft }
        host := { s.host with job := some { j with work := some (.graftPiece seq k crc d r), result := none } } } = .next t
      ∧ completed 0x04 (le 4 6) t ∧ t.seam.holder = none ∧ t.seam.mismatch = true
      ∧ t.seam.mismatches = bump 16 s.seam.mismatches
          ∧ t.graft = { s.graft with pieceFails := bump 16 s.graft.pieceFails })

/-- GRAFT_OPEN of an acceptable bundle starts RECEIVING with nothing held, a refused one changes nothing; an accepted
piece is stored and marked, a refused one counts; GRAFT_VERIFY gives RESULT and VERIFIED, or the first check that
fails; discarding erases staging and the journal block; copies take their turn at the flash port, count blocks, and
a failed one fails the installation; CONFIRM in a counting trial before its budget's end starts the promotion; the
budget's end resets Crown unless the Strap is lost. Concluded to complete, with the effect of its own: graftOpen,
graftPiece, graftVerify, graftDiscard, graftCopyBlock, graftTrialTimeout, confirm. (R581, R582, R583, R586, R588,
R591, R592, R595, R596, R597, Table 19.4, Table 19.5) -/
def Obligations.GraftJobs : Prop :=
  (∀ (seq : Byte) (m : List Byte) (st : Byte) (s : State), accepts 0x30 seq (openPayload m st) s → m.length = 256 →
      s.flash.ok = true → graftOpenRefusal s m = none → flashIdle s = true →
      (graftAllowed [(true, graftBase s, 256), (true, graftLogAddr s 0, 16)] s).2 = true →
      ∃ t, exec (.graftOpen seq m st .ok) s = .next t
      ∧ pends seq t ∧ completed 0x03 [] t ∧ t.graft.st = .receiving ∧ t.graft.bitmap = 0
      ∧ t.graft.start = (if st = 1 then 1 else 0) ∧ t.graft.result = 0 ∧ t.graft.logNext = 1)
    ∧ (∀ (seq : Byte) (m : List Byte) (st : Byte) (r : FlashRes) (s : State), accepts 0x30 seq (openPayload m st) s →
      m.length = 256 → s.flash.ok = true → (graftOpenRefusal s m).isSome = true →
      ∃ t, exec (.graftOpen seq m st r) s = .next t
      ∧ completed 0x04 (le 4 ((graftOpenRefusal s m).getD 0)) t ∧ t.graft = s.graft ∧ t.flash.mem = s.flash.mem)
    ∧ (∀ (seq : Byte) (k : Half) (crc : Word) (d : List Byte) (r : FlashRes) (s : State),
      accepts 0x31 seq (piecePayload k crc d) s → d.length = 512 → s.flash.ok = true →
      graftPieceRefusal (graftClaim s) k.toNat crc d = none → piecePresent s k.toNat = true →
      ∃ t, exec (.graftPiece seq k crc d r) s = .next t
      ∧ completed 0x03 (le 2 (piecesIn s.graft) ++ [1, 0]) t ∧ t.graft = s.graft ∧ t.flash.mem = s.flash.mem)
    ∧ (∀ (seq : Byte) (k : Half) (crc : Word) (d : List Byte) (s : State),
      accepts 0x31 seq (piecePayload k crc d) s → d.length = 512 → s.flash.ok = true →
      graftPieceRefusal (graftClaim s) k.toNat crc d = none → piecePresent s k.toNat = false → flashIdle s = true →
      (graftAllowed [(true, pieceAddr s k.toNat, 512), (false, pieceAddr s k.toNat, 512),
        (true, pieceMarkAddr s k.toNat, 1)] s).2 = true →
      flashBytes (flashProgram (pieceAddr s k.toNat) d s) (pieceAddr s k.toNat) 512 = d →
      ∃ t, exec (.graftPiece seq k crc d .ok) s = .next t
      ∧ t.graft.bitmap = s.graft.bitmap ||| (1 <<< k.toNat) ∧ (t.graft.st = .receiving ∨ t.graft.st = .complete)
      ∧ (t.host.job.bind HostJob.result).map Prod.fst = some 0x03)
    ∧ (∀ (seq : Byte) (k : Half) (crc : Word) (d : List Byte) (r : FlashRes) (s : State),
      accepts 0x31 seq (piecePayload k crc d) s → d.length = 512 → s.flash.ok = true →
      (graftPieceRefusal (graftClaim s) k.toNat crc d).isSome = true →
          ∃ t, exec (.graftPiece seq k crc d r) s = .next t
      ∧ completed 0x04 (le 4 ((graftPieceRefusal (graftClaim s) k.toNat crc d).getD 0)) t
      ∧ t.graft = { s.graft with pieceFails := bump 16 s.graft.pieceFails } ∧ t.flash.mem = s.flash.mem)
    ∧ (∀ (seq : Byte) (s : State), accepts 0x33 seq [] s → s.flash.ok = true → s.graft.st = .complete →
        flashIdle s = true → awlIdle s = true →
      (graftAllowed [(false, stagingBase s, bundleSize (graftManifest s)), (true, graftBase s + 0x100, 32)] s).2 = true →
      ∃ t, exec (.graftVerify seq .ok) s = .next t ∧ pends seq t
      ∧ (graftVerifyCheck s = none → completed 0x03 [] t ∧ t.graft.st = .verified ∧ t.graft.result = 1)
      ∧ ((graftVerifyCheck s).isSome = true → t.graft.st = .complete
          ∧ t.graft.result = BitVec.ofNat 8 ((graftVerifyCheck s).getD 0)
          ∧ completed 0x04 (le 4 (0x0B + 256 * (graftVerifyCheck s).getD 0)) t ∧ t.flash.mem = s.flash.mem))
    ∧ (∀ (seq : Byte) (r : FlashRes) (s : State), accepts 0x33 seq [] s → s.flash.ok = true → s.graft.st ≠ .complete →
      ∃ t, exec (.graftVerify seq r) s = .next t ∧ completed 0x04 (le 4 1) t ∧ t.graft = s.graft)
    ∧ (∀ (seq : Byte) (s : State), accepts 0x34 seq [] s → s.flash.ok = true → s.graft.st ≠ .trial →
        s.graft.st ≠ .promoting →
      flashIdle s = true →
      (graftAllowed [(true, stagingBase s, 0x100000), (true, graftBase s, 0x10000)] s).2 = true →
      ∃ t, exec (.graftDiscard seq .ok) s = .next t
      ∧ completed 0x03 [] t ∧ t.graft.st = .empty ∧ t.graft.bitmap = 0 ∧ t.graft.result = 0
      ∧ t.flash.mem = (flashEraseRange (graftBase s) 0x10000 (flashEraseRange (stagingBase s) 0x100000 s)).flash.mem)
    ∧ (∀ (seq : Byte) (r : FlashRes) (s : State), accepts 0x34 seq [] s → s.flash.ok = true →
      (s.graft.st = .trial ∨ s.graft.st = .promoting) → ∃ t, exec (.graftDiscard seq r) s = .next t
      ∧ completed 0x04 (le 4 1) t ∧ t.graft = s.graft ∧ t.flash.mem = s.flash.mem)
    ∧ (∀ (k n : Nat) (s : State), isReady s = true → k + 1 < n → flashIdle s = true →
      (graftAllowed [(false, stagingBase s + 0x10000 * k, min 0x10000 (bundleSize (graftManifest s) - 0x10000 * k)),
        (true, trialBase s + 0x10000 * k, 0x10000),
        (false, trialBase s + 0x10000 * k, min 0x10000 (bundleSize (graftManifest s) - 0x10000 * k))] s).2 = true →
      ∃ t, exec (.graftCopyBlock .ok)
        { s with graft := { s.graft with st := .installing, blocksDone := k, blocksTotal := n } } = .next t
      ∧ t.graft.st = .installing ∧ t.graft.blocksDone = k + 1 ∧ t.graft.blocksTotal = n ∧ t.boot = s.boot)
    ∧ (∀ (k n : Nat) (s : State), isReady s = true → k < n → flashIdle s = true → ∃ t, exec (.graftCopyBlock .fail)
        { s with graft := { s.graft with st := .installing, blocksDone := k, blocksTotal := n } } = .next t
      ∧ t.graft.st = .complete ∧ t.graft.result = 0x0C ∧ t.flash.mem = s.flash.mem)
    ∧ (∀ (r : FlashRes) (s : State), flashIdle s = false → ∃ t, exec (.graftCopyBlock r) s = .next t
        ∧ t.graft = s.graft
      ∧ t.flash.mem = s.flash.mem
      ∧ (t.flash.current.toList ++ t.flash.suspended.toList ++ t.flash.waiting).contains .copy = true)
    ∧ (∀ (r : FlashRes) (s : State), s.graft.st = .promoting → arbUnderWay s = true → flashIdle s = true →
      ∃ t, exec (.graftCopyBlock r) s = .next t ∧ t.graft = s.graft ∧ t.flash.mem = s.flash.mem)
    ∧ (∀ s : State, graftCounts s = true → timersRun s = true → ∃ t, exec .graftTrialTimeout s = .next t
      ∧ t.boot.phase = .crownReset ∧ t.boot.cause.getLsbD 9 = true)
    ∧ (∀ s : State, (graftCounts s = false ∨ timersRun s = false) → s.boot.together.graft = false →
      ∃ t, exec .graftTrialTimeout s = .next t ∧ t.boot = s.boot ∧ t.graft = s.graft)
    ∧ (∀ (k : Fin 16) (s : State), maySet (.stand k) 0x4810 s → graftCounts s = true → s.time.now < s.graft.runEnd →
      ∃ t, exec (.confirm (.stand k) 0x464E4F43) s = .next t
      ∧ t.graft.st = .promoting ∧ t.graft.blocksDone = 0 ∧ t.graft.blocksTotal = graftBlocks s)
    ∧ (∀ (who : Requester) (v : Word) (s : State), (v ≠ 0x464E4F43 ∨ graftCounts s = false ∨ s.graft.runEnd ≤ s.time.now ∨ who = .host) →
      ∃ t, exec (.confirm who v) s = .next t ∧ t.graft = s.graft ∧ t.heart = s.heart)

/-- A free engine at ready takes the first waiting burn: a refused one ends with its RESULT and no pulse, another pulses
its cells in order; a pulse changes its own cell only, and with VPP out of range under an external source it changes
none and ends the burn; an APPLY adds or replaces one shadow unless sixteen others stand, REMOVE takes one away.
Concluded to complete, with the effect of its own: hwBurnStart, hwCellPulse, hwShadowApply, hwShadowRemove. (R97,
R98, R99, R100, R106, R109, R117, Table 4.5) -/
def Obligations.HeartwoodEngine : Prop :=
  (∀ (tc : Int) (vpp : Nat) (b : BurnJob) (rest : List BurnJob) (s : State), isReady s = true →
      ∃ t, exec (.hwBurnStart tc vpp) { s with heart := { s.heart with running := none, waiting := b :: rest } } = .next t
      ∧ t.heart.waiting = rest ∧ t.heart.cells = s.heart.cells
      ∧ ((burnRefusal s b tc vpp).isSome = true → t.heart.running = none
          ∧ field t.heart.burnRes 19 16 = (burnRefusal s b tc vpp).getD 0)
      ∧ (burnRefusal s b tc vpp = none → (burnCells s b).2 ≠ [] → t.heart.running =
          some { job := b, todo := (burnCells s b).2, target := (burnCells s b).1 }
          ∧ t.heart.burnRes = s.heart.burnRes))
    ∧ (∀ (tc : Int) (vpp : Nat) (s : State), (isReady s = false ∨ s.heart.running.isSome = true ∨ s.heart.waiting = []) →
      ∃ t, exec (.hwBurnStart tc vpp) s = .next t ∧ t.heart = s.heart)
    ∧ (∀ (o : CellOutcome) (vpp : Nat) (r : RunBurn) (c : HwCell) (rest : List HwCell) (s : State), 6300 ≤ vpp →
        vpp ≤ 6700 →
      ∃ t, exec (.hwCellPulse o vpp) { s with heart := { s.heart with running := some { r with todo := c :: rest } } } = .next t
      ∧ t.heart.cells = mput {} s.heart.cells c.row
          (pulseCell (hwRow s.heart.cells c.row) (decide (c.row = 0xE0) || decide (c.row = 0xE1)) c.bit o))
    ∧ (∀ (o : CellOutcome) (vpp : Nat) (r : RunBurn) (c : HwCell) (rest : List HwCell) (s : State), r.fails < 3 →
      c.row ≠ 0xE0 → c.row ≠ 0xE1 → c.bit < 64 → (hwRow s.heart.cells c.row).data.getLsbD c.bit = false → 6300 ≤ vpp →
      vpp ≤ 6700 → o ≠ .pass →
      ∃ t, exec (.hwCellPulse o vpp) { s with heart := { s.heart with running := some { r with todo := c :: rest } } } = .next t
      ∧ t.heart.running = some { r with todo := c :: rest, fails := r.fails + 1 })
    ∧ (∀ (o : CellOutcome) (vpp : Nat) (r : RunBurn) (row : Byte) (pulse : Nat) (close host : Bool) (mask : BitVec 64)
      (c : HwCell) (rest : List HwCell) (s : State), (vpp < 6300 ∨ 6700 < vpp) →
      ∃ t, exec (.hwCellPulse o vpp) { s with heart := { s.heart with
        running := some { r with job := { kind := .row row true pulse close mask, host := host }, todo := c :: rest } } } = .next t
      ∧ t.heart.cells = s.heart.cells ∧ t.heart.running = none ∧ field t.heart.burnRes 19 16 = 6)
    ∧ (∀ (o : CellOutcome) (vpp : Nat) (s : State), s.heart.running = none →
        ∃ t, exec (.hwCellPulse o vpp) s = .next t
      ∧ t.heart = s.heart)
    ∧ (∀ (who : Requester) (v : Word) (s : State), maySet who 0x1820 s → flag v 30 = false → 0x40 ≤ field v 7 0 →
      field v 7 0 ≤ 0xBF → evalFuse s = false → (s.heart.shadows.filter (·.1 ≠ field v 7 0)).length < 16 →
      ∃ t, exec (.hwShadowApply who v) s = .next t
      ∧ t.heart.shadows = s.heart.shadows.filter (·.1 ≠ field v 7 0)
          ++ [(field v 7 0, BitVec.ofNat 64 (s.heart.shLo.toNat + s.heart.shHi.toNat * 2 ^ 32))]
      ∧ t.heart.cells = s.heart.cells ∧ t.heart.shFull = false)
    ∧ (∀ (who : Requester) (v : Word) (s : State), maySet who 0x1820 s → flag v 30 = false → 0x40 ≤ field v 7 0 →
      field v 7 0 ≤ 0xBF → evalFuse s = false → s.heart.shadows.any (fun x => x.1 = field v 7 0) = false →
      16 ≤ s.heart.shadows.length → ∃ t, exec (.hwShadowApply who v) s = .next t
      ∧ t.heart.shadows = s.heart.shadows ∧ t.heart.shFull = true)
    ∧ (∀ (who : Requester) (v : Word) (s : State), maySet who 0x1820 s → ∃ t, exec (.hwShadowRemove who v) s = .next t
      ∧ t.heart.shadows = s.heart.shadows.filter (·.1 ≠ field v 7 0) ∧ t.heart.cells = s.heart.cells)

/-- Each command of boot, Strap, host port, Heartwood, Seam, Rein, Sap, Pocket, Bark, Satchel, Tack, watchdogs, Graft
and journal completes from every state and leaves every part of the machine alone but those it names, and what the
end of any step may touch: IRQSTAT, the latch of DEV_ALARMS, LAST_EVENT, the Ring and the flash queue. No flash byte
changes unless the flash is named. With a frame of the Strap those go out too that waited for room; the narrower
lists are for states in which none waits. (95_what_each_step_holds.md, Table 3.8) -/
def Obligations.FramesOfTheDevice : Prop :=
  (∀ (env : BootEnv), confined (.bootStart env) [.power, .boot, .heart, .pattern, .host, .strap, .ports, .groups,
        .pgs, .sap, .pocket, .awl, .bark, .satchel, .wdb, .graft, .flash])
    ∧ (∀ (rootOk patOk : Bool), confined (.patternFetchDone rootOk patOk) [.boot, .pattern, .host, .strap, .ports,
        .groups, .pgs, .pocket, .awl, .satchel, .wdb, .graft, .flash])
    ∧ confined .signatureVerified [.boot, .pattern, .host, .strap, .ports, .groups, .pgs, .pocket, .awl, .wdb, .graft,
        .flash]
    ∧ (∀ (g : Fin 2) (vinMv : Nat), confined (.groupPowered g vinMv) [.power, .ports])
    ∧ (∀ (mv : Nat), confined (.vddioLevelSample mv) [.power])
    ∧ confined .vddioUv [.power, .boot, .heart, .grain, .pattern, .host, .seam, .strap, .ports, .shown, .groups, .pgs,
        .metro, .rein, .pocket, .awl, .satchel, .tack, .wda, .wdb, .graft, .flash, .ring, .policy]
    ∧ (∀ (meas : Byte) (lasted : Bool), confined (.vcoreUv meas lasted) [.power, .boot, .heart, .grain, .pattern,
        .host, .seam, .strap, .ports, .shown, .groups, .pgs, .metro, .rein, .pocket, .awl, .satchel, .tack, .wda, .wdb,
        .graft, .flash, .ring, .policy])
    ∧ confined .refoscStop [.power, .strap, .ports, .cmps, .pgs, .sap, .policy]
    ∧ (∀ (floor meas : Byte) (slack : List Int) (vdd18Mv : Nat), confined (.vcoreLoopEval floor meas slack vdd18Mv)
        [.power, .grain])
    ∧ (∀ (slack : Int) (vdd18Mv : Nat), confined (.vcoreStepUp slack vdd18Mv) [.power])
    ∧ (∀ (who : Requester) (v : Word), confined (.vcctlWrite who v) [.power, .tack])
    ∧ (∀ (n : Nat), confined (.hostRead n) [.power, .boot, .heart, .grain, .pattern, .host, .seam, .strap, .ports,
        .shown, .groups, .pgs, .metro, .rein, .pocket, .awl, .satchel, .tack, .wda, .wdb, .graft, .flash, .ring,
        .policy])
    ∧ (∀ (seq : Byte), confined (.ident seq) [.host, .seam])
    ∧ (∀ (seq : Byte) (addr : Half) (count : Byte), confined (.regRead seq addr count) [.host, .seam, .pgs, .awl,
        .tack])
    ∧ (∀ (seq : Byte) (tempCrown tempRoot : Int), confined (.summary seq tempCrown tempRoot) [.host, .seam])
    ∧ (∀ (seq index count : Byte), confined (.ringRead seq index count) [.host, .seam])
    ∧ (∀ (seq : Byte) (index : Half) (count : Byte), confined (.journalRead seq index count) [.host, .seam, .tack])
    ∧ (∀ (seq : Byte) (addr : Word) (len : Half), confined (.flashRead seq addr len) [.host, .seam, .tack])
    ∧ (∀ (seq : Byte) (addr : Word) (data : List Byte), confined (.flashWrite seq addr data) [.host, .seam, .tack])
    ∧ (∀ (seq : Byte) (addr : Word), confined (.flashErase seq addr) [.host, .seam, .tack])
    ∧ (∀ (seq row source pulse flags : Byte) (mask : BitVec 64) (vppMv : Nat) (tempC : Int), confined (.hwBurn seq row
        source pulse flags mask vppMv tempC) [.heart, .host, .seam, .tack, .graft])
    ∧ (∀ (seq wregions rregions : Byte), confined (.hwLock seq wregions rregions) [.heart, .host, .seam, .tack])
    ∧ (∀ (seq : Byte) (key sig : List Byte), confined (.hwEvalLock seq key sig) [.heart, .host, .seam, .awl, .tack])
    ∧ (∀ (seq : Byte), confined (.nonceGet seq) [.host, .seam])
    ∧ (∀ (seq inner : Byte) (key sig payload : List Byte), confined (.signed seq inner key sig payload) [.heart,
        .host, .seam, .ports, .pocket, .awl, .satchel, .tack, .graft])
    ∧ (∀ (seq : Byte) (key sig : List Byte) (item : Byte) (value : List Byte), confined (.keyProvision seq key sig
        item value) [.host, .seam, .pocket, .awl, .satchel, .tack])
    ∧ (∀ (seq : Byte) (key sig confirm : List Byte), confined (.keyReprovision seq key sig confirm) [.host, .seam,
        .ports, .pocket, .awl, .tack, .graft])
    ∧ (∀ (seq : Byte) (key sig eph ct tag : List Byte), confined (.patternKeySet seq key sig eph ct tag) [.host,
        .seam, .pocket, .awl, .satchel, .tack])
    ∧ (∀ (seq : Byte) (manifest : List Byte) (start : Byte) (r : FlashRes), confined (.graftOpen seq manifest start r)
        [.host, .seam, .tack, .graft, .flash])
    ∧ (∀ (seq : Byte) (index : Half) (crc : Word) (data : List Byte) (r : FlashRes), confined (.graftPiece seq index
        crc data r) [.host, .seam, .tack, .graft, .flash])
    ∧ (∀ (seq : Byte), confined (.graftState seq) [.host, .seam])
    ∧ (∀ (seq : Byte) (r : FlashRes), confined (.graftVerify seq r) [.host, .seam, .pocket, .awl, .satchel, .tack,
        .graft, .flash])
    ∧ (∀ (seq : Byte) (r : FlashRes), confined (.graftDiscard seq r) [.host, .seam, .tack, .graft, .flash])
    ∧ (∀ (seq dest : Byte) (frame : List Byte), confined (.reinRelay seq dest frame) [.host, .seam, .rein])
    ∧ (∀ (seq : Byte) (magic : List Byte), confined (.reset seq magic) [.host, .seam])
    ∧ confined .resetTimeout [.power, .boot, .heart, .grain, .pattern, .host, .seam, .strap, .ports, .shown, .groups,
        .pgs, .metro, .rein, .pocket, .awl, .satchel, .tack, .wda, .wdb, .graft, .flash, .ring, .policy]
    ∧ confined .nonceExpire [.host]
    ∧ confined .jobDone [.host, .seam, .pocket, .awl, .satchel, .tack, .graft, .flash]
    ∧ (∀ (r : FlashRes) (markOk : Bool), confined (.flashOpDone r markOk) [.power, .boot, .heart, .grain, .pattern,
        .host, .seam, .strap, .ports, .shown, .groups, .pgs, .metro, .rein, .pocket, .awl, .satchel, .tack, .wda, .wdb,
        .graft, .flash, .ring, .policy])
    ∧ (∀ (who : Requester) (alg : BitVec 2) (release : Bool), confined (.seamClaim who alg release) [.seam])
    ∧ (∀ (who : Requester), confined (.seamRelease who) [.seam])
    ∧ confined .seamGrant [.power, .boot, .heart, .grain, .pattern, .host, .seam, .strap, .ports, .shown, .groups,
        .cmps, .cmpTest, .pgs, .metro, .rein, .sap, .pocket, .awl, .bark, .satchel, .tack, .wda, .wdb, .graft, .flash,
        .policy]
    ∧ confined .seamLeaseRevoked [.seam]
    ∧ (∀ (who : Requester) (width : Fin 3) (v : Word), confined (.seamDataWrite who width v) [.seam])
    ∧ (∀ (who : Requester) (width : Fin 3) (v : Word), confined (.seamFoldWrite who width v) [.seam])
    ∧ (∀ (who : Requester) (expect : Word), confined (.seamCompare who expect) [.seam])
    ∧ (∀ (gap : Bool), confined (.tick gap) [.power, .strap, .time])
    ∧ confined .rootHeartbeatSend [.strap]
    ∧ (∀ (fromRoot : Bool) (missed : Nat), confinedIf noneHeld (.heartbeat fromRoot missed) [.power, .strap, .ports,
        .shown, .time] ∧ confined (.heartbeat fromRoot missed) (.time :: strapParts))
    ∧ (∀ (atCrown : Bool), confinedIf noneHeld (.ack atCrown) [.power, .strap] ∧ confined (.ack atCrown) strapParts)
    ∧ (∀ (atCrown : Bool) (line : StrapLine) (sent : Option StrapBody), confinedIf noneHeld (.strapFrameBad atCrown
        line sent) [.strap, .ports] ∧ confined (.strapFrameBad atCrown line sent) strapParts)
    ∧ (∀ (byCrown : Bool), confined (.strapRetransmit byCrown) [.power, .boot, .pattern, .host, .strap, .ports,
        .shown, .groups, .cmps, .pgs, .sap, .pocket, .awl, .wda, .wdb, .graft, .flash, .policy])
    ∧ (confinedIf noneHeld .alarm [.host, .strap] ∧ confined .alarm strapParts)
    ∧ (∀ (f : ResyncFrame), confinedIf noneHeld (.resync f) [.strap, .ports, .shown, .groups, .cmps, .pgs, .pocket,
        .awl, .wda, .policy] ∧ confined (.resync f) strapParts)
    ∧ (∀ (p : Fin 8), confinedIf noneHeld (.portRsp p) [.boot, .pattern, .host, .strap, .ports, .groups, .pgs,
        .pocket, .awl, .wdb, .graft, .flash] ∧ confined (.portRsp p) strapParts)
    ∧ (confinedIf noneHeld .params [.power, .boot, .strap, .ports, .pgs] ∧ confined .params strapParts)
    ∧ (∀ (offset : Half), confinedIf noneHeld (.load offset) [.power, .boot, .strap] ∧ confined (.load offset)
        strapParts)
    ∧ (∀ (ports : List (Fin 8)), confinedIf noneHeld (.metroFrame ports) [.strap, .ports] ∧ confined (.metroFrame
        ports) strapParts)
    ∧ (∀ (laneRate : Byte), confinedIf noneHeld (.stats laneRate) [.strap] ∧ confined (.stats laneRate) strapParts)
    ∧ confined .rootStrapLoss [.strap, .ports, .pgs]
    ∧ (∀ (byHeartbeat : Bool), confined (.crownStrapLoss byHeartbeat) [.strap, .ports, .shown])
    ∧ confined .crownResetWireAssert [.power, .strap, .ports, .pgs]
    ∧ confined .crownResetWireRelease [.strap]
    ∧ (∀ (own : Bool) (h : ReinHdr) (code : Half) (data : BitVec 48), confined (.groupEvent own h code data) [.rein,
        .policy])
    ∧ (∀ (h : ReinHdr) (id : Nat) (calGen : Half) (participant : Bool), confined (.enum h id calGen participant)
        [.rein])
    ∧ confined .reinEnumStart [.rein]
    ∧ confined .enumResend [.rein]
    ∧ (∀ (line : StrapLine), confined (.reinFrameBad line) [.rein])
    ∧ confined .reinSilence [.rein]
    ∧ (∀ (ok : Bool) (devices : Fin 9), confined (.reinLoopbackDone ok devices) [.host, .strap, .rein])
    ∧ (∀ (head : Fin 8) (cause : BitVec 2) (before : Bool) (position : Nat), confined (.brk head cause before
        position) [.host, .strap, .rein])
    ∧ (∀ (k : Nat) (sampleUv : Nat), confined (.mark k sampleUv) [.host, .strap, .ports, .rein])
    ∧ (∀ (addr : Fin 8), confined (.veto addr) [.host, .strap, .rein])
    ∧ (∀ (h : ReinHdr) (gen : Half) (src segment : Bool), confined (.announce h gen src segment) [.rein])
    ∧ (∀ (h : ReinHdr) (gen : Half) (reading : Nat), confined (.sweepData h gen reading) [.rein])
    ∧ (∀ (h : ReinHdr) (gen : Half) (mask : Byte) (readings : List Nat), confined (.commit h gen mask readings)
        [.rein])
    ∧ (∀ (h : ReinHdr) (gen : Half) (reason : Byte), confined (.abort h gen reason) [.host, .strap, .rein])
    ∧ confined .sweepTimer [.rein]
    ∧ (∀ (who : Requester), confined (.sweepNow who) [.rein, .tack])
    ∧ (∀ (sampleUv : Nat), confined (.sweepMarkSend sampleUv) [.host, .strap, .ports, .rein])
    ∧ confined .sweepAdopt [.host, .strap, .metro, .rein]
    ∧ (∀ (h : ReinHdr) (chunk : Byte) (last : Bool) (bytes : List Byte), confined (.relayRsp h chunk last bytes)
        [.host, .rein])
    ∧ confined .relayTimeout [.host, .rein]
    ∧ confined .sapStart [.host, .ports, .cmps, .sap, .pocket, .awl, .bark, .graft]
    ∧ confined .sapStop [.host, .ports, .cmps, .sap, .pocket, .awl, .bark, .wda, .wdb, .graft]
    ∧ (∀ (vocMv : Nat), confined (.mpptSample vocMv) [.sap])
    ∧ (∀ (rsvMv : Nat), confined (.chargeEnd rsvMv) [.sap])
    ∧ (∀ (rsvMv : Nat), confined (.chargeRestart rsvMv) [.sap])
    ∧ (∀ (tenthsC : Int), confined (.sapChgTemp tenthsC) [.sap])
    ∧ confined .chgTempResume [.sap]
    ∧ (∀ (g : GaugeIn), confined (.gaugeSample g) [.host, .ports, .sap, .pocket, .awl, .bark, .graft])
    ∧ confined .sapClockCarry [.sap]
    ∧ (∀ (who : Requester) (which : Fin 4) (v : Word), confined (.thresholdWrite who which v) [.sap, .tack])
    ∧ confined .wakeBall [.sap]
    ∧ confined .wakeTimer [.sap]
    ∧ confined .wakeHoldEnd [.sap]
    ∧ (∀ (rsvMv : Nat), confined (.reserveLost rsvMv) [.host, .ports, .sap, .pocket, .awl, .bark, .graft])
    ∧ (∀ (bridgeMs : Nat), confined (.sapBridgeZeroize bridgeMs) [.host, .ports, .sap, .pocket, .awl, .graft])
    ∧ (∀ (bridgeMs : Nat), confined (.reserveReturned bridgeMs) [.sap, .bark])
    ∧ confined .awlUnitStart [.host, .ports, .pocket, .awl, .satchel, .tack, .graft, .policy]
    ∧ (∀ (ok : Bool) (awlUs : Nat), confined (.awlUnitDone ok awlUs) [.heart, .host, .ports, .pgs, .pocket, .awl,
        .satchel, .tack, .graft, .flash])
    ∧ confined .recordReadDone [.awl]
    ∧ confined .recordWriteDone [.host, .pocket, .graft, .flash]
    ∧ (∀ (who : Requester), confined (.wcSatZeroize who) [.host, .ports, .pocket, .awl, .tack, .graft])
    ∧ (∀ (test : Byte), confined (.awlRngFail test) [.awl])
    ∧ (∀ (seq : Byte), confined (.awlwaitRead seq) [.host, .seam, .awl, .tack])
    ∧ (∀ (b : BarkIn), confined (.barkSample b) [.host, .ports, .sap, .pocket, .awl, .bark, .graft])
    ∧ (∀ (sensor : Fin 7), confined (.barkGlitch sensor) [.host, .ports, .sap, .pocket, .awl, .bark, .graft])
    ∧ (∀ (sensor : Fin 7), confined (.barkActiveClear sensor) [.bark])
    ∧ (∀ (who : Requester) (v : Word), confined (.bkraiseWrite who v) [.bark, .tack])
    ∧ (∀ (who : Requester) (line : Nat) (found : Option (BitVec 256)), confined (.satchelRead who line found) [.grain,
        .host, .ports, .pocket, .awl, .bark, .satchel, .tack, .graft])
    ∧ (∀ (who : Requester) (addr : Nat) (bytes : List Byte) (found : Option (BitVec 256)), confined
        (.satchelPartialWrite who addr bytes found) [.grain, .host, .ports, .pocket, .awl, .bark, .satchel, .tack,
        .graft])
    ∧ (∀ (who : Requester) (line : Nat) (bytes : List Byte), confined (.satchelLineWrite who line bytes) [.satchel,
        .tack])
    ∧ (∀ (who : Requester) (k : Fin 8) (isB : Bool) (v : Word), confined (.satwinWrite who k isB v) [.satchel, .tack])
    ∧ (∀ (who : Requester) (next : Half), confined (.tkcommit who next) [.tack])
    ∧ confined .tackCommit [.tack]
    ∧ (∀ (who : Requester), confined (.epochSatClear who) [.tack])
    ∧ (∀ (who : Requester) (v : Word), confined (.wdAArmed who v) [.tack, .wda])
    ∧ (∀ (who : Requester) (v : Word), confined (.wdaService who v) [.power, .boot, .heart, .grain, .pattern, .host,
        .seam, .strap, .ports, .shown, .groups, .pgs, .metro, .rein, .pocket, .awl, .satchel, .tack, .wda, .wdb, .graft,
        .flash, .ring, .policy])
    ∧ confined .wdaWindowOpen [.wda]
    ∧ confined .wdAExpired [.power, .boot, .heart, .grain, .pattern, .host, .seam, .strap, .ports, .shown, .groups,
        .pgs, .metro, .rein, .pocket, .awl, .satchel, .tack, .wda, .wdb, .graft, .flash, .ring, .policy]
    ∧ confined .wdbWindowOpen [.wdb]
    ∧ confined .wdbService [.power, .boot, .heart, .grain, .pattern, .host, .seam, .strap, .ports, .shown, .groups,
        .pgs, .metro, .rein, .pocket, .awl, .satchel, .tack, .wda, .wdb, .graft, .flash, .ring, .policy]
    ∧ (∀ (early : Bool), confined (.wdBExpired early) [.power, .boot, .heart, .grain, .pattern, .host, .seam, .strap,
        .ports, .shown, .groups, .pgs, .metro, .rein, .pocket, .awl, .satchel, .tack, .wda, .wdb, .graft, .flash, .ring,
        .policy])
    ∧ confined .wdbStormClear [.wdb]
    ∧ (∀ (isB : Bool), confined (.wdClockMonitorTrip isB) [.power, .boot, .heart, .grain, .pattern, .host, .seam,
        .strap, .ports, .shown, .groups, .pgs, .metro, .rein, .pocket, .awl, .satchel, .tack, .wda, .wdb, .graft,
        .flash, .ring, .policy])
    ∧ (∀ (isB : Bool), confined (.wdMonLost isB) [.wdb])
    ∧ (∀ (isB : Bool), confined (.wdClockReturn isB) [.wda, .wdb])
    ∧ (∀ (tokens : BitVec 16), confined (.supervisorTick tokens) [.grain, .seam, .strap, .ports, .pgs, .pocket, .awl])
    ∧ (∀ (k : Fin 16) (badLine : Option Nat), confined (.standReloaded k badLine) [.grain, .host, .strap, .ports,
        .groups, .cmps, .pgs, .sap, .pocket, .awl, .bark, .satchel, .wda, .policy])
    ∧ (∀ (who : Requester) (v : Word), confined (.confirm who v) [.heart, .tack, .graft, .flash])
    ∧ (∀ (r : FlashRes), confined (.graftCopyBlock r) [.power, .boot, .heart, .grain, .pattern, .host, .seam, .strap,
        .ports, .shown, .groups, .pgs, .metro, .rein, .pocket, .awl, .satchel, .tack, .wda, .wdb, .graft, .flash, .ring,
        .policy])
    ∧ confined .graftTrialTimeout [.power, .boot, .heart, .grain, .pattern, .host, .seam, .strap, .ports, .shown,
        .groups, .pgs, .metro, .rein, .pocket, .awl, .satchel, .tack, .wda, .wdb, .graft, .flash, .ring, .policy]
    ∧ (∀ (tempC : Int) (vppMv : Nat), confined (.hwBurnStart tempC vppMv) [.heart, .host, .graft])
    ∧ (∀ (outcome : CellOutcome) (vppMv : Nat), confined (.hwCellPulse outcome vppMv) [.heart, .host, .graft])
    ∧ (∀ (who : Requester) (v : Word), confined (.hwShadowApply who v) [.heart, .tack])
    ∧ (∀ (who : Requester) (v : Word), confined (.hwShadowRemove who v) [.heart, .tack])
    ∧ (∀ (r : FlashRes), confined (.journalSearch r) [.host, .flash, .ring])
    ∧ confined .journalDrop [.ring]
    ∧ confined .ringTimeCarry [.time]
    ∧ confined .uptimeCarry [.time]
    ∧ (∀ (mosi : List Byte), confined (.hostFrameBad mosi) [.power, .boot, .heart, .grain, .pattern, .host, .seam,
        .strap, .ports, .shown, .groups, .cmps, .cmpTest, .pgs, .metro, .rein, .sap, .pocket, .awl, .bark, .satchel,
        .tack, .wda, .wdb, .graft, .flash, .policy])

/-- Each command of Type-C, Power Delivery, Cinch, the comparators, the generators and metrology completes from every
state and leaves every part of the machine alone but those it names; and while the group's GCUT is closed and no
frame of the Strap waits for room, a command of one port leaves every other port as it was, apart from LAST_EVENT.
(95_what_each_step_holds.md, R612) -/
def Obligations.FramesOfThePorts : Prop :=
  (∀ (p : Fin 8), confinedIf noneHeld (.trip p) [.strap, .ports, .pgs, .pocket, .awl] ∧ confined (.trip p)
        strapParts)
    ∧ (∀ (p : Fin 8), confinedIf noneHeld (.ccEvent p) [.strap, .ports] ∧ confined (.ccEvent p) strapParts)
    ∧ (∀ (p : Fin 8), confinedIf noneHeld (.pdRx p) [.host, .strap, .ports, .groups, .cmps, .pgs, .sap, .pocket, .awl,
        .policy] ∧ confined (.pdRx p) strapParts)
    ∧ (∀ (p : Fin 8) (own : Option PdOwn), confinedIf noneHeld (.pdTx p own) [.power, .strap, .ports] ∧ confined
        (.pdTx p own) strapParts)
    ∧ (∀ (p : Fin 8) (op : PortOp), confinedIf noneHeld (.portCmd p op) [.power, .strap, .ports, .cmps, .pgs, .sap,
        .pocket, .awl, .policy] ∧ confined (.portCmd p op) strapParts)
    ∧ (∀ (p : Fin 8) (off : Bool), confinedIf noneHeld (.fallbackSet p off) [.power, .strap] ∧ confined (.fallbackSet
        p off) strapParts)
    ∧ (∀ (p : Fin 8), confined (.holdExpire p) [.strap, .ports, .pgs])
    ∧ (∀ (p : Fin 8), confined (.ccDebounceExpire p) [.strap, .ports, .cmps, .pgs, .sap, .pocket, .awl, .policy])
    ∧ (∀ (p : Fin 8), confined (.pdDebounceExpire p) [.strap, .ports, .cmps, .pgs, .sap, .pocket, .awl, .policy])
    ∧ (∀ (p : Fin 8) (timer : DebTimer), confined (.debounceExtended p timer) [.strap, .ports, .cmps, .pgs, .sap,
        .pocket, .awl, .policy])
    ∧ (∀ (p : Fin 8), confined (.drpToggle p) [.ports])
    ∧ (∀ (p : Fin 8) (t : TryTimer), confined (.tryTimerExpire p t) [.strap, .ports, .cmps, .pgs, .sap, .pocket, .awl,
        .policy])
    ∧ (∀ (p : Fin 8), confined (.vbusDisconnect p) [.strap, .ports, .pgs, .pocket, .awl])
    ∧ (∀ (p : Fin 8), confined (.vconnOcTrip p) [.strap, .ports, .pocket, .awl])
    ∧ (∀ (p : Fin 8) (line : Bool), confined (.ccOvpTrip p line) [.strap, .ports, .pgs, .pocket, .awl])
    ∧ (∀ (p : Fin 8) (ccLow : Bool), confined (.errorRecoveryEnd p ccLow) [.ports])
    ∧ (∀ (who : Requester) (p : Fin 8) (reg : Fin 3) (v : Word), confined (.ccConfigWrite who p reg v) [.ports,
        .tack])
    ∧ (∀ (p : Fin 8) (pkt : BmcPacket), confined (.bmcPacketRx p pkt) [.ports])
    ∧ (∀ (p : Fin 8) (high : Bool) (inPacket : Option Nat), confined (.floodSet p high inPacket) [.ports])
    ∧ (∀ (p : Fin 8) (inPacket : Bool), confined (.floodClear p inPacket) [.ports])
    ∧ (∀ (p : Fin 8) (w : Option (Requester × Word)), confined (.hushRequest p w) [.ports, .tack])
    ∧ (∀ (p : Fin 8) (cause : HushRefusal), confined (.hushRefused p cause) [.ports])
    ∧ (∀ (p : Fin 8), confined (.hushWindowOpen p) [.ports])
    ∧ (∀ (p : Fin 8), confined (.hushWindowEnd p) [.ports])
    ∧ (∀ (p : Fin 8), confined (.hardResetSignal p) [.strap, .ports, .pgs, .pocket, .awl])
    ∧ (∀ (p : Fin 8), confined (.srcTransitionExpire p) [.host, .ports, .pgs, .pocket, .awl, .policy])
    ∧ (∀ (p : Fin 8), confined (.pdTransitionFail p) [.ports, .pocket, .awl])
    ∧ (∀ (p : Fin 8), confined (.ppsTimeout p) [.ports, .pgs, .pocket, .awl])
    ∧ (∀ (p : Fin 8), confined (.eprKeepaliveTimeout p) [.ports, .pgs, .pocket, .awl])
    ∧ (∀ (p : Fin 8), confined (.senderResponseTimeout p) [.host, .ports, .pgs, .pocket, .awl, .policy])
    ∧ (∀ (p : Fin 8), confined (.goodcrcTimeout p) [.ports, .pgs, .pocket, .awl])
    ∧ (∀ (p : Fin 8), confined (.swapTimeout p) [.ports, .pgs, .pocket, .awl])
    ∧ (∀ (p : Fin 8), confined (.vconnSourceOnTimeout p) [.ports, .pocket, .awl])
    ∧ (∀ (p : Fin 8), confined (.authWaitExpire p) [.ports, .pgs, .pocket, .awl])
    ∧ (∀ (p : Fin 8), confined (.discoverIdentityTimer p) [.ports])
    ∧ (∀ (p : Fin 8), confined (.sinkTxExpire p) [.ports])
    ∧ (∀ (p : Fin 8), confined (.chunkTimeout p) [.ports, .pgs, .pocket, .awl])
    ∧ (∀ (p : Fin 8) (t : CapTimer), confined (.sourceCapTimer p t) [.ports, .pocket, .awl])
    ∧ (∀ (p : Fin 8) (detach : Bool), confined (.backfeedEnd p detach) [.strap, .ports, .pgs, .pocket, .awl])
    ∧ (∀ (p : Fin 8), confined (.inrushSlewEnd p) [.ports, .pgs])
    ∧ (∀ (p : Fin 8) (vbusMv : Nat), confined (.inrushFail p vbusMv) [.strap, .ports, .pgs, .pocket, .awl])
    ∧ (∀ (p : Fin 8) (gateB : Bool) (mv : Nat), confined (.gateFault p gateB mv) [.strap, .ports, .pgs, .pocket,
        .awl])
    ∧ (∀ (p : Fin 8) (kind : TripKind) (measured : Nat), confined (.fastTrip p kind measured) [.strap, .ports, .pgs,
        .pocket, .awl])
    ∧ (∀ (who : Requester) (p : Fin 8), confined (.unlatch who p) [.ports, .tack])
    ∧ (∀ (who : Requester) (p : Fin 8) (on : Bool), confined (.forceOff who p on) [.ports, .pgs, .pocket, .awl,
        .tack])
    ∧ (∀ (p : Fin 8) (vbusMv : Nat), confined (.dischargeEnd p vbusMv) [.strap, .ports, .groups, .pgs, .pocket, .awl])
    ∧ (∀ (who : Requester) (g : Fin 2), confined (.rearm who g) [.ports, .groups, .pgs, .pocket, .awl, .tack])
    ∧ (∀ (p : Fin 8) (vinMv : Nat) (droopUs : Nat), confined (.inputDroop p vinMv droopUs) [.ports, .pgs, .pocket,
        .awl])
    ∧ (∀ (p : Fin 8), confined (.droopRecover p) [.ports])
    ∧ (∀ (g : Fin 2), confined (.backfeedGcutClose g) [.strap, .groups])
    ∧ (∀ (p : Fin 8), confined (.complianceEnter p) [.host, .ports, .pocket, .awl, .policy])
    ∧ (∀ (p : Fin 8), confined (.compliancePersist p) [])
    ∧ (∀ (p : Fin 8), confined (.complianceExit p) [.ports])
    ∧ (∀ (n : Fin 8) (inputUv : Int), confined (.cmpLatch n inputUv) [.strap, .cmps, .pgs, .sap, .policy])
    ∧ (∀ (n : Fin 8) (inputUv : Int), confined (.blankEnd n inputUv) [.strap, .cmps, .pgs, .sap, .policy])
    ∧ (∀ (who : Requester) (test : BitVec 3) (cmp : Fin 8), confined (.cmpSelftest who test cmp) [.cmpTest, .tack])
    ∧ (∀ (sample exchanged : Bool), confined (.cmpSelftestDone sample exchanged) [.strap, .cmps, .cmpTest, .pgs, .sap,
        .policy])
    ∧ (∀ (who : Requester) (n : Fin 8), confined (.pgRun who n) [.strap, .cmps, .pgs, .sap, .tack, .policy])
    ∧ (∀ (who : Requester) (n : Fin 8), confined (.pgStop who n) [.pgs, .tack])
    ∧ (∀ (n : Fin 8), confined (.pgPeriodStart n) [.strap, .cmps, .pgs, .sap, .policy])
    ∧ (∀ (n : Fin 8), confined (.pgWidthEnd n) [.pgs])
    ∧ (∀ (seq : Byte) (n : Fin 8) (second : Bool), confined (.captureRead seq n second) [.host, .seam, .pgs, .tack])
    ∧ (∀ (p : Fin 8) (r : Reading), confined (.metroReading p r) [.power, .host, .strap, .ports, .pgs, .pocket, .awl,
        .policy])
    ∧ (∀ (p : Fin 8), confined (.ppsClFloor p) [.ports, .pocket, .awl])
    ∧ (∀ (dev : Int), confined (.refCheck dev) [.strap, .ports, .metro])
    ∧ (∀ (p : Fin 8) (cc1 cc2 : CcSeen), confined (.ccRecognitionChange p cc1 cc2) [.strap, .ports, .pgs])
    ∧ (∀ (p : Fin 8) (t : HrTimer), confined (.hardResetTimer p t) [.strap, .ports, .cmps, .pgs, .sap, .pocket, .awl,
        .policy])
    ∧ (∀ (p : Fin 8) (s : State), noneHeld s → s.groups[groupOf p].gcutOpen = false → ∃ u, exec (.trip p) s = .next u
        ∧ otherPortsKept p s u)
    ∧ (∀ (p : Fin 8) (s : State), noneHeld s → s.groups[groupOf p].gcutOpen = false → ∃ u, exec (.ccEvent p) s = .next
        u ∧ otherPortsKept p s u)
    ∧ (∀ (p : Fin 8) (s : State), noneHeld s → s.groups[groupOf p].gcutOpen = false → ∃ u, exec (.pdRx p) s = .next u
        ∧ otherPortsKept p s u)
    ∧ (∀ (p : Fin 8) (own : Option PdOwn) (s : State), noneHeld s → s.groups[groupOf p].gcutOpen = false → ∃ u, exec
        (.pdTx p own) s = .next u ∧ otherPortsKept p s u)
    ∧ (∀ (p : Fin 8) (op : PortOp) (s : State), noneHeld s → s.groups[groupOf p].gcutOpen = false → ∃ u, exec
        (.portCmd p op) s = .next u ∧ otherPortsKept p s u)
    ∧ (∀ (p : Fin 8) (off : Bool) (s : State), noneHeld s → s.groups[groupOf p].gcutOpen = false → ∃ u, exec
        (.fallbackSet p off) s = .next u ∧ otherPortsKept p s u)
    ∧ (∀ (p : Fin 8) (s : State), s.groups[groupOf p].gcutOpen = false → ∃ u, exec (.holdExpire p) s = .next u ∧
        otherPortsKept p s u)
    ∧ (∀ (p : Fin 8) (s : State), s.groups[groupOf p].gcutOpen = false → ∃ u, exec (.ccDebounceExpire p) s = .next u ∧
        otherPortsKept p s u)
    ∧ (∀ (p : Fin 8) (s : State), s.groups[groupOf p].gcutOpen = false → ∃ u, exec (.pdDebounceExpire p) s = .next u ∧
        otherPortsKept p s u)
    ∧ (∀ (p : Fin 8) (timer : DebTimer) (s : State), s.groups[groupOf p].gcutOpen = false → ∃ u, exec
        (.debounceExtended p timer) s = .next u ∧ otherPortsKept p s u)
    ∧ (∀ (p : Fin 8) (s : State), s.groups[groupOf p].gcutOpen = false → ∃ u, exec (.drpToggle p) s = .next u ∧
        otherPortsKept p s u)
    ∧ (∀ (p : Fin 8) (t : TryTimer) (s : State), s.groups[groupOf p].gcutOpen = false → ∃ u, exec (.tryTimerExpire p
        t) s = .next u ∧ otherPortsKept p s u)
    ∧ (∀ (p : Fin 8) (s : State), s.groups[groupOf p].gcutOpen = false → ∃ u, exec (.vbusDisconnect p) s = .next u ∧
        otherPortsKept p s u)
    ∧ (∀ (p : Fin 8) (s : State), s.groups[groupOf p].gcutOpen = false → ∃ u, exec (.vconnOcTrip p) s = .next u ∧
        otherPortsKept p s u)
    ∧ (∀ (p : Fin 8) (line : Bool) (s : State), s.groups[groupOf p].gcutOpen = false → ∃ u, exec (.ccOvpTrip p line) s
        = .next u ∧ otherPortsKept p s u)
    ∧ (∀ (p : Fin 8) (ccLow : Bool) (s : State), s.groups[groupOf p].gcutOpen = false → ∃ u, exec (.errorRecoveryEnd p
        ccLow) s = .next u ∧ otherPortsKept p s u)
    ∧ (∀ (who : Requester) (p : Fin 8) (reg : Fin 3) (v : Word) (s : State), s.groups[groupOf p].gcutOpen = false → ∃
        u, exec (.ccConfigWrite who p reg v) s = .next u ∧ otherPortsKept p s u)
    ∧ (∀ (p : Fin 8) (pkt : BmcPacket) (s : State), s.groups[groupOf p].gcutOpen = false → ∃ u, exec (.bmcPacketRx p
        pkt) s = .next u ∧ otherPortsKept p s u)
    ∧ (∀ (p : Fin 8) (high : Bool) (inPacket : Option Nat) (s : State), s.groups[groupOf p].gcutOpen = false → ∃ u,
        exec (.floodSet p high inPacket) s = .next u ∧ otherPortsKept p s u)
    ∧ (∀ (p : Fin 8) (inPacket : Bool) (s : State), s.groups[groupOf p].gcutOpen = false → ∃ u, exec (.floodClear p
        inPacket) s = .next u ∧ otherPortsKept p s u)
    ∧ (∀ (p : Fin 8) (w : Option (Requester × Word)) (s : State), s.groups[groupOf p].gcutOpen = false → ∃ u, exec
        (.hushRequest p w) s = .next u ∧ otherPortsKept p s u)
    ∧ (∀ (p : Fin 8) (cause : HushRefusal) (s : State), s.groups[groupOf p].gcutOpen = false → ∃ u, exec (.hushRefused
        p cause) s = .next u ∧ otherPortsKept p s u)
    ∧ (∀ (p : Fin 8) (s : State), s.groups[groupOf p].gcutOpen = false → ∃ u, exec (.hushWindowOpen p) s = .next u ∧
        otherPortsKept p s u)
    ∧ (∀ (p : Fin 8) (s : State), s.groups[groupOf p].gcutOpen = false → ∃ u, exec (.hushWindowEnd p) s = .next u ∧
        otherPortsKept p s u)
    ∧ (∀ (p : Fin 8) (s : State), s.groups[groupOf p].gcutOpen = false → ∃ u, exec (.hardResetSignal p) s = .next u ∧
        otherPortsKept p s u)
    ∧ (∀ (p : Fin 8) (s : State), s.groups[groupOf p].gcutOpen = false → ∃ u, exec (.srcTransitionExpire p) s = .next
        u ∧ otherPortsKept p s u)
    ∧ (∀ (p : Fin 8) (s : State), s.groups[groupOf p].gcutOpen = false → ∃ u, exec (.pdTransitionFail p) s = .next u ∧
        otherPortsKept p s u)
    ∧ (∀ (p : Fin 8) (s : State), s.groups[groupOf p].gcutOpen = false → ∃ u, exec (.ppsTimeout p) s = .next u ∧
        otherPortsKept p s u)
    ∧ (∀ (p : Fin 8) (s : State), s.groups[groupOf p].gcutOpen = false → ∃ u, exec (.eprKeepaliveTimeout p) s = .next
        u ∧ otherPortsKept p s u)
    ∧ (∀ (p : Fin 8) (s : State), s.groups[groupOf p].gcutOpen = false → ∃ u, exec (.senderResponseTimeout p) s =
        .next u ∧ otherPortsKept p s u)
    ∧ (∀ (p : Fin 8) (s : State), s.groups[groupOf p].gcutOpen = false → ∃ u, exec (.goodcrcTimeout p) s = .next u ∧
        otherPortsKept p s u)
    ∧ (∀ (p : Fin 8) (s : State), s.groups[groupOf p].gcutOpen = false → ∃ u, exec (.swapTimeout p) s = .next u ∧
        otherPortsKept p s u)
    ∧ (∀ (p : Fin 8) (s : State), s.groups[groupOf p].gcutOpen = false → ∃ u, exec (.vconnSourceOnTimeout p) s = .next
        u ∧ otherPortsKept p s u)
    ∧ (∀ (p : Fin 8) (s : State), s.groups[groupOf p].gcutOpen = false → ∃ u, exec (.authWaitExpire p) s = .next u ∧
        otherPortsKept p s u)
    ∧ (∀ (p : Fin 8) (s : State), s.groups[groupOf p].gcutOpen = false → ∃ u, exec (.discoverIdentityTimer p) s =
        .next u ∧ otherPortsKept p s u)
    ∧ (∀ (p : Fin 8) (s : State), s.groups[groupOf p].gcutOpen = false → ∃ u, exec (.sinkTxExpire p) s = .next u ∧
        otherPortsKept p s u)
    ∧ (∀ (p : Fin 8) (s : State), s.groups[groupOf p].gcutOpen = false → ∃ u, exec (.chunkTimeout p) s = .next u ∧
        otherPortsKept p s u)
    ∧ (∀ (p : Fin 8) (t : CapTimer) (s : State), s.groups[groupOf p].gcutOpen = false → ∃ u, exec (.sourceCapTimer p
        t) s = .next u ∧ otherPortsKept p s u)
    ∧ (∀ (p : Fin 8) (detach : Bool) (s : State), s.groups[groupOf p].gcutOpen = false → ∃ u, exec (.backfeedEnd p
        detach) s = .next u ∧ otherPortsKept p s u)
    ∧ (∀ (p : Fin 8) (s : State), s.groups[groupOf p].gcutOpen = false → ∃ u, exec (.inrushSlewEnd p) s = .next u ∧
        otherPortsKept p s u)
    ∧ (∀ (p : Fin 8) (vbusMv : Nat) (s : State), s.groups[groupOf p].gcutOpen = false → ∃ u, exec (.inrushFail p
        vbusMv) s = .next u ∧ otherPortsKept p s u)
    ∧ (∀ (p : Fin 8) (gateB : Bool) (mv : Nat) (s : State), s.groups[groupOf p].gcutOpen = false → ∃ u, exec
        (.gateFault p gateB mv) s = .next u ∧ otherPortsKept p s u)
    ∧ (∀ (p : Fin 8) (kind : TripKind) (measured : Nat) (s : State), s.groups[groupOf p].gcutOpen = false → ∃ u, exec
        (.fastTrip p kind measured) s = .next u ∧ otherPortsKept p s u)
    ∧ (∀ (who : Requester) (p : Fin 8) (s : State), s.groups[groupOf p].gcutOpen = false → ∃ u, exec (.unlatch who p)
        s = .next u ∧ otherPortsKept p s u)
    ∧ (∀ (who : Requester) (p : Fin 8) (on : Bool) (s : State), s.groups[groupOf p].gcutOpen = false → ∃ u, exec
        (.forceOff who p on) s = .next u ∧ otherPortsKept p s u)
    ∧ (∀ (p : Fin 8) (s : State), s.groups[groupOf p].gcutOpen = false → ∃ u, exec (.droopRecover p) s = .next u ∧
        otherPortsKept p s u)
    ∧ (∀ (p : Fin 8) (s : State), s.groups[groupOf p].gcutOpen = false → ∃ u, exec (.complianceEnter p) s = .next u ∧
        otherPortsKept p s u)
    ∧ (∀ (p : Fin 8) (s : State), s.groups[groupOf p].gcutOpen = false → ∃ u, exec (.compliancePersist p) s = .next u
        ∧ otherPortsKept p s u)
    ∧ (∀ (p : Fin 8) (s : State), s.groups[groupOf p].gcutOpen = false → ∃ u, exec (.complianceExit p) s = .next u ∧
        otherPortsKept p s u)
    ∧ (∀ (p : Fin 8) (r : Reading) (s : State), s.groups[groupOf p].gcutOpen = false → ∃ u, exec (.metroReading p r) s
        = .next u ∧ otherPortsKept p s u)
    ∧ (∀ (p : Fin 8) (s : State), s.groups[groupOf p].gcutOpen = false → ∃ u, exec (.ppsClFloor p) s = .next u ∧
        otherPortsKept p s u)
    ∧ (∀ (p : Fin 8) (cc1 cc2 : CcSeen) (s : State), s.groups[groupOf p].gcutOpen = false → ∃ u, exec
        (.ccRecognitionChange p cc1 cc2) s = .next u ∧ otherPortsKept p s u)
    ∧ (∀ (p : Fin 8) (t : HrTimer) (s : State), s.groups[groupOf p].gcutOpen = false → ∃ u, exec (.hardResetTimer p t)
        s = .next u ∧ otherPortsKept p s u)

/-- State.reset is the device just after a VDD18 power-on: reset hold, RSTCAUSE with POR_VDD18 alone, no link, an empty
Ring with NEWEST 0xFF, every GCUT open with cause reset hold, gates off, no slot content, no flash or Satchel byte
listed, the queue empty. The form of the memories and the settled latch hold of it. Values that the spec does not
give are log entry 4's. (R61, R605, R606, Table 3.4, Table 3.8, log entry 4) -/
def Obligations.ResetState : Prop :=
  State.reset.boot.phase = .resetHold ∧ State.reset.boot.cause = 1 ∧ State.reset.strap.link = .notYetUp
    ∧ State.reset.ring.newest = 0xFF ∧ State.reset.ring.used = false ∧ State.reset.pending = []
    ∧ (∀ g : Fin 2, State.reset.groups[g].gcutOpen = true ∧ State.reset.groups[g].cause = 3)
    ∧ (∀ p : Fin 8, (portCinch State.reset p).gates = false ∧ (portCc State.reset p).term = .opened
        ∧ (portCc State.reset p).state = .outOfService)
    ∧ (∀ k : Fin 16, State.reset.pocket.slots[k] = 0) ∧ State.reset.flash.mem = [] ∧ State.reset.satchel.mem = []
    ∧ State.reset.host.irqEn = 0xFFF ∧ State.reset.host.sevThreshold = 3
    ∧ canonical State.reset ∧ settled State.reset

/-- For every state in which the listed bytes of flash and Satchel and the rows of Heartwood rise strictly in address
and none equals what an unlisted one reads as, every step's next state has that form too: equal contents stay equal
data whatever the commands. (R524, R580, R88, Table 1.1) -/
def Obligations.MemoriesStayCanonical : Prop :=
  ∀ s t : State, canonical s → step s = .next t → canonical t

/-- From every settled state a step leads to a settled one: nothing raised stays unwritten, and while the host port is
open every active bit of DEV_ALARMS is latched. When the port is open before and after, IRQSTAT holds the interrupt
of each change of ALARM, PORT, REIN, GRAFT and SAP state that the step made, even a step that clears IRQSTAT. (R175,
R176, Table 6.8, Table 6.12) -/
def Obligations.StepsSettleAlarmsAndIrqs : Prop :=
  (∀ s t : State, settled s → step s = .next t → settled t)
    ∧ (∀ s t : State, step s = .next t → isOpen s = true → isOpen t = true → irqsStand s t)

/-- Whatever the command, every data cell, parity cell and CLOSED of every Heartwood row that reads 1 before a step
reads 1 after it. (R97, R100, R104, R99) -/
def Obligations.FuseCellsOnlyRise : Prop :=
  ∀ s t : State, step s = .next t → cellsOnlyRise s t
end

