-- ==== Sys2Proof/Laws/Mem.lean ====
section
/-! SUPPORT. The laws of sparse memory: a read after a write, and the canonical form that every memory operation keeps. -/

namespace Sys2Proof.Machine

variable {α : Type} [DecidableEq α] {d : α}

theorem mwfFrom_mono {lo lo' : Nat} {m : List (Nat × α)} (h : mwfFrom d lo' m = true) (hl : lo ≤ lo') :
    mwfFrom d lo m = true := by
  cases m with
  | nil => rfl
  | cons e t =>
    simp only [mwfFrom, Bool.and_eq_true, decide_eq_true_eq] at h ⊢
    exact ⟨⟨by omega, h.1.2⟩, h.2⟩

/-- An address below every listed one reads as unlisted. -/
theorem mget_below {lo a : Nat} {m : List (Nat × α)} (h : mwfFrom d lo m = true) (ha : a < lo) : mget d m a = d := by
  induction m generalizing lo with
  | nil => rfl
  | cons e t ih =>
    simp only [mwfFrom, Bool.and_eq_true, decide_eq_true_eq] at h
    have hne : e.1 ≠ a := by omega
    simp [mget, hne, ih h.2 (by omega)]

theorem mput_from {lo a : Nat} {v : α} {m : List (Nat × α)} (h : mwfFrom d lo m = true) (ha : lo ≤ a) :
    mwfFrom d lo (mput d m a v) = true := by
  induction m generalizing lo with
  | nil => by_cases hv : v = d <;> simp [mput, mwfFrom, hv, ha]
  | cons e t ih =>
    have h' := h
    simp only [mwfFrom, Bool.and_eq_true, decide_eq_true_eq] at h'
    obtain ⟨⟨hlo, hne⟩, ht⟩ := h'
    unfold mput
    split
    · split
      · exact h
      · simp only [mwfFrom, Bool.and_eq_true, decide_eq_true_eq]
        exact ⟨⟨ha, ‹_›⟩, ⟨by omega, hne⟩, ht⟩
    · split
      · split
        · exact mwfFrom_mono ht (by omega)
        · simp only [mwfFrom, Bool.and_eq_true, decide_eq_true_eq]
          exact ⟨⟨ha, ‹_›⟩, by subst_vars; exact ht⟩
      · simp only [mwfFrom, Bool.and_eq_true, decide_eq_true_eq]
        exact ⟨⟨hlo, hne⟩, ih ht (by omega)⟩

/-- A write keeps the canonical form. -/
theorem mput_wf {a : Nat} {v : α} {m : List (Nat × α)} (h : mwf d m = true) : mwf d (mput d m a v) = true :=
  mput_from h (Nat.zero_le _)

/-- Writes of several values keep it. -/
theorem mwrite_wf {vs : List α} {a : Nat} {m : List (Nat × α)} (h : mwf d m = true) : mwf d (mwrite d m a vs) = true := by
  induction vs generalizing a m with
  | nil => exact h
  | cons v t ih => exact ih (mput_wf h)

theorem filter_from {lo : Nat} {m : List (Nat × α)} {p : Nat × α → Bool} (h : mwfFrom d lo m = true) :
    mwfFrom d lo (m.filter p) = true := by
  induction m generalizing lo with
  | nil => rfl
  | cons e t ih =>
    simp only [mwfFrom, Bool.and_eq_true, decide_eq_true_eq] at h
    by_cases hp : p e = true
    · simp only [List.filter_cons, hp, if_true, mwfFrom, Bool.and_eq_true, decide_eq_true_eq]
      exact ⟨h.1, ih h.2⟩
    · simp only [List.filter_cons, hp]
      exact mwfFrom_mono (ih h.2) (by omega)

/-- Clearing a range keeps it. -/
theorem mclear_wf {a n : Nat} {m : List (Nat × α)} (h : mwf d m = true) : mwf d (mclear m a n) = true := filter_from h

/-- Programming flash keeps it. -/
theorem mprogram_wf {vs : List Byte} {a : Nat} {m : List Host.Cell} (h : mwf erased m = true) :
    mwf erased (mprogram m a vs) = true := by
  induction vs generalizing a m with
  | nil => exact h
  | cons v t ih => exact ih (mput_wf h)

theorem mplace_from {vs : List α} {a lo : Nat} {above : List (Nat × α)} (h : mwfFrom d (a + vs.length) above = true)
    (hl : lo ≤ a) : mwfFrom d lo (mplace d a vs above) = true := by
  induction vs generalizing a lo with
  | nil => exact mwfFrom_mono h (by simpa using hl)
  | cons v t ih =>
    have h' : mwfFrom d (a + 1 + t.length) above = true := by
      simpa [Nat.add_assoc, Nat.add_comm, Nat.add_left_comm] using h
    unfold mplace
    split
    · exact ih h' (by omega)
    · simp only [mwfFrom, Bool.and_eq_true, decide_eq_true_eq]
      exact ⟨⟨hl, ‹_›⟩, ih h' (Nat.le_refl _)⟩

/-- Values laid out in front of a canonical rest are canonical. -/
theorem mplace_wf {vs : List α} {a : Nat} {above : List (Nat × α)} (h : mwfFrom d (a + vs.length) above = true) :
    mwf d (mplace d a vs above) = true := mplace_from h (Nat.zero_le _)

/-- A read after a write to the same address gives the value. -/
theorem mget_mput_same {a : Nat} {v : α} {m : List (Nat × α)} {lo : Nat} (h : mwfFrom d lo m = true) :
    mget d (mput d m a v) a = v := by
  induction m generalizing lo with
  | nil => by_cases hv : v = d <;> simp [mput, mget, hv]
  | cons e t ih =>
    obtain ⟨k, w⟩ := e
    simp only [mwfFrom, Bool.and_eq_true, decide_eq_true_eq] at h
    unfold mput
    split
    · rename_i hk
      split
      · rename_i hv
        have hne : k ≠ a := by omega
        simp only [mget, hne, if_false]
        rw [mget_below h.2 (by omega), hv]
      · simp [mget]
    · split
      · rename_i hk
        subst hk
        split
        · rename_i hv
          rw [mget_below h.2 (by omega), hv]
        · simp [mget]
      · have hne : k ≠ a := fun h => by simp_all
        simp only [mget, hne, if_false]
        exact ih h.2

/-- A write leaves every other address alone. -/
theorem mget_mput_ne {a b : Nat} {v : α} {m : List (Nat × α)} (hab : b ≠ a) : mget d (mput d m a v) b = mget d m b := by
  induction m with
  | nil => by_cases hv : v = d <;> simp [mput, mget, hv, Ne.symm hab]
  | cons e t ih =>
    obtain ⟨k, w⟩ := e
    unfold mput
    split
    · split
      · rfl
      · simp [mget, Ne.symm hab]
    · split
      · rename_i hk
        subst hk
        split
        · simp [mget, Ne.symm hab]
        · simp [mget, Ne.symm hab]
      · simp only [mget, ih]

/-- A program of a canonical memory clears bits of its range, and touches nothing outside it. -/
theorem mget_mprogram_out {vs : List Byte} {a b : Nat} {m : List Host.Cell} (h : b < a ∨ a + vs.length ≤ b) :
    mget erased (mprogram m a vs) b = mget erased m b := by
  induction vs generalizing a m with
  | nil => rfl
  | cons v t ih =>
    simp only [List.length_cons] at h
    have hb : b ≠ a := by omega
    have ht : b < a + 1 ∨ a + 1 + t.length ≤ b := by omega
    rw [mprogram, ih ht, mget_mput_ne hb]

/-- Writes leave every address outside their range alone. -/
theorem mget_mwrite_out {vs : List α} {a b : Nat} {m : List (Nat × α)} (h : b < a ∨ a + vs.length ≤ b) :
    mget d (mwrite d m a vs) b = mget d m b := by
  induction vs generalizing a m with
  | nil => rfl
  | cons v t ih =>
    simp only [List.length_cons] at h
    have hb : b ≠ a := by omega
    have ht : b < a + 1 ∨ a + 1 + t.length ≤ b := by omega
    rw [mwrite, ih ht, mget_mput_ne hb]

/-- An erased range reads as unlisted, every other address as before. -/
theorem mget_mclear {m : List (Nat × α)} {a n b : Nat} :
    mget d (mclear m a n) b = if a ≤ b ∧ b < a + n then d else mget d m b := by
  induction m with
  | nil => simp [mclear, mget]
  | cons e t ih =>
    obtain ⟨k, w⟩ := e
    unfold mclear at ih ⊢
    simp only [List.filter_cons]
    split
    · rename_i hk
      simp only [Bool.or_eq_true, decide_eq_true_eq] at hk
      simp only [mget]
      split
      · subst_vars
        split
        · omega
        · rfl
      · exact ih
    · rename_i hk
      simp only [Bool.or_eq_true, decide_eq_true_eq, not_or, Nat.not_lt, Nat.not_le] at hk
      rw [ih]
      split
      · rfl
      · have : k ≠ b := by omega
        simp [mget, this]

end Sys2Proof.Machine
end

