-- ==== Sys2Proof/Laws/State.lean ====
section
/-! SUPPORT. What each named update of the state leaves alone: one equation per field, so that no later proof unfolds a
record update. -/

namespace Sys2Proof.Machine

section
variable (s : State) (p : Fin 8) (g : Fin 2) (k : Fin 16) (i : Fin 20) (n : Nat) (b : Bool) (v : BitVec 256) (e : Event)

@[simp] theorem modPort_pending (f : Port → Port) : (modPort p f s).pending = s.pending := rfl
@[simp] theorem modPort_power (f : Port → Port) : (modPort p f s).power = s.power := rfl
@[simp] theorem modPort_boot (f : Port → Port) : (modPort p f s).boot = s.boot := rfl
@[simp] theorem modPort_heart (f : Port → Port) : (modPort p f s).heart = s.heart := rfl
@[simp] theorem modPort_grain (f : Port → Port) : (modPort p f s).grain = s.grain := rfl
@[simp] theorem modPort_pattern (f : Port → Port) : (modPort p f s).pattern = s.pattern := rfl
@[simp] theorem modPort_host (f : Port → Port) : (modPort p f s).host = s.host := rfl
@[simp] theorem modPort_seam (f : Port → Port) : (modPort p f s).seam = s.seam := rfl
@[simp] theorem modPort_strap (f : Port → Port) : (modPort p f s).strap = s.strap := rfl
@[simp] theorem modPort_shown (f : Port → Port) : (modPort p f s).shown = s.shown := rfl
@[simp] theorem modPort_groups (f : Port → Port) : (modPort p f s).groups = s.groups := rfl
@[simp] theorem modPort_cmps (f : Port → Port) : (modPort p f s).cmps = s.cmps := rfl
@[simp] theorem modPort_cmpTest (f : Port → Port) : (modPort p f s).cmpTest = s.cmpTest := rfl
@[simp] theorem modPort_pgs (f : Port → Port) : (modPort p f s).pgs = s.pgs := rfl
@[simp] theorem modPort_metro (f : Port → Port) : (modPort p f s).metro = s.metro := rfl
@[simp] theorem modPort_rein (f : Port → Port) : (modPort p f s).rein = s.rein := rfl
@[simp] theorem modPort_sap (f : Port → Port) : (modPort p f s).sap = s.sap := rfl
@[simp] theorem modPort_pocket (f : Port → Port) : (modPort p f s).pocket = s.pocket := rfl
@[simp] theorem modPort_awl (f : Port → Port) : (modPort p f s).awl = s.awl := rfl
@[simp] theorem modPort_bark (f : Port → Port) : (modPort p f s).bark = s.bark := rfl
@[simp] theorem modPort_satchel (f : Port → Port) : (modPort p f s).satchel = s.satchel := rfl
@[simp] theorem modPort_tack (f : Port → Port) : (modPort p f s).tack = s.tack := rfl
@[simp] theorem modPort_wda (f : Port → Port) : (modPort p f s).wda = s.wda := rfl
@[simp] theorem modPort_wdb (f : Port → Port) : (modPort p f s).wdb = s.wdb := rfl
@[simp] theorem modPort_graft (f : Port → Port) : (modPort p f s).graft = s.graft := rfl
@[simp] theorem modPort_flash (f : Port → Port) : (modPort p f s).flash = s.flash := rfl
@[simp] theorem modPort_time (f : Port → Port) : (modPort p f s).time = s.time := rfl
@[simp] theorem modPort_ring (f : Port → Port) : (modPort p f s).ring = s.ring := rfl
@[simp] theorem modPort_policy (f : Port → Port) : (modPort p f s).policy = s.policy := rfl
@[simp] theorem modPort_raised (f : Port → Port) : (modPort p f s).raised = s.raised := rfl
@[simp] theorem modPort_freeCtr (f : Port → Port) : (modPort p f s).freeCtr = s.freeCtr := rfl

@[simp] theorem modCc_pending (f : CcPort → CcPort) : (modCc p f s).pending = s.pending := rfl
@[simp] theorem modCc_power (f : CcPort → CcPort) : (modCc p f s).power = s.power := rfl
@[simp] theorem modCc_boot (f : CcPort → CcPort) : (modCc p f s).boot = s.boot := rfl
@[simp] theorem modCc_heart (f : CcPort → CcPort) : (modCc p f s).heart = s.heart := rfl
@[simp] theorem modCc_grain (f : CcPort → CcPort) : (modCc p f s).grain = s.grain := rfl
@[simp] theorem modCc_pattern (f : CcPort → CcPort) : (modCc p f s).pattern = s.pattern := rfl
@[simp] theorem modCc_host (f : CcPort → CcPort) : (modCc p f s).host = s.host := rfl
@[simp] theorem modCc_seam (f : CcPort → CcPort) : (modCc p f s).seam = s.seam := rfl
@[simp] theorem modCc_strap (f : CcPort → CcPort) : (modCc p f s).strap = s.strap := rfl
@[simp] theorem modCc_shown (f : CcPort → CcPort) : (modCc p f s).shown = s.shown := rfl
@[simp] theorem modCc_groups (f : CcPort → CcPort) : (modCc p f s).groups = s.groups := rfl
@[simp] theorem modCc_cmps (f : CcPort → CcPort) : (modCc p f s).cmps = s.cmps := rfl
@[simp] theorem modCc_cmpTest (f : CcPort → CcPort) : (modCc p f s).cmpTest = s.cmpTest := rfl
@[simp] theorem modCc_pgs (f : CcPort → CcPort) : (modCc p f s).pgs = s.pgs := rfl
@[simp] theorem modCc_metro (f : CcPort → CcPort) : (modCc p f s).metro = s.metro := rfl
@[simp] theorem modCc_rein (f : CcPort → CcPort) : (modCc p f s).rein = s.rein := rfl
@[simp] theorem modCc_sap (f : CcPort → CcPort) : (modCc p f s).sap = s.sap := rfl
@[simp] theorem modCc_pocket (f : CcPort → CcPort) : (modCc p f s).pocket = s.pocket := rfl
@[simp] theorem modCc_awl (f : CcPort → CcPort) : (modCc p f s).awl = s.awl := rfl
@[simp] theorem modCc_bark (f : CcPort → CcPort) : (modCc p f s).bark = s.bark := rfl
@[simp] theorem modCc_satchel (f : CcPort → CcPort) : (modCc p f s).satchel = s.satchel := rfl
@[simp] theorem modCc_tack (f : CcPort → CcPort) : (modCc p f s).tack = s.tack := rfl
@[simp] theorem modCc_wda (f : CcPort → CcPort) : (modCc p f s).wda = s.wda := rfl
@[simp] theorem modCc_wdb (f : CcPort → CcPort) : (modCc p f s).wdb = s.wdb := rfl
@[simp] theorem modCc_graft (f : CcPort → CcPort) : (modCc p f s).graft = s.graft := rfl
@[simp] theorem modCc_flash (f : CcPort → CcPort) : (modCc p f s).flash = s.flash := rfl
@[simp] theorem modCc_time (f : CcPort → CcPort) : (modCc p f s).time = s.time := rfl
@[simp] theorem modCc_ring (f : CcPort → CcPort) : (modCc p f s).ring = s.ring := rfl
@[simp] theorem modCc_policy (f : CcPort → CcPort) : (modCc p f s).policy = s.policy := rfl
@[simp] theorem modCc_raised (f : CcPort → CcPort) : (modCc p f s).raised = s.raised := rfl
@[simp] theorem modCc_freeCtr (f : CcPort → CcPort) : (modCc p f s).freeCtr = s.freeCtr := rfl

@[simp] theorem modPd_pending (f : PdPort → PdPort) : (modPd p f s).pending = s.pending := rfl
@[simp] theorem modPd_power (f : PdPort → PdPort) : (modPd p f s).power = s.power := rfl
@[simp] theorem modPd_boot (f : PdPort → PdPort) : (modPd p f s).boot = s.boot := rfl
@[simp] theorem modPd_heart (f : PdPort → PdPort) : (modPd p f s).heart = s.heart := rfl
@[simp] theorem modPd_grain (f : PdPort → PdPort) : (modPd p f s).grain = s.grain := rfl
@[simp] theorem modPd_pattern (f : PdPort → PdPort) : (modPd p f s).pattern = s.pattern := rfl
@[simp] theorem modPd_host (f : PdPort → PdPort) : (modPd p f s).host = s.host := rfl
@[simp] theorem modPd_seam (f : PdPort → PdPort) : (modPd p f s).seam = s.seam := rfl
@[simp] theorem modPd_strap (f : PdPort → PdPort) : (modPd p f s).strap = s.strap := rfl
@[simp] theorem modPd_shown (f : PdPort → PdPort) : (modPd p f s).shown = s.shown := rfl
@[simp] theorem modPd_groups (f : PdPort → PdPort) : (modPd p f s).groups = s.groups := rfl
@[simp] theorem modPd_cmps (f : PdPort → PdPort) : (modPd p f s).cmps = s.cmps := rfl
@[simp] theorem modPd_cmpTest (f : PdPort → PdPort) : (modPd p f s).cmpTest = s.cmpTest := rfl
@[simp] theorem modPd_pgs (f : PdPort → PdPort) : (modPd p f s).pgs = s.pgs := rfl
@[simp] theorem modPd_metro (f : PdPort → PdPort) : (modPd p f s).metro = s.metro := rfl
@[simp] theorem modPd_rein (f : PdPort → PdPort) : (modPd p f s).rein = s.rein := rfl
@[simp] theorem modPd_sap (f : PdPort → PdPort) : (modPd p f s).sap = s.sap := rfl
@[simp] theorem modPd_pocket (f : PdPort → PdPort) : (modPd p f s).pocket = s.pocket := rfl
@[simp] theorem modPd_awl (f : PdPort → PdPort) : (modPd p f s).awl = s.awl := rfl
@[simp] theorem modPd_bark (f : PdPort → PdPort) : (modPd p f s).bark = s.bark := rfl
@[simp] theorem modPd_satchel (f : PdPort → PdPort) : (modPd p f s).satchel = s.satchel := rfl
@[simp] theorem modPd_tack (f : PdPort → PdPort) : (modPd p f s).tack = s.tack := rfl
@[simp] theorem modPd_wda (f : PdPort → PdPort) : (modPd p f s).wda = s.wda := rfl
@[simp] theorem modPd_wdb (f : PdPort → PdPort) : (modPd p f s).wdb = s.wdb := rfl
@[simp] theorem modPd_graft (f : PdPort → PdPort) : (modPd p f s).graft = s.graft := rfl
@[simp] theorem modPd_flash (f : PdPort → PdPort) : (modPd p f s).flash = s.flash := rfl
@[simp] theorem modPd_time (f : PdPort → PdPort) : (modPd p f s).time = s.time := rfl
@[simp] theorem modPd_ring (f : PdPort → PdPort) : (modPd p f s).ring = s.ring := rfl
@[simp] theorem modPd_policy (f : PdPort → PdPort) : (modPd p f s).policy = s.policy := rfl
@[simp] theorem modPd_raised (f : PdPort → PdPort) : (modPd p f s).raised = s.raised := rfl
@[simp] theorem modPd_freeCtr (f : PdPort → PdPort) : (modPd p f s).freeCtr = s.freeCtr := rfl

@[simp] theorem modCinch_pending (f : CinchPort → CinchPort) : (modCinch p f s).pending = s.pending := rfl
@[simp] theorem modCinch_power (f : CinchPort → CinchPort) : (modCinch p f s).power = s.power := rfl
@[simp] theorem modCinch_boot (f : CinchPort → CinchPort) : (modCinch p f s).boot = s.boot := rfl
@[simp] theorem modCinch_heart (f : CinchPort → CinchPort) : (modCinch p f s).heart = s.heart := rfl
@[simp] theorem modCinch_grain (f : CinchPort → CinchPort) : (modCinch p f s).grain = s.grain := rfl
@[simp] theorem modCinch_pattern (f : CinchPort → CinchPort) : (modCinch p f s).pattern = s.pattern := rfl
@[simp] theorem modCinch_host (f : CinchPort → CinchPort) : (modCinch p f s).host = s.host := rfl
@[simp] theorem modCinch_seam (f : CinchPort → CinchPort) : (modCinch p f s).seam = s.seam := rfl
@[simp] theorem modCinch_strap (f : CinchPort → CinchPort) : (modCinch p f s).strap = s.strap := rfl
@[simp] theorem modCinch_shown (f : CinchPort → CinchPort) : (modCinch p f s).shown = s.shown := rfl
@[simp] theorem modCinch_groups (f : CinchPort → CinchPort) : (modCinch p f s).groups = s.groups := rfl
@[simp] theorem modCinch_cmps (f : CinchPort → CinchPort) : (modCinch p f s).cmps = s.cmps := rfl
@[simp] theorem modCinch_cmpTest (f : CinchPort → CinchPort) : (modCinch p f s).cmpTest = s.cmpTest := rfl
@[simp] theorem modCinch_pgs (f : CinchPort → CinchPort) : (modCinch p f s).pgs = s.pgs := rfl
@[simp] theorem modCinch_metro (f : CinchPort → CinchPort) : (modCinch p f s).metro = s.metro := rfl
@[simp] theorem modCinch_rein (f : CinchPort → CinchPort) : (modCinch p f s).rein = s.rein := rfl
@[simp] theorem modCinch_sap (f : CinchPort → CinchPort) : (modCinch p f s).sap = s.sap := rfl
@[simp] theorem modCinch_pocket (f : CinchPort → CinchPort) : (modCinch p f s).pocket = s.pocket := rfl
@[simp] theorem modCinch_awl (f : CinchPort → CinchPort) : (modCinch p f s).awl = s.awl := rfl
@[simp] theorem modCinch_bark (f : CinchPort → CinchPort) : (modCinch p f s).bark = s.bark := rfl
@[simp] theorem modCinch_satchel (f : CinchPort → CinchPort) : (modCinch p f s).satchel = s.satchel := rfl
@[simp] theorem modCinch_tack (f : CinchPort → CinchPort) : (modCinch p f s).tack = s.tack := rfl
@[simp] theorem modCinch_wda (f : CinchPort → CinchPort) : (modCinch p f s).wda = s.wda := rfl
@[simp] theorem modCinch_wdb (f : CinchPort → CinchPort) : (modCinch p f s).wdb = s.wdb := rfl
@[simp] theorem modCinch_graft (f : CinchPort → CinchPort) : (modCinch p f s).graft = s.graft := rfl
@[simp] theorem modCinch_flash (f : CinchPort → CinchPort) : (modCinch p f s).flash = s.flash := rfl
@[simp] theorem modCinch_time (f : CinchPort → CinchPort) : (modCinch p f s).time = s.time := rfl
@[simp] theorem modCinch_ring (f : CinchPort → CinchPort) : (modCinch p f s).ring = s.ring := rfl
@[simp] theorem modCinch_policy (f : CinchPort → CinchPort) : (modCinch p f s).policy = s.policy := rfl
@[simp] theorem modCinch_raised (f : CinchPort → CinchPort) : (modCinch p f s).raised = s.raised := rfl
@[simp] theorem modCinch_freeCtr (f : CinchPort → CinchPort) : (modCinch p f s).freeCtr = s.freeCtr := rfl

@[simp] theorem modMetro_pending (f : MetroPort → MetroPort) : (modMetro p f s).pending = s.pending := rfl
@[simp] theorem modMetro_power (f : MetroPort → MetroPort) : (modMetro p f s).power = s.power := rfl
@[simp] theorem modMetro_boot (f : MetroPort → MetroPort) : (modMetro p f s).boot = s.boot := rfl
@[simp] theorem modMetro_heart (f : MetroPort → MetroPort) : (modMetro p f s).heart = s.heart := rfl
@[simp] theorem modMetro_grain (f : MetroPort → MetroPort) : (modMetro p f s).grain = s.grain := rfl
@[simp] theorem modMetro_pattern (f : MetroPort → MetroPort) : (modMetro p f s).pattern = s.pattern := rfl
@[simp] theorem modMetro_host (f : MetroPort → MetroPort) : (modMetro p f s).host = s.host := rfl
@[simp] theorem modMetro_seam (f : MetroPort → MetroPort) : (modMetro p f s).seam = s.seam := rfl
@[simp] theorem modMetro_strap (f : MetroPort → MetroPort) : (modMetro p f s).strap = s.strap := rfl
@[simp] theorem modMetro_shown (f : MetroPort → MetroPort) : (modMetro p f s).shown = s.shown := rfl
@[simp] theorem modMetro_groups (f : MetroPort → MetroPort) : (modMetro p f s).groups = s.groups := rfl
@[simp] theorem modMetro_cmps (f : MetroPort → MetroPort) : (modMetro p f s).cmps = s.cmps := rfl
@[simp] theorem modMetro_cmpTest (f : MetroPort → MetroPort) : (modMetro p f s).cmpTest = s.cmpTest := rfl
@[simp] theorem modMetro_pgs (f : MetroPort → MetroPort) : (modMetro p f s).pgs = s.pgs := rfl
@[simp] theorem modMetro_metro (f : MetroPort → MetroPort) : (modMetro p f s).metro = s.metro := rfl
@[simp] theorem modMetro_rein (f : MetroPort → MetroPort) : (modMetro p f s).rein = s.rein := rfl
@[simp] theorem modMetro_sap (f : MetroPort → MetroPort) : (modMetro p f s).sap = s.sap := rfl
@[simp] theorem modMetro_pocket (f : MetroPort → MetroPort) : (modMetro p f s).pocket = s.pocket := rfl
@[simp] theorem modMetro_awl (f : MetroPort → MetroPort) : (modMetro p f s).awl = s.awl := rfl
@[simp] theorem modMetro_bark (f : MetroPort → MetroPort) : (modMetro p f s).bark = s.bark := rfl
@[simp] theorem modMetro_satchel (f : MetroPort → MetroPort) : (modMetro p f s).satchel = s.satchel := rfl
@[simp] theorem modMetro_tack (f : MetroPort → MetroPort) : (modMetro p f s).tack = s.tack := rfl
@[simp] theorem modMetro_wda (f : MetroPort → MetroPort) : (modMetro p f s).wda = s.wda := rfl
@[simp] theorem modMetro_wdb (f : MetroPort → MetroPort) : (modMetro p f s).wdb = s.wdb := rfl
@[simp] theorem modMetro_graft (f : MetroPort → MetroPort) : (modMetro p f s).graft = s.graft := rfl
@[simp] theorem modMetro_flash (f : MetroPort → MetroPort) : (modMetro p f s).flash = s.flash := rfl
@[simp] theorem modMetro_time (f : MetroPort → MetroPort) : (modMetro p f s).time = s.time := rfl
@[simp] theorem modMetro_ring (f : MetroPort → MetroPort) : (modMetro p f s).ring = s.ring := rfl
@[simp] theorem modMetro_policy (f : MetroPort → MetroPort) : (modMetro p f s).policy = s.policy := rfl
@[simp] theorem modMetro_raised (f : MetroPort → MetroPort) : (modMetro p f s).raised = s.raised := rfl
@[simp] theorem modMetro_freeCtr (f : MetroPort → MetroPort) : (modMetro p f s).freeCtr = s.freeCtr := rfl

@[simp] theorem modHold_pending (f : HoldPort → HoldPort) : (modHold p f s).pending = s.pending := rfl
@[simp] theorem modHold_power (f : HoldPort → HoldPort) : (modHold p f s).power = s.power := rfl
@[simp] theorem modHold_boot (f : HoldPort → HoldPort) : (modHold p f s).boot = s.boot := rfl
@[simp] theorem modHold_heart (f : HoldPort → HoldPort) : (modHold p f s).heart = s.heart := rfl
@[simp] theorem modHold_grain (f : HoldPort → HoldPort) : (modHold p f s).grain = s.grain := rfl
@[simp] theorem modHold_pattern (f : HoldPort → HoldPort) : (modHold p f s).pattern = s.pattern := rfl
@[simp] theorem modHold_host (f : HoldPort → HoldPort) : (modHold p f s).host = s.host := rfl
@[simp] theorem modHold_seam (f : HoldPort → HoldPort) : (modHold p f s).seam = s.seam := rfl
@[simp] theorem modHold_ports (f : HoldPort → HoldPort) : (modHold p f s).ports = s.ports := rfl
@[simp] theorem modHold_shown (f : HoldPort → HoldPort) : (modHold p f s).shown = s.shown := rfl
@[simp] theorem modHold_groups (f : HoldPort → HoldPort) : (modHold p f s).groups = s.groups := rfl
@[simp] theorem modHold_cmps (f : HoldPort → HoldPort) : (modHold p f s).cmps = s.cmps := rfl
@[simp] theorem modHold_cmpTest (f : HoldPort → HoldPort) : (modHold p f s).cmpTest = s.cmpTest := rfl
@[simp] theorem modHold_pgs (f : HoldPort → HoldPort) : (modHold p f s).pgs = s.pgs := rfl
@[simp] theorem modHold_metro (f : HoldPort → HoldPort) : (modHold p f s).metro = s.metro := rfl
@[simp] theorem modHold_rein (f : HoldPort → HoldPort) : (modHold p f s).rein = s.rein := rfl
@[simp] theorem modHold_sap (f : HoldPort → HoldPort) : (modHold p f s).sap = s.sap := rfl
@[simp] theorem modHold_pocket (f : HoldPort → HoldPort) : (modHold p f s).pocket = s.pocket := rfl
@[simp] theorem modHold_awl (f : HoldPort → HoldPort) : (modHold p f s).awl = s.awl := rfl
@[simp] theorem modHold_bark (f : HoldPort → HoldPort) : (modHold p f s).bark = s.bark := rfl
@[simp] theorem modHold_satchel (f : HoldPort → HoldPort) : (modHold p f s).satchel = s.satchel := rfl
@[simp] theorem modHold_tack (f : HoldPort → HoldPort) : (modHold p f s).tack = s.tack := rfl
@[simp] theorem modHold_wda (f : HoldPort → HoldPort) : (modHold p f s).wda = s.wda := rfl
@[simp] theorem modHold_wdb (f : HoldPort → HoldPort) : (modHold p f s).wdb = s.wdb := rfl
@[simp] theorem modHold_graft (f : HoldPort → HoldPort) : (modHold p f s).graft = s.graft := rfl
@[simp] theorem modHold_flash (f : HoldPort → HoldPort) : (modHold p f s).flash = s.flash := rfl
@[simp] theorem modHold_time (f : HoldPort → HoldPort) : (modHold p f s).time = s.time := rfl
@[simp] theorem modHold_ring (f : HoldPort → HoldPort) : (modHold p f s).ring = s.ring := rfl
@[simp] theorem modHold_policy (f : HoldPort → HoldPort) : (modHold p f s).policy = s.policy := rfl
@[simp] theorem modHold_raised (f : HoldPort → HoldPort) : (modHold p f s).raised = s.raised := rfl
@[simp] theorem modHold_freeCtr (f : HoldPort → HoldPort) : (modHold p f s).freeCtr = s.freeCtr := rfl

@[simp] theorem modGroup_pending (f : Group → Group) : (modGroup g f s).pending = s.pending := rfl
@[simp] theorem modGroup_power (f : Group → Group) : (modGroup g f s).power = s.power := rfl
@[simp] theorem modGroup_boot (f : Group → Group) : (modGroup g f s).boot = s.boot := rfl
@[simp] theorem modGroup_heart (f : Group → Group) : (modGroup g f s).heart = s.heart := rfl
@[simp] theorem modGroup_grain (f : Group → Group) : (modGroup g f s).grain = s.grain := rfl
@[simp] theorem modGroup_pattern (f : Group → Group) : (modGroup g f s).pattern = s.pattern := rfl
@[simp] theorem modGroup_host (f : Group → Group) : (modGroup g f s).host = s.host := rfl
@[simp] theorem modGroup_seam (f : Group → Group) : (modGroup g f s).seam = s.seam := rfl
@[simp] theorem modGroup_strap (f : Group → Group) : (modGroup g f s).strap = s.strap := rfl
@[simp] theorem modGroup_ports (f : Group → Group) : (modGroup g f s).ports = s.ports := rfl
@[simp] theorem modGroup_shown (f : Group → Group) : (modGroup g f s).shown = s.shown := rfl
@[simp] theorem modGroup_cmps (f : Group → Group) : (modGroup g f s).cmps = s.cmps := rfl
@[simp] theorem modGroup_cmpTest (f : Group → Group) : (modGroup g f s).cmpTest = s.cmpTest := rfl
@[simp] theorem modGroup_pgs (f : Group → Group) : (modGroup g f s).pgs = s.pgs := rfl
@[simp] theorem modGroup_metro (f : Group → Group) : (modGroup g f s).metro = s.metro := rfl
@[simp] theorem modGroup_rein (f : Group → Group) : (modGroup g f s).rein = s.rein := rfl
@[simp] theorem modGroup_sap (f : Group → Group) : (modGroup g f s).sap = s.sap := rfl
@[simp] theorem modGroup_pocket (f : Group → Group) : (modGroup g f s).pocket = s.pocket := rfl
@[simp] theorem modGroup_awl (f : Group → Group) : (modGroup g f s).awl = s.awl := rfl
@[simp] theorem modGroup_bark (f : Group → Group) : (modGroup g f s).bark = s.bark := rfl
@[simp] theorem modGroup_satchel (f : Group → Group) : (modGroup g f s).satchel = s.satchel := rfl
@[simp] theorem modGroup_tack (f : Group → Group) : (modGroup g f s).tack = s.tack := rfl
@[simp] theorem modGroup_wda (f : Group → Group) : (modGroup g f s).wda = s.wda := rfl
@[simp] theorem modGroup_wdb (f : Group → Group) : (modGroup g f s).wdb = s.wdb := rfl
@[simp] theorem modGroup_graft (f : Group → Group) : (modGroup g f s).graft = s.graft := rfl
@[simp] theorem modGroup_flash (f : Group → Group) : (modGroup g f s).flash = s.flash := rfl
@[simp] theorem modGroup_time (f : Group → Group) : (modGroup g f s).time = s.time := rfl
@[simp] theorem modGroup_ring (f : Group → Group) : (modGroup g f s).ring = s.ring := rfl
@[simp] theorem modGroup_policy (f : Group → Group) : (modGroup g f s).policy = s.policy := rfl
@[simp] theorem modGroup_raised (f : Group → Group) : (modGroup g f s).raised = s.raised := rfl
@[simp] theorem modGroup_freeCtr (f : Group → Group) : (modGroup g f s).freeCtr = s.freeCtr := rfl

@[simp] theorem modCmp_pending (f : Cmp → Cmp) : (modCmp p f s).pending = s.pending := rfl
@[simp] theorem modCmp_power (f : Cmp → Cmp) : (modCmp p f s).power = s.power := rfl
@[simp] theorem modCmp_boot (f : Cmp → Cmp) : (modCmp p f s).boot = s.boot := rfl
@[simp] theorem modCmp_heart (f : Cmp → Cmp) : (modCmp p f s).heart = s.heart := rfl
@[simp] theorem modCmp_grain (f : Cmp → Cmp) : (modCmp p f s).grain = s.grain := rfl
@[simp] theorem modCmp_pattern (f : Cmp → Cmp) : (modCmp p f s).pattern = s.pattern := rfl
@[simp] theorem modCmp_host (f : Cmp → Cmp) : (modCmp p f s).host = s.host := rfl
@[simp] theorem modCmp_seam (f : Cmp → Cmp) : (modCmp p f s).seam = s.seam := rfl
@[simp] theorem modCmp_strap (f : Cmp → Cmp) : (modCmp p f s).strap = s.strap := rfl
@[simp] theorem modCmp_ports (f : Cmp → Cmp) : (modCmp p f s).ports = s.ports := rfl
@[simp] theorem modCmp_shown (f : Cmp → Cmp) : (modCmp p f s).shown = s.shown := rfl
@[simp] theorem modCmp_groups (f : Cmp → Cmp) : (modCmp p f s).groups = s.groups := rfl
@[simp] theorem modCmp_cmpTest (f : Cmp → Cmp) : (modCmp p f s).cmpTest = s.cmpTest := rfl
@[simp] theorem modCmp_pgs (f : Cmp → Cmp) : (modCmp p f s).pgs = s.pgs := rfl
@[simp] theorem modCmp_metro (f : Cmp → Cmp) : (modCmp p f s).metro = s.metro := rfl
@[simp] theorem modCmp_rein (f : Cmp → Cmp) : (modCmp p f s).rein = s.rein := rfl
@[simp] theorem modCmp_sap (f : Cmp → Cmp) : (modCmp p f s).sap = s.sap := rfl
@[simp] theorem modCmp_pocket (f : Cmp → Cmp) : (modCmp p f s).pocket = s.pocket := rfl
@[simp] theorem modCmp_awl (f : Cmp → Cmp) : (modCmp p f s).awl = s.awl := rfl
@[simp] theorem modCmp_bark (f : Cmp → Cmp) : (modCmp p f s).bark = s.bark := rfl
@[simp] theorem modCmp_satchel (f : Cmp → Cmp) : (modCmp p f s).satchel = s.satchel := rfl
@[simp] theorem modCmp_tack (f : Cmp → Cmp) : (modCmp p f s).tack = s.tack := rfl
@[simp] theorem modCmp_wda (f : Cmp → Cmp) : (modCmp p f s).wda = s.wda := rfl
@[simp] theorem modCmp_wdb (f : Cmp → Cmp) : (modCmp p f s).wdb = s.wdb := rfl
@[simp] theorem modCmp_graft (f : Cmp → Cmp) : (modCmp p f s).graft = s.graft := rfl
@[simp] theorem modCmp_flash (f : Cmp → Cmp) : (modCmp p f s).flash = s.flash := rfl
@[simp] theorem modCmp_time (f : Cmp → Cmp) : (modCmp p f s).time = s.time := rfl
@[simp] theorem modCmp_ring (f : Cmp → Cmp) : (modCmp p f s).ring = s.ring := rfl
@[simp] theorem modCmp_policy (f : Cmp → Cmp) : (modCmp p f s).policy = s.policy := rfl
@[simp] theorem modCmp_raised (f : Cmp → Cmp) : (modCmp p f s).raised = s.raised := rfl
@[simp] theorem modCmp_freeCtr (f : Cmp → Cmp) : (modCmp p f s).freeCtr = s.freeCtr := rfl

@[simp] theorem modPg_pending (f : Pg → Pg) : (modPg p f s).pending = s.pending := rfl
@[simp] theorem modPg_power (f : Pg → Pg) : (modPg p f s).power = s.power := rfl
@[simp] theorem modPg_boot (f : Pg → Pg) : (modPg p f s).boot = s.boot := rfl
@[simp] theorem modPg_heart (f : Pg → Pg) : (modPg p f s).heart = s.heart := rfl
@[simp] theorem modPg_grain (f : Pg → Pg) : (modPg p f s).grain = s.grain := rfl
@[simp] theorem modPg_pattern (f : Pg → Pg) : (modPg p f s).pattern = s.pattern := rfl
@[simp] theorem modPg_host (f : Pg → Pg) : (modPg p f s).host = s.host := rfl
@[simp] theorem modPg_seam (f : Pg → Pg) : (modPg p f s).seam = s.seam := rfl
@[simp] theorem modPg_strap (f : Pg → Pg) : (modPg p f s).strap = s.strap := rfl
@[simp] theorem modPg_ports (f : Pg → Pg) : (modPg p f s).ports = s.ports := rfl
@[simp] theorem modPg_shown (f : Pg → Pg) : (modPg p f s).shown = s.shown := rfl
@[simp] theorem modPg_groups (f : Pg → Pg) : (modPg p f s).groups = s.groups := rfl
@[simp] theorem modPg_cmps (f : Pg → Pg) : (modPg p f s).cmps = s.cmps := rfl
@[simp] theorem modPg_cmpTest (f : Pg → Pg) : (modPg p f s).cmpTest = s.cmpTest := rfl
@[simp] theorem modPg_metro (f : Pg → Pg) : (modPg p f s).metro = s.metro := rfl
@[simp] theorem modPg_rein (f : Pg → Pg) : (modPg p f s).rein = s.rein := rfl
@[simp] theorem modPg_sap (f : Pg → Pg) : (modPg p f s).sap = s.sap := rfl
@[simp] theorem modPg_pocket (f : Pg → Pg) : (modPg p f s).pocket = s.pocket := rfl
@[simp] theorem modPg_awl (f : Pg → Pg) : (modPg p f s).awl = s.awl := rfl
@[simp] theorem modPg_bark (f : Pg → Pg) : (modPg p f s).bark = s.bark := rfl
@[simp] theorem modPg_satchel (f : Pg → Pg) : (modPg p f s).satchel = s.satchel := rfl
@[simp] theorem modPg_tack (f : Pg → Pg) : (modPg p f s).tack = s.tack := rfl
@[simp] theorem modPg_wda (f : Pg → Pg) : (modPg p f s).wda = s.wda := rfl
@[simp] theorem modPg_wdb (f : Pg → Pg) : (modPg p f s).wdb = s.wdb := rfl
@[simp] theorem modPg_graft (f : Pg → Pg) : (modPg p f s).graft = s.graft := rfl
@[simp] theorem modPg_flash (f : Pg → Pg) : (modPg p f s).flash = s.flash := rfl
@[simp] theorem modPg_time (f : Pg → Pg) : (modPg p f s).time = s.time := rfl
@[simp] theorem modPg_ring (f : Pg → Pg) : (modPg p f s).ring = s.ring := rfl
@[simp] theorem modPg_policy (f : Pg → Pg) : (modPg p f s).policy = s.policy := rfl
@[simp] theorem modPg_raised (f : Pg → Pg) : (modPg p f s).raised = s.raised := rfl
@[simp] theorem modPg_freeCtr (f : Pg → Pg) : (modPg p f s).freeCtr = s.freeCtr := rfl

@[simp] theorem modStand_pending (f : Stand → Stand) : (modStand k f s).pending = s.pending := rfl
@[simp] theorem modStand_power (f : Stand → Stand) : (modStand k f s).power = s.power := rfl
@[simp] theorem modStand_boot (f : Stand → Stand) : (modStand k f s).boot = s.boot := rfl
@[simp] theorem modStand_heart (f : Stand → Stand) : (modStand k f s).heart = s.heart := rfl
@[simp] theorem modStand_pattern (f : Stand → Stand) : (modStand k f s).pattern = s.pattern := rfl
@[simp] theorem modStand_host (f : Stand → Stand) : (modStand k f s).host = s.host := rfl
@[simp] theorem modStand_seam (f : Stand → Stand) : (modStand k f s).seam = s.seam := rfl
@[simp] theorem modStand_strap (f : Stand → Stand) : (modStand k f s).strap = s.strap := rfl
@[simp] theorem modStand_ports (f : Stand → Stand) : (modStand k f s).ports = s.ports := rfl
@[simp] theorem modStand_shown (f : Stand → Stand) : (modStand k f s).shown = s.shown := rfl
@[simp] theorem modStand_groups (f : Stand → Stand) : (modStand k f s).groups = s.groups := rfl
@[simp] theorem modStand_cmps (f : Stand → Stand) : (modStand k f s).cmps = s.cmps := rfl
@[simp] theorem modStand_cmpTest (f : Stand → Stand) : (modStand k f s).cmpTest = s.cmpTest := rfl
@[simp] theorem modStand_pgs (f : Stand → Stand) : (modStand k f s).pgs = s.pgs := rfl
@[simp] theorem modStand_metro (f : Stand → Stand) : (modStand k f s).metro = s.metro := rfl
@[simp] theorem modStand_rein (f : Stand → Stand) : (modStand k f s).rein = s.rein := rfl
@[simp] theorem modStand_sap (f : Stand → Stand) : (modStand k f s).sap = s.sap := rfl
@[simp] theorem modStand_pocket (f : Stand → Stand) : (modStand k f s).pocket = s.pocket := rfl
@[simp] theorem modStand_awl (f : Stand → Stand) : (modStand k f s).awl = s.awl := rfl
@[simp] theorem modStand_bark (f : Stand → Stand) : (modStand k f s).bark = s.bark := rfl
@[simp] theorem modStand_satchel (f : Stand → Stand) : (modStand k f s).satchel = s.satchel := rfl
@[simp] theorem modStand_tack (f : Stand → Stand) : (modStand k f s).tack = s.tack := rfl
@[simp] theorem modStand_wda (f : Stand → Stand) : (modStand k f s).wda = s.wda := rfl
@[simp] theorem modStand_wdb (f : Stand → Stand) : (modStand k f s).wdb = s.wdb := rfl
@[simp] theorem modStand_graft (f : Stand → Stand) : (modStand k f s).graft = s.graft := rfl
@[simp] theorem modStand_flash (f : Stand → Stand) : (modStand k f s).flash = s.flash := rfl
@[simp] theorem modStand_time (f : Stand → Stand) : (modStand k f s).time = s.time := rfl
@[simp] theorem modStand_ring (f : Stand → Stand) : (modStand k f s).ring = s.ring := rfl
@[simp] theorem modStand_policy (f : Stand → Stand) : (modStand k f s).policy = s.policy := rfl
@[simp] theorem modStand_raised (f : Stand → Stand) : (modStand k f s).raised = s.raised := rfl
@[simp] theorem modStand_freeCtr (f : Stand → Stand) : (modStand k f s).freeCtr = s.freeCtr := rfl

@[simp] theorem modItem_pending (f : PkItem → PkItem) : (modItem i f s).pending = s.pending := rfl
@[simp] theorem modItem_power (f : PkItem → PkItem) : (modItem i f s).power = s.power := rfl
@[simp] theorem modItem_boot (f : PkItem → PkItem) : (modItem i f s).boot = s.boot := rfl
@[simp] theorem modItem_heart (f : PkItem → PkItem) : (modItem i f s).heart = s.heart := rfl
@[simp] theorem modItem_grain (f : PkItem → PkItem) : (modItem i f s).grain = s.grain := rfl
@[simp] theorem modItem_pattern (f : PkItem → PkItem) : (modItem i f s).pattern = s.pattern := rfl
@[simp] theorem modItem_host (f : PkItem → PkItem) : (modItem i f s).host = s.host := rfl
@[simp] theorem modItem_seam (f : PkItem → PkItem) : (modItem i f s).seam = s.seam := rfl
@[simp] theorem modItem_strap (f : PkItem → PkItem) : (modItem i f s).strap = s.strap := rfl
@[simp] theorem modItem_ports (f : PkItem → PkItem) : (modItem i f s).ports = s.ports := rfl
@[simp] theorem modItem_shown (f : PkItem → PkItem) : (modItem i f s).shown = s.shown := rfl
@[simp] theorem modItem_groups (f : PkItem → PkItem) : (modItem i f s).groups = s.groups := rfl
@[simp] theorem modItem_cmps (f : PkItem → PkItem) : (modItem i f s).cmps = s.cmps := rfl
@[simp] theorem modItem_cmpTest (f : PkItem → PkItem) : (modItem i f s).cmpTest = s.cmpTest := rfl
@[simp] theorem modItem_pgs (f : PkItem → PkItem) : (modItem i f s).pgs = s.pgs := rfl
@[simp] theorem modItem_metro (f : PkItem → PkItem) : (modItem i f s).metro = s.metro := rfl
@[simp] theorem modItem_rein (f : PkItem → PkItem) : (modItem i f s).rein = s.rein := rfl
@[simp] theorem modItem_sap (f : PkItem → PkItem) : (modItem i f s).sap = s.sap := rfl
@[simp] theorem modItem_awl (f : PkItem → PkItem) : (modItem i f s).awl = s.awl := rfl
@[simp] theorem modItem_bark (f : PkItem → PkItem) : (modItem i f s).bark = s.bark := rfl
@[simp] theorem modItem_satchel (f : PkItem → PkItem) : (modItem i f s).satchel = s.satchel := rfl
@[simp] theorem modItem_tack (f : PkItem → PkItem) : (modItem i f s).tack = s.tack := rfl
@[simp] theorem modItem_wda (f : PkItem → PkItem) : (modItem i f s).wda = s.wda := rfl
@[simp] theorem modItem_wdb (f : PkItem → PkItem) : (modItem i f s).wdb = s.wdb := rfl
@[simp] theorem modItem_graft (f : PkItem → PkItem) : (modItem i f s).graft = s.graft := rfl
@[simp] theorem modItem_flash (f : PkItem → PkItem) : (modItem i f s).flash = s.flash := rfl
@[simp] theorem modItem_time (f : PkItem → PkItem) : (modItem i f s).time = s.time := rfl
@[simp] theorem modItem_ring (f : PkItem → PkItem) : (modItem i f s).ring = s.ring := rfl
@[simp] theorem modItem_policy (f : PkItem → PkItem) : (modItem i f s).policy = s.policy := rfl
@[simp] theorem modItem_raised (f : PkItem → PkItem) : (modItem i f s).raised = s.raised := rfl
@[simp] theorem modItem_freeCtr (f : PkItem → PkItem) : (modItem i f s).freeCtr = s.freeCtr := rfl

@[simp] theorem modRein_pending (f : Rein → Rein) : (modRein f s).pending = s.pending := rfl
@[simp] theorem modRein_power (f : Rein → Rein) : (modRein f s).power = s.power := rfl
@[simp] theorem modRein_boot (f : Rein → Rein) : (modRein f s).boot = s.boot := rfl
@[simp] theorem modRein_heart (f : Rein → Rein) : (modRein f s).heart = s.heart := rfl
@[simp] theorem modRein_grain (f : Rein → Rein) : (modRein f s).grain = s.grain := rfl
@[simp] theorem modRein_pattern (f : Rein → Rein) : (modRein f s).pattern = s.pattern := rfl
@[simp] theorem modRein_host (f : Rein → Rein) : (modRein f s).host = s.host := rfl
@[simp] theorem modRein_seam (f : Rein → Rein) : (modRein f s).seam = s.seam := rfl
@[simp] theorem modRein_strap (f : Rein → Rein) : (modRein f s).strap = s.strap := rfl
@[simp] theorem modRein_ports (f : Rein → Rein) : (modRein f s).ports = s.ports := rfl
@[simp] theorem modRein_shown (f : Rein → Rein) : (modRein f s).shown = s.shown := rfl
@[simp] theorem modRein_groups (f : Rein → Rein) : (modRein f s).groups = s.groups := rfl
@[simp] theorem modRein_cmps (f : Rein → Rein) : (modRein f s).cmps = s.cmps := rfl
@[simp] theorem modRein_cmpTest (f : Rein → Rein) : (modRein f s).cmpTest = s.cmpTest := rfl
@[simp] theorem modRein_pgs (f : Rein → Rein) : (modRein f s).pgs = s.pgs := rfl
@[simp] theorem modRein_metro (f : Rein → Rein) : (modRein f s).metro = s.metro := rfl
@[simp] theorem modRein_sap (f : Rein → Rein) : (modRein f s).sap = s.sap := rfl
@[simp] theorem modRein_pocket (f : Rein → Rein) : (modRein f s).pocket = s.pocket := rfl
@[simp] theorem modRein_awl (f : Rein → Rein) : (modRein f s).awl = s.awl := rfl
@[simp] theorem modRein_bark (f : Rein → Rein) : (modRein f s).bark = s.bark := rfl
@[simp] theorem modRein_satchel (f : Rein → Rein) : (modRein f s).satchel = s.satchel := rfl
@[simp] theorem modRein_tack (f : Rein → Rein) : (modRein f s).tack = s.tack := rfl
@[simp] theorem modRein_wda (f : Rein → Rein) : (modRein f s).wda = s.wda := rfl
@[simp] theorem modRein_wdb (f : Rein → Rein) : (modRein f s).wdb = s.wdb := rfl
@[simp] theorem modRein_graft (f : Rein → Rein) : (modRein f s).graft = s.graft := rfl
@[simp] theorem modRein_flash (f : Rein → Rein) : (modRein f s).flash = s.flash := rfl
@[simp] theorem modRein_time (f : Rein → Rein) : (modRein f s).time = s.time := rfl
@[simp] theorem modRein_ring (f : Rein → Rein) : (modRein f s).ring = s.ring := rfl
@[simp] theorem modRein_policy (f : Rein → Rein) : (modRein f s).policy = s.policy := rfl
@[simp] theorem modRein_raised (f : Rein → Rein) : (modRein f s).raised = s.raised := rfl
@[simp] theorem modRein_freeCtr (f : Rein → Rein) : (modRein f s).freeCtr = s.freeCtr := rfl

@[simp] theorem setSlot_pending : (setSlot k v s).pending = s.pending := rfl
@[simp] theorem setSlot_power : (setSlot k v s).power = s.power := rfl
@[simp] theorem setSlot_boot : (setSlot k v s).boot = s.boot := rfl
@[simp] theorem setSlot_heart : (setSlot k v s).heart = s.heart := rfl
@[simp] theorem setSlot_grain : (setSlot k v s).grain = s.grain := rfl
@[simp] theorem setSlot_pattern : (setSlot k v s).pattern = s.pattern := rfl
@[simp] theorem setSlot_host : (setSlot k v s).host = s.host := rfl
@[simp] theorem setSlot_seam : (setSlot k v s).seam = s.seam := rfl
@[simp] theorem setSlot_strap : (setSlot k v s).strap = s.strap := rfl
@[simp] theorem setSlot_ports : (setSlot k v s).ports = s.ports := rfl
@[simp] theorem setSlot_shown : (setSlot k v s).shown = s.shown := rfl
@[simp] theorem setSlot_groups : (setSlot k v s).groups = s.groups := rfl
@[simp] theorem setSlot_cmps : (setSlot k v s).cmps = s.cmps := rfl
@[simp] theorem setSlot_cmpTest : (setSlot k v s).cmpTest = s.cmpTest := rfl
@[simp] theorem setSlot_pgs : (setSlot k v s).pgs = s.pgs := rfl
@[simp] theorem setSlot_metro : (setSlot k v s).metro = s.metro := rfl
@[simp] theorem setSlot_rein : (setSlot k v s).rein = s.rein := rfl
@[simp] theorem setSlot_sap : (setSlot k v s).sap = s.sap := rfl
@[simp] theorem setSlot_awl : (setSlot k v s).awl = s.awl := rfl
@[simp] theorem setSlot_bark : (setSlot k v s).bark = s.bark := rfl
@[simp] theorem setSlot_satchel : (setSlot k v s).satchel = s.satchel := rfl
@[simp] theorem setSlot_tack : (setSlot k v s).tack = s.tack := rfl
@[simp] theorem setSlot_wda : (setSlot k v s).wda = s.wda := rfl
@[simp] theorem setSlot_wdb : (setSlot k v s).wdb = s.wdb := rfl
@[simp] theorem setSlot_graft : (setSlot k v s).graft = s.graft := rfl
@[simp] theorem setSlot_flash : (setSlot k v s).flash = s.flash := rfl
@[simp] theorem setSlot_time : (setSlot k v s).time = s.time := rfl
@[simp] theorem setSlot_ring : (setSlot k v s).ring = s.ring := rfl
@[simp] theorem setSlot_policy : (setSlot k v s).policy = s.policy := rfl
@[simp] theorem setSlot_raised : (setSlot k v s).raised = s.raised := rfl
@[simp] theorem setSlot_freeCtr : (setSlot k v s).freeCtr = s.freeCtr := rfl

@[simp] theorem drawn_pending : (drawn s).pending = s.pending := rfl
@[simp] theorem drawn_power : (drawn s).power = s.power := rfl
@[simp] theorem drawn_boot : (drawn s).boot = s.boot := rfl
@[simp] theorem drawn_heart : (drawn s).heart = s.heart := rfl
@[simp] theorem drawn_grain : (drawn s).grain = s.grain := rfl
@[simp] theorem drawn_pattern : (drawn s).pattern = s.pattern := rfl
@[simp] theorem drawn_host : (drawn s).host = s.host := rfl
@[simp] theorem drawn_seam : (drawn s).seam = s.seam := rfl
@[simp] theorem drawn_strap : (drawn s).strap = s.strap := rfl
@[simp] theorem drawn_ports : (drawn s).ports = s.ports := rfl
@[simp] theorem drawn_shown : (drawn s).shown = s.shown := rfl
@[simp] theorem drawn_groups : (drawn s).groups = s.groups := rfl
@[simp] theorem drawn_cmps : (drawn s).cmps = s.cmps := rfl
@[simp] theorem drawn_cmpTest : (drawn s).cmpTest = s.cmpTest := rfl
@[simp] theorem drawn_pgs : (drawn s).pgs = s.pgs := rfl
@[simp] theorem drawn_metro : (drawn s).metro = s.metro := rfl
@[simp] theorem drawn_rein : (drawn s).rein = s.rein := rfl
@[simp] theorem drawn_sap : (drawn s).sap = s.sap := rfl
@[simp] theorem drawn_pocket : (drawn s).pocket = s.pocket := rfl
@[simp] theorem drawn_awl : (drawn s).awl = s.awl := rfl
@[simp] theorem drawn_bark : (drawn s).bark = s.bark := rfl
@[simp] theorem drawn_satchel : (drawn s).satchel = s.satchel := rfl
@[simp] theorem drawn_tack : (drawn s).tack = s.tack := rfl
@[simp] theorem drawn_wda : (drawn s).wda = s.wda := rfl
@[simp] theorem drawn_wdb : (drawn s).wdb = s.wdb := rfl
@[simp] theorem drawn_graft : (drawn s).graft = s.graft := rfl
@[simp] theorem drawn_flash : (drawn s).flash = s.flash := rfl
@[simp] theorem drawn_time : (drawn s).time = s.time := rfl
@[simp] theorem drawn_ring : (drawn s).ring = s.ring := rfl
@[simp] theorem drawn_policy : (drawn s).policy = s.policy := rfl
@[simp] theorem drawn_raised : (drawn s).raised = s.raised := rfl

@[simp] theorem irq_pending : (irq n s).pending = s.pending := rfl
@[simp] theorem irq_power : (irq n s).power = s.power := rfl
@[simp] theorem irq_boot : (irq n s).boot = s.boot := rfl
@[simp] theorem irq_heart : (irq n s).heart = s.heart := rfl
@[simp] theorem irq_grain : (irq n s).grain = s.grain := rfl
@[simp] theorem irq_pattern : (irq n s).pattern = s.pattern := rfl
@[simp] theorem irq_seam : (irq n s).seam = s.seam := rfl
@[simp] theorem irq_strap : (irq n s).strap = s.strap := rfl
@[simp] theorem irq_ports : (irq n s).ports = s.ports := rfl
@[simp] theorem irq_shown : (irq n s).shown = s.shown := rfl
@[simp] theorem irq_groups : (irq n s).groups = s.groups := rfl
@[simp] theorem irq_cmps : (irq n s).cmps = s.cmps := rfl
@[simp] theorem irq_cmpTest : (irq n s).cmpTest = s.cmpTest := rfl
@[simp] theorem irq_pgs : (irq n s).pgs = s.pgs := rfl
@[simp] theorem irq_metro : (irq n s).metro = s.metro := rfl
@[simp] theorem irq_rein : (irq n s).rein = s.rein := rfl
@[simp] theorem irq_sap : (irq n s).sap = s.sap := rfl
@[simp] theorem irq_pocket : (irq n s).pocket = s.pocket := rfl
@[simp] theorem irq_awl : (irq n s).awl = s.awl := rfl
@[simp] theorem irq_bark : (irq n s).bark = s.bark := rfl
@[simp] theorem irq_satchel : (irq n s).satchel = s.satchel := rfl
@[simp] theorem irq_tack : (irq n s).tack = s.tack := rfl
@[simp] theorem irq_wda : (irq n s).wda = s.wda := rfl
@[simp] theorem irq_wdb : (irq n s).wdb = s.wdb := rfl
@[simp] theorem irq_graft : (irq n s).graft = s.graft := rfl
@[simp] theorem irq_flash : (irq n s).flash = s.flash := rfl
@[simp] theorem irq_time : (irq n s).time = s.time := rfl
@[simp] theorem irq_ring : (irq n s).ring = s.ring := rfl
@[simp] theorem irq_policy : (irq n s).policy = s.policy := rfl
@[simp] theorem irq_raised : (irq n s).raised = s.raised := rfl
@[simp] theorem irq_freeCtr : (irq n s).freeCtr = s.freeCtr := rfl

@[simp] theorem alarmBit_pending : (alarmBit n b s).pending = s.pending := rfl
@[simp] theorem alarmBit_power : (alarmBit n b s).power = s.power := rfl
@[simp] theorem alarmBit_boot : (alarmBit n b s).boot = s.boot := rfl
@[simp] theorem alarmBit_heart : (alarmBit n b s).heart = s.heart := rfl
@[simp] theorem alarmBit_grain : (alarmBit n b s).grain = s.grain := rfl
@[simp] theorem alarmBit_pattern : (alarmBit n b s).pattern = s.pattern := rfl
@[simp] theorem alarmBit_seam : (alarmBit n b s).seam = s.seam := rfl
@[simp] theorem alarmBit_strap : (alarmBit n b s).strap = s.strap := rfl
@[simp] theorem alarmBit_ports : (alarmBit n b s).ports = s.ports := rfl
@[simp] theorem alarmBit_shown : (alarmBit n b s).shown = s.shown := rfl
@[simp] theorem alarmBit_groups : (alarmBit n b s).groups = s.groups := rfl
@[simp] theorem alarmBit_cmps : (alarmBit n b s).cmps = s.cmps := rfl
@[simp] theorem alarmBit_cmpTest : (alarmBit n b s).cmpTest = s.cmpTest := rfl
@[simp] theorem alarmBit_pgs : (alarmBit n b s).pgs = s.pgs := rfl
@[simp] theorem alarmBit_metro : (alarmBit n b s).metro = s.metro := rfl
@[simp] theorem alarmBit_rein : (alarmBit n b s).rein = s.rein := rfl
@[simp] theorem alarmBit_sap : (alarmBit n b s).sap = s.sap := rfl
@[simp] theorem alarmBit_pocket : (alarmBit n b s).pocket = s.pocket := rfl
@[simp] theorem alarmBit_awl : (alarmBit n b s).awl = s.awl := rfl
@[simp] theorem alarmBit_bark : (alarmBit n b s).bark = s.bark := rfl
@[simp] theorem alarmBit_satchel : (alarmBit n b s).satchel = s.satchel := rfl
@[simp] theorem alarmBit_tack : (alarmBit n b s).tack = s.tack := rfl
@[simp] theorem alarmBit_wda : (alarmBit n b s).wda = s.wda := rfl
@[simp] theorem alarmBit_wdb : (alarmBit n b s).wdb = s.wdb := rfl
@[simp] theorem alarmBit_graft : (alarmBit n b s).graft = s.graft := rfl
@[simp] theorem alarmBit_flash : (alarmBit n b s).flash = s.flash := rfl
@[simp] theorem alarmBit_time : (alarmBit n b s).time = s.time := rfl
@[simp] theorem alarmBit_ring : (alarmBit n b s).ring = s.ring := rfl
@[simp] theorem alarmBit_policy : (alarmBit n b s).policy = s.policy := rfl
@[simp] theorem alarmBit_raised : (alarmBit n b s).raised = s.raised := rfl
@[simp] theorem alarmBit_freeCtr : (alarmBit n b s).freeCtr = s.freeCtr := rfl

@[simp] theorem emit_pending : (emit e s).pending = s.pending := by unfold emit; split <;> rfl
@[simp] theorem emit_power : (emit e s).power = s.power := by unfold emit; split <;> rfl
@[simp] theorem emit_boot : (emit e s).boot = s.boot := by unfold emit; split <;> rfl
@[simp] theorem emit_heart : (emit e s).heart = s.heart := by unfold emit; split <;> rfl
@[simp] theorem emit_grain : (emit e s).grain = s.grain := by unfold emit; split <;> rfl
@[simp] theorem emit_pattern : (emit e s).pattern = s.pattern := by unfold emit; split <;> rfl
@[simp] theorem emit_host : (emit e s).host = s.host := by unfold emit; split <;> rfl
@[simp] theorem emit_seam : (emit e s).seam = s.seam := by unfold emit; split <;> rfl
@[simp] theorem emit_strap : (emit e s).strap = s.strap := by unfold emit; split <;> rfl
@[simp] theorem emit_ports : (emit e s).ports = s.ports := by unfold emit; split <;> rfl
@[simp] theorem emit_shown : (emit e s).shown = s.shown := by unfold emit; split <;> rfl
@[simp] theorem emit_groups : (emit e s).groups = s.groups := by unfold emit; split <;> rfl
@[simp] theorem emit_cmps : (emit e s).cmps = s.cmps := by unfold emit; split <;> rfl
@[simp] theorem emit_cmpTest : (emit e s).cmpTest = s.cmpTest := by unfold emit; split <;> rfl
@[simp] theorem emit_pgs : (emit e s).pgs = s.pgs := by unfold emit; split <;> rfl
@[simp] theorem emit_metro : (emit e s).metro = s.metro := by unfold emit; split <;> rfl
@[simp] theorem emit_rein : (emit e s).rein = s.rein := by unfold emit; split <;> rfl
@[simp] theorem emit_sap : (emit e s).sap = s.sap := by unfold emit; split <;> rfl
@[simp] theorem emit_pocket : (emit e s).pocket = s.pocket := by unfold emit; split <;> rfl
@[simp] theorem emit_awl : (emit e s).awl = s.awl := by unfold emit; split <;> rfl
@[simp] theorem emit_bark : (emit e s).bark = s.bark := by unfold emit; split <;> rfl
@[simp] theorem emit_satchel : (emit e s).satchel = s.satchel := by unfold emit; split <;> rfl
@[simp] theorem emit_tack : (emit e s).tack = s.tack := by unfold emit; split <;> rfl
@[simp] theorem emit_wda : (emit e s).wda = s.wda := by unfold emit; split <;> rfl
@[simp] theorem emit_wdb : (emit e s).wdb = s.wdb := by unfold emit; split <;> rfl
@[simp] theorem emit_graft : (emit e s).graft = s.graft := by unfold emit; split <;> rfl
@[simp] theorem emit_flash : (emit e s).flash = s.flash := by unfold emit; split <;> rfl
@[simp] theorem emit_time : (emit e s).time = s.time := by unfold emit; split <;> rfl
@[simp] theorem emit_ring : (emit e s).ring = s.ring := by unfold emit; split <;> rfl
@[simp] theorem emit_policy : (emit e s).policy = s.policy := by unfold emit; split <;> rfl
@[simp] theorem emit_freeCtr : (emit e s).freeCtr = s.freeCtr := by unfold emit; split <;> rfl

@[simp] theorem jobResult_pending (r : Byte) (l : List Byte) : (jobResult r l s).pending = s.pending := by
  unfold jobResult; split
  · split <;> rfl
  · rfl
@[simp] theorem jobResult_power (r : Byte) (l : List Byte) : (jobResult r l s).power = s.power := by
  unfold jobResult; split
  · split <;> rfl
  · rfl
@[simp] theorem jobResult_boot (r : Byte) (l : List Byte) : (jobResult r l s).boot = s.boot := by
  unfold jobResult; split
  · split <;> rfl
  · rfl
@[simp] theorem jobResult_heart (r : Byte) (l : List Byte) : (jobResult r l s).heart = s.heart := by
  unfold jobResult; split
  · split <;> rfl
  · rfl
@[simp] theorem jobResult_grain (r : Byte) (l : List Byte) : (jobResult r l s).grain = s.grain := by
  unfold jobResult; split
  · split <;> rfl
  · rfl
@[simp] theorem jobResult_pattern (r : Byte) (l : List Byte) : (jobResult r l s).pattern = s.pattern := by
  unfold jobResult; split
  · split <;> rfl
  · rfl
@[simp] theorem jobResult_seam (r : Byte) (l : List Byte) : (jobResult r l s).seam = s.seam := by
  unfold jobResult; split
  · split <;> rfl
  · rfl
@[simp] theorem jobResult_strap (r : Byte) (l : List Byte) : (jobResult r l s).strap = s.strap := by
  unfold jobResult; split
  · split <;> rfl
  · rfl
@[simp] theorem jobResult_ports (r : Byte) (l : List Byte) : (jobResult r l s).ports = s.ports := by
  unfold jobResult; split
  · split <;> rfl
  · rfl
@[simp] theorem jobResult_shown (r : Byte) (l : List Byte) : (jobResult r l s).shown = s.shown := by
  unfold jobResult; split
  · split <;> rfl
  · rfl
@[simp] theorem jobResult_groups (r : Byte) (l : List Byte) : (jobResult r l s).groups = s.groups := by
  unfold jobResult; split
  · split <;> rfl
  · rfl
@[simp] theorem jobResult_cmps (r : Byte) (l : List Byte) : (jobResult r l s).cmps = s.cmps := by
  unfold jobResult; split
  · split <;> rfl
  · rfl
@[simp] theorem jobResult_cmpTest (r : Byte) (l : List Byte) : (jobResult r l s).cmpTest = s.cmpTest := by
  unfold jobResult; split
  · split <;> rfl
  · rfl
@[simp] theorem jobResult_pgs (r : Byte) (l : List Byte) : (jobResult r l s).pgs = s.pgs := by
  unfold jobResult; split
  · split <;> rfl
  · rfl
@[simp] theorem jobResult_metro (r : Byte) (l : List Byte) : (jobResult r l s).metro = s.metro := by
  unfold jobResult; split
  · split <;> rfl
  · rfl
@[simp] theorem jobResult_rein (r : Byte) (l : List Byte) : (jobResult r l s).rein = s.rein := by
  unfold jobResult; split
  · split <;> rfl
  · rfl
@[simp] theorem jobResult_sap (r : Byte) (l : List Byte) : (jobResult r l s).sap = s.sap := by
  unfold jobResult; split
  · split <;> rfl
  · rfl
@[simp] theorem jobResult_pocket (r : Byte) (l : List Byte) : (jobResult r l s).pocket = s.pocket := by
  unfold jobResult; split
  · split <;> rfl
  · rfl
@[simp] theorem jobResult_awl (r : Byte) (l : List Byte) : (jobResult r l s).awl = s.awl := by
  unfold jobResult; split
  · split <;> rfl
  · rfl
@[simp] theorem jobResult_bark (r : Byte) (l : List Byte) : (jobResult r l s).bark = s.bark := by
  unfold jobResult; split
  · split <;> rfl
  · rfl
@[simp] theorem jobResult_satchel (r : Byte) (l : List Byte) : (jobResult r l s).satchel = s.satchel := by
  unfold jobResult; split
  · split <;> rfl
  · rfl
@[simp] theorem jobResult_tack (r : Byte) (l : List Byte) : (jobResult r l s).tack = s.tack := by
  unfold jobResult; split
  · split <;> rfl
  · rfl
@[simp] theorem jobResult_wda (r : Byte) (l : List Byte) : (jobResult r l s).wda = s.wda := by
  unfold jobResult; split
  · split <;> rfl
  · rfl
@[simp] theorem jobResult_wdb (r : Byte) (l : List Byte) : (jobResult r l s).wdb = s.wdb := by
  unfold jobResult; split
  · split <;> rfl
  · rfl
@[simp] theorem jobResult_graft (r : Byte) (l : List Byte) : (jobResult r l s).graft = s.graft := by
  unfold jobResult; split
  · split <;> rfl
  · rfl
@[simp] theorem jobResult_flash (r : Byte) (l : List Byte) : (jobResult r l s).flash = s.flash := by
  unfold jobResult; split
  · split <;> rfl
  · rfl
@[simp] theorem jobResult_time (r : Byte) (l : List Byte) : (jobResult r l s).time = s.time := by
  unfold jobResult; split
  · split <;> rfl
  · rfl
@[simp] theorem jobResult_ring (r : Byte) (l : List Byte) : (jobResult r l s).ring = s.ring := by
  unfold jobResult; split
  · split <;> rfl
  · rfl
@[simp] theorem jobResult_policy (r : Byte) (l : List Byte) : (jobResult r l s).policy = s.policy := by
  unfold jobResult; split
  · split <;> rfl
  · rfl
@[simp] theorem jobResult_raised (r : Byte) (l : List Byte) : (jobResult r l s).raised = s.raised := by
  unfold jobResult; split
  · split <;> rfl
  · rfl
@[simp] theorem jobResult_freeCtr (r : Byte) (l : List Byte) : (jobResult r l s).freeCtr = s.freeCtr := by
  unfold jobResult; split
  · split <;> rfl
  · rfl

end

/-! ### What an update of one port puts there, and the other ports -/

section
variable (s : State) (p q : Fin 8)

theorem modPort_same (f : Port → Port) : (modPort p f s).ports[p] = f s.ports[p] := by simp [modPort]

theorem modPort_other (f : Port → Port) (h : q ≠ p) : (modPort p f s).ports[q] = s.ports[q] := by
  have : p.val ≠ q.val := fun e => h (Fin.ext e.symm)
  simp [modPort, this]

end

end Sys2Proof.Machine
end

