-- ==== Sys2Proof/Laws/Ops.lean ====
section
/-! SUPPORT. What the end of every meaning does to the state (R604, R175, R608): the events of the step go to the Ring, the
interrupts are noticed, and a waiting journal copy asks for the flash port. Everything else is as the command left it. -/

namespace Sys2Proof.Machine

section
variable (a b s : State) (e : Event) (o : FlashOp)

@[simp] theorem ringEntry_pending : (ringEntry e s).pending = s.pending := rfl
@[simp] theorem ringEntry_power : (ringEntry e s).power = s.power := rfl
@[simp] theorem ringEntry_boot : (ringEntry e s).boot = s.boot := rfl
@[simp] theorem ringEntry_heart : (ringEntry e s).heart = s.heart := rfl
@[simp] theorem ringEntry_grain : (ringEntry e s).grain = s.grain := rfl
@[simp] theorem ringEntry_pattern : (ringEntry e s).pattern = s.pattern := rfl
@[simp] theorem ringEntry_host : (ringEntry e s).host = s.host := rfl
@[simp] theorem ringEntry_seam : (ringEntry e s).seam = s.seam := rfl
@[simp] theorem ringEntry_strap : (ringEntry e s).strap = s.strap := rfl
@[simp] theorem ringEntry_ports : (ringEntry e s).ports = s.ports := rfl
@[simp] theorem ringEntry_shown : (ringEntry e s).shown = s.shown := rfl
@[simp] theorem ringEntry_groups : (ringEntry e s).groups = s.groups := rfl
@[simp] theorem ringEntry_cmps : (ringEntry e s).cmps = s.cmps := rfl
@[simp] theorem ringEntry_cmpTest : (ringEntry e s).cmpTest = s.cmpTest := rfl
@[simp] theorem ringEntry_pgs : (ringEntry e s).pgs = s.pgs := rfl
@[simp] theorem ringEntry_metro : (ringEntry e s).metro = s.metro := rfl
@[simp] theorem ringEntry_rein : (ringEntry e s).rein = s.rein := rfl
@[simp] theorem ringEntry_sap : (ringEntry e s).sap = s.sap := rfl
@[simp] theorem ringEntry_pocket : (ringEntry e s).pocket = s.pocket := rfl
@[simp] theorem ringEntry_awl : (ringEntry e s).awl = s.awl := rfl
@[simp] theorem ringEntry_bark : (ringEntry e s).bark = s.bark := rfl
@[simp] theorem ringEntry_satchel : (ringEntry e s).satchel = s.satchel := rfl
@[simp] theorem ringEntry_tack : (ringEntry e s).tack = s.tack := rfl
@[simp] theorem ringEntry_wda : (ringEntry e s).wda = s.wda := rfl
@[simp] theorem ringEntry_wdb : (ringEntry e s).wdb = s.wdb := rfl
@[simp] theorem ringEntry_graft : (ringEntry e s).graft = s.graft := rfl
@[simp] theorem ringEntry_flash : (ringEntry e s).flash = s.flash := rfl
@[simp] theorem ringEntry_time : (ringEntry e s).time = s.time := rfl
@[simp] theorem ringEntry_policy : (ringEntry e s).policy = s.policy := rfl
@[simp] theorem ringEntry_raised : (ringEntry e s).raised = s.raised := rfl
@[simp] theorem ringEntry_freeCtr : (ringEntry e s).freeCtr = s.freeCtr := rfl

@[simp] theorem irqEntry_pending : (irqEntry e s).pending = s.pending := by unfold irqEntry; split <;> rfl
@[simp] theorem irqEntry_power : (irqEntry e s).power = s.power := by unfold irqEntry; split <;> rfl
@[simp] theorem irqEntry_boot : (irqEntry e s).boot = s.boot := by unfold irqEntry; split <;> rfl
@[simp] theorem irqEntry_heart : (irqEntry e s).heart = s.heart := by unfold irqEntry; split <;> rfl
@[simp] theorem irqEntry_grain : (irqEntry e s).grain = s.grain := by unfold irqEntry; split <;> rfl
@[simp] theorem irqEntry_pattern : (irqEntry e s).pattern = s.pattern := by unfold irqEntry; split <;> rfl
@[simp] theorem irqEntry_seam : (irqEntry e s).seam = s.seam := by unfold irqEntry; split <;> rfl
@[simp] theorem irqEntry_strap : (irqEntry e s).strap = s.strap := by unfold irqEntry; split <;> rfl
@[simp] theorem irqEntry_ports : (irqEntry e s).ports = s.ports := by unfold irqEntry; split <;> rfl
@[simp] theorem irqEntry_shown : (irqEntry e s).shown = s.shown := by unfold irqEntry; split <;> rfl
@[simp] theorem irqEntry_groups : (irqEntry e s).groups = s.groups := by unfold irqEntry; split <;> rfl
@[simp] theorem irqEntry_cmps : (irqEntry e s).cmps = s.cmps := by unfold irqEntry; split <;> rfl
@[simp] theorem irqEntry_cmpTest : (irqEntry e s).cmpTest = s.cmpTest := by unfold irqEntry; split <;> rfl
@[simp] theorem irqEntry_pgs : (irqEntry e s).pgs = s.pgs := by unfold irqEntry; split <;> rfl
@[simp] theorem irqEntry_metro : (irqEntry e s).metro = s.metro := by unfold irqEntry; split <;> rfl
@[simp] theorem irqEntry_rein : (irqEntry e s).rein = s.rein := by unfold irqEntry; split <;> rfl
@[simp] theorem irqEntry_sap : (irqEntry e s).sap = s.sap := by unfold irqEntry; split <;> rfl
@[simp] theorem irqEntry_pocket : (irqEntry e s).pocket = s.pocket := by unfold irqEntry; split <;> rfl
@[simp] theorem irqEntry_awl : (irqEntry e s).awl = s.awl := by unfold irqEntry; split <;> rfl
@[simp] theorem irqEntry_bark : (irqEntry e s).bark = s.bark := by unfold irqEntry; split <;> rfl
@[simp] theorem irqEntry_satchel : (irqEntry e s).satchel = s.satchel := by unfold irqEntry; split <;> rfl
@[simp] theorem irqEntry_tack : (irqEntry e s).tack = s.tack := by unfold irqEntry; split <;> rfl
@[simp] theorem irqEntry_wda : (irqEntry e s).wda = s.wda := by unfold irqEntry; split <;> rfl
@[simp] theorem irqEntry_wdb : (irqEntry e s).wdb = s.wdb := by unfold irqEntry; split <;> rfl
@[simp] theorem irqEntry_graft : (irqEntry e s).graft = s.graft := by unfold irqEntry; split <;> rfl
@[simp] theorem irqEntry_flash : (irqEntry e s).flash = s.flash := by unfold irqEntry; split <;> rfl
@[simp] theorem irqEntry_time : (irqEntry e s).time = s.time := by unfold irqEntry; split <;> rfl
@[simp] theorem irqEntry_ring : (irqEntry e s).ring = s.ring := by unfold irqEntry; split <;> rfl
@[simp] theorem irqEntry_policy : (irqEntry e s).policy = s.policy := by unfold irqEntry; split <;> rfl
@[simp] theorem irqEntry_raised : (irqEntry e s).raised = s.raised := by unfold irqEntry; split <;> rfl
@[simp] theorem irqEntry_freeCtr : (irqEntry e s).freeCtr = s.freeCtr := by unfold irqEntry; split <;> rfl

@[simp] theorem lastEntry_pending : (lastEntry e s).pending = s.pending := by unfold lastEntry; split <;> rfl
@[simp] theorem lastEntry_power : (lastEntry e s).power = s.power := by unfold lastEntry; split <;> rfl
@[simp] theorem lastEntry_boot : (lastEntry e s).boot = s.boot := by unfold lastEntry; split <;> rfl
@[simp] theorem lastEntry_heart : (lastEntry e s).heart = s.heart := by unfold lastEntry; split <;> rfl
@[simp] theorem lastEntry_grain : (lastEntry e s).grain = s.grain := by unfold lastEntry; split <;> rfl
@[simp] theorem lastEntry_pattern : (lastEntry e s).pattern = s.pattern := by unfold lastEntry; split <;> rfl
@[simp] theorem lastEntry_host : (lastEntry e s).host = s.host := by unfold lastEntry; split <;> rfl
@[simp] theorem lastEntry_seam : (lastEntry e s).seam = s.seam := by unfold lastEntry; split <;> rfl
@[simp] theorem lastEntry_strap : (lastEntry e s).strap = s.strap := by unfold lastEntry; split <;> rfl
@[simp] theorem lastEntry_shown : (lastEntry e s).shown = s.shown := by unfold lastEntry; split <;> rfl
@[simp] theorem lastEntry_groups : (lastEntry e s).groups = s.groups := by unfold lastEntry; split <;> rfl
@[simp] theorem lastEntry_cmps : (lastEntry e s).cmps = s.cmps := by unfold lastEntry; split <;> rfl
@[simp] theorem lastEntry_cmpTest : (lastEntry e s).cmpTest = s.cmpTest := by unfold lastEntry; split <;> rfl
@[simp] theorem lastEntry_pgs : (lastEntry e s).pgs = s.pgs := by unfold lastEntry; split <;> rfl
@[simp] theorem lastEntry_metro : (lastEntry e s).metro = s.metro := by unfold lastEntry; split <;> rfl
@[simp] theorem lastEntry_rein : (lastEntry e s).rein = s.rein := by unfold lastEntry; split <;> rfl
@[simp] theorem lastEntry_sap : (lastEntry e s).sap = s.sap := by unfold lastEntry; split <;> rfl
@[simp] theorem lastEntry_pocket : (lastEntry e s).pocket = s.pocket := by unfold lastEntry; split <;> rfl
@[simp] theorem lastEntry_awl : (lastEntry e s).awl = s.awl := by unfold lastEntry; split <;> rfl
@[simp] theorem lastEntry_bark : (lastEntry e s).bark = s.bark := by unfold lastEntry; split <;> rfl
@[simp] theorem lastEntry_satchel : (lastEntry e s).satchel = s.satchel := by unfold lastEntry; split <;> rfl
@[simp] theorem lastEntry_tack : (lastEntry e s).tack = s.tack := by unfold lastEntry; split <;> rfl
@[simp] theorem lastEntry_wda : (lastEntry e s).wda = s.wda := by unfold lastEntry; split <;> rfl
@[simp] theorem lastEntry_wdb : (lastEntry e s).wdb = s.wdb := by unfold lastEntry; split <;> rfl
@[simp] theorem lastEntry_graft : (lastEntry e s).graft = s.graft := by unfold lastEntry; split <;> rfl
@[simp] theorem lastEntry_flash : (lastEntry e s).flash = s.flash := by unfold lastEntry; split <;> rfl
@[simp] theorem lastEntry_time : (lastEntry e s).time = s.time := by unfold lastEntry; split <;> rfl
@[simp] theorem lastEntry_ring : (lastEntry e s).ring = s.ring := by unfold lastEntry; split <;> rfl
@[simp] theorem lastEntry_policy : (lastEntry e s).policy = s.policy := by unfold lastEntry; split <;> rfl
@[simp] theorem lastEntry_raised : (lastEntry e s).raised = s.raised := by unfold lastEntry; split <;> rfl
@[simp] theorem lastEntry_freeCtr : (lastEntry e s).freeCtr = s.freeCtr := by unfold lastEntry; split <;> rfl

@[simp] theorem writeEntry_pending : (writeEntry s e).pending = s.pending := by simp [writeEntry]
@[simp] theorem writeEntry_power : (writeEntry s e).power = s.power := by simp [writeEntry]
@[simp] theorem writeEntry_boot : (writeEntry s e).boot = s.boot := by simp [writeEntry]
@[simp] theorem writeEntry_heart : (writeEntry s e).heart = s.heart := by simp [writeEntry]
@[simp] theorem writeEntry_grain : (writeEntry s e).grain = s.grain := by simp [writeEntry]
@[simp] theorem writeEntry_pattern : (writeEntry s e).pattern = s.pattern := by simp [writeEntry]
@[simp] theorem writeEntry_seam : (writeEntry s e).seam = s.seam := by simp [writeEntry]
@[simp] theorem writeEntry_strap : (writeEntry s e).strap = s.strap := by simp [writeEntry]
@[simp] theorem writeEntry_shown : (writeEntry s e).shown = s.shown := by simp [writeEntry]
@[simp] theorem writeEntry_groups : (writeEntry s e).groups = s.groups := by simp [writeEntry]
@[simp] theorem writeEntry_cmps : (writeEntry s e).cmps = s.cmps := by simp [writeEntry]
@[simp] theorem writeEntry_cmpTest : (writeEntry s e).cmpTest = s.cmpTest := by simp [writeEntry]
@[simp] theorem writeEntry_pgs : (writeEntry s e).pgs = s.pgs := by simp [writeEntry]
@[simp] theorem writeEntry_metro : (writeEntry s e).metro = s.metro := by simp [writeEntry]
@[simp] theorem writeEntry_rein : (writeEntry s e).rein = s.rein := by simp [writeEntry]
@[simp] theorem writeEntry_sap : (writeEntry s e).sap = s.sap := by simp [writeEntry]
@[simp] theorem writeEntry_pocket : (writeEntry s e).pocket = s.pocket := by simp [writeEntry]
@[simp] theorem writeEntry_awl : (writeEntry s e).awl = s.awl := by simp [writeEntry]
@[simp] theorem writeEntry_bark : (writeEntry s e).bark = s.bark := by simp [writeEntry]
@[simp] theorem writeEntry_satchel : (writeEntry s e).satchel = s.satchel := by simp [writeEntry]
@[simp] theorem writeEntry_tack : (writeEntry s e).tack = s.tack := by simp [writeEntry]
@[simp] theorem writeEntry_wda : (writeEntry s e).wda = s.wda := by simp [writeEntry]
@[simp] theorem writeEntry_wdb : (writeEntry s e).wdb = s.wdb := by simp [writeEntry]
@[simp] theorem writeEntry_graft : (writeEntry s e).graft = s.graft := by simp [writeEntry]
@[simp] theorem writeEntry_flash : (writeEntry s e).flash = s.flash := by simp [writeEntry]
@[simp] theorem writeEntry_time : (writeEntry s e).time = s.time := by simp [writeEntry]
@[simp] theorem writeEntry_policy : (writeEntry s e).policy = s.policy := by simp [writeEntry]
@[simp] theorem writeEntry_raised : (writeEntry s e).raised = s.raised := by simp [writeEntry]
@[simp] theorem writeEntry_freeCtr : (writeEntry s e).freeCtr = s.freeCtr := by simp [writeEntry]

/-- What the entries of a step change of the host port: IRQSTAT alone. -/
theorem writeEntry_host : ∃ k, (writeEntry s e).host = { s.host with irqStat := s.host.irqStat ||| k } := by
  rw [writeEntry, lastEntry_host, irqEntry]
  split
  · exact ⟨2, rfl⟩
  · exact ⟨0, by simp⟩

theorem withLast_withLast (c d : Half) (q : Port) : withLast c (withLast d q) = withLast c q := rfl
theorem withLast_self (q : Port) : withLast q.pd.lastEvent q = q := rfl

/-- What the entries of a step change of a port: LAST_EVENT alone. -/
theorem writeEntry_port (p : Fin 8) : ∃ c, (writeEntry s e).ports[p] = withLast c s.ports[p] := by
  have h : (irqEntry e (ringEntry e s)).ports = s.ports := by simp
  rw [writeEntry, lastEntry]
  split
  · exact ⟨s.ports[p].pd.lastEvent, by rw [h, withLast_self]⟩
  · rename_i q _
    by_cases hq : q = p
    · subst hq
      exact ⟨e.code, by simp [withLast]⟩
    · have hv : q.val ≠ p.val := fun x => hq (Fin.ext x)
      exact ⟨s.ports[p].pd.lastEvent, by simp [withLast, hv]⟩

theorem entries_pending (es : List Event) : (es.foldl writeEntry s).pending = s.pending := by
  induction es generalizing s with
  | nil => rfl
  | cons e t ih => rw [List.foldl_cons, ih, writeEntry_pending]
theorem entries_power (es : List Event) : (es.foldl writeEntry s).power = s.power := by
  induction es generalizing s with
  | nil => rfl
  | cons e t ih => rw [List.foldl_cons, ih, writeEntry_power]
theorem entries_boot (es : List Event) : (es.foldl writeEntry s).boot = s.boot := by
  induction es generalizing s with
  | nil => rfl
  | cons e t ih => rw [List.foldl_cons, ih, writeEntry_boot]
theorem entries_heart (es : List Event) : (es.foldl writeEntry s).heart = s.heart := by
  induction es generalizing s with
  | nil => rfl
  | cons e t ih => rw [List.foldl_cons, ih, writeEntry_heart]
theorem entries_grain (es : List Event) : (es.foldl writeEntry s).grain = s.grain := by
  induction es generalizing s with
  | nil => rfl
  | cons e t ih => rw [List.foldl_cons, ih, writeEntry_grain]
theorem entries_pattern (es : List Event) : (es.foldl writeEntry s).pattern = s.pattern := by
  induction es generalizing s with
  | nil => rfl
  | cons e t ih => rw [List.foldl_cons, ih, writeEntry_pattern]
theorem entries_seam (es : List Event) : (es.foldl writeEntry s).seam = s.seam := by
  induction es generalizing s with
  | nil => rfl
  | cons e t ih => rw [List.foldl_cons, ih, writeEntry_seam]
theorem entries_strap (es : List Event) : (es.foldl writeEntry s).strap = s.strap := by
  induction es generalizing s with
  | nil => rfl
  | cons e t ih => rw [List.foldl_cons, ih, writeEntry_strap]
theorem entries_shown (es : List Event) : (es.foldl writeEntry s).shown = s.shown := by
  induction es generalizing s with
  | nil => rfl
  | cons e t ih => rw [List.foldl_cons, ih, writeEntry_shown]
theorem entries_groups (es : List Event) : (es.foldl writeEntry s).groups = s.groups := by
  induction es generalizing s with
  | nil => rfl
  | cons e t ih => rw [List.foldl_cons, ih, writeEntry_groups]
theorem entries_cmps (es : List Event) : (es.foldl writeEntry s).cmps = s.cmps := by
  induction es generalizing s with
  | nil => rfl
  | cons e t ih => rw [List.foldl_cons, ih, writeEntry_cmps]
theorem entries_cmpTest (es : List Event) : (es.foldl writeEntry s).cmpTest = s.cmpTest := by
  induction es generalizing s with
  | nil => rfl
  | cons e t ih => rw [List.foldl_cons, ih, writeEntry_cmpTest]
theorem entries_pgs (es : List Event) : (es.foldl writeEntry s).pgs = s.pgs := by
  induction es generalizing s with
  | nil => rfl
  | cons e t ih => rw [List.foldl_cons, ih, writeEntry_pgs]
theorem entries_metro (es : List Event) : (es.foldl writeEntry s).metro = s.metro := by
  induction es generalizing s with
  | nil => rfl
  | cons e t ih => rw [List.foldl_cons, ih, writeEntry_metro]
theorem entries_rein (es : List Event) : (es.foldl writeEntry s).rein = s.rein := by
  induction es generalizing s with
  | nil => rfl
  | cons e t ih => rw [List.foldl_cons, ih, writeEntry_rein]
theorem entries_sap (es : List Event) : (es.foldl writeEntry s).sap = s.sap := by
  induction es generalizing s with
  | nil => rfl
  | cons e t ih => rw [List.foldl_cons, ih, writeEntry_sap]
theorem entries_pocket (es : List Event) : (es.foldl writeEntry s).pocket = s.pocket := by
  induction es generalizing s with
  | nil => rfl
  | cons e t ih => rw [List.foldl_cons, ih, writeEntry_pocket]
theorem entries_awl (es : List Event) : (es.foldl writeEntry s).awl = s.awl := by
  induction es generalizing s with
  | nil => rfl
  | cons e t ih => rw [List.foldl_cons, ih, writeEntry_awl]
theorem entries_bark (es : List Event) : (es.foldl writeEntry s).bark = s.bark := by
  induction es generalizing s with
  | nil => rfl
  | cons e t ih => rw [List.foldl_cons, ih, writeEntry_bark]
theorem entries_satchel (es : List Event) : (es.foldl writeEntry s).satchel = s.satchel := by
  induction es generalizing s with
  | nil => rfl
  | cons e t ih => rw [List.foldl_cons, ih, writeEntry_satchel]
theorem entries_tack (es : List Event) : (es.foldl writeEntry s).tack = s.tack := by
  induction es generalizing s with
  | nil => rfl
  | cons e t ih => rw [List.foldl_cons, ih, writeEntry_tack]
theorem entries_wda (es : List Event) : (es.foldl writeEntry s).wda = s.wda := by
  induction es generalizing s with
  | nil => rfl
  | cons e t ih => rw [List.foldl_cons, ih, writeEntry_wda]
theorem entries_wdb (es : List Event) : (es.foldl writeEntry s).wdb = s.wdb := by
  induction es generalizing s with
  | nil => rfl
  | cons e t ih => rw [List.foldl_cons, ih, writeEntry_wdb]
theorem entries_graft (es : List Event) : (es.foldl writeEntry s).graft = s.graft := by
  induction es generalizing s with
  | nil => rfl
  | cons e t ih => rw [List.foldl_cons, ih, writeEntry_graft]
theorem entries_flash (es : List Event) : (es.foldl writeEntry s).flash = s.flash := by
  induction es generalizing s with
  | nil => rfl
  | cons e t ih => rw [List.foldl_cons, ih, writeEntry_flash]
theorem entries_time (es : List Event) : (es.foldl writeEntry s).time = s.time := by
  induction es generalizing s with
  | nil => rfl
  | cons e t ih => rw [List.foldl_cons, ih, writeEntry_time]
theorem entries_policy (es : List Event) : (es.foldl writeEntry s).policy = s.policy := by
  induction es generalizing s with
  | nil => rfl
  | cons e t ih => rw [List.foldl_cons, ih, writeEntry_policy]
theorem entries_raised (es : List Event) : (es.foldl writeEntry s).raised = s.raised := by
  induction es generalizing s with
  | nil => rfl
  | cons e t ih => rw [List.foldl_cons, ih, writeEntry_raised]
theorem entries_freeCtr (es : List Event) : (es.foldl writeEntry s).freeCtr = s.freeCtr := by
  induction es generalizing s with
  | nil => rfl
  | cons e t ih => rw [List.foldl_cons, ih, writeEntry_freeCtr]

theorem entries_host (es : List Event) : ∃ k, (es.foldl writeEntry s).host = { s.host with irqStat := s.host.irqStat ||| k } := by
  induction es generalizing s with
  | nil => exact ⟨0, by simp⟩
  | cons e t ih =>
    obtain ⟨k, hk⟩ := writeEntry_host s e
    obtain ⟨k', hk'⟩ := ih (writeEntry s e)
    exact ⟨k ||| k', by rw [List.foldl_cons, hk', hk]; simp [BitVec.or_assoc]⟩

theorem entries_port (es : List Event) (p : Fin 8) : ∃ c, (es.foldl writeEntry s).ports[p] = withLast c s.ports[p] := by
  induction es generalizing s with
  | nil => exact ⟨s.ports[p].pd.lastEvent, (withLast_self _).symm⟩
  | cons e t ih =>
    obtain ⟨c, hc⟩ := writeEntry_port s e p
    obtain ⟨c', hc'⟩ := ih (writeEntry s e)
    exact ⟨c', by rw [List.foldl_cons, hc', hc, withLast_withLast]⟩

@[simp] theorem flush_pending : (flush s).pending = s.pending := entries_pending _ _
@[simp] theorem flush_power : (flush s).power = s.power := entries_power _ _
@[simp] theorem flush_boot : (flush s).boot = s.boot := entries_boot _ _
@[simp] theorem flush_heart : (flush s).heart = s.heart := entries_heart _ _
@[simp] theorem flush_grain : (flush s).grain = s.grain := entries_grain _ _
@[simp] theorem flush_pattern : (flush s).pattern = s.pattern := entries_pattern _ _
@[simp] theorem flush_seam : (flush s).seam = s.seam := entries_seam _ _
@[simp] theorem flush_strap : (flush s).strap = s.strap := entries_strap _ _
@[simp] theorem flush_shown : (flush s).shown = s.shown := entries_shown _ _
@[simp] theorem flush_groups : (flush s).groups = s.groups := entries_groups _ _
@[simp] theorem flush_cmps : (flush s).cmps = s.cmps := entries_cmps _ _
@[simp] theorem flush_cmpTest : (flush s).cmpTest = s.cmpTest := entries_cmpTest _ _
@[simp] theorem flush_pgs : (flush s).pgs = s.pgs := entries_pgs _ _
@[simp] theorem flush_metro : (flush s).metro = s.metro := entries_metro _ _
@[simp] theorem flush_rein : (flush s).rein = s.rein := entries_rein _ _
@[simp] theorem flush_sap : (flush s).sap = s.sap := entries_sap _ _
@[simp] theorem flush_pocket : (flush s).pocket = s.pocket := entries_pocket _ _
@[simp] theorem flush_awl : (flush s).awl = s.awl := entries_awl _ _
@[simp] theorem flush_bark : (flush s).bark = s.bark := entries_bark _ _
@[simp] theorem flush_satchel : (flush s).satchel = s.satchel := entries_satchel _ _
@[simp] theorem flush_tack : (flush s).tack = s.tack := entries_tack _ _
@[simp] theorem flush_wda : (flush s).wda = s.wda := entries_wda _ _
@[simp] theorem flush_wdb : (flush s).wdb = s.wdb := entries_wdb _ _
@[simp] theorem flush_graft : (flush s).graft = s.graft := entries_graft _ _
@[simp] theorem flush_flash : (flush s).flash = s.flash := entries_flash _ _
@[simp] theorem flush_time : (flush s).time = s.time := entries_time _ _
@[simp] theorem flush_policy : (flush s).policy = s.policy := entries_policy _ _
@[simp] theorem flush_freeCtr : (flush s).freeCtr = s.freeCtr := entries_freeCtr _ _
@[simp] theorem flush_raised : (flush s).raised = [] := entries_raised _ _

/-- A step that raises nothing writes nothing. -/
theorem flush_nil (h : s.raised = []) : flush s = s := by
  unfold flush
  rw [h]
  show { s with raised := [] } = s
  rw [← h]

@[simp] theorem flashServe_pending : (flashServe s).pending = s.pending := by
  unfold flashServe; dsimp only
  repeat' split
  all_goals rfl
@[simp] theorem flashServe_power : (flashServe s).power = s.power := by
  unfold flashServe; dsimp only
  repeat' split
  all_goals rfl
@[simp] theorem flashServe_boot : (flashServe s).boot = s.boot := by
  unfold flashServe; dsimp only
  repeat' split
  all_goals rfl
@[simp] theorem flashServe_heart : (flashServe s).heart = s.heart := by
  unfold flashServe; dsimp only
  repeat' split
  all_goals rfl
@[simp] theorem flashServe_grain : (flashServe s).grain = s.grain := by
  unfold flashServe; dsimp only
  repeat' split
  all_goals rfl
@[simp] theorem flashServe_pattern : (flashServe s).pattern = s.pattern := by
  unfold flashServe; dsimp only
  repeat' split
  all_goals rfl
@[simp] theorem flashServe_host : (flashServe s).host = s.host := by
  unfold flashServe; dsimp only
  repeat' split
  all_goals rfl
@[simp] theorem flashServe_seam : (flashServe s).seam = s.seam := by
  unfold flashServe; dsimp only
  repeat' split
  all_goals rfl
@[simp] theorem flashServe_strap : (flashServe s).strap = s.strap := by
  unfold flashServe; dsimp only
  repeat' split
  all_goals rfl
@[simp] theorem flashServe_ports : (flashServe s).ports = s.ports := by
  unfold flashServe; dsimp only
  repeat' split
  all_goals rfl
@[simp] theorem flashServe_shown : (flashServe s).shown = s.shown := by
  unfold flashServe; dsimp only
  repeat' split
  all_goals rfl
@[simp] theorem flashServe_groups : (flashServe s).groups = s.groups := by
  unfold flashServe; dsimp only
  repeat' split
  all_goals rfl
@[simp] theorem flashServe_cmps : (flashServe s).cmps = s.cmps := by
  unfold flashServe; dsimp only
  repeat' split
  all_goals rfl
@[simp] theorem flashServe_cmpTest : (flashServe s).cmpTest = s.cmpTest := by
  unfold flashServe; dsimp only
  repeat' split
  all_goals rfl
@[simp] theorem flashServe_pgs : (flashServe s).pgs = s.pgs := by
  unfold flashServe; dsimp only
  repeat' split
  all_goals rfl
@[simp] theorem flashServe_metro : (flashServe s).metro = s.metro := by
  unfold flashServe; dsimp only
  repeat' split
  all_goals rfl
@[simp] theorem flashServe_rein : (flashServe s).rein = s.rein := by
  unfold flashServe; dsimp only
  repeat' split
  all_goals rfl
@[simp] theorem flashServe_sap : (flashServe s).sap = s.sap := by
  unfold flashServe; dsimp only
  repeat' split
  all_goals rfl
@[simp] theorem flashServe_pocket : (flashServe s).pocket = s.pocket := by
  unfold flashServe; dsimp only
  repeat' split
  all_goals rfl
@[simp] theorem flashServe_awl : (flashServe s).awl = s.awl := by
  unfold flashServe; dsimp only
  repeat' split
  all_goals rfl
@[simp] theorem flashServe_bark : (flashServe s).bark = s.bark := by
  unfold flashServe; dsimp only
  repeat' split
  all_goals rfl
@[simp] theorem flashServe_satchel : (flashServe s).satchel = s.satchel := by
  unfold flashServe; dsimp only
  repeat' split
  all_goals rfl
@[simp] theorem flashServe_tack : (flashServe s).tack = s.tack := by
  unfold flashServe; dsimp only
  repeat' split
  all_goals rfl
@[simp] theorem flashServe_wda : (flashServe s).wda = s.wda := by
  unfold flashServe; dsimp only
  repeat' split
  all_goals rfl
@[simp] theorem flashServe_wdb : (flashServe s).wdb = s.wdb := by
  unfold flashServe; dsimp only
  repeat' split
  all_goals rfl
@[simp] theorem flashServe_graft : (flashServe s).graft = s.graft := by
  unfold flashServe; dsimp only
  repeat' split
  all_goals rfl
@[simp] theorem flashServe_time : (flashServe s).time = s.time := by
  unfold flashServe; dsimp only
  repeat' split
  all_goals rfl
@[simp] theorem flashServe_ring : (flashServe s).ring = s.ring := by
  unfold flashServe; dsimp only
  repeat' split
  all_goals rfl
@[simp] theorem flashServe_policy : (flashServe s).policy = s.policy := by
  unfold flashServe; dsimp only
  repeat' split
  all_goals rfl
@[simp] theorem flashServe_raised : (flashServe s).raised = s.raised := by
  unfold flashServe; dsimp only
  repeat' split
  all_goals rfl
@[simp] theorem flashServe_freeCtr : (flashServe s).freeCtr = s.freeCtr := by
  unfold flashServe; dsimp only
  repeat' split
  all_goals rfl

/-- Serving the flash port moves no byte. -/
@[simp] theorem flashServe_mem : (flashServe s).flash.mem = s.flash.mem := by
  unfold flashServe; dsimp only
  repeat' split
  all_goals rfl

@[simp] theorem flashQueue_pending : (flashQueue o s).pending = s.pending := by simp [flashQueue]
@[simp] theorem flashQueue_power : (flashQueue o s).power = s.power := by simp [flashQueue]
@[simp] theorem flashQueue_boot : (flashQueue o s).boot = s.boot := by simp [flashQueue]
@[simp] theorem flashQueue_heart : (flashQueue o s).heart = s.heart := by simp [flashQueue]
@[simp] theorem flashQueue_grain : (flashQueue o s).grain = s.grain := by simp [flashQueue]
@[simp] theorem flashQueue_pattern : (flashQueue o s).pattern = s.pattern := by simp [flashQueue]
@[simp] theorem flashQueue_host : (flashQueue o s).host = s.host := by simp [flashQueue]
@[simp] theorem flashQueue_seam : (flashQueue o s).seam = s.seam := by simp [flashQueue]
@[simp] theorem flashQueue_strap : (flashQueue o s).strap = s.strap := by simp [flashQueue]
@[simp] theorem flashQueue_ports : (flashQueue o s).ports = s.ports := by simp [flashQueue]
@[simp] theorem flashQueue_shown : (flashQueue o s).shown = s.shown := by simp [flashQueue]
@[simp] theorem flashQueue_groups : (flashQueue o s).groups = s.groups := by simp [flashQueue]
@[simp] theorem flashQueue_cmps : (flashQueue o s).cmps = s.cmps := by simp [flashQueue]
@[simp] theorem flashQueue_cmpTest : (flashQueue o s).cmpTest = s.cmpTest := by simp [flashQueue]
@[simp] theorem flashQueue_pgs : (flashQueue o s).pgs = s.pgs := by simp [flashQueue]
@[simp] theorem flashQueue_metro : (flashQueue o s).metro = s.metro := by simp [flashQueue]
@[simp] theorem flashQueue_rein : (flashQueue o s).rein = s.rein := by simp [flashQueue]
@[simp] theorem flashQueue_sap : (flashQueue o s).sap = s.sap := by simp [flashQueue]
@[simp] theorem flashQueue_pocket : (flashQueue o s).pocket = s.pocket := by simp [flashQueue]
@[simp] theorem flashQueue_awl : (flashQueue o s).awl = s.awl := by simp [flashQueue]
@[simp] theorem flashQueue_bark : (flashQueue o s).bark = s.bark := by simp [flashQueue]
@[simp] theorem flashQueue_satchel : (flashQueue o s).satchel = s.satchel := by simp [flashQueue]
@[simp] theorem flashQueue_tack : (flashQueue o s).tack = s.tack := by simp [flashQueue]
@[simp] theorem flashQueue_wda : (flashQueue o s).wda = s.wda := by simp [flashQueue]
@[simp] theorem flashQueue_wdb : (flashQueue o s).wdb = s.wdb := by simp [flashQueue]
@[simp] theorem flashQueue_graft : (flashQueue o s).graft = s.graft := by simp [flashQueue]
@[simp] theorem flashQueue_time : (flashQueue o s).time = s.time := by simp [flashQueue]
@[simp] theorem flashQueue_ring : (flashQueue o s).ring = s.ring := by simp [flashQueue]
@[simp] theorem flashQueue_policy : (flashQueue o s).policy = s.policy := by simp [flashQueue]
@[simp] theorem flashQueue_raised : (flashQueue o s).raised = s.raised := by simp [flashQueue]
@[simp] theorem flashQueue_freeCtr : (flashQueue o s).freeCtr = s.freeCtr := by simp [flashQueue]
@[simp] theorem flashQueue_mem : (flashQueue o s).flash.mem = s.flash.mem := by simp [flashQueue]

@[simp] theorem journalKick_pending : (journalKick s).pending = s.pending := by
  unfold journalKick; dsimp only; split <;> simp
@[simp] theorem journalKick_power : (journalKick s).power = s.power := by
  unfold journalKick; dsimp only; split <;> simp
@[simp] theorem journalKick_boot : (journalKick s).boot = s.boot := by
  unfold journalKick; dsimp only; split <;> simp
@[simp] theorem journalKick_heart : (journalKick s).heart = s.heart := by
  unfold journalKick; dsimp only; split <;> simp
@[simp] theorem journalKick_grain : (journalKick s).grain = s.grain := by
  unfold journalKick; dsimp only; split <;> simp
@[simp] theorem journalKick_pattern : (journalKick s).pattern = s.pattern := by
  unfold journalKick; dsimp only; split <;> simp
@[simp] theorem journalKick_host : (journalKick s).host = s.host := by
  unfold journalKick; dsimp only; split <;> simp
@[simp] theorem journalKick_seam : (journalKick s).seam = s.seam := by
  unfold journalKick; dsimp only; split <;> simp
@[simp] theorem journalKick_strap : (journalKick s).strap = s.strap := by
  unfold journalKick; dsimp only; split <;> simp
@[simp] theorem journalKick_ports : (journalKick s).ports = s.ports := by
  unfold journalKick; dsimp only; split <;> simp
@[simp] theorem journalKick_shown : (journalKick s).shown = s.shown := by
  unfold journalKick; dsimp only; split <;> simp
@[simp] theorem journalKick_groups : (journalKick s).groups = s.groups := by
  unfold journalKick; dsimp only; split <;> simp
@[simp] theorem journalKick_cmps : (journalKick s).cmps = s.cmps := by
  unfold journalKick; dsimp only; split <;> simp
@[simp] theorem journalKick_cmpTest : (journalKick s).cmpTest = s.cmpTest := by
  unfold journalKick; dsimp only; split <;> simp
@[simp] theorem journalKick_pgs : (journalKick s).pgs = s.pgs := by
  unfold journalKick; dsimp only; split <;> simp
@[simp] theorem journalKick_metro : (journalKick s).metro = s.metro := by
  unfold journalKick; dsimp only; split <;> simp
@[simp] theorem journalKick_rein : (journalKick s).rein = s.rein := by
  unfold journalKick; dsimp only; split <;> simp
@[simp] theorem journalKick_sap : (journalKick s).sap = s.sap := by
  unfold journalKick; dsimp only; split <;> simp
@[simp] theorem journalKick_pocket : (journalKick s).pocket = s.pocket := by
  unfold journalKick; dsimp only; split <;> simp
@[simp] theorem journalKick_awl : (journalKick s).awl = s.awl := by
  unfold journalKick; dsimp only; split <;> simp
@[simp] theorem journalKick_bark : (journalKick s).bark = s.bark := by
  unfold journalKick; dsimp only; split <;> simp
@[simp] theorem journalKick_satchel : (journalKick s).satchel = s.satchel := by
  unfold journalKick; dsimp only; split <;> simp
@[simp] theorem journalKick_tack : (journalKick s).tack = s.tack := by
  unfold journalKick; dsimp only; split <;> simp
@[simp] theorem journalKick_wda : (journalKick s).wda = s.wda := by
  unfold journalKick; dsimp only; split <;> simp
@[simp] theorem journalKick_wdb : (journalKick s).wdb = s.wdb := by
  unfold journalKick; dsimp only; split <;> simp
@[simp] theorem journalKick_graft : (journalKick s).graft = s.graft := by
  unfold journalKick; dsimp only; split <;> simp
@[simp] theorem journalKick_time : (journalKick s).time = s.time := by
  unfold journalKick; dsimp only; split <;> simp
@[simp] theorem journalKick_ring : (journalKick s).ring = s.ring := by
  unfold journalKick; dsimp only; split <;> simp
@[simp] theorem journalKick_policy : (journalKick s).policy = s.policy := by
  unfold journalKick; dsimp only; split <;> simp
@[simp] theorem journalKick_raised : (journalKick s).raised = s.raised := by
  unfold journalKick; dsimp only; split <;> simp
@[simp] theorem journalKick_freeCtr : (journalKick s).freeCtr = s.freeCtr := by
  unfold journalKick; dsimp only; split <;> simp
@[simp] theorem journalKick_mem : (journalKick s).flash.mem = s.flash.mem := by
  unfold journalKick; dsimp only; split <;> simp

@[simp] theorem notice_pending : (notice a b).pending = b.pending := by unfold notice; split <;> rfl
@[simp] theorem notice_power : (notice a b).power = b.power := by unfold notice; split <;> rfl
@[simp] theorem notice_boot : (notice a b).boot = b.boot := by unfold notice; split <;> rfl
@[simp] theorem notice_heart : (notice a b).heart = b.heart := by unfold notice; split <;> rfl
@[simp] theorem notice_grain : (notice a b).grain = b.grain := by unfold notice; split <;> rfl
@[simp] theorem notice_pattern : (notice a b).pattern = b.pattern := by unfold notice; split <;> rfl
@[simp] theorem notice_seam : (notice a b).seam = b.seam := by unfold notice; split <;> rfl
@[simp] theorem notice_strap : (notice a b).strap = b.strap := by unfold notice; split <;> rfl
@[simp] theorem notice_ports : (notice a b).ports = b.ports := by unfold notice; split <;> rfl
@[simp] theorem notice_shown : (notice a b).shown = b.shown := by unfold notice; split <;> rfl
@[simp] theorem notice_groups : (notice a b).groups = b.groups := by unfold notice; split <;> rfl
@[simp] theorem notice_cmps : (notice a b).cmps = b.cmps := by unfold notice; split <;> rfl
@[simp] theorem notice_cmpTest : (notice a b).cmpTest = b.cmpTest := by unfold notice; split <;> rfl
@[simp] theorem notice_pgs : (notice a b).pgs = b.pgs := by unfold notice; split <;> rfl
@[simp] theorem notice_metro : (notice a b).metro = b.metro := by unfold notice; split <;> rfl
@[simp] theorem notice_rein : (notice a b).rein = b.rein := by unfold notice; split <;> rfl
@[simp] theorem notice_sap : (notice a b).sap = b.sap := by unfold notice; split <;> rfl
@[simp] theorem notice_pocket : (notice a b).pocket = b.pocket := by unfold notice; split <;> rfl
@[simp] theorem notice_awl : (notice a b).awl = b.awl := by unfold notice; split <;> rfl
@[simp] theorem notice_bark : (notice a b).bark = b.bark := by unfold notice; split <;> rfl
@[simp] theorem notice_satchel : (notice a b).satchel = b.satchel := by unfold notice; split <;> rfl
@[simp] theorem notice_tack : (notice a b).tack = b.tack := by unfold notice; split <;> rfl
@[simp] theorem notice_wda : (notice a b).wda = b.wda := by unfold notice; split <;> rfl
@[simp] theorem notice_wdb : (notice a b).wdb = b.wdb := by unfold notice; split <;> rfl
@[simp] theorem notice_graft : (notice a b).graft = b.graft := by unfold notice; split <;> rfl
@[simp] theorem notice_flash : (notice a b).flash = b.flash := by unfold notice; split <;> rfl
@[simp] theorem notice_time : (notice a b).time = b.time := by unfold notice; split <;> rfl
@[simp] theorem notice_ring : (notice a b).ring = b.ring := by unfold notice; split <;> rfl
@[simp] theorem notice_policy : (notice a b).policy = b.policy := by unfold notice; split <;> rfl
@[simp] theorem notice_raised : (notice a b).raised = b.raised := by unfold notice; split <;> rfl
@[simp] theorem notice_freeCtr : (notice a b).freeCtr = b.freeCtr := by unfold notice; split <;> rfl

@[simp] theorem openIrq_pending : (openIrq a b s).pending = s.pending := by unfold openIrq; split <;> rfl
@[simp] theorem openIrq_power : (openIrq a b s).power = s.power := by unfold openIrq; split <;> rfl
@[simp] theorem openIrq_boot : (openIrq a b s).boot = s.boot := by unfold openIrq; split <;> rfl
@[simp] theorem openIrq_heart : (openIrq a b s).heart = s.heart := by unfold openIrq; split <;> rfl
@[simp] theorem openIrq_grain : (openIrq a b s).grain = s.grain := by unfold openIrq; split <;> rfl
@[simp] theorem openIrq_pattern : (openIrq a b s).pattern = s.pattern := by unfold openIrq; split <;> rfl
@[simp] theorem openIrq_seam : (openIrq a b s).seam = s.seam := by unfold openIrq; split <;> rfl
@[simp] theorem openIrq_strap : (openIrq a b s).strap = s.strap := by unfold openIrq; split <;> rfl
@[simp] theorem openIrq_ports : (openIrq a b s).ports = s.ports := by unfold openIrq; split <;> rfl
@[simp] theorem openIrq_shown : (openIrq a b s).shown = s.shown := by unfold openIrq; split <;> rfl
@[simp] theorem openIrq_groups : (openIrq a b s).groups = s.groups := by unfold openIrq; split <;> rfl
@[simp] theorem openIrq_cmps : (openIrq a b s).cmps = s.cmps := by unfold openIrq; split <;> rfl
@[simp] theorem openIrq_cmpTest : (openIrq a b s).cmpTest = s.cmpTest := by unfold openIrq; split <;> rfl
@[simp] theorem openIrq_pgs : (openIrq a b s).pgs = s.pgs := by unfold openIrq; split <;> rfl
@[simp] theorem openIrq_metro : (openIrq a b s).metro = s.metro := by unfold openIrq; split <;> rfl
@[simp] theorem openIrq_rein : (openIrq a b s).rein = s.rein := by unfold openIrq; split <;> rfl
@[simp] theorem openIrq_sap : (openIrq a b s).sap = s.sap := by unfold openIrq; split <;> rfl
@[simp] theorem openIrq_pocket : (openIrq a b s).pocket = s.pocket := by unfold openIrq; split <;> rfl
@[simp] theorem openIrq_awl : (openIrq a b s).awl = s.awl := by unfold openIrq; split <;> rfl
@[simp] theorem openIrq_bark : (openIrq a b s).bark = s.bark := by unfold openIrq; split <;> rfl
@[simp] theorem openIrq_satchel : (openIrq a b s).satchel = s.satchel := by unfold openIrq; split <;> rfl
@[simp] theorem openIrq_tack : (openIrq a b s).tack = s.tack := by unfold openIrq; split <;> rfl
@[simp] theorem openIrq_wda : (openIrq a b s).wda = s.wda := by unfold openIrq; split <;> rfl
@[simp] theorem openIrq_wdb : (openIrq a b s).wdb = s.wdb := by unfold openIrq; split <;> rfl
@[simp] theorem openIrq_graft : (openIrq a b s).graft = s.graft := by unfold openIrq; split <;> rfl
@[simp] theorem openIrq_flash : (openIrq a b s).flash = s.flash := by unfold openIrq; split <;> rfl
@[simp] theorem openIrq_time : (openIrq a b s).time = s.time := by unfold openIrq; split <;> rfl
@[simp] theorem openIrq_ring : (openIrq a b s).ring = s.ring := by unfold openIrq; split <;> rfl
@[simp] theorem openIrq_policy : (openIrq a b s).policy = s.policy := by unfold openIrq; split <;> rfl
@[simp] theorem openIrq_raised : (openIrq a b s).raised = s.raised := by unfold openIrq; split <;> rfl
@[simp] theorem openIrq_freeCtr : (openIrq a b s).freeCtr = s.freeCtr := by unfold openIrq; split <;> rfl

@[simp] theorem finish_pending : (finish a b).pending = b.pending := by simp [finish]
@[simp] theorem finish_power : (finish a b).power = b.power := by simp [finish]
@[simp] theorem finish_boot : (finish a b).boot = b.boot := by simp [finish]
@[simp] theorem finish_heart : (finish a b).heart = b.heart := by simp [finish]
@[simp] theorem finish_grain : (finish a b).grain = b.grain := by simp [finish]
@[simp] theorem finish_pattern : (finish a b).pattern = b.pattern := by simp [finish]
@[simp] theorem finish_seam : (finish a b).seam = b.seam := by simp [finish]
@[simp] theorem finish_strap : (finish a b).strap = b.strap := by simp [finish]
@[simp] theorem finish_shown : (finish a b).shown = b.shown := by simp [finish]
@[simp] theorem finish_groups : (finish a b).groups = b.groups := by simp [finish]
@[simp] theorem finish_cmps : (finish a b).cmps = b.cmps := by simp [finish]
@[simp] theorem finish_cmpTest : (finish a b).cmpTest = b.cmpTest := by simp [finish]
@[simp] theorem finish_pgs : (finish a b).pgs = b.pgs := by simp [finish]
@[simp] theorem finish_metro : (finish a b).metro = b.metro := by simp [finish]
@[simp] theorem finish_rein : (finish a b).rein = b.rein := by simp [finish]
@[simp] theorem finish_sap : (finish a b).sap = b.sap := by simp [finish]
@[simp] theorem finish_pocket : (finish a b).pocket = b.pocket := by simp [finish]
@[simp] theorem finish_awl : (finish a b).awl = b.awl := by simp [finish]
@[simp] theorem finish_bark : (finish a b).bark = b.bark := by simp [finish]
@[simp] theorem finish_satchel : (finish a b).satchel = b.satchel := by simp [finish]
@[simp] theorem finish_tack : (finish a b).tack = b.tack := by simp [finish]
@[simp] theorem finish_wda : (finish a b).wda = b.wda := by simp [finish]
@[simp] theorem finish_wdb : (finish a b).wdb = b.wdb := by simp [finish]
@[simp] theorem finish_graft : (finish a b).graft = b.graft := by simp [finish]
@[simp] theorem finish_time : (finish a b).time = b.time := by simp [finish]
@[simp] theorem finish_policy : (finish a b).policy = b.policy := by simp [finish]
@[simp] theorem finish_freeCtr : (finish a b).freeCtr = b.freeCtr := by simp [finish]
@[simp] theorem finish_raised : (finish a b).raised = [] := by simp [finish]

@[simp] theorem finish_mem : (finish a b).flash.mem = b.flash.mem := by simp [finish]

/-- The end of a step changes of the host port IRQSTAT and the latch of DEV_ALARMS, and nothing else. -/
theorem finish_host : ∃ k l, (finish a b).host = { b.host with irqStat := k, devAlarmsLatched := l } := by
  obtain ⟨k, hk⟩ := entries_host { notice a b with raised := [] } (sortEvents (notice a b).raised)
  have hf : (flush (notice a b)).host = { (notice a b).host with irqStat := (notice a b).host.irqStat ||| k } := hk
  have hn : ∃ i l, (notice a b).host = { b.host with irqStat := i, devAlarmsLatched := l } := by
    unfold notice
    split
    · exact ⟨_, _, rfl⟩
    · exact ⟨_, _, rfl⟩
  obtain ⟨i, l, hn⟩ := hn
  rw [finish, journalKick_host, openIrq]
  split
  · exact ⟨i ||| k, l, by rw [hf, hn]⟩
  · exact ⟨b.host.irqStat, l, by simp only [hf, hn]⟩

/-- Of a port it changes LAST_EVENT alone. -/
theorem finish_port (p : Fin 8) : ∃ c, (finish a b).ports[p] = withLast c b.ports[p] := by
  obtain ⟨c, hc⟩ := entries_port { notice a b with raised := [] } (sortEvents (notice a b).raised) p
  have hn : ({ notice a b with raised := [] } : State).ports = b.ports := notice_ports a b
  have hf : (flush (notice a b)).ports[p] = withLast c b.ports[p] := by
    rw [← hn]; exact hc
  exact ⟨c, by simpa [finish] using hf⟩

@[simp] theorem finish_port_cc (p : Fin 8) : (finish a b).ports[p].cc = b.ports[p].cc := by
  obtain ⟨c, hc⟩ := finish_port a b p; rw [hc]; rfl

@[simp] theorem finish_port_cinch (p : Fin 8) : (finish a b).ports[p].cinch = b.ports[p].cinch := by
  obtain ⟨c, hc⟩ := finish_port a b p; rw [hc]; rfl

@[simp] theorem finish_port_metro (p : Fin 8) : (finish a b).ports[p].metro = b.ports[p].metro := by
  obtain ⟨c, hc⟩ := finish_port a b p; rw [hc]; rfl

@[simp] theorem finish_port_pd_cfg (p : Fin 8) : (finish a b).ports[p].pd.cfg = b.ports[p].pd.cfg := by
  obtain ⟨c, h⟩ := finish_port a b p; rw [h]; rfl
@[simp] theorem finish_port_pd_rev (p : Fin 8) : (finish a b).ports[p].pd.rev = b.ports[p].pd.rev := by
  obtain ⟨c, h⟩ := finish_port a b p; rw [h]; rfl
@[simp] theorem finish_port_pd_eprMode (p : Fin 8) : (finish a b).ports[p].pd.eprMode = b.ports[p].pd.eprMode := by
  obtain ⟨c, h⟩ := finish_port a b p; rw [h]; rfl
@[simp] theorem finish_port_pd_cable (p : Fin 8) : (finish a b).ports[p].pd.cable = b.ports[p].pd.cable := by
  obtain ⟨c, h⟩ := finish_port a b p; rw [h]; rfl
@[simp] theorem finish_port_pd_activeCable (p : Fin 8) : (finish a b).ports[p].pd.activeCable = b.ports[p].pd.activeCable := by
  obtain ⟨c, h⟩ := finish_port a b p; rw [h]; rfl
@[simp] theorem finish_port_pd_frsArmed (p : Fin 8) : (finish a b).ports[p].pd.frsArmed = b.ports[p].pd.frsArmed := by
  obtain ⟨c, h⟩ := finish_port a b p; rw [h]; rfl
@[simp] theorem finish_port_pd_frsSignalled (p : Fin 8) : (finish a b).ports[p].pd.frsSignalled = b.ports[p].pd.frsSignalled := by
  obtain ⟨c, h⟩ := finish_port a b p; rw [h]; rfl
@[simp] theorem finish_port_pd_ams (p : Fin 8) : (finish a b).ports[p].pd.ams = b.ports[p].pd.ams := by
  obtain ⟨c, h⟩ := finish_port a b p; rw [h]; rfl
@[simp] theorem finish_port_pd_waits (p : Fin 8) : (finish a b).ports[p].pd.waits = b.ports[p].pd.waits := by
  obtain ⟨c, h⟩ := finish_port a b p; rw [h]; rfl
@[simp] theorem finish_port_pd_source (p : Fin 8) : (finish a b).ports[p].pd.source = b.ports[p].pd.source := by
  obtain ⟨c, h⟩ := finish_port a b p; rw [h]; rfl
@[simp] theorem finish_port_pd_dfp (p : Fin 8) : (finish a b).ports[p].pd.dfp = b.ports[p].pd.dfp := by
  obtain ⟨c, h⟩ := finish_port a b p; rw [h]; rfl
@[simp] theorem finish_port_pd_explicit (p : Fin 8) : (finish a b).ports[p].pd.explicit = b.ports[p].pd.explicit := by
  obtain ⟨c, h⟩ := finish_port a b p; rw [h]; rfl
@[simp] theorem finish_port_pd_pdo (p : Fin 8) : (finish a b).ports[p].pd.pdo = b.ports[p].pd.pdo := by
  obtain ⟨c, h⟩ := finish_port a b p; rw [h]; rfl
@[simp] theorem finish_port_pd_rdo (p : Fin 8) : (finish a b).ports[p].pd.rdo = b.ports[p].pd.rdo := by
  obtain ⟨c, h⟩ := finish_port a b p; rw [h]; rfl
@[simp] theorem finish_port_pd_step (p : Fin 8) : (finish a b).ports[p].pd.step = b.ports[p].pd.step := by
  obtain ⟨c, h⟩ := finish_port a b p; rw [h]; rfl
@[simp] theorem finish_port_pd_pdoList (p : Fin 8) : (finish a b).ports[p].pd.pdoList = b.ports[p].pd.pdoList := by
  obtain ⟨c, h⟩ := finish_port a b p; rw [h]; rfl
@[simp] theorem finish_port_pd_sentCaps (p : Fin 8) : (finish a b).ports[p].pd.sentCaps = b.ports[p].pd.sentCaps := by
  obtain ⟨c, h⟩ := finish_port a b p; rw [h]; rfl
@[simp] theorem finish_port_pd_caps (p : Fin 8) : (finish a b).ports[p].pd.caps = b.ports[p].pd.caps := by
  obtain ⟨c, h⟩ := finish_port a b p; rw [h]; rfl
@[simp] theorem finish_port_pd_partnerCaps (p : Fin 8) : (finish a b).ports[p].pd.partnerCaps = b.ports[p].pd.partnerCaps := by
  obtain ⟨c, h⟩ := finish_port a b p; rw [h]; rfl
@[simp] theorem finish_port_pd_pendPdo (p : Fin 8) : (finish a b).ports[p].pd.pendPdo = b.ports[p].pd.pendPdo := by
  obtain ⟨c, h⟩ := finish_port a b p; rw [h]; rfl
@[simp] theorem finish_port_pd_pendRdo (p : Fin 8) : (finish a b).ports[p].pd.pendRdo = b.ports[p].pd.pendRdo := by
  obtain ⟨c, h⟩ := finish_port a b p; rw [h]; rfl
@[simp] theorem finish_port_pd_sinkPdos (p : Fin 8) : (finish a b).ports[p].pd.sinkPdos = b.ports[p].pd.sinkPdos := by
  obtain ⟨c, h⟩ := finish_port a b p; rw [h]; rfl
@[simp] theorem finish_port_pd_txq (p : Fin 8) : (finish a b).ports[p].pd.txq = b.ports[p].pd.txq := by
  obtain ⟨c, h⟩ := finish_port a b p; rw [h]; rfl
@[simp] theorem finish_port_pd_await (p : Fin 8) : (finish a b).ports[p].pd.await = b.ports[p].pd.await := by
  obtain ⟨c, h⟩ := finish_port a b p; rw [h]; rfl
@[simp] theorem finish_port_pd_rxq (p : Fin 8) : (finish a b).ports[p].pd.rxq = b.ports[p].pd.rxq := by
  obtain ⟨c, h⟩ := finish_port a b p; rw [h]; rfl
@[simp] theorem finish_port_pd_line (p : Fin 8) : (finish a b).ports[p].pd.line = b.ports[p].pd.line := by
  obtain ⟨c, h⟩ := finish_port a b p; rw [h]; rfl
@[simp] theorem finish_port_pd_vdmOut (p : Fin 8) : (finish a b).ports[p].pd.vdmOut = b.ports[p].pd.vdmOut := by
  obtain ⟨c, h⟩ := finish_port a b p; rw [h]; rfl
@[simp] theorem finish_port_pd_authDue (p : Fin 8) : (finish a b).ports[p].pd.authDue = b.ports[p].pd.authDue := by
  obtain ⟨c, h⟩ := finish_port a b p; rw [h]; rfl
@[simp] theorem finish_port_pd_bistTest (p : Fin 8) : (finish a b).ports[p].pd.bistTest = b.ports[p].pd.bistTest := by
  obtain ⟨c, h⟩ := finish_port a b p; rw [h]; rfl
@[simp] theorem finish_port_pd_bistUntil (p : Fin 8) : (finish a b).ports[p].pd.bistUntil = b.ports[p].pd.bistUntil := by
  obtain ⟨c, h⟩ := finish_port a b p; rw [h]; rfl
@[simp] theorem finish_port_pd_retry (p : Fin 8) : (finish a b).ports[p].pd.retry = b.ports[p].pd.retry := by
  obtain ⟨c, h⟩ := finish_port a b p; rw [h]; rfl
@[simp] theorem finish_port_pd_msgIdTx (p : Fin 8) : (finish a b).ports[p].pd.msgIdTx = b.ports[p].pd.msgIdTx := by
  obtain ⟨c, h⟩ := finish_port a b p; rw [h]; rfl
@[simp] theorem finish_port_pd_capsCount (p : Fin 8) : (finish a b).ports[p].pd.capsCount = b.ports[p].pd.capsCount := by
  obtain ⟨c, h⟩ := finish_port a b p; rw [h]; rfl
@[simp] theorem finish_port_pd_hardResetTries (p : Fin 8) : (finish a b).ports[p].pd.hardResetTries = b.ports[p].pd.hardResetTries := by
  obtain ⟨c, h⟩ := finish_port a b p; rw [h]; rfl
@[simp] theorem finish_port_pd_discTries (p : Fin 8) : (finish a b).ports[p].pd.discTries = b.ports[p].pd.discTries := by
  obtain ⟨c, h⟩ := finish_port a b p; rw [h]; rfl
@[simp] theorem finish_port_pd_discWaiting (p : Fin 8) : (finish a b).ports[p].pd.discWaiting = b.ports[p].pd.discWaiting := by
  obtain ⟨c, h⟩ := finish_port a b p; rw [h]; rfl
@[simp] theorem finish_port_pd_sinkTxWait (p : Fin 8) : (finish a b).ports[p].pd.sinkTxWait = b.ports[p].pd.sinkTxWait := by
  obtain ⟨c, h⟩ := finish_port a b p; rw [h]; rfl
@[simp] theorem finish_port_pd_held (p : Fin 8) : (finish a b).ports[p].pd.held = b.ports[p].pd.held := by
  obtain ⟨c, h⟩ := finish_port a b p; rw [h]; rfl
@[simp] theorem finish_port_pd_capsHeld (p : Fin 8) : (finish a b).ports[p].pd.capsHeld = b.ports[p].pd.capsHeld := by
  obtain ⟨c, h⟩ := finish_port a b p; rw [h]; rfl
@[simp] theorem finish_port_pd_hushMode (p : Fin 8) : (finish a b).ports[p].pd.hushMode = b.ports[p].pd.hushMode := by
  obtain ⟨c, h⟩ := finish_port a b p; rw [h]; rfl
@[simp] theorem finish_port_pd_alertSent (p : Fin 8) : (finish a b).ports[p].pd.alertSent = b.ports[p].pd.alertSent := by
  obtain ⟨c, h⟩ := finish_port a b p; rw [h]; rfl
@[simp] theorem finish_port_pd_auth (p : Fin 8) : (finish a b).ports[p].pd.auth = b.ports[p].pd.auth := by
  obtain ⟨c, h⟩ := finish_port a b p; rw [h]; rfl
@[simp] theorem finish_port_pd_authReason (p : Fin 8) : (finish a b).ports[p].pd.authReason = b.ports[p].pd.authReason := by
  obtain ⟨c, h⟩ := finish_port a b p; rw [h]; rfl
@[simp] theorem finish_port_pd_authChain (p : Fin 8) : (finish a b).ports[p].pd.authChain = b.ports[p].pd.authChain := by
  obtain ⟨c, h⟩ := finish_port a b p; rw [h]; rfl
@[simp] theorem finish_port_pd_authCerts (p : Fin 8) : (finish a b).ports[p].pd.authCerts = b.ports[p].pd.authCerts := by
  obtain ⟨c, h⟩ := finish_port a b p; rw [h]; rfl
@[simp] theorem finish_port_pd_authLeft (p : Fin 8) : (finish a b).ports[p].pd.authLeft = b.ports[p].pd.authLeft := by
  obtain ⟨c, h⟩ := finish_port a b p; rw [h]; rfl
@[simp] theorem finish_port_pd_authTime (p : Fin 8) : (finish a b).ports[p].pd.authTime = b.ports[p].pd.authTime := by
  obtain ⟨c, h⟩ := finish_port a b p; rw [h]; rfl
@[simp] theorem finish_port_pd_authAwait (p : Fin 8) : (finish a b).ports[p].pd.authAwait = b.ports[p].pd.authAwait := by
  obtain ⟨c, h⟩ := finish_port a b p; rw [h]; rfl
@[simp] theorem finish_port_pd_authHeld (p : Fin 8) : (finish a b).ports[p].pd.authHeld = b.ports[p].pd.authHeld := by
  obtain ⟨c, h⟩ := finish_port a b p; rw [h]; rfl
@[simp] theorem finish_port_pd_authHalt (p : Fin 8) : (finish a b).ports[p].pd.authHalt = b.ports[p].pd.authHalt := by
  obtain ⟨c, h⟩ := finish_port a b p; rw [h]; rfl
@[simp] theorem finish_port_pd_authFailedAlarm (p : Fin 8) : (finish a b).ports[p].pd.authFailedAlarm = b.ports[p].pd.authFailedAlarm := by
  obtain ⟨c, h⟩ := finish_port a b p; rw [h]; rfl
@[simp] theorem finish_port_pd_crcErrs (p : Fin 8) : (finish a b).ports[p].pd.crcErrs = b.ports[p].pd.crcErrs := by
  obtain ⟨c, h⟩ := finish_port a b p; rw [h]; rfl
@[simp] theorem finish_port_pd_retries (p : Fin 8) : (finish a b).ports[p].pd.retries = b.ports[p].pd.retries := by
  obtain ⟨c, h⟩ := finish_port a b p; rw [h]; rfl
@[simp] theorem finish_port_pd_softResets (p : Fin 8) : (finish a b).ports[p].pd.softResets = b.ports[p].pd.softResets := by
  obtain ⟨c, h⟩ := finish_port a b p; rw [h]; rfl
@[simp] theorem finish_port_pd_hardResets (p : Fin 8) : (finish a b).ports[p].pd.hardResets = b.ports[p].pd.hardResets := by
  obtain ⟨c, h⟩ := finish_port a b p; rw [h]; rfl
@[simp] theorem finish_port_pd_violCount (p : Fin 8) : (finish a b).ports[p].pd.violCount = b.ports[p].pd.violCount := by
  obtain ⟨c, h⟩ := finish_port a b p; rw [h]; rfl
@[simp] theorem finish_port_pd_lastClass (p : Fin 8) : (finish a b).ports[p].pd.lastClass = b.ports[p].pd.lastClass := by
  obtain ⟨c, h⟩ := finish_port a b p; rw [h]; rfl
@[simp] theorem finish_port_pd_lastLevel (p : Fin 8) : (finish a b).ports[p].pd.lastLevel = b.ports[p].pd.lastLevel := by
  obtain ⟨c, h⟩ := finish_port a b p; rw [h]; rfl
@[simp] theorem finish_port_pd_lastAnswer (p : Fin 8) : (finish a b).ports[p].pd.lastAnswer = b.ports[p].pd.lastAnswer := by
  obtain ⟨c, h⟩ := finish_port a b p; rw [h]; rfl
@[simp] theorem finish_port_pd_classes (p : Fin 8) : (finish a b).ports[p].pd.classes = b.ports[p].pd.classes := by
  obtain ⟨c, h⟩ := finish_port a b p; rw [h]; rfl

@[simp] theorem finish_portCc (p : Fin 8) : portCc (finish a b) p = portCc b p := finish_port_cc a b p
@[simp] theorem finish_portCinch (p : Fin 8) : portCinch (finish a b) p = portCinch b p := finish_port_cinch a b p
@[simp] theorem finish_portMetro (p : Fin 8) : portMetro (finish a b) p = portMetro b p := finish_port_metro a b p

/-- The entries of a step on the Ring alone. -/
theorem entries_ring (es : List Event) : ∀ s : State,
    (es.foldl writeEntry s).ring = es.foldl (fun r e => ringPut e s.time.stamp r) s.ring := by
  induction es with
  | nil => intro s; rfl
  | cons e t ih =>
    intro s
    have hr : (writeEntry s e).ring = ringPut e s.time.stamp s.ring := by simp [writeEntry, ringEntry]
    have ht : (writeEntry s e).time = s.time := writeEntry_time _ _
    simp only [List.foldl_cons, ih, hr, ht]

/-- What the end of a step writes into the Ring: the events raised, in the order of R604. -/
theorem finish_ring :
    (finish a b).ring = (sortEvents b.raised).foldl (fun r e => ringPut e b.time.stamp r) b.ring := by
  have h : (finish a b).ring = (flush (notice a b)).ring := by simp [finish]
  rw [h, flush]
  simp only [entries_ring, notice_raised, notice_time, notice_ring]

/-- A step that raises one event writes one entry. -/
theorem finish_ring_one {e : Event} (h : b.raised = [e]) : (finish a b).ring = ringPut e b.time.stamp b.ring := by
  rw [finish_ring, h]; rfl

/-- A step that raises nothing writes no entry. -/
theorem finish_ring_none (h : b.raised = []) : (finish a b).ring = b.ring := by
  rw [finish_ring, h]; rfl

@[simp] theorem finish_host_verdict : (finish a b).host.verdict = b.host.verdict := by
  obtain ⟨k, l, h⟩ := finish_host a b; rw [h]
@[simp] theorem finish_host_verdictSeq : (finish a b).host.verdictSeq = b.host.verdictSeq := by
  obtain ⟨k, l, h⟩ := finish_host a b; rw [h]
@[simp] theorem finish_host_takenSeq : (finish a b).host.takenSeq = b.host.takenSeq := by
  obtain ⟨k, l, h⟩ := finish_host a b; rw [h]
@[simp] theorem finish_host_taken : (finish a b).host.taken = b.host.taken := by
  obtain ⟨k, l, h⟩ := finish_host a b; rw [h]
@[simp] theorem finish_host_buf : (finish a b).host.buf = b.host.buf := by
  obtain ⟨k, l, h⟩ := finish_host a b; rw [h]
@[simp] theorem finish_host_rspReady : (finish a b).host.rspReady = b.host.rspReady := by
  obtain ⟨k, l, h⟩ := finish_host a b; rw [h]
@[simp] theorem finish_host_job : (finish a b).host.job = b.host.job := by
  obtain ⟨k, l, h⟩ := finish_host a b; rw [h]
@[simp] theorem finish_host_jobDone : (finish a b).host.jobDone = b.host.jobDone := by
  obtain ⟨k, l, h⟩ := finish_host a b; rw [h]
@[simp] theorem finish_host_resetArmed : (finish a b).host.resetArmed = b.host.resetArmed := by
  obtain ⟨k, l, h⟩ := finish_host a b; rw [h]
@[simp] theorem finish_host_nonce : (finish a b).host.nonce = b.host.nonce := by
  obtain ⟨k, l, h⟩ := finish_host a b; rw [h]
@[simp] theorem finish_host_crcErrs : (finish a b).host.crcErrs = b.host.crcErrs := by
  obtain ⟨k, l, h⟩ := finish_host a b; rw [h]
@[simp] theorem finish_host_busyCount : (finish a b).host.busyCount = b.host.busyCount := by
  obtain ⟨k, l, h⟩ := finish_host a b; rw [h]
@[simp] theorem finish_host_formatSeen : (finish a b).host.formatSeen = b.host.formatSeen := by
  obtain ⟨k, l, h⟩ := finish_host a b; rw [h]
@[simp] theorem finish_host_irqEn : (finish a b).host.irqEn = b.host.irqEn := by
  obtain ⟨k, l, h⟩ := finish_host a b; rw [h]
@[simp] theorem finish_host_sevThreshold : (finish a b).host.sevThreshold = b.host.sevThreshold := by
  obtain ⟨k, l, h⟩ := finish_host a b; rw [h]
@[simp] theorem finish_host_sumGen : (finish a b).host.sumGen = b.host.sumGen := by
  obtain ⟨k, l, h⟩ := finish_host a b; rw [h]
@[simp] theorem finish_host_last : (finish a b).host.last = b.host.last := by
  obtain ⟨k, l, h⟩ := finish_host a b; rw [h]
@[simp] theorem finish_host_devAlarms : (finish a b).host.devAlarms = b.host.devAlarms := by
  obtain ⟨k, l, h⟩ := finish_host a b; rw [h]
@[simp] theorem finish_host_asked : (finish a b).host.asked = b.host.asked := by
  obtain ⟨k, l, h⟩ := finish_host a b; rw [h]
@[simp] theorem finish_host_badEntryAt : (finish a b).host.badEntryAt = b.host.badEntryAt := by
  obtain ⟨k, l, h⟩ := finish_host a b; rw [h]
@[simp] theorem finish_host_miso : (finish a b).host.miso = b.host.miso := by
  obtain ⟨k, l, h⟩ := finish_host a b; rw [h]

/-- An access that the Tack allows leaves the state as it was. -/
theorem allowed_state {who : Requester} {u : List Access} (h : (allowed who u s).2 = true) : (allowed who u s).1 = s := by
  revert h
  unfold allowed tackCheck
  split
  · intro _; rfl
  · simp only [List.foldl_cons, List.foldl_nil]
    split
    · intro _; rfl
    · simp

/-- A write that the Tack allows is made. -/
theorem guarded_allowed {who : Requester} {addr : Nat} {f : State → State} (h : maySet who addr s) :
    guarded who (regAccess true addr) f s = f s := by
  have h' : (allowed who (regAccess true addr) s).2 = true := h
  simp only [guarded, h', allowed_state s h', if_true]


end

end Sys2Proof.Machine
end

