-- ==== Sys2Proof/WellFormed.lean ====
section
/-! DEFINITION. Which operands the spec's layouts admit for a command: one named check per layout. The machine does not rest
on them: an ill-formed command is refused by the device's own checks (BAD_ARG, FORMAT) or leaves it as it was. -/

namespace Sys2Proof

/-- R162: COUNT of a register command. -/
def wfCount (i : Instr) : Bool :=
  match i with
  | .regRead _ _ c => decide (1 ≤ c.toNat) && decide (c.toNat ≤ 64)
  | .regWrite _ _ vs => decide (1 ≤ vs.length) && decide (vs.length ≤ 64)
  | _ => true

/-- R164: the registers of a command lie in one station. -/
def wfStation (i : Instr) : Bool :=
  let one (a : Half) (n : Nat) : Bool := decide (a.toNat / 1024 = (a.toNat + 4 * (n - 1)) / 1024)
  match i with
  | .regRead _ a c => one a c.toNat
  | .regWrite _ a vs => one a vs.length
  | _ => true

/-- Table 6.5: INDEX and COUNT of RING_READ and JOURNAL_READ. -/
def wfEntries (i : Instr) : Bool :=
  match i with
  | .ringRead _ _ c => decide (1 ≤ c.toNat) && decide (c.toNat ≤ 32)
  | .journalRead _ k c => decide (k.toNat ≤ 4095) && decide (1 ≤ c.toNat) && decide (c.toNat ≤ 32)
  | _ => true

/-- Table 6.5: the ranges of the flash commands. -/
def wfFlash (i : Instr) : Bool :=
  match i with
  | .flashRead _ _ n => decide (1 ≤ n.toNat) && decide (n.toNat ≤ 512)
  | .flashWrite _ a d => decide (1 ≤ d.length) && decide (a.toNat % 256 + d.length ≤ 256)
  | .flashErase _ a => decide (a.toNat % 4096 = 0)
  | _ => true

/-- Table 6.5: SOURCE, PULSE and FLAGS of HW_BURN. -/
def wfBurn (i : Instr) : Bool :=
  match i with
  | .hwBurn _ _ src pulse flags _ _ _ =>
    decide (src.toNat ≤ 1) && decide (5 ≤ pulse.toNat) && decide (pulse.toNat ≤ 40) && decide (flags.toNat ≤ 1)
  | _ => true

/-- Table 6.5: KEY and SIG of a SIGNED command. -/
def wfSigned (i : Instr) : Bool :=
  let sized (k g : List Byte) : Bool := decide (k.length = 64) && decide (g.length = 64)
  match i with
  | .signed _ _ k g _ => sized k g
  | .hwEvalLock _ k g => sized k g
  | .keyProvision _ k g _ _ => sized k g
  | .keyReprovision _ k g _ => sized k g
  | .patternKeySet _ k g _ _ _ => sized k g
  | _ => true

/-- Tables 6.5 and 16.6, and the Graft payloads: the fixed lengths. -/
def wfPayload (i : Instr) : Bool :=
  match i with
  | .keyProvision _ _ _ _ v => decide (v.length = 32)
  | .keyReprovision _ _ _ c => decide (c.length = 4)
  | .patternKeySet _ _ _ e c t => decide (e.length = 64) && decide (c.length = 32) && decide (t.length = 16)
  | .graftOpen _ m _ _ => decide (m.length = 256)
  | .graftPiece _ _ _ d _ => decide (d.length = 512)
  | .reset _ m => decide (m.length = 4)
  | .reinRelay _ _ f => decide (f.length ≤ 1020)
  | _ => true

/-- Table 8.3: OFFSET of a LOAD frame, which carries 32 bytes of at most 4,096; 0xFFFF ends the load. -/
def wfStrap (i : Instr) : Bool :=
  match i with
  | .load o => o == 0xFFFF || (decide (o.toNat % 32 = 0) && decide (o.toNat < 4096))
  | _ => true

/-- Chapter 17: lines and bytes of the 256 KiB Satchel. -/
def wfSatchel (i : Instr) : Bool :=
  match i with
  | .satchelRead _ l _ => decide (l < 8192)
  | .satchelLineWrite _ l bs => decide (l < 8192) && decide (bs.length = 32)
  | .satchelPartialWrite _ a bs _ =>
    decide (a < 262144) && decide (1 ≤ bs.length) && decide (a % 32 + bs.length ≤ 32)
  | _ => true

/-- Tables 14.2 to 14.4: the fields of Rein frames. -/
def wfRein (i : Instr) : Bool :=
  match i with
  | .enum _ id _ _ => decide (id < 2 ^ 128)
  | .mark k _ => decide (k ≤ 21)
  | .commit _ _ _ rs => decide (rs.length = 8)
  | _ => true

/-- Every check. -/
def Instr.wellFormed (i : Instr) : Bool :=
  wfCount i && wfStation i && wfEntries i && wfFlash i && wfBurn i && wfSigned i && wfPayload i && wfStrap i
    && wfSatchel i && wfRein i

end Sys2Proof
end

