-- ==== Sys2Proof/Tests/Slice0.lean ====
section
/-! SUPPORT. The author's own tests: the well-formedness checks, worked cases of the spec, and for each obligation with
hypotheses one theorem that shows states and operands that meet them (`witness_<Name>`, one part per clause). -/

namespace Sys2Proof.Tests
open Sys2Proof Sys2Proof.Machine
set_option maxRecDepth 100000
set_option Elab.async false

def rdy : State :=
  { State.reset with
    boot := { State.reset.boot with phase := .ready, ready := true, cold := false }
    strap := { State.reset.strap with link := .up, codeRunning := true }
    pattern := { State.reset.pattern with portMask := 0xFF }
    power := { State.reset.power with vdd18 := true, vddio := true }
    sap := { State.reset.sap with running := true } }

def pol0 : PdPolicy := { holdBudget := true, acceptSwap := true, frsAccept := true, sinkPick := none, restartAuth := false, reducedOffer := [], rev2 := false }

def lithium : State :=
  { rdy with heart := { rdy.heart with shadows := [(0x80, 1)] } }
def portsAs (q : Port) : State := { rdy with ports := .replicate 8 q }
def holdsAs (source : Bool) (h : HoldPort) : State :=
  { rdy with strap := { rdy.strap with holds := .replicate 8 h }, ports := .replicate 8 { pd := { source } } }
def gcutsClosed (s : State) : State := { s with groups := .replicate 2 { gcutOpen := false } }
def winOf (poison : List Nat) : State :=
  { rdy with satchel := { rdy.satchel with winA := .replicate 8 0x80000000, winB := .replicate 8 0, poisoned := poison } }

/-- A device of which the stored tag of line 0 is not the tag of its bytes. -/
def badTag : State :=
  { winOf [] with satchel := { (winOf []).satchel with tags := [(0, Config.satTag 0 0 0 + 1)] } }
theorem badTag_bad : tagBad (disturb 0 none badTag) 0 = true := by
  have v : lineTag badTag 0 = Config.satTag 0 0 0 := rfl
  have t : storedTag badTag 0 = Config.satTag 0 0 0 + 1 := rfl
  simp [disturb, tagBad, v, t]

/-- An ACK of the Strap and a frame of Rein of TYPE 3, each with a good check sequence. -/
def strapLine : StrapLine :=
  { chars := [0, 0x20] ++ le 2 (crcOf 2 [0, 0x20]).toNat, parityErr := false, badControl := false, eef := false }
def reinLine : StrapLine :=
  let b : List Byte := [0x30, 0, 0, 0] ++ [1, 2, 3, 4]
  { chars := b ++ le 4 (crc32c b).toNat, parityErr := false, badControl := false, eef := false }

/-- A P-256 key pair with private key 1: the public key is the base point. -/
def gKey : List Byte := be 32 p256gx ++ be 32 p256gy
/-- A signature by `gKey` with the nonce 1, for which r is the base point's x. -/
def sigOf (inner : Nat) (ip : List Byte) (s : State) : List Byte :=
  be 32 (p256gx % p256n) ++ be 32 ((ofBe (signedDigest s (s.host.nonce.getD []) inner ip) + p256gx) % p256n)
def ownerRows : List (Nat × HwRow) :=
  (List.range 4).foldl (fun c i =>
    mput {} c (0xC1 + i) { data := BitVec.ofNat 64 (ofLe (slice (sha256 gKey) (8 * i) 8)), closed := true }) []
/-- A device whose first owner key is `gKey`, with a nonce outstanding and the Pocket powered. -/
def owned : State :=
  { rdy with
    heart := { rdy.heart with cells := ownerRows }
    host := { rdy.host with nonce := some (List.replicate 32 5) }
    pocket := { rdy.pocket with powered := true, pufOk := true }
    sap := { rdy.sap with level := 2 } }
def v32 : List Byte := List.replicate 32 7
/-- `v32` under the Pattern-key wrapping of a device whose slot 0 holds the scalar 1, with `gKey` as the ephemeral key. -/
def wrapped : List Byte × List Byte :=
  (be 32 0x9281927e2d1988c1e41ba25c0c0bb73012c390fd06960e684cb2be3abf9d5c46, be 16 0x0196ef44531e3688152194a51978948c)
def keyed : State :=
  { owned with pocket := { owned.pocket with slots := .replicate 16 1, items := .replicate 20 { slot := some 4 } } }
def noEval : State := { rdy with heart := { rdy.heart with cells := [] } }
def shFull : State :=
  { noEval with heart := { noEval.heart with shadows := (List.range 16).map fun i => (0x50 + i, 0) } }

/-- The manifest of a bundle of one piece (Table 19.1). -/
def bundle : List Byte :=
  [0x4C, 0x55, 0x47, 0x46, 1, 0, 0, 1] ++ le 4 256 ++ [1, 0, 0, 0, 1, 0, 0, 0] ++ le 4 0x100 ++ le 4 0 ++ le 4 0x100
    ++ List.replicate 224 0
def piece : List Byte := List.replicate 512 0xFF
/-- A journal whose manifest states 1024 bytes in two pieces. -/
def grafting (st : GraftState) (n : Nat) : State :=
  flashProgram (graftBase rdy + 8) [0, 4, 0, 0, 2, 0]
    { rdy with graft := { rdy.graft with st, bitmap := BitVec.ofNat 2048 n } }
/-- Two commands wait: a stop of the reference oscillator, then IDENT. -/
def queued : State :=
  { rdy with pending := [.refoscStop, .ident 1], host := { rdy.host with devAlarmsLatched := 0x7FF } }
/-- The state after one step. -/
def after (s : State) : State :=
  match step s with
  | .next t => t
  | _ => s

/-- The state after one command. -/
def run (i : Instr) (s : State) : State :=
  match exec i s with
  | .next t => t
  | _ => s

/-! ### WellFormed: each check refuses a term and takes one beside it -/

theorem test_wfCount : wfCount (.regRead 0 0x4C00 65) = false ∧ wfCount (.regRead 0 0x4C00 64) = true := by decide
theorem test_wfStation : wfStation (.regRead 0 0x4FFC 2) = false ∧ wfStation (.regRead 0 0x4FF8 2) = true := by decide
theorem test_wfEntries :
    wfEntries (.ringRead 0 0 33) = false ∧ wfEntries (.journalRead 0 4096 1) = false
      ∧ wfEntries (.journalRead 0 4095 32) = true := by decide
theorem test_wfFlash :
    wfFlash (.flashRead 0 0 513) = false ∧ wfFlash (.flashWrite 0 0xFF [1, 2]) = false ∧ wfFlash (.flashErase 0 1) = false
      ∧ wfFlash (.flashWrite 0 0xFF [1]) = true := by decide
theorem test_wfBurn :
    wfBurn (.hwBurn 0 0x40 0 4 0 1 6500 25) = false ∧ wfBurn (.hwBurn 0 0x40 2 20 0 1 6500 25) = false
      ∧ wfBurn (.hwBurn 0 0x40 1 40 1 1 6500 25) = true := by decide
theorem test_wfSigned : wfSigned (.hwEvalLock 0 [] gKey) = false ∧ wfSigned (.hwEvalLock 0 gKey gKey) = true := by decide
theorem test_wfPayload :
    wfPayload (.reset 0 [0x52]) = false ∧ wfPayload (.graftPiece 0 0 0 [] .ok) = false
      ∧ wfPayload (.reset 0 [0x52, 0x53, 0x54, 0x21]) = true := by decide
theorem test_wfStrap : wfStrap (.load 4096) = false ∧ wfStrap (.load 4064) = true := by decide
theorem test_wfSatchel :
    wfSatchel (.satchelRead .host 8192 none) = false ∧ wfSatchel (.satchelPartialWrite .host 31 [1, 2] none) = false
      ∧ wfSatchel (.satchelPartialWrite .host 30 [1, 2] none) = true := by decide
theorem test_wfRein :
    wfRein (.mark 22 0) = false ∧ wfRein (.commit { hops := 0, src := 0, bcast := true, dest := 0, seq := 0 } 1 0 []) = false
      ∧ wfRein (.mark 21 0) = true := by decide

/-! ### Check values and published vectors -/

def digits : List Byte := [0x31, 0x32, 0x33, 0x34, 0x35, 0x36, 0x37, 0x38, 0x39]

/-- Table 7.1, its last column. -/
theorem test_check_values :
    crcOf 0 digits = 0xE3069283 ∧ crcOf 1 digits = 0xCBF43926 ∧ crcOf 2 digits = 0x29B1 := by decide
/-- Worked case 7.1: the host port folds 0x2D and 0x23 before a REG_READ of station 0x23 with SEQ 0x2D. -/
theorem test_frame_fold :
    frameCrc (cmdStation 0x02 [0x00, 0x8C, 1, 0]) 0x2D digits = crcOf 0 ([0x2D, 0x23] ++ digits) := by decide
/-- SHA-256 of "abc" (FIPS 180-4). -/
theorem test_sha256 :
    sha256 [0x61, 0x62, 0x63] = be 32 0xba7816bf8f01cfea414140de5dae2223b00361a396177a9cb410ff61f20015ad := by decide +kernel
/-- The AES-256 vector of FIPS 197, appendix C.3. -/
theorem test_aes256 :
    aesEncrypt (aesKeys (be 32 0x000102030405060708090a0b0c0d0e0f101112131415161718191a1b1c1d1e1f))
      (be 16 0x00112233445566778899aabbccddeeff) = be 16 0x8ea2b7ca516745bfeafc49904b496089 := by decide +kernel

/-! ### Worked cases of the spec -/

def seamed : State :=
  { rdy with seam := { rdy.seam with holder := some (.stand 0), run := (digits.take 4).foldl (crcFeed 0) (crcInit 0) } }

/-- Worked case 7.1: a word feeds its bytes from the lowest. -/
theorem test_7_1_word :
    (run (.seamDataWrite (.stand 0) 2 0x38373635) seamed).seam.run = (digits.take 8).foldl (crcFeed 0) (crcInit 0) := by decide
/-- Worked case 7.1: the compare with 0xE3069283 matches, the one with 0xE3069284 counts a mismatch. -/
theorem test_7_1_compare :
    let s := { seamed with seam := { seamed.seam with run := digits.foldl (crcFeed 0) (crcInit 0), dataSeen := true } }
    (run (.seamCompare (.stand 0) 0xE3069283) s).seam.isMatch = true
      ∧ (run (.seamCompare (.stand 0) 0xE3069284) s).seam.mismatches.n = 1 := by decide

def hotZone (sp : Nat) : State := { rdy with power := { rdy.power with vcctl := 0x00140001, setpoint := sp, ovrSeen := true } }

/-- Worked case 3.1: the ceiling 0x14 below the floor 0x1E leaves the set-point at the floor. -/
theorem test_3_1_override :
    (run (.vcoreLoopEval 0x1E 0 [13] 1800) (hotZone 0x1E)).power.setpoint = 0x1E
      ∧ (run (.vcoreLoopEval 0x1E 0 [13] 1800) (hotZone 0x1E)).power.override = true := by decide
/-- Worked case 3.1: one code down per evaluation, and the override ends when the floor falls to 0x12. -/
theorem test_3_1_step_down :
    (run (.vcoreLoopEval 0x16 0 [13] 1800) (hotZone 0x1E)).power.setpoint = 0x1D
      ∧ (run (.vcoreLoopEval 0x12 0 [13] 1800) (hotZone 0x13)).power.setpoint = 0x12
      ∧ (run (.vcoreLoopEval 0x12 0 [13] 1800) (hotZone 0x13)).power.override = false
      ∧ (run (.vcoreLoopEval 0x12 0 [13] 1800) (hotZone 0x13)).power.ovrSeen = true := by decide
/-- Worked case 4.1: row 0x42 with 0x0000_0000_3232_3232 holds P0 for 50 × 2 ms and P4 not at all. -/
theorem test_4_1_hold :
    let s := { rdy with heart := { rdy.heart with cells := [(0x42, { data := 0x32323232, parity := 0xF0, closed := true })] } }
    parityOf 0x32323232 = 0xF0 ∧ holdCode s 0 = 50 ∧ holdCode s 3 = 50 ∧ holdCode s 4 = 0 := by decide
def floodedRequest : BmcPacket :=
  { crcOk := true, sop := .sop, flaw := none, msg := .request 0x1000, pol := pol0 }
/-- Worked case 9.1, step 3: the flooded Request is counted, gets no GoodCRC and reaches no engine. -/
theorem test_9_1_flooded :
    let s := portsAs { cc := { floodCfg := 0xC0, state := .attachedSrc, term := .rp 0 }, pd := { source := true, step := .ready } }
    let t := run (.bmcPacketRx 2 floodedRequest) (run (.floodSet 2 true (some 94)) s)
    (portCc t 2).floodPkts.n = 1 ∧ (portPd t 2).txq = [] ∧ t.ring.newest = 0 := by decide
/-- Worked case 12.1: PG0TIME 0x4B00_0780 is a period of 19,200 ticks. -/
theorem test_12_1_period : pgPeriod { time := 0x4B000780 } = 19200 := by decide

def pps (work : Nat) (vset : Int) (vbus : Nat) (changed : Bool) : State :=
  portsAs {
    cinch := { vset, vsetLim := 0x7FFF8000, gates := true, pumpOk := true, st := .on }
    pd := { source := true }
    metro := { loopCfg := 0x69885300, workUv := work, targetUv := 9020000, vbus, codeChanged := changed } }

/-- Worked case 13.1, step 3: a 20 mV step of the target is +10 codes. -/
theorem test_13_1_feed_forward : (portCinch (loopStep 6 (pps 9000000 1925 35997 false)) 6).vset = 1935 := by decide
/-- Worked case 13.1, steps 5 and 6: no step after a code change, none in the hold band. -/
theorem test_13_1_hold :
    (portCinch (loopStep 6 (pps 9020000 1935 36035 true)) 6).vset = 1935
      ∧ (portCinch (loopStep 6 (pps 9020000 1935 36081 false)) 6).vset = 1935 := by decide
/-- Worked case 14.1: addresses 0, 1 and 2 of the segment. -/
theorem test_14_1_segment :
    (sweepCorrection [48012400, 48010000, 48014800] 48014800).map gainPpm = some (-50)
      ∧ (sweepCorrection [48012400, 48010000, 48014800, 48011200] 48011200).map gainPpm = some 19
      ∧ sweepCorrection [48012400, 48010000, 48014800, 48011200, 48040000] 48040000 = none := by decide
/-- Worked case 15.1: a 1 F reserve at 3.30 V holds 3.825 J above the stop voltage. -/
theorem test_15_1_energy : capEnergy 1000 3300 = 3825000 := by decide
/-- Worked case 17.1: the commit of epoch 0x0008 drains, then stands. -/
theorem test_17_1_commit :
    let s := { rdy with tack := { rdy.tack with epoch := 7 } }
    (run (.tkcommit .host 8) s).tack.draining.isSome = true ∧ (run (.tkcommit .host 8) s).tack.epoch = 7
      ∧ (run .tackCommit (run (.tkcommit .host 8) s)).tack.epoch = 8 := by decide
/-- Worked case 18.1: PERIOD 20 and OPEN 2 open the window 150 ms after the period start. -/
theorem test_18_1_window :
    let s := { rdy with wda := { rdy.wda with cfg := 0x00140200, state := 1 } }
    wdaOpenIn s = 150 ∧ wdaExpireIn s = 200 := by decide
/-- Worked case 19.1: the manifest of 112,576 bytes in 220 pieces, with PAT_OFFSET 0x1100. -/
theorem test_19_1_manifest :
    let m := [0x4C, 0x55, 0x47, 0x46, 1, 0, 0, 1] ++ le 4 112576 ++ le 2 220 ++ [0, 0] ++ le 4 1 ++ le 4 0x100
      ++ le 4 4096 ++ le 4 0x1100 ++ le 4 108224 ++ List.replicate 220 0
    bundleFormat m = true ∧ bundleFormat (m.set 12 219) = false := by decide +kernel
/-- Table 6.5, IDENT: 32 bytes, PROTOCOL 0x0001 after the DEVICE_ID. -/
theorem test_ident :
    let t := run (.ident 1) rdy
    t.host.buf.payload.length = 32 ∧ (t.host.buf.payload.drop 16).take 2 = [1, 0] := by decide +kernel
/-- Table 2.8, R62: after power-on every port's gates are off and its discharge is on. -/
theorem test_reset_ports : (portCinch State.reset 7).gates = false ∧ (portCinch State.reset 7).dsch = true := by decide

/-! ### Witnesses of the obligations -/

theorem witness_StepRunsFront :
    (∃ (c : Instr) (rest : List Instr) (s : State), s.pending = c :: rest)
    ∧ (∃ s : State, s.pending = []) :=
  ⟨⟨.jobDone, [], { rdy with pending := [.jobDone] }, by decide +kernel⟩,
    ⟨rdy, by decide +kernel⟩⟩

theorem witness_PowerOnAndRstN :
    (∃ lowNs : Nat, 1000 ≤ lowNs)
    ∧ (∃ lowNs : Nat, lowNs < 100) :=
  ⟨⟨1000, by decide +kernel⟩,
    ⟨99, by decide +kernel⟩⟩

theorem witness_CrownResetCauses :
    (∃ s : State, crownRuns s = true)
    ∧ (∃ s : State, s.wdb.running = true ∧ crownRuns s = true) :=
  ⟨⟨rdy, by decide +kernel⟩,
    ⟨{ rdy with wdb := { rdy.wdb with running := true } }, by decide +kernel⟩⟩

theorem witness_SupplyChanges :
    (∃ (g : Fin 2) (s : State), s.power.groupUp[g] = true ∧ s.power.groupUp[1 - g] = true)
    ∧ (∃ (g : Fin 2) (s : State), s.power.groupUp[g] = false)
    ∧ (∃ s : State, s.power.refoscRunning = true ∧ s.strap.codeRunning = true) :=
  ⟨⟨0, rdy, by decide +kernel⟩,
    ⟨1, { rdy with power := { rdy.power with groupUp := .replicate 2 false } }, by decide +kernel⟩,
    ⟨rdy, by decide +kernel⟩⟩

theorem witness_CoreVoltageLoop :
    (∃ s : State, isReady s = true)
    ∧ (∃ (slack : Int) (s : State), isReady s = true ∧ slack < 6)
    ∧ (∃ (slack : Int) (s : State), 6 ≤ slack ∧ isReady s = true)
    ∧ (∃ (who : Requester) (s : State), isReady s = true ∧ maySet who 0x4C00 s) :=
  ⟨⟨rdy, by decide +kernel⟩,
    ⟨5, rdy, by decide +kernel⟩,
    ⟨6, rdy, by decide +kernel⟩,
    ⟨.host, rdy, by unfold maySet; decide +kernel⟩⟩

theorem witness_BootStartCheck :
    (∃ (env : BootEnv) (s : State), bootMay s = true ∧ startCheck s.heart.cells env.lateRow ≠ none)
    ∧ (∃ (env : BootEnv) (s : State), bootMay s = true ∧ startCheck s.heart.cells env.lateRow = none ∧ (env.flashBusy =
      true ∨ s.wdb.storm < 4))
    ∧ (∃ (env : BootEnv) (s : State), bootMay s = true ∧ startCheck s.heart.cells env.lateRow = none ∧ env.flashBusy =
      false ∧ 4 ≤ s.wdb.storm)
    ∧ (∃ s : State, s.flash.wip = true)
    ∧ (∃ s : State, s.flash.wip = true ∧ s.wdb.storm < 4)
    ∧ (∃ s : State, bootMay s = false) :=
  ⟨⟨{ lateRow := some 0x11D, pufErrors := none, flashOk := true }, State.reset, by decide +kernel⟩,
    ⟨{ lateRow := none, pufErrors := none, flashOk := true },
      { State.reset with wdb := { State.reset.wdb with storm := 3 } }, by decide +kernel⟩,
    ⟨{ lateRow := none, pufErrors := none, flashOk := true },
      { State.reset with wdb := { State.reset.wdb with storm := 4 } }, by decide +kernel⟩,
    ⟨{ rdy with flash := { rdy.flash with wip := true } }, by decide +kernel⟩,
    ⟨{ rdy with flash := { rdy.flash with wip := true } }, by decide +kernel⟩,
    ⟨rdy, by decide +kernel⟩⟩

theorem witness_LoaderVerdicts :
    (∃ s : State, s.boot.phase = .fetch ∧ s.flash.wip = false)
    ∧ (∃ s : State, s.boot.phase = .fetch ∧ s.flash.wip = false ∧ s.boot.second = false)
    ∧ (∃ s : State, s.boot.phase = .verify) :=
  ⟨⟨{ State.reset with boot := { State.reset.boot with phase := .fetch } }, by decide +kernel⟩,
    ⟨{ State.reset with boot := { State.reset.boot with phase := .fetch } }, by decide +kernel⟩,
    ⟨{ State.reset with boot := { State.reset.boot with phase := .verify } }, by decide +kernel⟩⟩

theorem witness_GrainReady :
    (∃ (fails : BitVec 16) (pat : PatternStart) (s : State), s.boot.phase = .selftest ∧ pat.writes = [] ∧
      (grainTest fails (grainConfigure (slotPattern s s.boot.slot) (loadIdentity (slotPattern s s.boot.slot) s))).2 =
        true)
    ∧ (∃ (pat : PatternStart) (s : State), s.boot.phase = .selftest ∧ pat.writes = [])
    ∧ (∃ (fails : BitVec 16) (s : State), s.boot.phase = .selftest ∧
      (grainTest fails (grainConfigure (slotPattern s s.boot.slot) (loadIdentity (slotPattern s s.boot.slot) s))).2 =
        false) :=
  ⟨⟨0, { writes := [], pdos := [], sinkPdos := [], fastCmpFail := [] },
      { State.reset with boot := { State.reset.boot with phase := .selftest } }, by decide +kernel⟩,
    ⟨{ writes := [], pdos := [], sinkPdos := [], fastCmpFail := [] },
      { State.reset with boot := { State.reset.boot with phase := .selftest } }, by decide +kernel⟩,
    ⟨0xFFFF, { State.reset with boot := { State.reset.boot with phase := .selftest } }, by decide +kernel⟩⟩

theorem witness_SupervisorTokens :
    (∃ (k : Fin 16) (s : State), isReady s = true ∧ timersRun s = true ∧ s.grain.supStalled = false ∧
      presentStand s k = true ∧ s.grain.stands[k].out = false ∧ s.grain.stands[k].reloading = false)
    ∧ (∃ (k : Fin 16) (s : State), s.grain.stands[k].reloading = true ∧ reloadLine k none s = none)
    ∧ (∃ (k : Fin 16) (line : Nat) (s : State), s.grain.stands[k].reloading = true ∧ line / 256 = k.val) :=
  ⟨⟨0, { rdy with grain := { rdy.grain with present := 1, stands := .replicate 16 { role := 1 } } }, by decide +kernel⟩,
    ⟨15, { rdy with grain := { rdy.grain with stands := .replicate 16 { reloading := true } } }, by decide +kernel⟩,
    ⟨1, 511, { rdy with grain := { rdy.grain with stands := .replicate 16 { reloading := true } } }, by decide +kernel⟩⟩

theorem witness_Watchdogs :
    (∃ (who : Requester) (v : Word) (s : State), isReady s = true ∧ maySet who 0x1400 s ∧ s.wda.state = 0 ∧
      field v 10 8 ≠ 0)
    ∧ (∃ s : State, s.wda.state ≠ 0)
    ∧ (∃ (who : Requester) (s : State), maySet who 0x1404 s ∧ s.wda.state = 1 ∧ s.wda.inWindow = true)
    ∧ (∃ (who : Requester) (v : Word) (s : State), maySet who 0x1404 s ∧ s.wda.state = 1 ∧ flag s.wda.cfg 0 = false ∧
      v ≠ wdaKey s)
    ∧ (∃ (who : Requester) (s : State), maySet who 0x1404 s ∧ s.wda.state = 1 ∧ flag s.wda.cfg 0 = false ∧
      s.wda.inWindow = false)
    ∧ (∃ (who : Requester) (s : State), maySet who 0x1404 s ∧ s.wda.state = 2)
    ∧ (∃ s : State, s.wda.state = 1)
    ∧ (∃ s : State, s.wda.state = 1 ∧ flag s.wda.cfg 0 = false)
    ∧ (∃ s : State, s.wda.state = 1 ∧ flag s.wda.cfg 0 = true ∧ crownRuns s = true)
    ∧ (∃ s : State, s.wdb.running = true ∧ s.wdb.bootMode = false)
    ∧ (∃ s : State, s.wdb.bootMode = true)
    ∧ (∃ s : State, s.wdb.running = true ∧ wdbServes s = true ∧ s.wdb.inWindow = true)
    ∧ (∃ s : State, s.wdb.running = true ∧ wdbServes s = true ∧ s.wdb.inWindow = false)
    ∧ (∃ s : State, isReady s = true)
    ∧ (∃ s : State, s.wdb.running = true ∧ crownRuns s = true)
    ∧ (∃ s : State, s.wdb.running = true)
    ∧ (∃ s : State, s.sap.running = true) :=
  ⟨⟨.host, 0x100, rdy, by unfold maySet; decide +kernel⟩,
    ⟨{ rdy with wda := { rdy.wda with state := 1 } }, by decide +kernel⟩,
    ⟨.host, { rdy with wda := { rdy.wda with state := 1, inWindow := true } }, by unfold maySet; decide +kernel⟩,
    ⟨.host, 0x5AA5, { rdy with wda := { rdy.wda with state := 1 } }, by unfold maySet; decide +kernel⟩,
    ⟨.host, { rdy with wda := { rdy.wda with state := 1 } }, by unfold maySet; decide +kernel⟩,
    ⟨.host, { rdy with wda := { rdy.wda with state := 2 } }, by unfold maySet; decide +kernel⟩,
    ⟨{ rdy with wda := { rdy.wda with state := 1 } }, by decide +kernel⟩,
    ⟨{ rdy with wda := { rdy.wda with state := 1 } }, by decide +kernel⟩,
    ⟨{ rdy with wda := { rdy.wda with state := 1, cfg := 1 } }, by decide +kernel⟩,
    ⟨{ rdy with wdb := { rdy.wdb with running := true, bootMode := false } }, by decide +kernel⟩,
    ⟨rdy, by decide +kernel⟩,
    ⟨{ rdy with wdb := { rdy.wdb with running := true, inWindow := true } }, by decide +kernel⟩,
    ⟨{ rdy with wdb := { rdy.wdb with running := true } }, by decide +kernel⟩,
    ⟨rdy, by decide +kernel⟩,
    ⟨{ rdy with wdb := { rdy.wdb with running := true } }, by decide +kernel⟩,
    ⟨{ rdy with wdb := { rdy.wdb with running := true } }, by decide +kernel⟩,
    ⟨rdy, by decide +kernel⟩⟩

theorem witness_StrapTicksAndHeartbeats :
    (∃ s : State, crownRuns s = true ∧ s.power.refoscRunning = true ∧ s.power.refoscRestart = false ∧ (s.strap.link =
      .up ∨ s.strap.link = .notYetUp))
    ∧ (∃ s : State, crownRuns s = true ∧ (s.strap.link = .lost ∨ s.strap.link = .resync))
    ∧ (∃ s : State, crownRuns s = true ∧ (s.power.refoscRunning = true ∨ s.power.refoscRestart = true))
    ∧ (∃ s : State, s.power.refoscRunning = true)
    ∧ (∃ s : State, s.power.refoscRunning = false ∧ s.power.refoscRestart = false)
    ∧ (∃ (missed : Nat) (s : State) (b : Beat), (s.strap.rootHb.drop missed).head? = some b ∧ b.lost = false ∧
      crownRuns s = true ∧ strapUp s = true ∧ noneHeld s ∧ s.strap.compareNext = true)
    ∧ (∃ (missed : Nat) (s : State) (b : Beat), (s.strap.rootHb.drop missed).head? = some b ∧ b.lost = false ∧
      crownRuns s = true ∧ strapUp s = true ∧ noneHeld s ∧ s.strap.compareNext = false)
    ∧ (∃ (missed : Nat) (s : State) (b : Beat), (s.strap.rootHb.drop missed).head? = some b ∧ b.lost = true ∧
      crownRuns s = true ∧ strapUp s = true)
    ∧ (∃ (s : State) (b : Beat), s.strap.crownHb.head? = some b ∧ s.strap.rootLost = true ∧ s.strap.wire = false ∧
      s.strap.link = .lost)
    ∧ (∃ (missed : Nat) (s : State), (s.strap.crownHb.drop missed).isEmpty = true ∧ noneHeld s) :=
  ⟨⟨rdy, by decide +kernel⟩,
    ⟨{ rdy with strap := { rdy.strap with link := .resync } }, by decide +kernel⟩,
    ⟨rdy, by decide +kernel⟩,
    ⟨rdy, by decide +kernel⟩,
    ⟨{ rdy with power := { rdy.power with refoscRunning := false } }, by decide +kernel⟩,
    ⟨1, { rdy with strap := { rdy.strap with rootHb := [{ time := 5, lost := false, code := true }, { time := 5, lost := false, code := true }], compareNext := true } },
      { time := 5, lost := false, code := true }, by unfold noneHeld; decide +kernel⟩,
    ⟨1, { rdy with strap := { rdy.strap with rootHb := [{ time := 5, lost := false, code := true }, { time := 5, lost := false, code := true }] } },
      { time := 5, lost := false, code := true }, by unfold noneHeld; decide +kernel⟩,
    ⟨1, { rdy with strap := { rdy.strap with rootHb := [{ time := 5, lost := false, code := true }, { time := 5, lost := true, code := true }] } },
      { time := 5, lost := true, code := true }, by decide +kernel⟩,
    ⟨{ rdy with strap := { rdy.strap with crownHb := [{ time := 5, lost := true, code := true }], rootLost := true, link := .lost } },
      { time := 5, lost := true, code := true }, by decide +kernel⟩,
    ⟨0, rdy, by unfold noneHeld; decide +kernel⟩⟩

theorem witness_StrapFrameCounts :
    (∃ s : State, s.strap.crownTx.held = [])
    ∧ (∃ s : State, s.strap.rootTx.held = [])
    ∧ (∃ (p : Fin 8) (off : Bool) (s : State), frameGoes (.fallbackSet p off) s)
    ∧ (∃ (p : Fin 8) (off : Bool) (s : State), frameMay (.fallbackSet p off) s = true ∧
      8 ≤ s.strap.crownTx.unacked.length ∧ s.strap.rootTx.held = [])
    ∧ (∃ (p : Fin 8) (k : Fin 8) (off : Bool) (on : Bool) (s : State), frameMay (.fallbackSet p off) s = true ∧
      s.strap.rootTx.held = [] ∧ s.strap.crownTx.unacked = [] ∧ s.strap.crownTx.nextSeq = s.strap.rootTx.rxNext ∧
        s.strap.crownTx.held = [(.fallbackSet k on, some [BitVec.ofNat 8 (b2n on)])])
    ∧ (∃ s : State, rootSeen s = true)
    ∧ (∃ (line : StrapLine) (s : State), frameBad true line = true ∧ crownRuns s = true)
    ∧ (∃ line : StrapLine, frameBad false line = true)
    ∧ (∃ (p : Fin 8) (off : Bool) (line : StrapLine) (s : State), frameBad false line = true ∧
      frameMay (.fallbackSet p off) s = true ∧ noneHeld s ∧ s.strap.crownTx.unacked.length < 8)
    ∧ (∃ (atCrown : Bool) (line : StrapLine), frameBad atCrown line = false)
    ∧ (∃ s : State, s.strap.retx.n + s.strap.crownTx.unacked.length ≤ 65535)
    ∧ (∃ s : State, rootSeen s = true ∧ noneHeld s)
    ∧ (∃ s : State, rootSeen s = false)
    ∧ (∃ (p : Fin 8) (s : State) (off : Nat), s.strap.loadFailed = some off ∧ frameGoes (.portRsp p) s ∧ s.boot.phase =
      .rootLoad ∧ s.strap.retried = false ∧ s.raised = [])
    ∧ (∃ (p : Fin 8) (s : State), s.strap.loadFailed.isSome = true ∧ frameGoes (.portRsp p) s ∧ s.boot.phase =
      .rootLoad ∧ s.strap.retried = true) :=
  ⟨⟨rdy, by decide +kernel⟩,
    ⟨rdy, by decide +kernel⟩,
    ⟨0, true, rdy, by unfold frameGoes noneHeld; decide +kernel⟩,
    ⟨7, true,
      { rdy with strap := { rdy.strap with crownTx := { unacked := List.replicate 8 { hdr := 0, body := .alarm } } } },
        by decide +kernel⟩,
    ⟨7, 1, true, false,
      { rdy with strap := { rdy.strap with crownTx := { held := [(.fallbackSet 1 false, some [0])] } } },
        by decide +kernel⟩,
    ⟨rdy, by decide +kernel⟩,
    ⟨{ chars := [1, 2, 3], parityErr := false, badControl := false, eef := false }, rdy, by decide +kernel⟩,
    ⟨{ chars := [1, 2, 3], parityErr := false, badControl := false, eef := false }, by decide +kernel⟩,
    ⟨0, true, { chars := [1, 2, 3], parityErr := false, badControl := false, eef := false },
      { rdy with strap := { rdy.strap with crownTx := { unacked := List.replicate 7 { hdr := 0, body := .alarm } } } },
        by unfold noneHeld; decide +kernel⟩,
    ⟨true, strapLine, by decide +kernel⟩,
    ⟨{ rdy with strap := { rdy.strap with retx := { n := 65535 } } }, by decide +kernel⟩,
    ⟨rdy, by unfold noneHeld; decide +kernel⟩,
    ⟨{ rdy with strap := { rdy.strap with link := .lost } }, by decide +kernel⟩,
    ⟨0, { rdy with strap := { rdy.strap with loadFailed := some 1, retried := false }, boot := { rdy.boot with phase := .rootLoad } },
      1, by unfold frameGoes noneHeld; decide +kernel⟩,
    ⟨0, { rdy with strap := { rdy.strap with loadFailed := some 1, retried := true }, boot := { rdy.boot with phase := .rootLoad } },
      by unfold frameGoes noneHeld; decide +kernel⟩⟩

theorem witness_RootCodeLoad :
    (∃ s : State, frameGoes .params s ∧ rootMatches s = true)
    ∧ (∃ s : State, s.boot.phase ≠ .rootLoad)
    ∧ (∃ s : State, frameGoes .params s ∧ rootMatches s = false)
    ∧ (∃ (p : Fin 8) (s : State), frameGoes .params s ∧ rootMatches s = false ∧ s.strap.codeRunning = true ∧
      s.strap.holds[p].inHold = true)
    ∧ (∃ (off : Half) (s : State), frameGoes (.load off) s ∧ off ≠ 0xFFFF)
    ∧ (∃ (off : Half) (s : State), off.toNat < s.strap.loadNext)
    ∧ (∃ s : State, frameGoes (.load 0xFFFF) s ∧ loadRun s.strap.loadData ((s.strap.loadSize + 31) / 32) 0 =
      (s.strap.loadSize + 31) / 32)
    ∧ (∃ s : State, frameGoes (.load 0xFFFF) s ∧
      loadRun s.strap.loadData ((s.strap.loadSize + 31) / 32) 0 ≠ (s.strap.loadSize + 31) / 32)
    ∧ (∃ (p : Fin 8) (off : Bool) (s : State), frameGoes (.fallbackSet p off) s) :=
  ⟨⟨{ rdy with boot := { rdy.boot with phase := .rootLoad }, strap := { rdy.strap with codeDigest := rootDigest (bootRoot rdy) } },
      by unfold frameGoes noneHeld; decide +kernel⟩,
    ⟨rdy, by decide +kernel⟩,
    ⟨{ rdy with boot := { rdy.boot with phase := .rootLoad }, strap := { rdy.strap with codeRunning := false } },
      by unfold frameGoes noneHeld; decide +kernel⟩,
    ⟨0, { rdy with boot := { rdy.boot with phase := .rootLoad }, strap := { rdy.strap with holds := .replicate 8 { inHold := true } } },
      by unfold frameGoes noneHeld; decide +kernel⟩,
    ⟨0, { rdy with boot := { rdy.boot with phase := .rootLoad }, strap := { rdy.strap with params := true, loadSize := 33 } },
      by unfold frameGoes noneHeld; decide +kernel⟩,
    ⟨0, { rdy with strap := { rdy.strap with loadNext := 32 } }, by decide +kernel⟩,
    ⟨{ rdy with boot := { rdy.boot with phase := .rootLoad }, strap := { rdy.strap with params := true, loadSize := 32, loadNext := 32, loadData := [(0, [])] } },
      by unfold frameGoes noneHeld; decide +kernel⟩,
    ⟨{ rdy with boot := { rdy.boot with phase := .rootLoad }, strap := { rdy.strap with params := true, loadSize := 33, loadNext := 64, loadData := [(0, [])] } },
      by unfold frameGoes noneHeld; decide +kernel⟩,
    ⟨0, true, rdy, by unfold frameGoes noneHeld; decide +kernel⟩⟩

theorem witness_StrapLossDeclared :
    (∃ (p : Fin 8) (s : State), s.strap.link = .up ∧ s.strap.rootLost = false ∧ s.strap.holds[p].standHold = false ∧
      s.strap.holds[p].holdCode ≠ 0 ∧ s.strap.holds[p].outcome = none ∧ s.strap.holds[p].fellBack = false ∧
        s.strap.holds[p].tripped = false ∧ s.strap.holds[p].detached = false ∧ s.strap.holds[p].hardReset = false)
    ∧ (∃ s : State, s.strap.link = .notYetUp)
    ∧ (∃ (byHb : Bool) (s : State), crownRuns s = true ∧ (strapUp s || s.strap.crownResync) = true ∧ (byHb = true →
      s.strap.rootHb.any (fun b => b.lost) = true))
    ∧ (∃ s : State, s.strap.rootHb.any (fun b => b.lost) = false)
    ∧ (∃ s : State, (s.boot.phase = .rootLoad ∨ s.boot.phase = .selftest ∨ s.boot.phase = .ready ∨ s.boot.phase =
      .limp))
    ∧ (∃ s : State, (s.boot.phase = .resetHold ∨ s.boot.phase = .crownReset ∨ s.boot.phase = .fetch)) :=
  ⟨⟨0, { rdy with strap := { rdy.strap with holds := .replicate 8 { holdCode := 1 } } }, by decide +kernel⟩,
    ⟨{ rdy with strap := { rdy.strap with link := .notYetUp } }, by decide +kernel⟩,
    ⟨true, { rdy with strap := { rdy.strap with rootHb := [{ time := 5, lost := true, code := true }] } },
      by decide +kernel⟩,
    ⟨rdy, by decide +kernel⟩,
    ⟨rdy, by decide +kernel⟩,
    ⟨State.reset, by decide +kernel⟩⟩

theorem witness_HoldExpiryFallback :
    (∃ (p : Fin 8) (s : State), s.strap.holds[p].inHold = true ∧ s.strap.holds[p].timerRunning = true ∧
      s.strap.holds[p].frozen = false ∧ s.strap.holds[p].fallbackOff = false ∧ (portPd s p).source = true)
    ∧ (∃ (p : Fin 8) (s : State), s.strap.holds[p].inHold = true ∧ s.strap.holds[p].timerRunning = true ∧
      s.strap.holds[p].frozen = false ∧ s.strap.holds[p].fallbackOff = false ∧ (portPd s p).source = false)
    ∧ (∃ (p : Fin 8) (s : State), s.strap.holds[p].inHold = true ∧ s.strap.holds[p].timerRunning = true ∧
      s.strap.holds[p].frozen = false ∧ s.strap.holds[p].fallbackOff = true)
    ∧ (∃ (p : Fin 8) (s : State), s.strap.holds[p].timerRunning = false) :=
  ⟨⟨0, (holdsAs true { inHold := true, timerRunning := true, fallbackOff := false }), by decide +kernel⟩,
    ⟨7, (holdsAs false { inHold := true, timerRunning := true, fallbackOff := false }), by decide +kernel⟩,
    ⟨0, (holdsAs true { inHold := true, timerRunning := true, fallbackOff := true }), by decide +kernel⟩,
    ⟨0, rdy, by decide +kernel⟩⟩

theorem witness_StrapReports :
    (∃ (p : Fin 8) (s : State) (k : Byte × Half), s.strap.holds[p].tripDue = some k ∧ k.1 ≠ 0 ∧ frameGoes (.trip p) s ∧
      standActs s p = true)
    ∧ (∃ (s : State) (n : Nat), s.power.refoscReport = some n ∧ frameGoes .alarm s ∧ s.raised = [])
    ∧ (∃ (p : Fin 8) (s : State), frameGoes (.resync (.port p)) s)
    ∧ (∃ (p : Fin 8) (s : State), s.strap.resyncNext ≠ p.val)
    ∧ (∃ s : State, frameGoes (.resync .ending) s)
    ∧ (∃ s : State, s.strap.resyncNext ≠ 8)
    ∧ (∃ (p : Fin 8) (s : State) (e : CcReport), (portCc s p).events.head? = some e ∧ frameGoes (.ccEvent p) s)
    ∧ (∃ (p : Fin 8) (l : Fin 3) (s : State), frameGoes (.portCmd p (.presentRp l)) s ∧ s.strap.codeRunning = true ∧
      s.strap.holds[p].inHold = false ∧ s.strap.holds[p].standHold = false)
    ∧ (∃ (p : Fin 8) (s : State), frameGoes (.portCmd p .fastOff) s ∧ s.strap.codeRunning = true ∧
      s.strap.holds[p].inHold = false ∧ s.strap.holds[p].standHold = false)
    ∧ (∃ (p : Fin 8) (c : Int) (s : State), frameGoes (.portCmd p (.vset c)) s ∧ s.strap.codeRunning = true ∧
      s.strap.holds[p].inHold = false ∧ s.strap.holds[p].standHold = false)
    ∧ (∃ (p : Fin 8) (w : Word) (s : State), frameGoes (.portCmd p (.setFt w)) s ∧ s.strap.codeRunning = true ∧
      s.strap.holds[p].inHold = false ∧ s.strap.holds[p].standHold = false)
    ∧ (∃ (p : Fin 8) (s : State), noneHeld s ∧ (s.strap.codeRunning = false ∨ s.strap.holds[p].inHold = true)) :=
  ⟨⟨0, { (portsAs { cc := { state := .attachedSrc } }) with strap := { (portsAs { cc := { state := .attachedSrc } }).strap with holds := .replicate 8 { tripDue := some (1, 5) } } },
      (1, 5), by unfold frameGoes noneHeld; decide +kernel⟩,
    ⟨{ rdy with power := { rdy.power with refoscReport := some 3 } }, 3, by unfold frameGoes noneHeld; decide +kernel⟩,
    ⟨7, { rdy with strap := { rdy.strap with link := .resync, resyncNext := 7 } },
      by unfold frameGoes noneHeld; decide +kernel⟩,
    ⟨1, rdy, by decide +kernel⟩,
    ⟨{ rdy with strap := { rdy.strap with link := .resync, resyncNext := 8 } },
      by unfold frameGoes noneHeld; decide +kernel⟩,
    ⟨rdy, by decide +kernel⟩,
    ⟨0, (portsAs { cc := { events := [{ cc1 := .rd, cc2 := .ra, attach := true, orient := false }] } }),
      { cc1 := .rd, cc2 := .ra, attach := true, orient := false }, by unfold frameGoes noneHeld; decide +kernel⟩,
    ⟨0, 2, rdy, by unfold frameGoes noneHeld; decide +kernel⟩,
    ⟨0, rdy, by unfold frameGoes noneHeld; decide +kernel⟩,
    ⟨7, -500, rdy, by unfold frameGoes noneHeld; decide +kernel⟩,
    ⟨7, 0xFFFFFFFF, rdy, by unfold frameGoes noneHeld; decide +kernel⟩,
    ⟨0, { rdy with strap := { rdy.strap with codeRunning := false } }, by unfold noneHeld; decide +kernel⟩⟩

theorem witness_TypeCAttach :
    (∃ (p : Fin 8) (s : State), standTimes s p = true ∧ (portCc s p).state = .attachWaitSrc ∧ srcSees (portCc s p) =
      true ∧ (¬((portCc s p).cc1 = .rd ∧ (portCc s p).cc2 = .rd)) ∧ debounceEnds p .cc s ∧ serviceable s p = true ∧
        s.power.groupUp[groupOf p] = true ∧ flag (portCinch s p).cfg 24 = false ∧ (portCinch s p).backfeed = false)
    ∧ (∃ (p : Fin 8) (s : State), standTimes s p = true ∧ (portCc s p).state = .attachWaitSnk ∧ snkSees (portCc s p) =
      true ∧ (¬(isRp (portCc s p).cc1 = true ∧ isRp (portCc s p).cc2 = true)) ∧ debounceEnds p .cc s)
    ∧ (∃ (p : Fin 8) (s : State), standTimes s p = true ∧ ((portCc s p).state = .attachWaitSrc ∨ (portCc s p).state =
      .attachWaitSnk) ∧ bothOpen (portCc s p) = true ∧ debounceEnds p .pd s ∧ serviceable s p = true ∧
        s.power.groupUp[groupOf p] = true)
    ∧ (∃ (p : Fin 8) (s : State), standTimes s p = true ∧ (portCc s p).state = .attachedSrc ∧
      attachedSeen (portCc s p) ≠ .rd ∧ debounceEnds p .pd s)
    ∧ (∃ (p : Fin 8) (s : State) (d : Debounce), (portCc s p).debounce = some d ∧ standTimes s p = true ∧ d.timer =
      .pd ∧ (portCc s p).debExtended = false ∧ debLengthened s (portCc s p) d = true)
    ∧ (∃ (p : Fin 8) (s : State) (d : Debounce), (portCc s p).debounce = some d ∧ standTimes s p = true ∧
      (portCc s p).debExtended = true ∧ debLengthened s (portCc s p) d = false ∧ (portCc s p).state = .errorRecovery)
    ∧ (∃ (p : Fin 8) (s : State) (d : Debounce), (portCc s p).debounce = some d ∧ ((portCc s p).debExtended =
      false ∨ debLengthened s (portCc s p) d = true))
    ∧ (∃ (p : Fin 8) (s : State), standTimes s p = true ∧ ccRole (portCc s p) = 2 ∧ ccPending (portCc s p) = false ∧
      (portCc s p).state = .unattachedSrc)
    ∧ (∃ (p : Fin 8) (s : State), standTimes s p = true ∧ ccRole (portCc s p) = 2 ∧ ccPending (portCc s p) = false ∧
      (portCc s p).state = .unattachedSnk)
    ∧ (∃ (p : Fin 8) (s : State), standTimes s p = true ∧ (portCc s p).state = .trySrc ∧ oneRd (portCc s p) = false)
    ∧ (∃ (p : Fin 8) (s : State), standTimes s p = true ∧ (portCc s p).state = .tryWaitSnk ∧ oneRp (portCc s p) =
      false ∧ serviceable s p = true ∧ s.power.groupUp[groupOf p] = true)
    ∧ (∃ (p : Fin 8) (s : State), standTimes s p = true ∧ (portCc s p).state = .tryWaitSnk ∧ oneRp (portCc s p) =
      true ∧ debounceEnds p .cc s)
    ∧ (∃ (p : Fin 8) (s : State), (portCc s p).state ≠ .trySrc ∧ (portCc s p).state ≠ .tryWaitSnk)
    ∧ (∃ (p : Fin 8) (s : State), standTimes s p = true ∧ rootWatches s p = false ∧ (portCc s p).state = .attachedSnk ∧
      vbusExempt (portPd s p) = false)
    ∧ (∃ (p : Fin 8) (s : State), rootWatches s p = false ∧ vbusExempt (portPd s p) = true) :=
  ⟨⟨0, (portsAs { cc := { state := .attachWaitSrc, cc1 := .rd, debounce := some { timer := .cc, startAt := 0, firstFlood := none } } }),
      by unfold debounceEnds; decide +kernel⟩,
    ⟨0, (portsAs { cc := { state := .attachWaitSnk, cc2 := .rp30, debounce := some { timer := .cc, startAt := 0, firstFlood := none } } }),
      by unfold debounceEnds; decide +kernel⟩,
    ⟨7, (portsAs { cc := { state := .attachWaitSnk, debounce := some { timer := .pd, startAt := 0, firstFlood := none } } }),
      by unfold debounceEnds; decide +kernel⟩,
    ⟨0, (portsAs { cc := { state := .attachedSrc, debounce := some { timer := .pd, startAt := 0, firstFlood := none } } }),
      by unfold debounceEnds; decide +kernel⟩,
    ⟨0, (portsAs { cc := { state := .errorRecovery, floodNow := true, debounce := some { timer := .pd, startAt := 0, firstFlood := some 5 } } }),
      { timer := .pd, startAt := 0, firstFlood := some 5 }, by decide +kernel⟩,
    ⟨0, (portsAs { cc := { state := .errorRecovery, debExtended := true, debounce := some { timer := .pd, startAt := 0, firstFlood := none } } }),
      { timer := .pd, startAt := 0, firstFlood := none }, by decide +kernel⟩,
    ⟨0, (portsAs { cc := { state := .attachedSrc, debounce := some { timer := .pd, startAt := 0, firstFlood := none } } }),
      { timer := .pd, startAt := 0, firstFlood := none }, by decide +kernel⟩,
    ⟨0, (portsAs { cc := { state := .unattachedSrc, cfg := 0x20, cfgW := 0x20 } }), by decide +kernel⟩,
    ⟨0, (portsAs { cc := { state := .unattachedSnk, cfg := 0x20, cfgW := 0x20 } }), by decide +kernel⟩,
    ⟨0, (portsAs { cc := { state := .trySrc } }), by decide +kernel⟩,
    ⟨0, (portsAs { cc := { state := .tryWaitSnk } }), by decide +kernel⟩,
    ⟨0, (portsAs { cc := { state := .tryWaitSnk, cc1 := .rpDefault, debounce := some { timer := .cc, startAt := 0, firstFlood := none } } }),
      by unfold debounceEnds; decide +kernel⟩,
    ⟨0, rdy, by decide +kernel⟩,
    ⟨0, (portsAs { cc := { state := .attachedSnk } }), by decide +kernel⟩,
    ⟨0, (portsAs { cc := { state := .attachedSnk }, pd := { step := .snkHardReset } }), by decide +kernel⟩⟩

theorem witness_VconnAndCcFaults :
    (∃ (p : Fin 8) (s : State), (portCc s p).vconnOn = true)
    ∧ (∃ (p : Fin 8) (s : State), rootAlone s p = false ∧ (portCc s p).state ≠ .outOfService ∧
      s.groups[groupOf p].gcutOpen = false)
    ∧ (∃ (p : Fin 8) (s : State), rootAlone s p = true)
    ∧ (∃ (p : Fin 8) (ccLow : Bool) (s : State), ccRuns s p = true ∧ (portCc s p).state = .errorRecovery ∧
      ((portCc s p).ovpTrip = false ∨ ccLow = true))
    ∧ (∃ (p : Fin 8) (s : State), (portCc s p).ovpTrip = true)
    ∧ (∃ (who : Requester) (p : Fin 8) (s : State), maySet who (0x8104 + 0x400 * p.val) s)
    ∧ (∃ (who : Requester) (p : Fin 8) (s : State), maySet who (0x8100 + 0x400 * p.val) s ∧
      isUnattached (portCc s p).state = false)
    ∧ (∃ (p : Fin 8) (s : State), s.boot.phase ≠ .limp ∧ rootWatches s p = false)
    ∧ (∃ (p : Fin 8) (cc1 : CcSeen) (cc2 : CcSeen) (s : State), rootWatches s p = true ∧ s.strap.holds[p].wasSource =
      true ∧ (if (portCc s p).orient then cc2 else cc1) ≠ .rd) :=
  ⟨⟨0, (portsAs { cc := { vconnOn := true } }), by decide +kernel⟩,
    ⟨0, (gcutsClosed (portsAs { cc := { state := .attachedSrc } })), by decide +kernel⟩,
    ⟨0, { rdy with strap := { rdy.strap with link := .lost } }, by decide +kernel⟩,
    ⟨7, false, (portsAs { cc := { state := .errorRecovery } }), by decide +kernel⟩,
    ⟨0, (portsAs { cc := { ovpTrip := true } }), by decide +kernel⟩,
    ⟨.host, 7, rdy, by unfold maySet; decide +kernel⟩,
    ⟨.host, 7, (portsAs { cc := { state := .attachedSrc } }), by unfold maySet; decide +kernel⟩,
    ⟨0, rdy, by decide +kernel⟩,
    ⟨0, .nothing, .rd,
      { rdy with strap := { rdy.strap with holds := .replicate 8 { inHold := true, wasAttached := true, wasSource := true } } },
        by decide +kernel⟩⟩

theorem witness_FloodAndHush :
    (∃ (p : Fin 8) (high : Bool) (s : State), bandOn (portCc s p) high = true ∧ (portCc s p).floodNow = false)
    ∧ (∃ (p : Fin 8) (high : Bool) (s : State), bandOn (portCc s p) high = false)
    ∧ (∃ (p : Fin 8) (s : State), (portCc s p).floodNow = true)
    ∧ (∃ (p : Fin 8) (pkt : BmcPacket) (s : State), bmcOn s p = true ∧ pkt.crcOk = false)
    ∧ (∃ (p : Fin 8) (s : State), bmcOn s p = true ∧ (packetFlood (portCc s p)).isSome = true)
    ∧ (∃ (p : Fin 8) (pkt : BmcPacket) (s : State), bmcOn s p = true ∧ pkt.crcOk = true ∧ packetFlood (portCc s p) =
      none ∧ isReady s = true ∧ rootAlone s p = false ∧ pkt.msg ≠ .goodCrc ∧ s.raised = [])
    ∧ (∃ (p : Fin 8) (s : State), bmcOn s p = true ∧ s.strap.holds[p].inHold = true)
    ∧ (∃ (p : Fin 8) (s : State), (s.power.refoscRunning = false ∨ (portCc s p).state =
      .debugAcc ∨ isUnattached (portCc s p).state = true ∨ (portCc s p).ovpTrip = true ∨ (portCc s p).term = .opened) ∧
        s.raised = [])
    ∧ (∃ (who : Requester) (p : Fin 8) (v : Word) (s : State), maySet who (0x8118 + 0x400 * p.val) s ∧ flag v 31 =
      true ∧ hushBusy (portCc s p) = false)
    ∧ (∃ (p : Fin 8) (s : State), flag (portCc s p).floodCfg 15 = false)
    ∧ (∃ (p : Fin 8) (s : State), standTimes s p = true ∧ (portCc s p).hushStatus = .pending)
    ∧ (∃ (p : Fin 8) (s : State), standTimes s p = false ∧ s.raised = [])
    ∧ (∃ (p : Fin 8) (s : State), standTimes s p = true ∧ (portCc s p).hushStatus = .granted)
    ∧ (∃ (p : Fin 8) (s : State), standTimes s p = true ∧ (portCc s p).hushStatus = .opened) :=
  ⟨⟨0, true, (portsAs { cc := { floodCfg := 0x40 } }), by decide +kernel⟩,
    ⟨0, true, rdy, by decide +kernel⟩,
    ⟨0, (portsAs { cc := { floodNow := true } }), by decide +kernel⟩,
    ⟨0, { crcOk := false, sop := .sop, flaw := none, msg := .ping, pol := pol0 },
      (portsAs { cc := { state := .attachedSrc, term := .rp 0 } }), by decide +kernel⟩,
    ⟨0, (portsAs { cc := { state := .attachedSrc, term := .rp 0, floodNow := true } }), by decide +kernel⟩,
    ⟨0, { crcOk := true, sop := .sop, flaw := none, msg := .ping, pol := pol0 },
      (portsAs { cc := { state := .attachedSrc, term := .rp 0 } }), by decide +kernel⟩,
    ⟨0, { (portsAs { cc := { state := .attachedSrc, term := .rp 0 } }) with strap := { (portsAs { cc := { state := .attachedSrc, term := .rp 0 } }).strap with holds := .replicate 8 { inHold := true } } },
      by decide +kernel⟩,
    ⟨0, (portsAs { cc := { state := .debugAcc, term := .rp 0 } }), by decide +kernel⟩,
    ⟨.host, 7, 0x80000000, rdy, by unfold maySet; decide +kernel⟩,
    ⟨0, rdy, by decide +kernel⟩,
    ⟨0, (portsAs { cc := { state := .attachedSrc, hushStatus := .pending } }), by decide +kernel⟩,
    ⟨0, (portsAs { cc := { state := .outOfService, hushStatus := .pending } }), by decide +kernel⟩,
    ⟨0, (portsAs { cc := { state := .attachedSrc, hushStatus := .granted } }), by decide +kernel⟩,
    ⟨0, (portsAs { cc := { state := .attachedSrc, hushStatus := .opened } }), by decide +kernel⟩⟩

theorem witness_PdMessages :
    (∃ (p : Fin 8) (k : RxPacket) (rest : List RxPacket) (s : State), (portPd s p).rxq = k :: rest ∧ k.flooded = true ∧
      frameGoes (.pdRx p) s ∧ s.raised = [])
    ∧ (∃ (p : Fin 8) (k : RxPacket) (f : PdFlaw) (s : State), k.flooded = false ∧
      frameGoes (.pdRx p) (rxFirst p { k with flaw := some f } s) ∧ standActs s p = true ∧
        isAttached (portCc s p).state = true ∧ (portPd s p).bistTest = false)
    ∧ (∃ (p : Fin 8) (rdo : Word) (pol : PdPolicy) (s : State),
      frameGoes (.pdRx p) (rxFirst p (goodRx (.request rdo) pol) s) ∧ standActs s p = true ∧
        isAttached (portCc s p).state = true ∧ (portPd s p).bistTest = false ∧ sharedStalled s = false ∧
          (portPd s p).source = true ∧ (portPd s p).caps ≠ [] ∧ ((portPd s p).step = .srcCaps ∨ (portPd s p).step =
            .ready))
    ∧ (∃ (p : Fin 8) (rdo : Word) (pol : PdPolicy) (s : State),
      frameGoes (.pdRx p) (rxFirst p (goodRx (.request rdo) pol) s) ∧ standActs s p = true ∧
        isAttached (portCc s p).state = true ∧ (portPd s p).bistTest = false ∧ sharedStalled s = true ∧ s.raised = [])
    ∧ (∃ (p : Fin 8) (pol : PdPolicy) (s : State), frameGoes (.pdRx p) (rxFirst p (goodRx .getRevision pol) s) ∧
      standActs s p = true ∧ isAttached (portCc s p).state = true ∧ (portPd s p).bistTest = false)
    ∧ (∃ (p : Fin 8) (pol : PdPolicy) (s : State), frameGoes (.pdRx p) (rxFirst p (goodRx .goodCrc pol) s) ∧
      standActs s p = true ∧ isAttached (portCc s p).state = true)
    ∧ (∃ (p : Fin 8) (s : State), frameGoes (.pdTx p none) s ∧ txFree s p = true ∧ s.raised = [])
    ∧ (∃ (p : Fin 8) (s : State), txFree s p = false ∧ s.raised = [])
    ∧ (∃ (p : Fin 8) (s : State), frameGoes (.pdTx p (some .prSwap)) s ∧ standActs s p = true ∧ (portPd s p).step =
      .ready ∧ (portPd s p).ams = 0 ∧ (portCinch s p).backfeed = false)
    ∧ (∃ (p : Fin 8) (s : State), frameGoes (.pdTx p (some .drSwap)) s ∧ standActs s p = true ∧ (portPd s p).step =
      .ready ∧ (portPd s p).ams = 0) :=
  ⟨⟨0, { flooded := true, sop := .sop, flaw := none, msg := .ping, pol := pol0 }, [],
      (portsAs { pd := { rxq := [{ flooded := true, sop := .sop, flaw := none, msg := .ping, pol := pol0 }] } }),
        by unfold frameGoes noneHeld; decide +kernel⟩,
    ⟨0, { flooded := false, sop := .sop, flaw := none, msg := .ping, pol := pol0 }, .badHeader,
      (portsAs { cc := { state := .attachedSrc } }), by unfold frameGoes noneHeld; decide +kernel⟩,
    ⟨0, 0x1000, pol0,
      (portsAs { cc := { state := .attachedSrc }, pd := { source := true, caps := [0x0001912C], step := .ready } }),
        by unfold frameGoes noneHeld; decide +kernel⟩,
    ⟨0, 0x1000, pol0,
      { (portsAs { cc := { state := .attachedSrc } }) with grain := { (portsAs { cc := { state := .attachedSrc } }).grain with supStalled := true } },
        by unfold frameGoes noneHeld; decide +kernel⟩,
    ⟨0, pol0, (portsAs { cc := { state := .attachedSrc } }), by unfold frameGoes noneHeld; decide +kernel⟩,
    ⟨0, pol0, (portsAs { cc := { state := .attachedSnk } }), by unfold frameGoes noneHeld; decide +kernel⟩,
    ⟨0, (portsAs { pd := { txq := [{ sop := .sop, msg := .accept }] } }), by unfold frameGoes noneHeld; decide +kernel⟩,
    ⟨0, (portsAs { pd := { await := some { sop := .sop, msg := .accept } } }), by decide +kernel⟩,
    ⟨0, (portsAs { cc := { state := .attachedSrc }, pd := { step := .ready } }),
      by unfold frameGoes noneHeld; decide +kernel⟩,
    ⟨0, (portsAs { cc := { state := .attachedSrc }, pd := { step := .ready } }),
      by unfold frameGoes noneHeld; decide +kernel⟩⟩

theorem witness_PdHardResetAndTransitions :
    (∃ (p : Fin 8) (s : State), bmcOn s p = true ∧ s.strap.holds[p].inHold = true)
    ∧ (∃ (p : Fin 8) (s : State), bmcOn s p = true ∧ s.strap.holds[p].inHold = false ∧ standActs s p = true ∧
      isAttached (portCc s p).state = true)
    ∧ (∃ (p : Fin 8) (s : State), bmcOn s p = false ∧ s.raised = [])
    ∧ (∃ (p : Fin 8) (s : State), standTimes s p = true ∧ (portPd s p).step = .srcTransition ∧
      (portCinch s p).compliance = false ∧
        ((portCinch s p).contractMv ≠ reqMv (portPd s p).pendPdo (portPd s p).pendRdo ∨ (portMetro s p).confirmed =
          false))
    ∧ (∃ (p : Fin 8) (s : State), standTimes s p = true ∧ (portPd s p).step = .prsSrcAccepted)
    ∧ (∃ (p : Fin 8) (s : State), standTimes s p = true ∧ (portPd s p).step = .srcSettling)
    ∧ (∃ (p : Fin 8) (s : State), standTimes s p = true ∧ (portPd s p).step = .vcsOn ∧ (portCc s p).vconnOn = false)
    ∧ (∃ (p : Fin 8) (s : State), standTimes s p = true ∧ (portPd s p).step = .hardResetHold)
    ∧ (∃ (p : Fin 8) (s : State), standTimes s p = true ∧ (portPd s p).step = .hardResetOff ∧ serviceable s p = true ∧
      s.power.groupUp[groupOf p] = true ∧ flag (portCinch s p).cfg 24 = false)
    ∧ (∃ (p : Fin 8) (s : State), standTimes s p = true ∧ s.raised = [])
    ∧ (∃ s : State, (strapUp s = false ∨ s.power.refoscRunning = false) ∧ s.raised = []) :=
  ⟨⟨0, { (portsAs { cc := { state := .attachedSrc, term := .rp 0 } }) with strap := { (portsAs { cc := { state := .attachedSrc, term := .rp 0 } }).strap with holds := .replicate 8 { inHold := true } } },
      by decide +kernel⟩,
    ⟨0, (portsAs { cc := { state := .attachedSrc, term := .rp 0 } }), by decide +kernel⟩,
    ⟨0, (portsAs { cc := { state := .attachedSrc, term := .opened } }), by decide +kernel⟩,
    ⟨0, (portsAs { cc := { state := .attachedSrc }, pd := { step := .srcTransition } }), by decide +kernel⟩,
    ⟨0, (portsAs { cc := { state := .attachedSrc }, pd := { step := .prsSrcAccepted } }), by decide +kernel⟩,
    ⟨0, (portsAs { cc := { state := .attachedSrc }, pd := { step := .srcSettling } }), by decide +kernel⟩,
    ⟨0, (portsAs { cc := { state := .attachedSrc }, pd := { step := .vcsOn } }), by decide +kernel⟩,
    ⟨0, (portsAs { cc := { state := .attachedSrc }, pd := { step := .hardResetHold } }), by decide +kernel⟩,
    ⟨0, (portsAs { cc := { state := .attachedSrc }, pd := { step := .hardResetOff } }), by decide +kernel⟩,
    ⟨0, (portsAs { cc := { state := .attachedSrc } }), by decide +kernel⟩,
    ⟨{ rdy with strap := { rdy.strap with link := .lost } }, by decide +kernel⟩⟩

theorem witness_PdTimeouts :
    (∃ (p : Fin 8) (s : State), standTimes s p = true ∧ (portPd s p).eprMode = true)
    ∧ (∃ (p : Fin 8) (s : State), standTimes s p = true ∧ (portPd s p).source = true ∧ (portPd s p).explicit = true ∧
      pdoPps (portPd s p).pdo = true)
    ∧ (∃ (p : Fin 8) (s : State), standTimes s p = true ∧ (portPd s p).await.isSome = true ∧ (portPd s p).retry < 2)
    ∧ (∃ (p : Fin 8) (s : State), standTimes s p = true ∧ (portPd s p).await = some { sop := .sop, msg := .accept } ∧
      2 ≤ (portPd s p).retry)
    ∧ (∃ (p : Fin 8) (s : State), standTimes s p = true ∧ ((portPd s p).step = .srcCaps ∨ (portPd s p).step =
      .snkRequested))
    ∧ (∃ (p : Fin 8) (s : State), standTimes s p = true)
    ∧ (∃ (p : Fin 8) (s : State), standTimes s p = true ∧ (portPd s p).auth = .challenge ∧ (portPd s p).authAwait =
      true)
    ∧ (∃ (p : Fin 8) (s : State), standTimes s p = true ∧ ((portPd s p).step = .prsSrcWait ∨ (portPd s p).step =
      .prsSnkWait ∨ (portPd s p).step = .frsWait ∨ (portPd s p).step = .frsPsWait))
    ∧ (∃ (p : Fin 8) (s : State), standTimes s p = true ∧ (portPd s p).discWaiting = true ∧ (portPd s p).discTries < 20)
    ∧ (∃ (p : Fin 8) (s : State), standTimes s p = true ∧ (portPd s p).discWaiting = true ∧ 20 ≤ (portPd s p).discTries)
    ∧ (∃ (p : Fin 8) (s : State), standTimes s p = true ∧ (portPd s p).source = true ∧ (portPd s p).explicit = false ∧
      (portPd s p).step = .srcStartup ∧ (portPd s p).discWaiting = false ∧ sharedStalled s = false)
    ∧ (∃ (p : Fin 8) (s : State), (portCinch s p).backfeed = true ∧ s.groups[groupOf p].gcutOpen = false ∧
      portPowered s p = true ∧ standTimes s p = true ∧ (portPd s p).ams = 0)
    ∧ (∃ (p : Fin 8) (s : State), (portCinch s p).backfeed = true ∧ s.groups[groupOf p].gcutOpen = true ∧ s.raised = [])
    ∧ (∃ (p : Fin 8) (s : State), (portPd s p).authAwait = false ∧ s.raised = []) :=
  ⟨⟨0, (portsAs { cc := { state := .attachedSrc }, pd := { eprMode := true } }), by decide +kernel⟩,
    ⟨0, (portsAs { cc := { state := .attachedSrc }, pd := { source := true, explicit := true, pdo := 0xC0000000 } }),
      by decide +kernel⟩,
    ⟨0, (portsAs { cc := { state := .attachedSrc }, pd := { await := some { sop := .sop, msg := .accept }, retry := 1 } }),
      by decide +kernel⟩,
    ⟨0, (portsAs { cc := { state := .attachedSrc }, pd := { await := some { sop := .sop, msg := .accept }, retry := 2 } }),
      by decide +kernel⟩,
    ⟨0, (portsAs { cc := { state := .attachedSrc }, pd := { step := .snkRequested } }), by decide +kernel⟩,
    ⟨0, (portsAs { cc := { state := .attachedSrc } }), by decide +kernel⟩,
    ⟨0, (portsAs { cc := { state := .attachedSrc }, pd := { auth := .challenge, authAwait := true } }),
      by decide +kernel⟩,
    ⟨0, (portsAs { cc := { state := .attachedSrc }, pd := { step := .frsPsWait } }), by decide +kernel⟩,
    ⟨0, (portsAs { cc := { state := .attachedSrc }, pd := { discWaiting := true, discTries := 19 } }),
      by decide +kernel⟩,
    ⟨0, (portsAs { cc := { state := .attachedSrc }, pd := { discWaiting := true, discTries := 20 } }),
      by decide +kernel⟩,
    ⟨0, (portsAs { cc := { state := .attachedSrc }, pd := { source := true, step := .srcStartup } }),
      by decide +kernel⟩,
    ⟨0, (gcutsClosed (portsAs { cc := { state := .attachedSrc }, cinch := { backfeed := true } })), by decide +kernel⟩,
    ⟨0, { (portsAs { cc := { state := .attachedSrc }, cinch := { backfeed := true } }) with groups := .replicate 2 { gcutOpen := true, cause := 1 } },
      by decide +kernel⟩,
    ⟨0, (portsAs { cc := { state := .attachedSrc }, pd := { auth := .verifying } }), by decide +kernel⟩⟩

theorem witness_InrushAndTrips :
    (∃ (p : Fin 8) (s : State), inrushing (portCinch s p) = true ∧ flag (portCinch s p).cfg 24 = false)
    ∧ (∃ (p : Fin 8) (s : State), inrushing (portCinch s p) = false)
    ∧ (∃ (p : Fin 8) (s : State), inrushing (portCinch s p) = true ∧ rootAlone s p = false)
    ∧ (∃ (p : Fin 8) (s : State), (portCinch s p).gates = true ∧ inrushing (portCinch s p) = false ∧ rootAlone s p =
      false)
    ∧ (∃ (p : Fin 8) (k : TripKind) (m : Nat) (s : State), fastCrosses s p k m = true ∧ rootAlone s p = false ∧ (k =
      .forward → (portCinch s p).gates = true → s.pgs[p].owned = false))
    ∧ (∃ (p : Fin 8) (k : TripKind) (m : Nat) (s : State), fastCrosses s p k m = true ∧ rootAlone s p = false ∧
      field (portCinch s p).ft 5 3 = 0 ∧ (portCinch s p).latched = false ∧ (portCc s p).state ≠ .outOfService ∧
        s.groups[groupOf p].gcutOpen = false ∧ (k = .forward → (portCinch s p).gates = true → s.pgs[p].owned = false))
    ∧ (∃ (p : Fin 8) (k : TripKind) (m : Nat) (s : State), fastCrosses s p k m = true ∧ rootAlone s p = false ∧
      field (portCinch s p).ft 5 3 ≠ 0 ∧
        field (portCinch s p).ft 5 3 ≤ (recent s 10000000 (portCinch s p).tripTimes).length + 1 ∧ (k = .forward →
          (portCinch s p).gates = true → s.pgs[p].owned = false))
    ∧ (∃ (p : Fin 8) (k : TripKind) (m : Nat) (s : State), fastCrosses s p k m = true ∧ rootAlone s p = true ∧ (k =
      .forward → (portCinch s p).gates = true → s.pgs[p].owned = false))
    ∧ (∃ (p : Fin 8) (m : Nat) (s : State), fastCrosses s p .forward m = true ∧ (portCinch s p).gates = true ∧
      s.pgs[p].owned = true)
    ∧ (∃ (p : Fin 8) (k : TripKind) (m : Nat) (s : State), fastCrosses s p k m = false)
    ∧ (∃ (p : Fin 8) (m : Nat) (s : State), s.boot.phase ≠ .limp ∧
      100 * m < 99 * max 5750 (max (portCinch s p).oldMv (portCinch s p).contractMv * (100 + ovPercent (portCinch s p)) / 100)) :=
  ⟨⟨0, (portsAs { cinch := { st := .inrush, gates := true } }), by decide +kernel⟩,
    ⟨0, rdy, by decide +kernel⟩,
    ⟨0, (portsAs { cinch := { st := .inrush, gates := true } }), by decide +kernel⟩,
    ⟨0, (portsAs { cinch := { st := .on, gates := true, pumpOk := true } }), by decide +kernel⟩,
    ⟨0, .forward, 6000, rdy, by decide +kernel⟩,
    ⟨0, .reverse, 6000, (gcutsClosed (portsAs { cc := { state := .attachedSrc } })), by decide +kernel⟩,
    ⟨0, .overVoltage, 60000, (portsAs { cinch := { ft := 8 } }), by decide +kernel⟩,
    ⟨0, .forward, 6000, { rdy with strap := { rdy.strap with link := .lost } }, by decide +kernel⟩,
    ⟨0, 6000, { (portsAs { cinch := { gates := true } }) with pgs := .replicate 8 { owned := true } },
      by decide +kernel⟩,
    ⟨0, .overVoltage, 0, rdy, by decide +kernel⟩,
    ⟨0, 5692, rdy, by decide +kernel⟩⟩

theorem witness_PortRequestsAndDischarge :
    (∃ (who : Requester) (p : Fin 8) (s : State), maySet who (0x8014 + 0x400 * p.val) s ∧ (portCinch s p).latched =
      true)
    ∧ (∃ (who : Requester) (p : Fin 8) (s : State), maySet who (0x8014 + 0x400 * p.val) s ∧ (portCinch s p).latched =
      false)
    ∧ (∃ (who : Requester) (p : Fin 8) (s : State), maySet who (0x8014 + 0x400 * p.val) s ∧ (portCinch s p).forceOff =
      false ∧ portReach s p = true)
    ∧ (∃ (who : Requester) (p : Fin 8) (s : State), maySet who (0x8014 + 0x400 * p.val) s ∧ portReach s p = false)
    ∧ (∃ (who : Requester) (p : Fin 8) (s : State), maySet who (0x8014 + 0x400 * p.val) s ∧ (portCinch s p).forceOff =
      true ∧ portReach s p = true)
    ∧ (∃ (who : Requester) (g : Fin 2) (s : State), maySet who 0x500C s ∧ rootSeen s = true ∧ s.power.groupUp[g] =
      true ∧ (groupPorts g).any (fun p => portUsed s p) = true)
    ∧ (∃ (who : Requester) (s : State), maySet who 0x500C s ∧ rootSeen s = false)
    ∧ (∃ (p : Fin 8) (mv : Nat) (s : State), (portCinch s p).dsch = true ∧ s.boot.cold = false ∧ mv ≤ 800 ∧
      (portCinch s p).st = .discharging ∧ (portPd s p).step ≠ .prsSrcOff ∧ s.groups[groupOf p].rearming = false)
    ∧ (∃ (p : Fin 8) (mv : Nat) (s : State), (portCinch s p).dsch = true ∧ s.boot.cold = false ∧ 800 < mv ∧
      (portCinch s p).gates = false ∧ portUsed s p = true ∧ rootSeen s = true ∧ (portCinch s p).backfeed = false ∧
        (portCc s p).state ≠ .attachedSnk ∧ isRp (portCc s p).rootCc1 = false ∧ isRp (portCc s p).rootCc2 = false)
    ∧ (∃ (p : Fin 8) (mv : Nat) (s : State), (portCinch s p).dsch = true ∧ s.boot.cold = false ∧ 800 < mv ∧
      (portCinch s p).gates = false ∧ portUsed s p = true ∧ rootSeen s = false ∧ (portCinch s p).backfeed = false ∧
        (portCc s p).state ≠ .attachedSnk ∧ isRp (portCc s p).rootCc1 = false ∧ isRp (portCc s p).rootCc2 = false)
    ∧ (∃ (p : Fin 8) (s : State), s.boot.cold = false ∧ portUsed s p = false)
    ∧ (∃ (p : Fin 8) (s : State), ((portCinch s p).dsch = false ∨ s.boot.cold = true)) :=
  ⟨⟨.host, 0, (portsAs { cinch := { latched := true } }), by unfold maySet; decide +kernel⟩,
    ⟨.host, 0, rdy, by unfold maySet; decide +kernel⟩,
    ⟨.host, 7, rdy, by unfold maySet; decide +kernel⟩,
    ⟨.host, 7, { rdy with strap := { rdy.strap with link := .lost } }, by unfold maySet; decide +kernel⟩,
    ⟨.host, 7, (portsAs { cinch := { forceOff := true } }), by unfold maySet; decide +kernel⟩,
    ⟨.host, 1, rdy, by unfold maySet; decide +kernel⟩,
    ⟨.host, { rdy with strap := { rdy.strap with link := .lost } }, by unfold maySet; decide +kernel⟩,
    ⟨0, 800, (portsAs { cinch := { dsch := true, st := .discharging } }), by decide +kernel⟩,
    ⟨0, 801, (portsAs { cinch := { dsch := true, st := .discharging } }), by decide +kernel⟩,
    ⟨0, 801,
      { (portsAs { cinch := { dsch := true, st := .discharging } }) with strap := { (portsAs { cinch := { dsch := true, st := .discharging } }).strap with link := .lost } },
        by decide +kernel⟩,
    ⟨0, { (portsAs { cinch := { dsch := true, st := .discharging } }) with pattern := { (portsAs { cinch := { dsch := true, st := .discharging } }).pattern with portMask := 0xFE } },
      by decide +kernel⟩,
    ⟨0, (portsAs { cinch := { dsch := false } }), by decide +kernel⟩⟩

theorem witness_DroopBackfeedCompliance :
    (∃ (p : Fin 8) (mv : Nat) (s : State), mv < 250 * field (portCinch s p).rootDroop 31 24 ∧ portPowered s p = true ∧
      s.boot.cold = false ∧ rootSeen s = true ∧ (portPd s p).frsArmed = true ∧ rootAlone s p = false ∧
        (portPd s p).source = true ∧ s.groups[groupOf p].gcutOpen = false)
    ∧ (∃ (p : Fin 8) (mv : Nat) (s : State), (250 * field (portCinch s p).rootDroop 31 24 ≤ mv ∨ portPowered s p =
      false ∨ s.boot.cold = true))
    ∧ (∃ (p : Fin 8) (mv : Nat) (s : State), mv < 250 * field (portCinch s p).rootDroop 31 24 ∧ portPowered s p =
      true ∧ s.boot.cold = false ∧ (portPd s p).frsArmed = false)
    ∧ (∃ (g : Fin 2) (s : State), s.groups[g].gcutOpen = true ∧ s.groups[g].cause = 2 ∧ gcutMayClose s g = true)
    ∧ (∃ (g : Fin 2) (s : State), (s.groups[g].cause ≠ 2 ∨ gcutMayClose s g = false))
    ∧ (∃ (p : Fin 8) (s : State), (portCinch s p).st = .on ∧ (portCinch s p).ceiling = true ∧ (portMetro s p).fault =
      false ∧ rootAlone s p = false)
    ∧ (∃ (p : Fin 8) (s : State), ((portMetro s p).fault = true ∨ (portCinch s p).ceiling = false))
    ∧ (∃ (p : Fin 8) (s : State), (portCinch s p).compliance = true ∧ (portCinch s p).ceiling = false ∧
      (portMetro s p).fault = false ∧ rootAlone s p = false)
    ∧ (∃ (p : Fin 8) (s : State), (portCinch s p).compliance = true) :=
  ⟨⟨0, 200,
      (gcutsClosed (portsAs { pd := { frsArmed := true, source := true }, cinch := { rootDroop := 0x01000000 } })),
        by decide +kernel⟩,
    ⟨0, 250, (portsAs { cinch := { rootDroop := 0x01000000 } }), by decide +kernel⟩,
    ⟨0, 249, (portsAs { cinch := { rootDroop := 0x01000000 } }), by decide +kernel⟩,
    ⟨0, { rdy with groups := .replicate 2 { cause := 2 } }, by decide +kernel⟩,
    ⟨0, rdy, by decide +kernel⟩,
    ⟨0, (portsAs { cinch := { st := .on, ceiling := true } }), by decide +kernel⟩,
    ⟨0, rdy, by decide +kernel⟩,
    ⟨0, (portsAs { cinch := { compliance := true } }), by decide +kernel⟩,
    ⟨0, (portsAs { cinch := { compliance := true } }), by decide +kernel⟩⟩

theorem witness_Comparators :
    (∃ (n : Fin 8) (uv : Int) (s : State), cmpOn s n = true ∧ cmpHeld s n = false ∧ s.cmps[n].blanking = false ∧
      s.cmps[n].latch = false ∧ cmpSense s.cmps[n] uv = true)
    ∧ (∃ (n : Fin 8) (uv : Int) (s : State), cmpOn s n = true ∧ (cmpSense s.cmps[n] uv = false ∨ s.cmps[n].blanking =
      true))
    ∧ (∃ (n : Fin 8) (s : State), cmpOn s n = true)
    ∧ (∃ (n : Fin 8) (s : State), cmpOn s n = false)
    ∧ (∃ (n : Fin 8) (s : State), cmpOn s n = true ∧ s.cmps[n].blanking = true ∧ cmpHeld s n = false)
    ∧ (∃ (who : Requester) (test : BitVec 3) (s : State), maySet who 0x4040 s ∧ s.cmpTest.result ≠ 1 ∧ (test =
      1 ∨ test = 2 ∨ test = 3))
    ∧ (∃ s : State, s.cmpTest.result = 1)
    ∧ (∃ s : State, s.cmpTest.result ≠ 1) :=
  ⟨⟨0, 100, { rdy with cmps := .replicate 8 { cfg := 1 } }, by decide +kernel⟩,
    ⟨0, -100, { rdy with cmps := .replicate 8 { cfg := 1 } }, by decide +kernel⟩,
    ⟨0, { rdy with cmps := .replicate 8 { cfg := 1 } }, by decide +kernel⟩,
    ⟨0, rdy, by decide +kernel⟩,
    ⟨0, { rdy with cmps := .replicate 8 { cfg := 1, blanking := true } }, by decide +kernel⟩,
    ⟨.host, 3, rdy, by unfold maySet; decide +kernel⟩,
    ⟨{ rdy with cmpTest := { rdy.cmpTest with result := 1 } }, by decide +kernel⟩,
    ⟨rdy, by decide +kernel⟩⟩

theorem witness_PulseGenerators :
    (∃ (who : Requester) (n : Fin 8) (s : State), maySet who (0x4408 + 0x20 * n.val) s ∧ s.power.refoscRunning = true ∧
      s.pgs[n].owned = false ∧ (pgMode s.pgs[n] = 1 ∨ pgMode s.pgs[n] = 2 ∨ pgMode s.pgs[n] = 3) ∧
        ((List.finRange 8).all fun k => field s.cmps[k].cfg 31 24 >>> n.val % 2 == 0) = true)
    ∧ (∃ (who : Requester) (n : Fin 8) (s : State), maySet who (0x4408 + 0x20 * n.val) s ∧ (s.pgs[n].owned =
      true ∨ pgMode s.pgs[n] = 0 ∨ 4 ≤ pgMode s.pgs[n]))
    ∧ (∃ (who : Requester) (n : Fin 8) (s : State), maySet who (0x4408 + 0x20 * n.val) s)
    ∧ (∃ (n : Fin 8) (s : State), s.pgs[n].run = true ∧ (pgMode s.pgs[n] = 2 ∨ (pgMode s.pgs[n] = 3 ∧
      s.pgs[n].burstLeft ≤ 1)))
    ∧ (∃ (n : Fin 8) (s : State), s.pgs[n].run = true ∧ (pgMode s.pgs[n] = 1 ∨ (pgMode s.pgs[n] = 3 ∧
      1 < s.pgs[n].burstLeft)) ∧ ((List.finRange 8).all fun k => field s.cmps[k].cfg 31 24 >>> n.val % 2 == 0) = true)
    ∧ (∃ (n : Fin 8) (s : State), s.pgs[n].run = false)
    ∧ (∃ (n : Fin 8) (s : State), s.pgs[n].run = true) :=
  ⟨⟨.host, 7, { rdy with pgs := .replicate 8 { cfg := 0x60000000 } }, by unfold maySet; decide +kernel⟩,
    ⟨.host, 0, { rdy with pgs := .replicate 8 { cfg := 0x80000000 } }, by unfold maySet; decide +kernel⟩,
    ⟨.host, 0, rdy, by unfold maySet; decide +kernel⟩,
    ⟨0, { rdy with pgs := .replicate 8 { cfg := 0x60000000, run := true, burstLeft := 1 } }, by decide +kernel⟩,
    ⟨0, { rdy with pgs := .replicate 8 { cfg := 0x60000000, run := true, burstLeft := 2 } }, by decide +kernel⟩,
    ⟨0, rdy, by decide +kernel⟩,
    ⟨0, { rdy with pgs := .replicate 8 { cfg := 0x20000000, run := true } }, by decide +kernel⟩⟩

theorem witness_MetrologyReadings :
    (∃ (p : Fin 8) (r : Reading) (s : State), s.strap.codeRunning = true ∧ r.silent = none ∧ r.calV = none ∧ r.calI =
      none ∧ (portMetro s p).sampled = false)
    ∧ (∃ s : State, s.strap.codeRunning = true)
    ∧ (∃ (p : Fin 8) (w : CalWin) (s : State), s.strap.codeRunning = true ∧ 200 < w.dev.natAbs ∧
      ((portMetro s p).vGainNext = true ∨ w.shiftMv ≤ 100) ∧ portUsed s p = true ∧ (portMetro s p).fault = false)
    ∧ (∃ (p : Fin 8) (s : State), s.strap.codeRunning = true ∧ portUsed s p = true ∧ (portMetro s p).fault = false)
    ∧ (∃ s : State, s.strap.codeRunning = false)
    ∧ (∃ (dev : Int) (s : State), s.strap.codeRunning = true ∧ 300 < dev.natAbs)
    ∧ (∃ (dev : Int) (s : State), s.strap.codeRunning = true ∧ dev.natAbs ≤ 300)
    ∧ (∃ (p : Fin 8) (s : State), (portPd s p).explicit = true ∧ (portPd s p).source = true ∧ pdoPps (portPd s p).pdo =
      true ∧ standTimes s p = true ∧ (portMetro s p).targetUv < 100000 * field (portPd s p).pdo 15 8)
    ∧ (∃ (p : Fin 8) (s : State), ((portPd s p).explicit = false ∨ (portPd s p).source =
      false ∨ pdoPps (portPd s p).pdo = false ∨ standTimes s p =
        false ∨ 100000 * field (portPd s p).pdo 15 8 ≤ (portMetro s p).targetUv) ∧ s.raised = []) :=
  ⟨⟨0, { vbus := 20000, shuntNv := 0, calV := none, calI := none, vinMv := 24000 }, rdy, by decide +kernel⟩,
    ⟨rdy, by decide +kernel⟩,
    ⟨0, { dev := -201, shiftMv := 100 }, rdy, by decide +kernel⟩,
    ⟨0, rdy, by decide +kernel⟩,
    ⟨{ rdy with strap := { rdy.strap with codeRunning := false } }, by decide +kernel⟩,
    ⟨-301, rdy, by decide +kernel⟩,
    ⟨300, rdy, by decide +kernel⟩,
    ⟨0, (portsAs { cc := { state := .attachedSrc }, pd := { explicit := true, source := true, pdo := 0xC000FF00 }, metro := { targetUv := 0 } }),
      by decide +kernel⟩,
    ⟨0, rdy, by decide +kernel⟩⟩

theorem witness_ReinEnumeration :
    (∃ (h : ReinHdr) (s : State), reinForUs s h = true)
    ∧ (∃ s : State, reinUp s = true)
    ∧ (∃ s : State, reinUp s = false)
    ∧ (∃ (h : ReinHdr) (s : State), reinForUs s h = false)
    ∧ (∃ s : State, reinForwards s = true)
    ∧ (∃ s : State, reinUp s = true ∧ s.rein.enumerating = false ∧ reinIsClosed s = false ∧ s.rein.oversize = false)
    ∧ (∃ s : State, reinUp s = true ∧ s.rein.enumerating = true ∧ s.rein.oversize = false)
    ∧ (∃ (h : ReinHdr) (s : State), reinUp s = true ∧ s.rein.enumerating = true ∧ h.hops.val < 8 ∧
      s.rein.seen.length ≤ 8)
    ∧ (∃ (h : ReinHdr) (s : State), reinUp s = true ∧ s.rein.enumerating = true ∧ 8 ≤ h.hops.val)
    ∧ (∃ (h : ReinHdr) (id : Nat) (s : State), reinUp s = true ∧ s.rein.enumerating = true ∧ id ≠ ownId s ∧
      h.hops.val ≤ 13 ∧ s.rein.seen.length < 8)
    ∧ (∃ (h : ReinHdr) (id : Nat) (s : State), reinUp s = true ∧ s.rein.enumerating = false ∧ reinIsClosed s = false ∧
      s.rein.oversize = false ∧ id ≠ ownId s ∧ h.hops.val ≤ 13)
    ∧ (∃ (h : ReinHdr) (id : Nat) (s : State), reinUp s = true ∧ s.rein.enumerating = false ∧ reinIsClosed s = true ∧
      s.rein.oversize = false ∧ id ≠ ownId s ∧ h.hops.val ≤ 13 ∧ ((s.rein.seen.any fun x => x.id =
        id) || passed s s.rein.closedAt 2000) = true)
    ∧ (∃ (id : Nat) (s : State), reinUp s = true ∧ s.rein.enumerating = false ∧ reinIsClosed s = true ∧
      s.rein.oversize = false ∧ id ≠ ownId s ∧ ((s.rein.seen.any fun x => x.id =
        id) || passed s s.rein.closedAt 2000) = false)
    ∧ (∃ s : State, reinUp s = true ∧ s.rein.enumerating = false ∧ s.rein.oversize = true)
    ∧ (∃ s : State, (reinUp s = false ∨ s.rein.oversize = true))
    ∧ (∃ (l : StrapLine) (s : State), reinForwards s = true ∧ reinBad l = true)
    ∧ (∃ l : StrapLine, reinBad l = false) :=
  ⟨⟨{ hops := 0, src := 1, bcast := true, dest := 0, seq := 0 }, rdy, by decide +kernel⟩,
    ⟨rdy, by decide +kernel⟩,
    ⟨{ rdy with strap := { rdy.strap with link := .lost } }, by decide +kernel⟩,
    ⟨{ hops := 0, src := 0, bcast := true, dest := 0, seq := 0 }, rdy, by decide +kernel⟩,
    ⟨rdy, by decide +kernel⟩,
    ⟨{ rdy with rein := { rdy.rein with state := 1 } }, by decide +kernel⟩,
    ⟨{ rdy with rein := { rdy.rein with enumerating := true } }, by decide +kernel⟩,
    ⟨{ hops := 7, src := 1, bcast := true, dest := 0, seq := 0 },
      { rdy with rein := { rdy.rein with enumerating := true } }, by decide +kernel⟩,
    ⟨{ hops := 8, src := 1, bcast := true, dest := 0, seq := 0 },
      { rdy with rein := { rdy.rein with enumerating := true } }, by decide +kernel⟩,
    ⟨{ hops := 13, src := 1, bcast := true, dest := 0, seq := 0 }, 1,
      { rdy with rein := { rdy.rein with enumerating := true } }, by decide +kernel⟩,
    ⟨{ hops := 13, src := 1, bcast := true, dest := 0, seq := 0 }, 1,
      { rdy with rein := { rdy.rein with state := 1 } }, by decide +kernel⟩,
    ⟨{ hops := 1, src := 1, bcast := true, dest := 0, seq := 0 }, 1,
      { rdy with rein := { rdy.rein with state := 0, seen := [{ id := 1, hops := 1, calGen := 0, participant := true }] } },
        by decide +kernel⟩,
    ⟨1, { rdy with rein := { rdy.rein with state := 0, closedAt := 0 } }, by decide +kernel⟩,
    ⟨{ rdy with rein := { rdy.rein with oversize := true } }, by decide +kernel⟩,
    ⟨{ rdy with rein := { rdy.rein with oversize := true } }, by decide +kernel⟩,
    ⟨{ chars := [1, 2, 3], parityErr := false, badControl := false, eef := false }, rdy, by decide +kernel⟩,
    ⟨reinLine, by decide +kernel⟩⟩

theorem witness_ReinBreaks :
    (∃ s : State, isReady s = true ∧ reinForwards s = true ∧ s.rein.looping = false ∧ (s.rein.brkSeen = true →
      s.rein.head ≠ s.rein.addr))
    ∧ (∃ s : State, (reinForwards s = false ∨ (s.rein.brkSeen = true ∧ s.rein.head = s.rein.addr)))
    ∧ (∃ s : State, s.rein.looping = true)
    ∧ (∃ s : State, s.rein.looping = false)
    ∧ (∃ (head : Fin 8) (s : State), reinForwards s = true ∧ isReady s = true ∧ (s.rein.brkSeen = true →
      s.rein.head ≠ head))
    ∧ (∃ (head : Fin 8) (s : State), s.rein.brkSeen = true ∧ s.rein.head = head)
    ∧ (∃ (a : Fin 8) (s : State), reinForwards s = true ∧ s.rein.vetoesSeen.contains a = false)
    ∧ (∃ (a : Fin 8) (s : State), s.rein.vetoesSeen.contains a = true)
    ∧ (∃ (s : State) (w : Sweep) (k : Nat), s.rein.sweep = some w ∧ reinForwards s = true ∧ isReady s = true ∧ 1 ≤ k ∧
      k ≤ 15 ∧ s.rein.marksSeen.contains k = false ∧ s.rein.marksSeen.any (k < ·) = false ∧ w.leader = false)
    ∧ (∃ (s : State) (w : Sweep), s.rein.sweep = some w ∧ reinForwards s = true ∧ isReady s = true ∧
      s.rein.marksSeen.contains 21 = false ∧ s.rein.marksSeen.any (21 < ·) = false ∧ w.leader = false)
    ∧ (∃ (s : State) (w : Sweep), s.rein.sweep = some w ∧ reinUp s = true ∧ w.leader = false ∧
      s.rein.marksSeen.contains 16 = false ∧ s.rein.marksSeen.any (16 < ·) = false ∧ s.rein.oversize = false)
    ∧ (∃ (s : State) (w : Sweep), s.rein.sweep = some w ∧ reinForwards s = true ∧ isReady s = true ∧
      s.rein.marksSeen.contains 20 = false ∧ s.rein.marksSeen.any (20 < ·) = false ∧ w.leader = false)
    ∧ (∃ (k : Nat) (s : State), reinForwards s = true ∧ isReady s = true ∧ 1 ≤ k ∧ k ≤ 15 ∧
      s.rein.marksSeen.contains k = false ∧ s.rein.marksSeen.any (k < ·) = true ∧ s.rein.sweep.any (·.leader) = false ∧
        s.rein.sweep.any (·.decided) = false)
    ∧ (∃ (k : Nat) (s : State), s.rein.marksSeen.contains k = true) :=
  ⟨⟨rdy, by decide +kernel⟩,
    ⟨{ rdy with strap := { rdy.strap with wire := true } }, by decide +kernel⟩,
    ⟨{ rdy with rein := { rdy.rein with looping := true } }, by decide +kernel⟩,
    ⟨rdy, by decide +kernel⟩,
    ⟨7, rdy, by decide +kernel⟩,
    ⟨7, { rdy with rein := { rdy.rein with brkSeen := true, head := 7 } }, by decide +kernel⟩,
    ⟨7, rdy, by decide +kernel⟩,
    ⟨7, { rdy with rein := { rdy.rein with vetoesSeen := [7] } }, by decide +kernel⟩,
    ⟨{ rdy with rein := { rdy.rein with sweep := some { gen := 1, src := false, segment := false, leader := false } } },
      { gen := 1, src := false, segment := false, leader := false }, 15, by decide +kernel⟩,
    ⟨{ rdy with rein := { rdy.rein with sweep := some { gen := 1, src := false, segment := false, leader := false } } },
      { gen := 1, src := false, segment := false, leader := false }, by decide +kernel⟩,
    ⟨{ rdy with rein := { rdy.rein with sweep := some { gen := 1, src := false, segment := false, leader := false } } },
      { gen := 1, src := false, segment := false, leader := false }, by decide +kernel⟩,
    ⟨{ rdy with rein := { rdy.rein with sweep := some { gen := 1, src := false, segment := false, leader := false } } },
      { gen := 1, src := false, segment := false, leader := false }, by decide +kernel⟩,
    ⟨1, { rdy with rein := { rdy.rein with marksSeen := [2, 20] } }, by decide +kernel⟩,
    ⟨1, { rdy with rein := { rdy.rein with marksSeen := [1] } }, by decide +kernel⟩⟩

theorem witness_ReinSweeps :
    (∃ s : State, reinUp s = true ∧ s.rein.sweep = none ∧ sweepLeads s = true ∧ s.rein.oversize = false ∧
      field s.rein.cfg 31 24 ≠ 0)
    ∧ (∃ s : State, field s.rein.cfg 31 24 = 0)
    ∧ (∃ (who : Requester) (s : State), maySet who 0x3800 s ∧ reinUp s = true ∧ s.rein.sweep = none ∧ sweepLeads s =
      true ∧ s.rein.oversize = false ∧ 3 ≤ (sweepMembers s).length)
    ∧ (∃ (who : Requester) (s : State), maySet who 0x3800 s ∧ (s.rein.sweep.isSome = true ∨ sweepLeads s = false))
    ∧ (∃ (h : ReinHdr) (s : State), reinForUs s h = true)
    ∧ (∃ (s : State) (w : Sweep) (h : ReinHdr), s.rein.sweep = some w ∧ reinForUs s h = true ∧ w.leader = true)
    ∧ (∃ (s : State) (w : Sweep) (gen : Half), s.rein.sweep = some w ∧ (w.leader = false ∨ w.gen ≠ gen))
    ∧ (∃ (s : State) (w : Sweep) (h : ReinHdr), s.rein.sweep = some w ∧ reinForUs s h = true ∧ w.leader = false)
    ∧ (∃ (s : State) (w : Sweep) (h : ReinHdr), s.rein.sweep = some w ∧ isReady s = true ∧ reinForwards s = true ∧
      h.src ≠ s.rein.addr ∧ (h.bcast = true ∨ h.dest = s.rein.addr))
    ∧ (∃ (s : State) (w : Sweep), s.rein.sweep = some w ∧ isReady s = true ∧ w.leader = true ∧ w.nextMark ≤ 15 ∧
      1 ≤ w.nextMark)
    ∧ (∃ (s : State) (w : Sweep), s.rein.sweep = some w ∧ reinUp s = true ∧ w.leader = true ∧ w.nextMark = 18 ∧
      s.rein.oversize = false ∧ (((sweepMembers s).map (addrOf s)).all fun a => w.readings.any fun r => r.1 = a) =
        false)
    ∧ (∃ (s : State) (w : Sweep), s.rein.sweep = some w ∧ reinUp s = true ∧ w.leader = true ∧ w.nextMark = 18 ∧
      s.rein.oversize = false ∧ (((sweepMembers s).map (addrOf s)).all fun a => w.readings.any fun r => r.1 = a) = true)
    ∧ (∃ (s : State) (w : Sweep) (c : Nat × Nat), s.rein.sweep = some w ∧ w.correction = some c ∧ w.decided = true)
    ∧ (∃ (s : State) (w : Sweep), s.rein.sweep = some w ∧ (w.decided = false ∨ w.correction = none)) :=
  ⟨⟨{ rdy with rein := { rdy.rein with state := 0, addr := 0, cfg := 0x01000000 } }, by decide +kernel⟩,
    ⟨rdy, by decide +kernel⟩,
    ⟨.host,
      { rdy with rein := { rdy.rein with state := 0, addr := 0, seen := [{ id := 0, hops := 2, calGen := 0, participant := true }, { id := 1, hops := 0, calGen := 0, participant := true }, { id := 2, hops := 1, calGen := 0, participant := true }] } },
        by unfold maySet; decide +kernel⟩,
    ⟨.host, rdy, by unfold maySet; decide +kernel⟩,
    ⟨{ hops := 0, src := 1, bcast := true, dest := 0, seq := 0 }, rdy, by decide +kernel⟩,
    ⟨{ rdy with rein := { rdy.rein with sweep := some { gen := 1, src := false, segment := false, leader := true } } },
      { gen := 1, src := false, segment := false, leader := true },
        { hops := 0, src := 1, bcast := true, dest := 0, seq := 0 }, by decide +kernel⟩,
    ⟨{ rdy with rein := { rdy.rein with sweep := some { gen := 1, src := false, segment := false, leader := true } } },
      { gen := 1, src := false, segment := false, leader := true }, 2, by decide +kernel⟩,
    ⟨{ rdy with rein := { rdy.rein with sweep := some { gen := 1, src := false, segment := false, leader := false } } },
      { gen := 1, src := false, segment := false, leader := false },
        { hops := 0, src := 1, bcast := true, dest := 0, seq := 0 }, by decide +kernel⟩,
    ⟨{ rdy with rein := { rdy.rein with sweep := some { gen := 1, src := false, segment := false, leader := false } } },
      { gen := 1, src := false, segment := false, leader := false },
        { hops := 0, src := 1, bcast := true, dest := 0, seq := 0 }, by decide +kernel⟩,
    ⟨{ rdy with rein := { rdy.rein with sweep := some { gen := 1, src := false, segment := false, leader := true, nextMark := 15 } } },
      { gen := 1, src := false, segment := false, leader := true, nextMark := 15 }, by decide +kernel⟩,
    ⟨{ rdy with rein := { rdy.rein with state := 0, addr := 0, seen := [{ id := 0, hops := 2, calGen := 0, participant := true }, { id := 1, hops := 0, calGen := 0, participant := true }, { id := 2, hops := 1, calGen := 0, participant := true }], sweep := some { gen := 1, src := false, segment := false, leader := true, nextMark := 18 } } },
      { gen := 1, src := false, segment := false, leader := true, nextMark := 18 }, by decide +kernel⟩,
    ⟨{ rdy with rein := { rdy.rein with state := 0, addr := 0, seen := [{ id := 0, hops := 2, calGen := 0, participant := true }, { id := 1, hops := 0, calGen := 0, participant := true }, { id := 2, hops := 1, calGen := 0, participant := true }], sweep := some { gen := 1, src := false, segment := false, leader := true, nextMark := 18, readings := [(0, 1), (1, 1), (2, 1)] } } },
      { gen := 1, src := false, segment := false, leader := true, nextMark := 18, readings := [(0, 1), (1, 1), (2, 1)] },
        by decide +kernel⟩,
    ⟨{ rdy with rein := { rdy.rein with sweep := some { gen := 1, src := false, segment := false, leader := false, correction := some (999, 1000), decided := true } } },
      { gen := 1, src := false, segment := false, leader := false, correction := some (999, 1000), decided := true },
        (999, 1000), by decide +kernel⟩,
    ⟨{ rdy with rein := { rdy.rein with sweep := some { gen := 1, src := false, segment := false, leader := false } } },
      { gen := 1, src := false, segment := false, leader := false }, by decide +kernel⟩⟩

theorem witness_SapStartStopAndCharge :
    (∃ s : State, s.sap.running = false ∧ s.sap.noReserve = false)
    ∧ (∃ s : State, (s.sap.running = true ∨ s.sap.noReserve = true))
    ∧ (∃ s : State, s.sap.running = true)
    ∧ (∃ (mv : Nat) (s : State), s.sap.running = true ∧ s.sap.charging = true ∧ chargeMv s ≤ mv ∧ reserveLithium s =
      false)
    ∧ (∃ (mv : Nat) (s : State), (s.sap.charging = false ∨ (reserveLithium s = false ∧ mv < chargeMv s)))
    ∧ (∃ s : State, s.sap.running = true ∧ s.sap.charging = true ∧ reserveLithium s = true)
    ∧ (∃ s : State, s.sap.running = true ∧ s.sap.rsvPresent = true ∧ s.sap.tempHold = false ∧ chargePath s = true)
    ∧ (∃ s : State, (chargePath s = false ∨ s.sap.rsvPresent = false))
    ∧ (∃ (tc : Int) (s : State), s.sap.running = true ∧ reserveLithium s = true ∧ s.sap.tempHold = false ∧
      (tc < chgTmin s ∨ chgTmax s < tc))
    ∧ (∃ s : State, reserveLithium s = false)
    ∧ (∃ s : State, s.sap.running = true ∧ s.sap.tempHold = true) :=
  ⟨⟨{ rdy with sap := { rdy.sap with running := false } }, by decide +kernel⟩,
    ⟨rdy, by decide +kernel⟩,
    ⟨rdy, by decide +kernel⟩,
    ⟨3300, { rdy with sap := { rdy.sap with cfg := 0x00000800, charging := true } }, by decide +kernel⟩,
    ⟨3000, rdy, by decide +kernel⟩,
    ⟨{ lithium with sap := { lithium.sap with charging := true } }, by decide +kernel⟩,
    ⟨{ rdy with sap := { rdy.sap with cfg := 0x40000000 } }, by decide +kernel⟩,
    ⟨{ rdy with sap := { rdy.sap with rsvPresent := false } }, by decide +kernel⟩,
    ⟨-201, lithium, by decide +kernel⟩,
    ⟨rdy, by decide +kernel⟩,
    ⟨{ rdy with sap := { rdy.sap with tempHold := true } }, by decide +kernel⟩⟩

theorem witness_SapGaugeAndLevels :
    (∃ s : State, s.sap.running = true)
    ∧ (∃ s : State, s.sap.running = false)
    ∧ (∃ (g : GaugeIn) (s : State), s.sap.running = true ∧ s.sap.rsvPresent = true ∧ g.openRsv = false ∧
      levelAtMost (gaugeMeasure (gaugeSeen s g) s) < s.sap.level)
    ∧ (∃ (g : GaugeIn) (s : State), s.sap.running = true ∧ s.sap.rsvPresent = true ∧ g.openRsv = false ∧
      s.sap.level ≤ levelAtMost (gaugeMeasure (gaugeSeen s g) s) ∧ s.sap.level < 3)
    ∧ (∃ s : State, s.sap.running = true ∧ s.sap.rsvPresent = false)
    ∧ (∃ s : State, s.sap.running = true ∧ s.sap.clock = 0xFFFFFFFF)
    ∧ (∃ (who : Requester) (w : Fin 4) (s : State), maySet who (0x3010 + 4 * w.val) s ∧ s.sap.running = true) :=
  ⟨⟨rdy, by decide +kernel⟩,
    ⟨{ rdy with sap := { rdy.sap with running := false } }, by decide +kernel⟩,
    ⟨{ rsvMv := 0, chargeUc := 0, drawUc := 0, rise := none, harvestUw := 0, openRsv := false },
      { rdy with sap := { rdy.sap with level := 1 } }, by decide +kernel⟩,
    ⟨{ rsvMv := 3000, chargeUc := 0, drawUc := 0, rise := none, harvestUw := 0, openRsv := false },
      { rdy with sap := { rdy.sap with level := 2 } }, by decide +kernel⟩,
    ⟨{ rdy with sap := { rdy.sap with rsvPresent := false } }, by decide +kernel⟩,
    ⟨{ rdy with sap := { rdy.sap with clock := 0xFFFFFFFF } }, by decide +kernel⟩,
    ⟨.host, 3, rdy, by unfold maySet; decide +kernel⟩⟩

theorem witness_SapWakeAndReserve :
    (∃ s : State, flag s.sap.wake 7 = true ∧ wakeArmed s 1 = true)
    ∧ (∃ s : State, (flag s.sap.wake 7 = false ∨ wakeArmed s 1 = false))
    ∧ (∃ s : State, field s.sap.wake 31 16 ≠ 0 ∧ wakeArmed s 0xA = true)
    ∧ (∃ s : State, s.sap.running = true ∧ s.sap.rsvPresent = true)
    ∧ (∃ s : State, s.sap.rsvPresent = false)
    ∧ (∃ s : State, s.sap.running = true ∧ s.sap.rsvPresent = false ∧ s.power.vdd18 = false)
    ∧ (∃ s : State, (s.sap.rsvPresent = true ∨ s.power.vdd18 = true))
    ∧ (∃ s : State, s.sap.running = true ∧ s.sap.rsvPresent = false) :=
  ⟨⟨{ rdy with sap := { rdy.sap with level := 1 } }, by decide +kernel⟩,
    ⟨{ rdy with sap := { rdy.sap with level := 0 } }, by decide +kernel⟩,
    ⟨{ rdy with sap := { rdy.sap with level := 2, wake := 0x00010000 } }, by decide +kernel⟩,
    ⟨rdy, by decide +kernel⟩,
    ⟨{ rdy with sap := { rdy.sap with rsvPresent := false } }, by decide +kernel⟩,
    ⟨{ rdy with sap := { rdy.sap with rsvPresent := false }, power := { rdy.power with vdd18 := false } },
      by decide +kernel⟩,
    ⟨rdy, by decide +kernel⟩,
    ⟨{ rdy with sap := { rdy.sap with rsvPresent := false } }, by decide +kernel⟩⟩

theorem witness_AwlQueueAndUnits :
    (∃ (u : AwlUnit) (rest : List AwlUnit) (s : State), u.needs = none ∧ u.output = none ∧ rngNeeded u.use = false ∧
      s.awl.head = none ∧ s.awl.queue = u :: rest)
    ∧ (∃ s : State, s.awl.head.isSome = true)
    ∧ (∃ (s : State) (u : AwlUnit), s.awl.queue.head? = some u ∧ readPending s u = true ∧ s.awl.head = none)
    ∧ (∃ (s : State) (u : AwlUnit), s.awl.head = some u ∧ u.wanted = false ∧ s.awl.behind = [])
    ∧ (∃ (s : State) (u : AwlUnit) (v : AwlUnit), s.awl.head = some u ∧ u.wanted = false ∧ s.awl.behind = [v] ∧
      sameHolder u.use v.use = true ∧ (s.awl.queue.any fun w => sameHolder u.use w.use) = false)
    ∧ (∃ (s : State) (u : AwlUnit) (p : Fin 8), s.awl.head = some u ∧ u.use = .authHash p ∧ u.wanted = true ∧
      rootOk s p = true ∧ s.awl.behind = [] ∧ (s.awl.queue.any fun w => sameHolder u.use w.use) = false)
    ∧ (∃ (s : State) (u : AwlUnit) (p : Fin 8), s.awl.head = some u ∧ u.use = .authHash p ∧ u.wanted = true ∧
      rootOk s p = false)
    ∧ (∃ (s : State) (u : AwlUnit) (p : Fin 8) (d : List Byte), s.awl.head = some u ∧ strapUp s = true ∧ u.use =
      .responder p d ∧ u.wanted = true)
    ∧ (∃ (s : State) (u : AwlUnit) (p : Fin 8), s.awl.head = some u ∧ (item s (sessionItem p)).state ≠ .absent ∧
      u.use = .authEcdh p ∧ u.wanted = true)
    ∧ (∃ (s : State) (u : AwlUnit) (p : Fin 8), s.awl.head = some u ∧ (item s (sessionItem p)).state = .absent ∧
      u.use = .authEcdh p ∧ u.wanted = true) :=
  ⟨⟨{ use := .authHash 0, needs := none, output := none, arrivedAt := 0 }, [],
      { rdy with awl := { rdy.awl with queue := [{ use := .authHash 0, needs := none, output := none, arrivedAt := 0 }] } },
        by decide +kernel⟩,
    ⟨{ rdy with awl := { rdy.awl with head := some { use := .authHash 0, needs := none, output := none, arrivedAt := 0 } } },
      by decide +kernel⟩,
    ⟨{ rdy with pocket := { rdy.pocket with items := .replicate 20 { state := .pressed } }, awl := { rdy.awl with queue := [{ use := .responder 0 [], needs := some 10, output := none, arrivedAt := 0 }] } },
      { use := .responder 0 [], needs := some 10, output := none, arrivedAt := 0 }, by decide +kernel⟩,
    ⟨{ rdy with awl := { rdy.awl with head := some { use := .authHash 0, needs := none, output := none, arrivedAt := 0, wanted := false } } },
      { use := .authHash 0, needs := none, output := none, arrivedAt := 0, wanted := false }, by decide +kernel⟩,
    ⟨{ rdy with awl := { rdy.awl with head := some { use := .authHash 0, needs := none, output := none, arrivedAt := 0, wanted := false }, behind := [{ use := .responder 0 [], needs := none, output := none, arrivedAt := 0 }] } },
      { use := .authHash 0, needs := none, output := none, arrivedAt := 0, wanted := false },
        { use := .responder 0 [], needs := none, output := none, arrivedAt := 0 }, by decide +kernel⟩,
    ⟨{ rdy with ports := .replicate 8 { pd := { authChain := [1] } }, pocket := { rdy.pocket with items := .replicate 20 { slot := some 2 }, slots := .replicate 16 (toSlot (sha256 [1])) }, awl := { rdy.awl with head := some { use := .authHash 0, needs := none, output := none, arrivedAt := 0 } } },
      { use := .authHash 0, needs := none, output := none, arrivedAt := 0 }, 0, by decide +kernel⟩,
    ⟨{ rdy with awl := { rdy.awl with head := some { use := .authHash 0, needs := none, output := none, arrivedAt := 0 } } },
      { use := .authHash 0, needs := none, output := none, arrivedAt := 0 }, 0, by decide +kernel⟩,
    ⟨{ rdy with awl := { rdy.awl with head := some { use := .responder 0 [1], needs := none, output := none, arrivedAt := 0 } } },
      { use := .responder 0 [1], needs := none, output := none, arrivedAt := 0 }, 0, [1], by decide +kernel⟩,
    ⟨{ rdy with awl := { rdy.awl with head := some { use := .authEcdh 7, needs := none, output := none, arrivedAt := 0 } }, pocket := { rdy.pocket with items := .replicate 20 { state := .empty } } },
      { use := .authEcdh 7, needs := none, output := none, arrivedAt := 0 }, 7, by decide +kernel⟩,
    ⟨{ rdy with awl := { rdy.awl with head := some { use := .authEcdh 7, needs := none, output := none, arrivedAt := 0 } } },
      { use := .authEcdh 7, needs := none, output := none, arrivedAt := 0 }, 7, by decide +kernel⟩⟩

theorem witness_PocketRecordsAndZeroize :
    (∃ (i : Fin 20) (s : State), s.flash.current = some (.recordRead i))
    ∧ (∃ (i : Fin 20) (b : Buffered) (s : State), itemClass i = 3 ∧ b.item = i ∧ s.flash.current =
      some (.recordWrite i) ∧ s.pocket.buffer = [b])
    ∧ (∃ s : State, s.flash.current = none)
    ∧ (∃ (who : Requester) (s : State), maySet who 0x1C00 s ∧ crownUp s = false)
    ∧ (∃ (who : Requester) (s : State), maySet who 0x1C00 s) :=
  ⟨⟨19, { rdy with flash := { rdy.flash with current := some (.recordRead 19) } }, by decide +kernel⟩,
    ⟨10, { item := 10, index := 0, wc := 1 },
      { rdy with flash := { rdy.flash with current := some (.recordWrite 10) }, pocket := { rdy.pocket with buffer := [{ item := 10, index := 0, wc := 1 }] } },
        by decide +kernel⟩,
    ⟨rdy, by decide +kernel⟩,
    ⟨.loader, { rdy with boot := { rdy.boot with phase := .integrityHold } }, by unfold maySet; decide +kernel⟩,
    ⟨.host, rdy, by unfold maySet; decide +kernel⟩⟩

theorem witness_BarkAlarms :
    (∃ (b : BarkIn) (k : Fin 7) (s : State), barkRate s ≠ 0 ∧ (s.bark.samples + 1) % 4096 ≠ 0 ∧ sampleSees s k = true ∧
      b.cond.getLsbD k.val = true ∧ sensorOn s k = true ∧ s.bark.active.getLsbD k.val = false)
    ∧ (∃ (b : BarkIn) (k : Fin 7) (s : State), barkRate s ≠ 0 ∧ (s.bark.samples + 1) % 4096 ≠ 0 ∧ k ∈ sampledSensors ∧
      b.cond.getLsbD k.val = false ∧ s.bark.active.getLsbD k.val = true ∧ s.bark.clean[k] ≤ 1)
    ∧ (∃ s : State, barkRate s = 0)
    ∧ (∃ (k : Fin 7) (s : State), k ∈ continuousSensors ∧ glitchSeen s k = true ∧ barkRate s ≠ 0 ∧ sensorOn s k =
      true ∧ s.bark.active.getLsbD k.val = false)
    ∧ (∃ (k : Fin 7) (s : State), (k ∉ continuousSensors ∨ s.bark.active.getLsbD k.val = true))
    ∧ (∃ k : Fin 7, k ∈ continuousSensors)
    ∧ (∃ (who : Requester) (s : State), maySet who 0x2408 s ∧ s.sap.running = true) :=
  ⟨⟨{ cond := 1, selfTestFail := 0 }, 0, { rdy with sap := { rdy.sap with level := 1 } }, by decide +kernel⟩,
    ⟨{ cond := 0, selfTestFail := 0 }, 0,
      { rdy with sap := { rdy.sap with level := 1 }, bark := { rdy.bark with active := 1, clean := .replicate 7 1 } },
        by decide +kernel⟩,
    ⟨{ rdy with sap := { rdy.sap with level := 0 } }, by decide +kernel⟩,
    ⟨4, { rdy with sap := { rdy.sap with level := 1 } }, by decide +kernel⟩,
    ⟨0, rdy, by decide +kernel⟩,
    ⟨4, by decide +kernel⟩,
    ⟨.host, rdy, by unfold maySet; decide +kernel⟩⟩

theorem witness_SatchelAccesses :
    (∃ (who : Requester) (line : Nat) (f : Option (BitVec 256)) (s : State), (allowed who (satAccess false line) s).2 =
      true ∧ line < 8192 ∧ (windowOf s line = none ∨ (line ∉ s.satchel.poisoned ∧ tagBad (disturb line f s) line =
        false)))
    ∧ (∃ (who : Requester) (line : Nat) (s : State), (allowed who (satAccess false line) s).2 = true ∧ line < 8192 ∧
      windowOf s line = none)
    ∧ (∃ (who : Requester) (line : Nat) (f : Option (BitVec 256)) (s : State),
      (allowed who (satAccess false line) s).2 = true ∧ line < 8192 ∧ (windowOf s line).isSome = true ∧
        line ∉ s.satchel.poisoned ∧ tagBad (disturb line f s) line = true)
    ∧ (∃ (who : Requester) (a : Nat) (f : Option (BitVec 256)) (s : State),
      (allowed who (satAccess true (a / 32)) s).2 = true ∧ a / 32 < 8192 ∧ (windowOf s (a / 32) =
        none ∨ (a / 32 ∉ s.satchel.poisoned ∧ tagBad (disturb (a / 32) f s) (a / 32) = false)))
    ∧ (∃ (who : Requester) (a : Nat) (f : Option (BitVec 256)) (s : State),
      (allowed who (satAccess true (a / 32)) s).2 = true ∧ a / 32 < 8192 ∧ (windowOf s (a / 32)).isSome = true ∧
        a / 32 ∉ s.satchel.poisoned ∧ tagBad (disturb (a / 32) f s) (a / 32) = true)
    ∧ (∃ (who : Requester) (line : Nat) (s : State), (allowed who (satAccess true line) s).2 = true ∧ line < 8192)
    ∧ (∃ (env : BootEnv) (s : State), bootMay s = true ∧ startCheck s.heart.cells env.lateRow = none)
    ∧ (∃ (who : Requester) (line : Nat) (a : Nat) (s : State), (allowed who (satAccess true line) s).2 = false ∧
      a / 32 = line)
    ∧ (∃ (who : Requester) (k : Fin 8) (isB : Bool) (s : State), maySet who (0x2F00 + 8 * k.val + 4 * b2n isB) s ∧
      2 ≤ k.val ∧ (s.boot.evaluated = false ∨ s.tack.committed = false))
    ∧ (∃ k : Fin 8, k.val < 2) :=
  ⟨⟨.host, 8191, none, rdy, by decide +kernel⟩,
    ⟨.host, 8191, rdy, by decide +kernel⟩,
    ⟨.host, 0, none, badTag, by refine ⟨by decide, by decide, by decide, by decide, ?_⟩; exact badTag_bad⟩,
    ⟨.host, 262143, none, rdy, by decide +kernel⟩,
    ⟨.host, 0, none, badTag, by refine ⟨by decide, by decide, by decide, by decide, ?_⟩; exact badTag_bad⟩,
    ⟨.host, 8191, rdy, by decide +kernel⟩,
    ⟨{ lateRow := none, pufErrors := none, flashOk := true }, State.reset, by decide +kernel⟩,
    ⟨.stand 0, 0, 31, { rdy with tack := { rdy.tack with rules := .replicate 32 {} } }, by decide +kernel⟩,
    ⟨.host, 2, true, rdy, by unfold maySet; decide +kernel⟩,
    ⟨1, by decide +kernel⟩⟩

theorem witness_PoisonedLineAnswers :
    (∃ (line : Nat) (s : State), (windowOf s line).isSome = true ∧ line ∈ s.satchel.poisoned)
    ∧ (∃ (a : Nat) (s : State), (windowOf s (a / 32)).isSome = true ∧ a / 32 ∈ s.satchel.poisoned) :=
  ⟨⟨0, winOf [0], by decide +kernel⟩,
    ⟨31, winOf [0], by decide +kernel⟩⟩

theorem witness_TackCommits :
    (∃ (who : Requester) (next : Half) (s : State), maySet who 0x2C04 s ∧ commitRefusal s next = none)
    ∧ (∃ (who : Requester) (next : Half) (s : State), maySet who 0x2C04 s ∧ (commitRefusal s next).isSome = true)
    ∧ (∃ (who : Requester) (s : State), maySet who 0x2C04 s ∧ s.tack.draining = none ∧ s.tack.epoch = 0xFFFF)
    ∧ (∃ s : State, s.tack.draining = none)
    ∧ (∃ (who : Requester) (s : State), maySet who 0x2C00 s ∧ s.tack.draining = none ∧ s.tack.epochSat = true)
    ∧ (∃ s : State, s.tack.draining.isSome = true)
    ∧ (∃ (who : Requester) (s : State), (¬ maySet who 0x2C04 s)) :=
  ⟨⟨.host, 1, rdy, by unfold maySet; decide +kernel⟩,
    ⟨.host, 2, rdy, by unfold maySet; decide +kernel⟩,
    ⟨.host, { rdy with tack := { rdy.tack with epoch := 0xFFFF } }, by unfold maySet; decide +kernel⟩,
    ⟨rdy, by decide +kernel⟩,
    ⟨.host, { rdy with tack := { rdy.tack with epochSat := true } }, by unfold maySet; decide +kernel⟩,
    ⟨{ rdy with tack := { rdy.tack with draining := some (.replicate 32 {}, 0) } }, by decide +kernel⟩,
    ⟨.stand 0, { rdy with tack := { rdy.tack with rules := .replicate 32 {} } }, by unfold maySet; decide +kernel⟩⟩

theorem witness_StagedTableCopied :
    (∃ (who : Requester) (next : Half) (s : State), maySet who 0x2C04 s ∧ commitRefusal s next = none)
    ∧ (∃ s : State, s.tack.draining.isSome = true) :=
  ⟨⟨.host, 1, rdy, by unfold maySet; decide +kernel⟩,
    ⟨{ rdy with tack := { rdy.tack with draining := some (.replicate 32 {}, 0) } }, by decide +kernel⟩⟩

theorem witness_SeamLease :
    (∃ (who : Requester) (alg : BitVec 2) (s : State), who ≠ .host ∧ seamServes who s = true ∧ alg ≠ 3 ∧
      s.seam.holder ≠ some who ∧ s.seam.waiting.any (fun c => c.1 = who) = false)
    ∧ (∃ (who : Requester) (alg : BitVec 2) (s : State), (alg = 3 ∨ s.seam.holder = some who))
    ∧ (∃ (r : Requester) (a : BitVec 2) (rest : List (Requester × BitVec 2)) (s : State), r ≠ .host ∧ s.seam.holder =
      none ∧ s.seam.waiting = (r, a) :: rest)
    ∧ (∃ (a : BitVec 2) (rest : List (Requester × BitVec 2)) (s : State), s.seam.holder = none ∧ s.seam.waiting =
      (.host, a) :: rest ∧ s.host.asked = none ∧ s.host.job = none)
    ∧ (∃ s : State, s.seam.holder.isSome = true)
    ∧ (∃ (r : Requester) (s : State), r ≠ .host ∧ s.seam.holder = some r)
    ∧ (∃ s : State, (s.seam.holder = none ∨ s.seam.holder = some .host)) :=
  ⟨⟨.stand 15, 2, rdy, by decide +kernel⟩,
    ⟨.graft, 3, rdy, by decide +kernel⟩,
    ⟨.stand 1, 0, [], { rdy with seam := { rdy.seam with waiting := [(.stand 1, 0)] } }, by decide +kernel⟩,
    ⟨0, [], { rdy with seam := { rdy.seam with waiting := [(.host, 0)] } }, by decide +kernel⟩,
    ⟨{ rdy with seam := { rdy.seam with holder := some .host } }, by decide +kernel⟩,
    ⟨.stand 3, { rdy with seam := { rdy.seam with holder := some (.stand 3) } }, by decide +kernel⟩,
    ⟨rdy, by decide +kernel⟩⟩

theorem witness_SeamReleaseDiscards : ∃ (who : Requester) (alg : BitVec 2) (s : State), who ≠ .host ∧
      seamServes who s = true ∧ alg ≠ 3 ∧ s.seam.holder = some who ∧ s.seam.waiting = [] :=
  ⟨.stand 3, 2, { rdy with seam := { rdy.seam with holder := some (.stand 3) } }, by decide +kernel⟩

theorem witness_SeamComputation :
    (∃ (who : Requester) (s : State), who ≠ .host ∧ s.seam.holder = some who)
    ∧ (∃ (who : Requester) (s : State), s.seam.holder ≠ some who)
    ∧ (∃ (who : Requester) (s : State), who ≠ .host ∧ s.seam.holder = some who ∧ who ∉ s.seam.revoked)
    ∧ (∃ (who : Requester) (s : State), s.seam.holder ≠ some who ∧ who ∉ s.seam.revoked) :=
  ⟨⟨.stand 3, { rdy with seam := { rdy.seam with holder := some (.stand 3) } }, by decide +kernel⟩,
    ⟨.stand 2, { rdy with seam := { rdy.seam with holder := some (.stand 3) } }, by decide +kernel⟩,
    ⟨.stand 3, { rdy with seam := { rdy.seam with holder := some (.stand 3) } }, by decide +kernel⟩,
    ⟨.stand 2, { rdy with seam := { rdy.seam with holder := some (.stand 3) } }, by decide +kernel⟩⟩

theorem witness_JournalAndTime :
    (∃ s : State, isReady s = true ∧ s.ring.found = false)
    ∧ (∃ s : State, isReady s = true)
    ∧ (∃ s : State, isReady s = false ∧ s.boot.phase ≠ .limp ∧ s.raised = [])
    ∧ (∃ s : State, (s.ring.copies.all fun c => decide (s.ring.entries[c.1.toNat]'(c.1.isLt) = c.2)) = true ∧
      s.raised = [])
    ∧ (∃ (c : Byte × BitVec 128) (s : State), s.ring.entries[c.1.toNat]'(c.1.isLt) ≠ c.2 ∧ s.raised = [])
    ∧ (∃ (c : Byte × BitVec 128) (s : State), s.ring.entries[c.1.toNat]'(c.1.isLt) = c.2 ∧ s.ring.jNext % 256 ≠ 0 ∧
      s.ring.jNext < 4096 ∧ isReady s = true ∧ s.flash.wip = false ∧ s.raised = [])
    ∧ (∃ s : State, ticksCount s = true ∧ s.time.stamp = 0xFFFFFFFF ∧ s.raised = [])
    ∧ (∃ s : State, ticksCount s = true ∧ s.time.uptime = 0xFFFFFFFF ∧ s.time.uptimeUs < 1000000)
    ∧ (∃ s : State, (s.time.stamp ≠ 0xFFFFFFFF ∨ ticksCount s = false))
    ∧ (∃ s : State, ticksCount s = false) :=
  ⟨⟨rdy, by decide +kernel⟩,
    ⟨rdy, by decide +kernel⟩,
    ⟨{ rdy with boot := { rdy.boot with phase := .fetch } }, by decide +kernel⟩,
    ⟨rdy, by decide +kernel⟩,
    ⟨(3, 7), rdy, by decide +kernel⟩,
    ⟨(3, 0), { rdy with ring := { rdy.ring with jNext := 1 } }, by decide +kernel⟩,
    ⟨{ rdy with time := { rdy.time with stamp := 0xFFFFFFFF } }, by decide +kernel⟩,
    ⟨{ rdy with time := { rdy.time with uptime := 0xFFFFFFFF, uptimeUs := 999999 } }, by decide +kernel⟩,
    ⟨rdy, by decide +kernel⟩,
    ⟨{ rdy with strap := { rdy.strap with link := .lost } }, by decide +kernel⟩⟩

theorem witness_HostSlotAndFrames :
    (∃ (bs : List Byte) (s : State), isOpen s = true ∧ frameVerdict s bs ≠ 1 ∧ ((frameEarly s bs).isSome =
      true ∨ seamFree .host s = true))
    ∧ (∃ (b : Byte) (s : State), isOpen s = true ∧ b ≠ 0x5A ∧ b ≠ 0xA5)
    ∧ (∃ (seq : Byte) (s : State), isOpen s = true ∧ frameVerdict s (hostFrame 0x01 seq []) ≠ 1 ∧
      ((frameEarly s (hostFrame 0x01 seq [])).isSome = true ∨ seamFree .host s = true))
    ∧ (∃ (n : Nat) (s : State), isOpen s = true ∧ n < (readBytes s).length)
    ∧ (∃ (n : Nat) (s : State), isOpen s = true ∧ (readBytes s).length ≤ n ∧ s.host.resetArmed = false)
    ∧ (∃ s : State, isOpen s = false)
    ∧ (∃ (n : Nat) (s : State), isReady s = true ∧ (readBytes s).length ≤ n ∧ s.host.resetArmed = true ∧
      s.host.buf.rsp = 0x01 ∧ s.host.buf.cmd = 0x3F)
    ∧ (∃ (s : State) (j : HostJob) (r : Byte × List Byte), s.host.job = some j ∧ j.result = some r ∧ j.answer = none ∧
      j.work = none ∧ s.host.jobDone = false ∧ seamFree .host s = true)
    ∧ (∃ s : State, s.host.job = none)
    ∧ (∃ (seq : Byte) (s : State), accepts 0x3F seq [0x52, 0x53, 0x54, 0x21] s)
    ∧ (∃ (seq : Byte) (magic : List Byte) (s : State), accepts 0x3F seq magic s ∧ magic ≠ [0x52, 0x53, 0x54, 0x21])
    ∧ (∃ s : State, s.host.resetArmed = true ∧ s.host.job = none ∧ isReady s = true)
    ∧ (∃ s : State, s.host.resetArmed = false ∧ s.boot.together.host = false) :=
  ⟨⟨[], rdy, by decide +kernel⟩,
    ⟨0, rdy, by decide +kernel⟩,
    ⟨0, { rdy with host := { rdy.host with job := some { cmd := 0x12, seq := 1, station := 0, long := true } } },
      by decide +kernel⟩,
    ⟨0, rdy, by decide +kernel⟩,
    ⟨(readBytes rdy).length, rdy, by decide +kernel⟩,
    ⟨State.reset, by decide +kernel⟩,
    ⟨5000, { rdy with host := { rdy.host with resetArmed := true, buf := { cmd := 0x3F, rsp := 0x01 } } },
      by decide +kernel⟩,
    ⟨{ rdy with host := { rdy.host with job := some { cmd := 0x12, seq := 1, station := 0, long := true, result := some (1, []) } } },
      { cmd := 0x12, seq := 1, station := 0, long := true, result := some (1, []) }, (1, []), by decide +kernel⟩,
    ⟨rdy, by decide +kernel⟩,
    ⟨5, rdy, by unfold accepts; decide +kernel⟩,
    ⟨5, [0, 0, 0, 0], rdy, by unfold accepts; decide +kernel⟩,
    ⟨{ rdy with host := { rdy.host with resetArmed := true } }, by decide +kernel⟩,
    ⟨rdy, by decide +kernel⟩⟩

theorem witness_HostReads :
    (∃ (seq : Byte) (s : State), accepts 0x01 seq [] s)
    ∧ (∃ (seq : Byte) (addr : Half) (s : State), accepts 0x02 seq (le 2 addr.toNat ++ [1, 0]) s ∧
      regsCut s [addr.toNat] = false ∧ hostMay 0x02 seq [hostReg s false addr.toNat] s)
    ∧ (∃ (seq : Byte) (addr : Half) (n : Byte) (s : State), accepts 0x02 seq (le 2 addr.toNat ++ [n, 0]) s ∧ (n =
      0 ∨ 64 < n.toNat ∨ addr.toNat / 0x400 ≠ (addr.toNat + 4 * (n.toNat - 1)) / 0x400))
    ∧ (∃ (seq : Byte) (addr : Half) (s : State), accepts 0x02 seq (le 2 addr.toNat ++ [1, 0]) s ∧
      regsCut s [addr.toNat] = true)
    ∧ (∃ (seq : Byte) (s : State), accepts 0x08 seq [] s)
    ∧ (∃ (seq : Byte) (i : Byte) (n : Byte) (s : State), accepts 0x09 seq [i, n] s ∧ 1 ≤ n.toNat ∧ n.toNat ≤ 32)
    ∧ (∃ (seq : Byte) (i : Byte) (n : Byte) (s : State), accepts 0x09 seq [i, n] s ∧ (n = 0 ∨ 32 < n.toNat))
    ∧ (∃ (seq : Byte) (i : Half) (s : State), accepts 0x0A seq (le 2 i.toNat ++ [1, 0]) s ∧ i.toNat ≤ 4095 ∧
      s.flash.ok = true ∧ hostMay 0x0A seq [hostFlash false (journalAddr s i.toNat) 16] s)
    ∧ (∃ (seq : Byte) (a : Word) (n : Half) (s : State), accepts 0x10 seq (le 4 a.toNat ++ le 2 n.toNat ++ [0, 0]) s ∧
      1 ≤ n.toNat ∧ n.toNat ≤ 512 ∧ a.toNat + n.toNat ≤ flashLimit s ∧ s.flash.ok = true ∧
        hostMay 0x10 seq [hostFlash false a.toNat n.toNat] s)
    ∧ (∃ (a : Nat) (n : Nat) (s : State) (j : HostJob), s.host.job = some j ∧ s.flash.current = some (.hostRead a n) ∧
      s.flash.wip = false ∧ seamFree .host s = true)
    ∧ (∃ (seq : Byte) (s : State), accepts 0x28 seq [] s ∧ s.awl.rngOk = true)
    ∧ (∃ (seq : Byte) (s : State), accepts 0x28 seq [] s ∧ s.awl.rngOk = false)
    ∧ (∃ (seq : Byte) (s : State), accepts 0x32 seq [] s)
    ∧ (∃ (seq : Byte) (n : Fin 8) (b : Bool) (s : State),
      accepts 0x02 seq (le 2 (0x4410 + 0x20 * n.val + 4 * b2n b) ++ [1, 0]) s ∧
        hostMay 0x02 seq [hostReg s false (0x4410 + 0x20 * n.val + 4 * b2n b)] s)
    ∧ (∃ (seq : Byte) (s : State), accepts 0x02 seq (le 2 0x2008 ++ [1, 0]) s ∧
      hostMay 0x02 seq [hostReg s false 0x2008] s) :=
  ⟨⟨1, rdy, by unfold accepts; decide +kernel⟩,
    ⟨1, 0x4C00, rdy, by unfold accepts hostMay; decide +kernel⟩,
    ⟨1, 0x4C00, 65, rdy, by unfold accepts; decide +kernel⟩,
    ⟨1, 0x8000, { rdy with strap := { rdy.strap with link := .lost } }, by unfold accepts; decide +kernel⟩,
    ⟨1, rdy, by unfold accepts; decide +kernel⟩,
    ⟨1, 0, 32, rdy, by unfold accepts; decide +kernel⟩,
    ⟨1, 0, 33, rdy, by unfold accepts; decide +kernel⟩,
    ⟨1, 4095, rdy, by unfold accepts hostMay; decide +kernel⟩,
    ⟨1, 0, 512, rdy, by unfold accepts hostMay; decide +kernel⟩,
    ⟨0, 1, { rdy with host := { rdy.host with job := some { cmd := 0x12, seq := 1, station := 0, long := true } }, flash := { rdy.flash with current := some (.hostRead 0 1) } },
      { cmd := 0x12, seq := 1, station := 0, long := true }, by decide +kernel⟩,
    ⟨1, rdy, by unfold accepts; decide +kernel⟩,
    ⟨1, { rdy with awl := { rdy.awl with rngOk := false } }, by unfold accepts; decide +kernel⟩,
    ⟨1, rdy, by unfold accepts; decide +kernel⟩,
    ⟨1, 7, true, rdy, by unfold accepts hostMay; decide +kernel⟩,
    ⟨1, rdy, by unfold accepts hostMay; decide +kernel⟩⟩

theorem witness_RegisterWrites :
    (∃ (who : Requester) (s : State), maySet who 0x408 s)
    ∧ (∃ (who : Requester) (s : State), maySet who 0x3C00 s)
    ∧ (∃ (seq : Byte) (v : Word) (w : Word) (s : State), accepts 0x03 seq (le 2 0x408 ++ [2,
      0] ++ le 4 v.toNat ++ le 4 w.toNat) s ∧ hostMay 0x03 seq [hostReg s true 0x408, hostReg s true 0x40C] s)
    ∧ (∃ (seq : Byte) (mask : Word) (v : Word) (s : State), accepts 0x04 seq (le 2 0x3C00 ++ [0,
      0] ++ le 4 mask.toNat ++ le 4 v.toNat) s ∧ regsCut s [0x3C00] = false ∧ hostMay 0x04 seq [hostReg s false 0x3C00,
        hostReg s true 0x3C00] s)
    ∧ (∃ (who : Requester) (addr : Half) (s : State), maySet who addr.toNat s)
    ∧ (∃ (who : Requester) (addr : Half) (s : State), (¬ maySet who addr.toNat s))
    ∧ (∃ (seq : Byte) (addr : Half) (v : Word) (s : State), accepts 0x03 seq (le 2 addr.toNat ++ [1,
      0] ++ le 4 v.toNat) s ∧ hostMay 0x03 seq [hostReg s true addr.toNat] s)
    ∧ (∃ (seq : Byte) (addr : Half) (v : Word) (s : State), accepts 0x03 seq (le 2 addr.toNat ++ [1,
      0] ++ le 4 v.toNat) s ∧ (¬ hostMay 0x03 seq [hostReg s true addr.toNat] s))
    ∧ (∃ (seq : Byte) (addr : Half) (mask : Word) (v : Word) (s : State), accepts 0x04 seq (le 2 addr.toNat ++ [0,
      0] ++ le 4 mask.toNat ++ le 4 v.toNat) s ∧ regsCut s [addr.toNat] = false ∧
        hostMay 0x04 seq [hostReg s false addr.toNat, hostReg s true addr.toNat] s ∧ addr.toNat / 0x400 ≠ 0x11 ∧
          addr ≠ 0x2008)
    ∧ (∃ (seq : Byte) (addr : Half) (mask : Word) (v : Word) (s : State), accepts 0x04 seq (le 2 addr.toNat ++ [0,
      0] ++ le 4 mask.toNat ++ le 4 v.toNat) s ∧ regsCut s [addr.toNat] = true) :=
  ⟨⟨.host, rdy, by unfold maySet; decide +kernel⟩,
    ⟨.host, rdy, by unfold maySet; decide +kernel⟩,
    ⟨1, 5, 7, rdy, by unfold accepts hostMay; decide +kernel⟩,
    ⟨1, 0xFFFFFFFF, 0, rdy, by unfold accepts hostMay; decide +kernel⟩,
    ⟨.host, 0x4C00, rdy, by unfold maySet; decide +kernel⟩,
    ⟨.stand 0, 0x4C00, { rdy with tack := { rdy.tack with rules := .replicate 32 {} } },
      by unfold maySet; decide +kernel⟩,
    ⟨1, 0x4C00, 0, rdy, by unfold accepts hostMay; decide +kernel⟩,
    ⟨1, 0x4C00, 0, { rdy with tack := { rdy.tack with rules := .replicate 32 {} } },
      by unfold accepts hostMay; decide +kernel⟩,
    ⟨1, 0x4C00, 0xFFFFFFFF, 0, rdy, by unfold accepts hostMay; decide +kernel⟩,
    ⟨1, 0x8000, 1, 0, { rdy with strap := { rdy.strap with link := .lost } }, by unfold accepts; decide +kernel⟩⟩

theorem witness_HostLongJobs :
    (∃ (seq : Byte) (a : Word) (d : List Byte) (s : State), accepts 0x11 seq (le 4 a.toNat ++ le 2 d.length ++ [0,
      0] ++ d) s ∧ 1 ≤ d.length ∧ d.length ≤ 256 ∧ a.toNat / 256 = (a.toNat + d.length - 1) / 256 ∧
        a.toNat + d.length ≤ flashLimit s ∧ s.flash.ok = true ∧ hostMay 0x11 seq [hostFlash true a.toNat d.length] s)
    ∧ (∃ (seq : Byte) (a : Word) (s : State), accepts 0x12 seq (le 4 a.toNat) s ∧ a.toNat % 4096 = 0 ∧
      a.toNat + 4096 ≤ flashLimit s ∧ s.flash.ok = true ∧ hostMay 0x12 seq [hostFlash true a.toNat 4096] s)
    ∧ (∃ (seq : Byte) (a : Word) (s : State), accepts 0x12 seq (le 4 a.toNat) s ∧ a.toNat % 4096 ≠ 0)
    ∧ (∃ (j : HostJob) (s : State), j.long = true ∧ s.flash.wip = false)
    ∧ (∃ (seq : Byte) (row : Byte) (src : Bool) (pulse : Byte) (fl : Bool) (mask : BitVec 64) (s : State),
      s.heart.waiting ≠ [] ∧ accepts 0x20 seq ([row, BitVec.ofNat 8 (b2n src), pulse,
        BitVec.ofNat 8 (b2n fl)] ++ le 8 mask.toNat) s ∧ 5 ≤ pulse.toNat ∧ pulse.toNat ≤ 40 ∧
          hostMay 0x20 seq [{ units := heartAccess true row.toNat, addr := row.toNat }] s)
    ∧ (∃ (seq : Byte) (w : Byte) (r : Byte) (s : State), accepts 0x21 seq [w, r, 0, 0] s ∧
      hostMay 0x21 seq [{ units := regionUnits (w ||| r), addr := 0 }] s)
    ∧ (∃ (seq : Byte) (dest : Byte) (f : List Byte) (s : State), accepts 0x38 seq ([dest, 0, 0, 0] ++ f) s ∧
      strapUp s = true)
    ∧ (∃ (h : ReinHdr) (f : List Byte) (s : State), reinForUs s h = true ∧ f.length ≤ 254 ∧ relayVerdict s f ≠ 1)
    ∧ (∃ (h : ReinHdr) (f : List Byte) (s : State), reinForUs s h = true ∧ f.length ≤ 254)
    ∧ (∃ (h : ReinHdr) (seq : Byte) (a : List Byte) (b : List Byte) (n : Byte) (s : State), reinForUs s h = true ∧
      a ++ b = hostFrame 0x01 seq [] ∧ (n = 0 → a = []) ∧ (n ≠ 0 → s.rein.relayReqs =
        [{ src := h.src, next := n.toNat, bytes := a }]) ∧ relayVerdict s (hostFrame 0x01 seq []) = 1 ∧
          s.rein.oversize = false)
    ∧ (∃ (s : State) (j : HostJob) (h : ReinHdr) (resp : List Byte), s.host.job = some j ∧ reinForUs s h = true ∧
      resp.length ≤ 253 ∧ s.rein.relayDest = some h.src ∧ j.long = true ∧ j.result = none)
    ∧ (∃ (s : State) (j : HostJob), s.host.job = some j ∧ s.rein.relayDest.isSome = true ∧ j.long = true ∧ j.result =
      none)
    ∧ (∃ s : State, s.rein.relayDest = none) :=
  ⟨⟨1, 0xFF, [7], rdy, by unfold accepts hostMay; decide +kernel⟩,
    ⟨1, 0xFFF000, rdy, by unfold accepts hostMay; decide +kernel⟩,
    ⟨1, 1, rdy, by unfold accepts; decide +kernel⟩,
    ⟨{ cmd := 0x12, seq := 1, station := 0, long := true }, rdy, by decide +kernel⟩,
    ⟨1, 0x40, true, 40, false, 1,
      { rdy with heart := { rdy.heart with waiting := [{ kind := .lock 0 0, host := true }] } },
        by unfold accepts hostMay; decide +kernel⟩,
    ⟨1, 1, 2, rdy, by unfold accepts hostMay; decide +kernel⟩,
    ⟨1, 7, [], rdy, by unfold accepts; decide +kernel⟩,
    ⟨{ hops := 0, src := 1, bcast := true, dest := 0, seq := 0 }, [], rdy, by decide +kernel⟩,
    ⟨{ hops := 0, src := 1, bcast := true, dest := 0, seq := 0 }, [1], rdy, by decide +kernel⟩,
    ⟨{ hops := 0, src := 1, bcast := true, dest := 0, seq := 0 }, 1, [1], (hostFrame 0x01 1 []).drop 1, 1,
      { rdy with rein := { rdy.rein with relayReqs := [{ src := 1, next := 1, bytes := [1] }] } }, by decide +kernel⟩,
    ⟨{ rdy with host := { rdy.host with job := some { cmd := 0x12, seq := 1, station := 0, long := true } }, rein := { rdy.rein with relayDest := some 1 } },
      { cmd := 0x12, seq := 1, station := 0, long := true },
        { hops := 0, src := 1, bcast := true, dest := 0, seq := 0 }, [], by decide +kernel⟩,
    ⟨{ rdy with host := { rdy.host with job := some { cmd := 0x12, seq := 1, station := 0, long := true } }, rein := { rdy.rein with relayDest := some 1 } },
      { cmd := 0x12, seq := 1, station := 0, long := true }, by decide +kernel⟩,
    ⟨rdy, by decide +kernel⟩⟩

theorem witness_SignedCommands :
    (∃ (seq : Byte) (inner : Byte) (key : List Byte) (sig : List Byte) (ip : List Byte) (s : State),
      accepts 0x29 seq (signedPayload inner key sig ip) s ∧ key.length = 64 ∧ sig.length = 64 ∧
        innerLength inner.toNat = some ip.length ∧ awlIdle s = true ∧ (inner = 0x50 → numAt ip 1 3 = 0) ∧
          hostMay 0x29 seq (if inner = 0x22 then [{ units := heartAccess true 0xC0, addr := 0xC0 }] else []) s)
    ∧ (∃ (seq : Byte) (inner : Byte) (key : List Byte) (sig : List Byte) (ip : List Byte) (s : State),
      accepts 0x29 seq (signedPayload inner key sig ip) s ∧ innerLength inner.toNat = none ∧
        (allZero (ownerKeyDigest s 0) && allZero (ownerKeyDigest s 1)) = false)
    ∧ (∃ (seq : Byte) (inner : Byte) (key : List Byte) (sig : List Byte) (ip : List Byte) (s : State),
      accepts 0x29 seq (signedPayload inner key sig ip) s ∧
        (allZero (ownerKeyDigest s 0) && allZero (ownerKeyDigest s 1)) = true)
    ∧ (∃ (seq : Byte) (inner : Byte) (key : List Byte) (sig : List Byte) (ip : List Byte) (s : State),
      accepts 0x29 seq (signedPayload inner key sig ip) s ∧ key.length = 64 ∧ sig.length = 64 ∧
        innerLength inner.toNat = some ip.length ∧ awlIdle s = false ∧ (s.awl.queue.any fun u => decide (u.use =
          .signed)) = false ∧ (s.awl.head.any fun u => decide (u.use = .signed)) = false ∧
            (allZero (ownerKeyDigest s 0) && allZero (ownerKeyDigest s 1)) = false ∧ (inner = 0x50 → numAt ip 1 3 =
              0) ∧ hostMay 0x29 seq (if inner = 0x22 then [{ units := heartAccess true 0xC0, addr := 0xC0 }] else []) s)
    ∧ (∃ (inner : Byte) (key : List Byte) (sig : List Byte) (ip : List Byte) (u : AwlUnit) (j : HostJob) (s : State),
      j.long = true ∧ u.wanted = true ∧ u.use = .signed ∧ (¬ signatureGood inner.toNat key sig ip s))
    ∧ (∃ (seq : Byte) (key : List Byte) (sig : List Byte) (s : State),
      accepts 0x29 seq (signedPayload 0x22 key sig []) s ∧ key.length = 64 ∧ sig.length = 64 ∧ awlIdle s = true ∧
        hostMay 0x29 seq [{ units := heartAccess true 0xC0, addr := 0xC0 }] s ∧ signatureGood 0x22 key sig [] s)
    ∧ (∃ (seq : Byte) (key : List Byte) (sig : List Byte) (item : Byte) (v : List Byte) (s : State),
      accepts 0x29 seq (signedPayload 0x50 key sig ([item, 0, 0, 0] ++ v)) s ∧ key.length = 64 ∧ sig.length = 64 ∧
        v.length = 32 ∧ signatureGood 0x50 key sig ([item, 0, 0, 0] ++ v) s ∧ awlIdle s = true ∧ wrapReady s = true ∧
          2 ≤ item.toNat ∧ item.toNat ≤ 9 ∧ keyRefusal s = none ∧ s.flash.ok = true ∧ s.pocket.wcSat = false ∧
            s.pocket.writeCount ≠ 2 ^ 48 - 1)
    ∧ (∃ (seq : Byte) (key : List Byte) (sig : List Byte) (item : Byte) (v : List Byte) (s : State),
      accepts 0x29 seq (signedPayload 0x50 key sig ([item, 0, 0, 0] ++ v)) s ∧ key.length = 64 ∧ sig.length = 64 ∧
        v.length = 32 ∧ signatureGood 0x50 key sig ([item, 0, 0, 0] ++ v) s ∧ awlIdle s = true ∧
          (item.toNat < 2 ∨ 9 < item.toNat))
    ∧ (∃ (seq : Byte) (key : List Byte) (sig : List Byte) (s : State),
      accepts 0x29 seq (signedPayload 0x51 key sig [0x52, 0x50, 0x56, 0x21]) s ∧ key.length = 64 ∧ sig.length = 64 ∧
        signatureGood 0x51 key sig [0x52, 0x50, 0x56, 0x21] s ∧ awlIdle s = true ∧ s.sap.running = true)
    ∧ (∃ (seq : Byte) (key : List Byte) (sig : List Byte) (eph : List Byte) (ct : List Byte) (tag : List Byte) (v : List Byte) (k : Fin 16) (s : State),
      accepts 0x29 seq (signedPayload 0x52 key sig (eph ++ ct ++ tag)) s ∧ key.length = 64 ∧ sig.length = 64 ∧
        eph.length = 64 ∧ ct.length = 32 ∧ tag.length = 16 ∧ signatureGood 0x52 key sig (eph ++ ct ++ tag) s ∧
          awlIdle s = true ∧ keyRefusal s = none ∧ patternUnwrap (eph ++ ct ++ tag) s = some v ∧
            (item s patternKeyItem).slot = some k) :=
  ⟨⟨1, 0x22, gKey, gKey, [], rdy, by unfold accepts hostMay; decide +kernel⟩,
    ⟨1, 0, [1], [], [], owned, by unfold accepts; decide +kernel⟩,
    ⟨1, 0, [1], [], [], rdy, by unfold accepts; decide +kernel⟩,
    ⟨1, 0x22, gKey, gKey, [],
      { owned with awl := { owned.awl with head := some { use := .authHash 0, needs := none, output := none, arrivedAt := 0 } } },
        by unfold accepts hostMay; decide +kernel⟩,
    ⟨0x22, gKey, gKey, [], { use := .signed, needs := none, output := none, arrivedAt := 0 },
      { cmd := 0x12, seq := 1, station := 0, long := true }, rdy, by unfold signatureGood; decide +kernel⟩,
    ⟨1, gKey, sigOf 0x22 [] owned, owned, by unfold accepts hostMay signatureGood; decide +kernel⟩,
    ⟨1, gKey, sigOf 0x50 ([2, 0, 0, 0] ++ v32) keyed, 2, v32, keyed, by unfold accepts signatureGood; decide +kernel⟩,
    ⟨1, gKey, sigOf 0x50 ([10, 0, 0, 0] ++ v32) owned, 10, v32, owned, by unfold accepts signatureGood; decide +kernel⟩,
    ⟨1, gKey, sigOf 0x51 [0x52, 0x50, 0x56, 0x21] owned, owned, by unfold accepts signatureGood; decide +kernel⟩,
    ⟨1, gKey, sigOf 0x52 (gKey ++ wrapped.1 ++ wrapped.2) keyed, gKey, wrapped.1, wrapped.2, v32, 4, keyed,
      by unfold accepts signatureGood; decide +kernel⟩⟩

theorem witness_SeamWaits :
    (∃ (seq : Byte) (s : State), isOpen s = true ∧ seamFree .host s = false ∧ frameVerdict s (hostFrame 0x01 seq []) =
      1)
    ∧ (∃ (seq : Byte) (s : State), isOpen s = true ∧ s.host.asked.isSome = true ∧
      frameEarly s (hostFrame 0x01 seq []) = some 2)
    ∧ (∃ (seq : Byte) (a : BitVec 2) (s : State), isOpen s = true ∧ s.seam.holder = none ∧ s.seam.waiting = [(.host,
      a)] ∧ s.host.asked = some (.ident seq) ∧
        frameVerdict { s with host := { s.host with asked := none } } (hostFrame 0x01 seq []) = 1)
    ∧ (∃ (bs : List Byte) (a : BitVec 2) (s : State), isOpen s = true ∧ s.seam.holder = none ∧ s.seam.waiting =
      [(.host, a)] ∧ s.host.asked = some (.hostFrameBad (0x5A :: bs)) ∧
        frameVerdict { s with host := { s.host with asked := none } } bs = 3)
    ∧ (∃ (s : State) (j : HostJob) (r : Byte × List Byte), s.host.job = some j ∧ j.result = some r ∧ j.work = none ∧
      s.host.jobDone = false ∧ seamFree .host s = false)
    ∧ (∃ (a : BitVec 2) (s : State) (j : HostJob) (r : Byte × List Byte), s.host.job = some j ∧ j.result = some r ∧
      j.answer = none ∧ j.due = true ∧ s.host.jobDone = false ∧ s.host.asked = none ∧ s.seam.holder = none ∧
        s.seam.waiting = [(.host, a)])
    ∧ (∃ (a : BitVec 2) (s : State) (j : HostJob) (x : Byte × List Byte), s.host.job = some j ∧ j.answer = some x ∧
      x.1 ≠ 0x02 ∧ j.due = false ∧ s.host.asked = none ∧ s.seam.holder = none ∧ s.seam.waiting = [(.host, a)])
    ∧ (∃ (seq : Byte) (k : Half) (crc : Word) (d : List Byte) (r : FlashRes) (a : BitVec 2) (b : BitVec 2) (n : Fin 16) (s : State),
      isOpen s = true ∧ s.seam.holder = none ∧ s.seam.waiting = [(.host, a), (.stand n, b)] ∧ s.host.asked =
        some (.graftPiece seq k crc d r) ∧
          frameVerdict { s with host := { s.host with asked := none } } (hostFrame 0x31 seq (piecePayload k crc d)) =
            1 ∧ d.length = 512 ∧ s.flash.ok = true ∧ pieceNeedsSeam s k.toNat = true)
    ∧ (∃ (k : Half) (crc : Word) (d : List Byte) (j : HostJob) (s : State), j.long = true ∧
      graftPieceRefusal s k.toNat crc (slice d 0 512) = some 6) :=
  ⟨⟨1, { rdy with seam := { rdy.seam with holder := some (.stand 0) } }, by decide +kernel⟩,
    ⟨1, { rdy with host := { rdy.host with asked := some (.ident 1) } }, by decide +kernel⟩,
    ⟨1, 0, { rdy with seam := { rdy.seam with waiting := [(.host, 0)] }, host := { rdy.host with asked := some (.ident 1) } },
      by decide +kernel⟩,
    ⟨[1, 1, 0, 0, 0, 0, 0, 0], 0,
      { rdy with seam := { rdy.seam with waiting := [(.host, 0)] }, host := { rdy.host with asked := some (.hostFrameBad [0x5A, 1, 1, 0, 0, 0, 0, 0, 0]) } },
        by decide +kernel⟩,
    ⟨{ rdy with host := { rdy.host with job := some { cmd := 0x12, seq := 1, station := 0, long := true, result := some (1, []) } }, seam := { rdy.seam with holder := some (.stand 0) } },
      { cmd := 0x12, seq := 1, station := 0, long := true, result := some (1, []) }, (1, []), by decide +kernel⟩,
    ⟨0, { rdy with host := { rdy.host with job := some { cmd := 0x12, seq := 1, station := 0, long := true, result := some (1, []), due := true } }, seam := { rdy.seam with waiting := [(.host, 0)] } },
      { cmd := 0x12, seq := 1, station := 0, long := true, result := some (1, []), due := true }, (1, []),
        by decide +kernel⟩,
    ⟨0, { rdy with host := { rdy.host with job := some { cmd := 0x12, seq := 1, station := 0, long := true, answer := some (1, []) } }, seam := { rdy.seam with waiting := [(.host, 0)] } },
      { cmd := 0x12, seq := 1, station := 0, long := true, answer := some (1, []) }, (1, []), by decide +kernel⟩,
    ⟨1, 1, pieceCrc 1 piece, piece, .ok, 0, 0, 3,
      { (grafting .receiving 1) with seam := { (grafting .receiving 1).seam with waiting := [(.host, 0), (.stand 3, 0)] }, host := { (grafting .receiving 1).host with asked := some (.graftPiece 1 1 (pieceCrc 1 piece) piece .ok) } },
        by decide +kernel⟩,
    ⟨1, 0, piece, { cmd := 0x12, seq := 1, station := 0, long := true }, grafting .receiving 1, by decide +kernel⟩⟩

theorem witness_GraftJobs :
    (∃ (seq : Byte) (m : List Byte) (st : Byte) (s : State), accepts 0x30 seq (openPayload m st) s ∧ m.length = 256 ∧
      s.flash.ok = true ∧ graftOpenRefusal s m = none ∧ flashIdle s = true ∧ (graftAllowed [(true, graftBase s, 256),
        (true, graftLogAddr s 0, 16)] s).2 = true)
    ∧ (∃ (seq : Byte) (m : List Byte) (st : Byte) (s : State), accepts 0x30 seq (openPayload m st) s ∧ m.length = 256 ∧
      s.flash.ok = true ∧ (graftOpenRefusal s m).isSome = true)
    ∧ (∃ (seq : Byte) (k : Half) (crc : Word) (d : List Byte) (s : State), accepts 0x31 seq (piecePayload k crc d) s ∧
      d.length = 512 ∧ s.flash.ok = true ∧ graftPieceRefusal (graftClaim s) k.toNat crc d = none ∧
        piecePresent s k.toNat = true)
    ∧ (∃ (seq : Byte) (k : Half) (crc : Word) (d : List Byte) (s : State), accepts 0x31 seq (piecePayload k crc d) s ∧
      d.length = 512 ∧ s.flash.ok = true ∧ graftPieceRefusal (graftClaim s) k.toNat crc d = none ∧
        piecePresent s k.toNat = false ∧ flashIdle s = true ∧ (graftAllowed [(true, pieceAddr s k.toNat, 512), (false,
          pieceAddr s k.toNat, 512), (true, pieceMarkAddr s k.toNat, 1)] s).2 = true ∧
            flashBytes (flashProgram (pieceAddr s k.toNat) d s) (pieceAddr s k.toNat) 512 = d)
    ∧ (∃ (seq : Byte) (k : Half) (crc : Word) (d : List Byte) (s : State), accepts 0x31 seq (piecePayload k crc d) s ∧
      d.length = 512 ∧ s.flash.ok = true ∧ (graftPieceRefusal (graftClaim s) k.toNat crc d).isSome = true)
    ∧ (∃ (seq : Byte) (s : State), accepts 0x33 seq [] s ∧ s.flash.ok = true ∧ s.graft.st = .complete ∧ flashIdle s =
      true ∧ awlIdle s = true ∧ (graftAllowed [(false, stagingBase s, bundleSize (graftManifest s)), (true,
        graftBase s + 0x100, 32)] s).2 = true)
    ∧ (∃ (seq : Byte) (s : State), accepts 0x33 seq [] s ∧ s.flash.ok = true ∧ s.graft.st ≠ .complete)
    ∧ (∃ (seq : Byte) (s : State), accepts 0x34 seq [] s ∧ s.flash.ok = true ∧ s.graft.st ≠ .trial ∧
      s.graft.st ≠ .promoting ∧ flashIdle s = true ∧ (graftAllowed [(true, stagingBase s, 0x100000), (true,
        graftBase s, 0x10000)] s).2 = true)
    ∧ (∃ (seq : Byte) (s : State), accepts 0x34 seq [] s ∧ s.flash.ok = true ∧ (s.graft.st = .trial ∨ s.graft.st =
      .promoting))
    ∧ (∃ (k : Nat) (n : Nat) (s : State), isReady s = true ∧ k + 1 < n ∧ flashIdle s = true ∧ (graftAllowed [(false,
      stagingBase s + 0x10000 * k, min 0x10000 (bundleSize (graftManifest s) - 0x10000 * k)), (true,
        trialBase s + 0x10000 * k, 0x10000), (false, trialBase s + 0x10000 * k,
          min 0x10000 (bundleSize (graftManifest s) - 0x10000 * k))] s).2 = true)
    ∧ (∃ (k : Nat) (n : Nat) (s : State), isReady s = true ∧ k < n ∧ flashIdle s = true)
    ∧ (∃ s : State, flashIdle s = false)
    ∧ (∃ s : State, s.graft.st = .promoting ∧ arbUnderWay s = true ∧ flashIdle s = true)
    ∧ (∃ s : State, graftCounts s = true ∧ timersRun s = true)
    ∧ (∃ s : State, (graftCounts s = false ∨ timersRun s = false) ∧ s.boot.together.graft = false)
    ∧ (∃ (k : Fin 16) (s : State), maySet (.stand k) 0x4810 s ∧ graftCounts s = true ∧ s.time.now < s.graft.runEnd)
    ∧ (∃ (who : Requester) (v : Word) (s : State), (v ≠ 0x464E4F43 ∨ graftCounts s =
      false ∨ s.graft.runEnd ≤ s.time.now ∨ who = .host)) :=
  ⟨⟨1, bundle, 0, { rdy with graft := { rdy.graft with st := .empty } }, by unfold accepts; decide +kernel⟩,
    ⟨1, List.replicate 256 0, 0, rdy, by unfold accepts; decide +kernel⟩,
    ⟨1, 1, pieceCrc 1 piece, piece, grafting .complete 3, by unfold accepts; decide +kernel⟩,
    ⟨1, 1, pieceCrc 1 piece, piece, grafting .receiving 1, by unfold accepts; decide +kernel⟩,
    ⟨1, 0, 0, List.replicate 512 0, rdy, by unfold accepts; decide +kernel⟩,
    ⟨1, grafting .complete 3, by unfold accepts; decide +kernel⟩,
    ⟨1, rdy, by unfold accepts; decide +kernel⟩,
    ⟨1, { rdy with graft := { rdy.graft with st := .empty } }, by unfold accepts; decide +kernel⟩,
    ⟨1, { rdy with graft := { rdy.graft with st := .trial } }, by unfold accepts; decide +kernel⟩,
    ⟨0, 2, rdy, by decide +kernel⟩,
    ⟨0, 1, rdy, by decide +kernel⟩,
    ⟨{ rdy with flash := { rdy.flash with current := some .copy } }, by decide +kernel⟩,
    ⟨{ rdy with graft := { rdy.graft with st := .promoting }, heart := { rdy.heart with waiting := [{ kind := .arb 1, host := false }] } },
      by decide +kernel⟩,
    ⟨{ rdy with graft := { rdy.graft with st := .trial, trialNow := true, runEnd := 5 } }, by decide +kernel⟩,
    ⟨rdy, by decide +kernel⟩,
    ⟨15, { rdy with graft := { rdy.graft with st := .trial, trialNow := true, runEnd := 5 } },
      by unfold maySet; decide +kernel⟩,
    ⟨.host, 0x464E4F43, { rdy with graft := { rdy.graft with st := .trial, trialNow := true, runEnd := 5 } },
      by decide +kernel⟩⟩

theorem witness_HeartwoodEngine :
    (∃ s : State, isReady s = true)
    ∧ (∃ s : State, (isReady s = false ∨ s.heart.running.isSome = true ∨ s.heart.waiting = []))
    ∧ (∃ vpp : Nat, 6300 ≤ vpp ∧ vpp ≤ 6700)
    ∧ (∃ (o : CellOutcome) (vpp : Nat) (r : RunBurn) (c : HwCell) (s : State), r.fails < 3 ∧ c.row ≠ 0xE0 ∧
      c.row ≠ 0xE1 ∧ c.bit < 64 ∧ (hwRow s.heart.cells c.row).data.getLsbD c.bit = false ∧ 6300 ≤ vpp ∧ vpp ≤ 6700 ∧
        o ≠ .pass)
    ∧ (∃ vpp : Nat, (vpp < 6300 ∨ 6700 < vpp))
    ∧ (∃ s : State, s.heart.running = none)
    ∧ (∃ (who : Requester) (v : Word) (s : State), maySet who 0x1820 s ∧ flag v 30 = false ∧ 0x40 ≤ field v 7 0 ∧
      field v 7 0 ≤ 0xBF ∧ evalFuse s = false ∧ (s.heart.shadows.filter (·.1 ≠ field v 7 0)).length < 16)
    ∧ (∃ (who : Requester) (v : Word) (s : State), maySet who 0x1820 s ∧ flag v 30 = false ∧ 0x40 ≤ field v 7 0 ∧
      field v 7 0 ≤ 0xBF ∧ evalFuse s = false ∧ s.heart.shadows.any (fun x => x.1 = field v 7 0) = false ∧
        16 ≤ s.heart.shadows.length)
    ∧ (∃ (who : Requester) (s : State), maySet who 0x1820 s) :=
  ⟨⟨rdy, by decide +kernel⟩,
    ⟨rdy, by decide +kernel⟩,
    ⟨6300, by decide +kernel⟩,
    ⟨.blank, 6700, { job := { kind := .arb 1, host := false }, todo := [], fails := 2 }, { row := 0x40, bit := 63 },
      rdy, by decide +kernel⟩,
    ⟨6299, by decide +kernel⟩,
    ⟨rdy, by decide +kernel⟩,
    ⟨.host, 0x40, noEval, by unfold maySet; decide +kernel⟩,
    ⟨.host, 0x40, shFull, by unfold maySet; decide +kernel⟩,
    ⟨.host, rdy, by unfold maySet; decide +kernel⟩⟩

theorem witness_FramesOfThePorts : ∃ (p : Fin 8) (s : State), s.groups[groupOf p].gcutOpen = false :=
  ⟨7, { rdy with groups := .replicate 2 { gcutOpen := false } }, by decide⟩

theorem witness_MemoriesStayCanonical : ∃ s t : State, canonical s ∧ step s = .next t :=
  ⟨queued, after queued, by unfold canonical; decide, rfl⟩

theorem witness_StepsSettleAlarmsAndIrqs :
    (∃ s t : State, settled s ∧ step s = .next t)
    ∧ (∃ s t : State, step s = .next t ∧ isOpen s = true ∧ isOpen t = true) :=
  ⟨⟨queued, after queued, by unfold settled; decide, rfl⟩, ⟨queued, after queued, rfl, by decide, by decide⟩⟩

theorem witness_FuseCellsOnlyRise : ∃ s t : State, step s = .next t :=
  ⟨queued, after queued, rfl⟩

end Sys2Proof.Tests
end

section
/-! PROOFS. What the host port's read commands answer: the bytes of a payload as the device reads them, the taking of a
frame, the Tack over its accesses, the response, and then each command of Table 6.5 that reads. -/

namespace Sys2Proof.Machine

/-! ### Little-endian fields of a payload (R5) -/

@[simp] theorem le_length (k n : Nat) : (le k n).length = k := by
  induction k generalizing n with
  | zero => rfl
  | succ k ih => simp [le, ih]

theorem ofLe_le (k n : Nat) : ofLe (le k n) = n % 256 ^ k := by
  induction k generalizing n with
  | zero => simp [le, ofLe, Nat.mod_one]
  | succ k ih =>
    have hb : (BitVec.ofNat 8 (n % 256)).toNat = n % 256 := by simp
    rw [le, ofLe, ih, hb, Nat.pow_succ', Nat.mod_mul]

/-- A field at the front of a payload reads as the number written there. -/
theorem numAt_le (k n : Nat) (r : List Byte) (h : n < 256 ^ k) : numAt (le k n ++ r) 0 k = n := by
  have hs : slice (le k n ++ r) 0 k = le k n := by simp [slice]
  rw [numAt, hs, ofLe_le, Nat.mod_eq_of_lt h]

/-- A field behind a part of the payload. -/
theorem numAt_append {a b : List Byte} {off n : Nat} (h : a.length ≤ off) :
    numAt (a ++ b) off n = numAt b (off - a.length) n := by
  simp [numAt, slice, List.drop_append, List.drop_eq_nil_of_le h]

theorem numAt_byte (b : Byte) (r : List Byte) : numAt (b :: r) 0 1 = b.toNat := by
  simp [numAt, slice, ofLe]

theorem numAt_cons (b : Byte) (r : List Byte) (off n : Nat) : numAt (b :: r) (off + 1) n = numAt r off n := by
  simp [numAt, slice]

/-! ### The taking of a frame (R153, R155) -/

theorem hostFrame_seq (cmd : Nat) (seq : Byte) (p : List Byte) : frameSeq (hostFrame cmd seq p) = seq := by
  simp [frameSeq, hostFrame]

theorem frameEarly_none_of_taken {s : State} {bs : List Byte} (h : frameVerdict s bs = 1) : frameEarly s bs = none := by
  unfold frameVerdict at h
  unfold frameEarly
  dsimp only at h ⊢
  split at h
  · cases h
  · split at h
    · cases h
    · simp only [*, if_false]

/-- An accepted frame is taken at once: its command does its work in the state `taking`. -/
theorem hostAsk_of_accepts {cmd : Nat} {seq : Byte} {p : List Byte} {s : State} (c : Instr) (act : State → State)
    (h : accepts cmd seq p s) :
    hostAsk c { frame := hostFrame cmd seq p, act := act } s = act (taking cmd seq p s) := by
  obtain ⟨hopen, hv, hfree, -⟩ := h
  have hearly : frameEarly (requestMiso (hostFrame cmd seq p).length s) (hostFrame cmd seq p) = none :=
    frameEarly_none_of_taken hv
  have hfree' : seamFree .host (requestMiso (hostFrame cmd seq p).length s) = true := hfree
  have hv' : frameVerdict (requestMiso (hostFrame cmd seq p).length s) (hostFrame cmd seq p) = 1 := hv
  simp [hostAsk, hopen, hearly, hfree', hostChecked, hv', taking]

/-! ### What the taking of a frame leaves alone -/

section
variable (cmd : Nat) (seq : Byte) (p : List Byte) (s : State)

@[simp] theorem taking_graft : (taking cmd seq p s).graft = s.graft := rfl
@[simp] theorem taking_pgs : (taking cmd seq p s).pgs = s.pgs := rfl

theorem taking_journalAddr (i : Nat) : journalAddr (taking cmd seq p s) i = journalAddr s i := rfl

theorem taking_flashLimit : flashLimit (taking cmd seq p s) = flashLimit s := rfl

theorem taking_flashBytes (a n : Nat) : flashBytes (taking cmd seq p s) a n = flashBytes s a n := rfl

end

/-! ### The Tack over a host command's accesses (R166) -/

/-- One access of a request checked: what `tackCheck` folds over them. -/
def tackStep (cls : Fin 8) (acc : State × Option Nat × Nat) (units : List Access) : State × Option Nat × Nat :=
  match firstDenied acc.1 cls units with
  | none => (acc.1, acc.2.1, acc.2.2 + 1)
  | some (a, r) => (countDenial cls a r acc.1, acc.2.1 <|> some acc.2.2, acc.2.2 + 1)

theorem tackCheck_host (accs : List (List Access)) (s : State) :
    tackCheck .host accs s =
      ((accs.foldl (tackStep 7) (s, none, 0)).1, (accs.foldl (tackStep 7) (s, none, 0)).2.1) := rfl

/-- A denial stays in the result of the check. -/
theorem foldl_tackStep_some (cls : Fin 8) (accs : List (List Access)) (acc : State × Option Nat × Nat)
    (h : acc.2.1 ≠ none) : (accs.foldl (tackStep cls) acc).2.1 ≠ none := by
  induction accs generalizing acc with
  | nil => exact h
  | cons u us ih =>
    refine ih _ ?_
    unfold tackStep
    split
    · exact h
    · obtain ⟨k, hk⟩ := Option.ne_none_iff_exists'.mp h
      simp [hk]

/-- No access of the request is denied exactly when every one passes in the state before; the state is then kept. -/
theorem foldl_tackStep_none (cls : Fin 8) (accs : List (List Access)) (s : State) (i : Nat) :
    ((accs.foldl (tackStep cls) (s, none, i)).2.1 = none ↔ ∀ u ∈ accs, firstDenied s cls u = none)
      ∧ ((∀ u ∈ accs, firstDenied s cls u = none) → (accs.foldl (tackStep cls) (s, none, i)).1 = s) := by
  induction accs generalizing i with
  | nil => simp
  | cons u us ih =>
    cases hu : firstDenied s cls u with
    | none =>
      have hstep : tackStep cls (s, none, i) u = (s, none, i + 1) := by simp [tackStep, hu]
      simpa [hstep, hu] using ih (i + 1)
    | some d =>
      have hstep : tackStep cls (s, none, i) u = (countDenial cls d.1 d.2 s, some i, i + 1) := by
        simp [tackStep, hu]
      have hden := foldl_tackStep_some cls us (tackStep cls (s, none, i) u) (by simp [hstep])
      simp [hden, hu]

/-- The Tack allows a host command's accesses exactly when none has a denied unit (R166). -/
theorem hostMay_iff {cmd : Nat} {seq : Byte} {accs : List HostAccess} {s : State} :
    hostMay cmd seq accs s ↔ ∀ x ∈ accs, firstDenied s 7 x.units = none := by
  have hfold := (foldl_tackStep_none 7 (accs.map HostAccess.units) s 0).1
  rw [List.forall_mem_map] at hfold
  rw [← hfold, hostMay, hostTack, tackCheck_host]
  dsimp only
  split
  next h => simp [h]
  next k h => simp [h]

/-- Accesses that are allowed leave the state. -/
theorem hostTack_of_allowed {cmd : Nat} {seq : Byte} {accs : List HostAccess} {s : State}
    (h : ∀ x ∈ accs, firstDenied s 7 x.units = none) : hostTack cmd seq accs s = (s, none) := by
  have h' : ∀ u ∈ accs.map HostAccess.units, firstDenied s 7 u = none := List.forall_mem_map.mpr h
  obtain ⟨hnone, hstate⟩ := foldl_tackStep_none 7 (accs.map HostAccess.units) s 0
  simp [hostTack, tackCheck_host, hnone.mpr h', hstate h']

theorem firstDenied_taking (cmd : Nat) (seq : Byte) (p : List Byte) (s : State) (cls : Fin 8) (u : List Access) :
    firstDenied (taking cmd seq p s) cls u = firstDenied s cls u := by
  have hd (a : Access) : decideAccess (taking cmd seq p s) cls a = decideAccess s cls a := rfl
  induction u with
  | nil => rfl
  | cons a t ih => simp [firstDenied, hd, ih]

/-- What the Tack allows before a frame is taken it allows when the command does its work. -/
theorem hostTack_taking {cmd : Nat} {seq : Byte} {p : List Byte} {accs : List HostAccess} {s : State}
    (h : hostMay cmd seq accs s) : hostTack cmd seq accs (taking cmd seq p s) = (taking cmd seq p s, none) :=
  hostTack_of_allowed fun x hx => by rw [firstDenied_taking]; exact hostMay_iff.mp h x hx

/-! ### The response -/

/-- The job of a command that has just been taken. -/
def takenJob (cmd : Nat) (seq : Byte) (p : List Byte) : HostJob :=
  { cmd := BitVec.ofNat 8 (frameCmd (hostFrame cmd seq p)), seq := seq
    station := cmdStation (frameCmd (hostFrame cmd seq p)) (framePayload (hostFrame cmd seq p))
    long := longCmd (frameCmd (hostFrame cmd seq p)) }

theorem taking_job (cmd : Nat) (seq : Byte) (p : List Byte) (s : State) :
    (taking cmd seq p s).host.job = some (takenJob cmd seq p) := by
  simp [taking, requestTaken, takenJob, hostFrame_seq]

/-- Seam is free for the response of a command that has been taken. -/
theorem seamFree_taking {cmd : Nat} {seq : Byte} {p : List Byte} {s : State} (h : s.seam.waiting = []) :
    seamFree .host (taking cmd seq p s) = true := by
  simp [taking, requestTaken, verdictSet, seamCheck, seamUse, requestMiso, seamFree, h]

/-- A final response with Seam free: the buffer holds it and the slot is empty (R155). -/
theorem hostRespond_free {a : Answer} {j : HostJob} {s : State} (hseam : seamFree .host s = true)
    (hjob : s.host.job = some j) (hrsp : a.rsp ≠ 2) :
    hostRespond a s = { s with
      seam := seamUse .host none s.seam
      host := { s.host with
        buf := rspOf j a, rspReady := true, job := none, last := lastOf s j.cmd j.seq j.station a } } := by
  have hfinal : ¬ a.rsp = 2#8 := hrsp
  simp [hostRespond, hseam, hostAnswer, seamCheck, hjob, hfinal, lastOf]

/-- The end of a step leaves the response as it is. -/
theorem answers_finish {rsp seq : Byte} {payload : List Byte} (a b : State) :
    answers rsp payload seq (finish a b) ↔ answers rsp payload seq b := by
  simp [answers]

theorem answers_hostRespond {rsp : Byte} {payload : List Byte} {j : HostJob} {s : State}
    (hseam : seamFree .host s = true) (hjob : s.host.job = some j) (hrsp : rsp ≠ 2) :
    answers rsp payload j.seq (hostRespond ⟨rsp, payload⟩ s) := by
  simp [hostRespond_free (a := ⟨rsp, payload⟩) hseam hjob hrsp, answers, rspOf]

/-- A synchronous command that is accepted, and keeps Seam and its slot while it works, answers what its body says. -/
theorem sync_answers {cmd : Nat} {seq rsp : Byte} {p payload : List Byte} {tc tr : Int} {s u : State} {c : Instr}
    (hexec : exec c s = complete s (hostAsk c (syncReq cmd seq p tc tr) s)) (h : accepts cmd seq p s)
    (hbody : syncBody cmd seq p tc tr (taking cmd seq p s) = (u, ⟨rsp, payload⟩))
    (hseam : u.seam = (taking cmd seq p s).seam) (hjob : u.host.job = (taking cmd seq p s).host.job)
    (hrsp : rsp ≠ 2) :
    exec c s = .next (finish s (hostRespond ⟨rsp, payload⟩ u))
      ∧ answers rsp payload seq (finish s (hostRespond ⟨rsp, payload⟩ u)) := by
  have hask : hostAsk c (syncReq cmd seq p tc tr) s = hostRespond ⟨rsp, payload⟩ u := by
    rw [syncReq, hostAsk_of_accepts c _ h, hbody]
  have hfree : seamFree .host u = true := by
    have hf := seamFree_taking (cmd := cmd) (seq := seq) (p := p) h.2.2.2
    simpa only [seamFree, hseam] using hf
  rw [hexec, hask, answers_finish]
  exact ⟨rfl, answers_hostRespond hfree (hjob.trans (taking_job cmd seq p s)) hrsp⟩

/-- A response changes the host port and Seam alone, and there neither SUMMARY's generation nor the nonce. -/
theorem hostRespond_form (a : Answer) (s : State) : ∃ h m, hostRespond a s = { s with host := h, seam := m }
    ∧ h.sumGen = s.host.sumGen ∧ h.nonce = s.host.nonce := by
  unfold hostRespond
  split
  · unfold hostAnswer
    split
    · exact ⟨_, _, rfl, rfl, rfl⟩
    · split <;> exact ⟨_, _, rfl, rfl, rfl⟩
  · exact ⟨_, _, rfl, rfl, rfl⟩

section
variable (a : Answer) (s : State)

@[simp] theorem hostRespond_graft : (hostRespond a s).graft = s.graft := by
  obtain ⟨h, m, hr, -, -⟩ := hostRespond_form a s; rw [hr]
@[simp] theorem hostRespond_pgs : (hostRespond a s).pgs = s.pgs := by
  obtain ⟨h, m, hr, -, -⟩ := hostRespond_form a s; rw [hr]
@[simp] theorem hostRespond_awl : (hostRespond a s).awl = s.awl := by
  obtain ⟨h, m, hr, -, -⟩ := hostRespond_form a s; rw [hr]
@[simp] theorem hostRespond_sumGen : (hostRespond a s).host.sumGen = s.host.sumGen := by
  obtain ⟨h, m, hr, hg, -⟩ := hostRespond_form a s; rw [hr]; exact hg
@[simp] theorem hostRespond_nonce : (hostRespond a s).host.nonce = s.host.nonce := by
  obtain ⟨h, m, hr, -, hn⟩ := hostRespond_form a s; rw [hr]; exact hn

end

/-! ### IDENT, GRAFT_STATE, NONCE_GET and SUMMARY -/

theorem ident_answers (seq : Byte) (s : State) (h : accepts 0x01 seq [] s) :
    ∃ t, exec (.ident seq) s = .next t
      ∧ answers 0x01 (deviceId s ++ [0x01, 0x00, BitVec.ofNat 8 (b2n Config.variantG1)] ++ List.replicate 13 0) seq t :=
  ⟨_, sync_answers (tc := 0) (tr := 0) rfl h rfl rfl rfl (by decide)⟩

theorem graftState_answers (seq : Byte) (s : State) (h : accepts 0x32 seq [] s) :
    ∃ t, exec (.graftState seq) s = .next t ∧ answers 0x01 (graftStatePayload s) seq t ∧ t.graft = s.graft := by
  obtain ⟨hexec, hans⟩ := sync_answers (c := .graftState seq) (tc := 0) (tr := 0) rfl h rfl rfl rfl (by decide)
  exact ⟨_, hexec, hans, by simp⟩

theorem nonceGetBody_drawn {s : State} (hrng : s.awl.rngOk = true) :
    nonceGetBody [] s =
      (drawn { s with host := { s.host with nonce := some (le 16 ((freeValue s).extractLsb' 0 128).toNat) } },
        answerOk (le 16 ((freeValue s).extractLsb' 0 128).toNat)) := by
  simp [nonceGetBody, hrng]

theorem nonceGetBody_failed {s : State} (hrng : s.awl.rngOk = false) :
    nonceGetBody [] s = ({ s with host := { s.host with nonce := none } }, answerUnavailable) := by
  simp [nonceGetBody, hrng]

/-- R170: a fresh nonce stands and is the answer. -/
theorem nonceGet_answers (seq : Byte) (s : State) (h : accepts 0x28 seq [] s) (hrng : s.awl.rngOk = true) :
    ∃ t, exec (.nonceGet seq) s = .next t ∧ t.host.nonce.isSome = true
      ∧ answers 0x01 (t.host.nonce.getD []) seq t ∧ t.host.buf.payload.length = 16 := by
  obtain ⟨hexec, hans⟩ := sync_answers (c := .nonceGet seq) (tc := 0) (tr := 0) rfl h
    (nonceGetBody_drawn (s := taking 0x28 seq [] s) hrng) rfl rfl (by decide)
  refine ⟨_, hexec, ?_, ?_, ?_⟩
  · simp
  · simpa using hans
  · rw [hans.2.1, le_length]

theorem nonceGet_unavailable (seq : Byte) (s : State) (h : accepts 0x28 seq [] s) (hrng : s.awl.rngOk = false) :
    ∃ t, exec (.nonceGet seq) s = .next t ∧ t.host.nonce = none ∧ answers 0x12 [] seq t := by
  obtain ⟨hexec, hans⟩ := sync_answers (c := .nonceGet seq) (tc := 0) (tr := 0) rfl h
    (nonceGetBody_failed (s := taking 0x28 seq [] s) hrng) rfl rfl (by decide)
  exact ⟨_, hexec, by simp, hans⟩

/-! The lengths of SUMMARY's parts (Table 6.8). -/

theorem fuseBytes_length (s : State) (row rows : Nat) : (fuseBytes s row rows).length = 8 * rows := by
  simp [fuseBytes, List.length_flatMap, Nat.mul_comm]

theorem portBlock_length (s : State) (p : Fin 8) : (portBlock s p).length = 24 := by
  simp [portBlock]

theorem summaryHead_length (s : State) : (summaryHead s).length = 16 := by
  simp [summaryHead]

theorem summaryBark_length (s : State) : (summaryBark s).length = 32 := by
  simp [summaryBark]

theorem summarySap_length (s : State) : (summarySap s).length = 32 := by
  simp [summarySap]

theorem summaryDogs_length (s : State) : (summaryDogs s).length = 32 := by
  simp [summaryDogs]

theorem summaryLast_length (s : State) : (summaryLast s).length = 28 := by
  simp [summaryLast]

theorem summaryTail_length (s : State) (tc tr : Int) : (summaryTail s tc tr).length = 52 := by
  simp [summaryTail, deviceId, fuseBytes_length]

/-- R172: the SUMMARY frame has 384 bytes. -/
theorem summaryBytes_length (s : State) (tc tr : Int) : (summaryBytes s tc tr).length = 384 := by
  have hports : (allPorts.flatMap (portBlock s)).length = 192 := by
    simp [List.length_flatMap, portBlock_length, allPorts]
  simp only [summaryBytes, List.length_append, hports, summaryHead_length, summaryBark_length, summarySap_length,
    summaryDogs_length, summaryLast_length, summaryTail_length]

/-- R174: a SUMMARY frame begins with its generation. -/
theorem summaryBytes_gen (s : State) (tc tr : Int) : (summaryBytes s tc tr).take 4 = le 4 s.host.sumGen.n := by
  simp [summaryBytes, summaryHead]

theorem summary_answers (seq : Byte) (tc tr : Int) (s : State) (h : accepts 0x08 seq [] s) :
    ∃ t, exec (.summary seq tc tr) s = .next t
      ∧ t.host.sumGen = bump 32 s.host.sumGen ∧ t.host.buf.payload.length = 384
      ∧ t.host.buf.payload.take 4 = le 4 t.host.sumGen.n ∧ t.host.buf.rsp = 0x01 ∧ t.host.job = none := by
  obtain ⟨hexec, hrsp, hpayload, -, -, hjob⟩ :=
    sync_answers (c := .summary seq tc tr) rfl h rfl rfl rfl (by decide)
  refine ⟨_, hexec, ?_, ?_, ?_, hrsp, hjob⟩
  · rw [finish_host_sumGen, hostRespond_sumGen]; rfl
  · rw [hpayload, summaryBytes_length]
  · rw [hpayload, summaryBytes_gen, finish_host_sumGen, hostRespond_sumGen]

/-! ### REG_READ, AWLWAIT_READ and CAPTURE_READ -/

/-- The fields of a payload of a two-byte number, a count and a zero (Table 6.5). -/
theorem numAt_span (a : Half) (n : Byte) :
    numAt (le 2 a.toNat ++ [n, 0]) 0 2 = a.toNat ∧ numAt (le 2 a.toNat ++ [n, 0]) 2 1 = n.toNat
      ∧ numAt (le 2 a.toNat ++ [n, 0]) 3 1 = 0 := by
  refine ⟨numAt_le 2 _ _ a.isLt, ?_, ?_⟩
  · rw [numAt_append (by simp), le_length, numAt_byte]
  · rw [numAt_append (by simp), le_length, numAt_cons, numAt_byte]; rfl

theorem regSpan_one (a : Nat) : regSpan a 1 = some [a] := by simp [regSpan]

/-- R164: a span that is empty, too long or of two stations. -/
theorem regSpan_bad {a n : Nat} (h : n = 0 ∨ 64 < n ∨ a / 0x400 ≠ (a + 4 * (n - 1)) / 0x400) : regSpan a n = none :=
  if_pos h

/-- A register's read takes what reads clear from its own unit and nothing from the host port or Seam. -/
theorem regRead_keeps (addr : Nat) (s : State) :
    (regRead addr s).2.host = s.host ∧ (regRead addr s).2.seam = s.seam := by
  have hcount (n : Fin 8) : (countNow n s).2.host = s.host ∧ (countNow n s).2.seam = s.seam := by
    unfold countNow; dsimp only; split <;> exact ⟨rfl, rfl⟩
  have hcap (n : Fin 8) (b : Bool) : (capRead n b s).2.host = s.host ∧ (capRead n b s).2.seam = s.seam := by
    unfold capRead; dsimp only; split <;> exact ⟨rfl, rfl⟩
  have hpgen (o : Nat) : (pgenRead o s).2.host = s.host ∧ (pgenRead o s).2.seam = s.seam := by
    unfold pgenRead
    dsimp only
    split
    · exact ⟨rfl, rfl⟩
    · split
      case h_4 => exact hcount _
      case h_5 => exact hcap _ _
      case h_6 => exact hcap _ _
      all_goals exact ⟨rfl, rfl⟩
  unfold regRead
  split
  · exact hpgen _
  · split <;> exact ⟨rfl, rfl⟩

theorem regReadBody_one {seq : Byte} {a : Half} {s : State} (hcut : regsCut s [a.toNat] = false)
    (htack : hostTack 0x02 seq [hostReg s false a.toNat] s = (s, none)) :
    regReadBody seq (le 2 a.toNat ++ [1, 0]) s =
      ((regRead a.toNat s).2, answerOk (le 4 (regRead a.toNat s).1.toNat)) := by
  obtain ⟨haddr, hcount, hzero⟩ := numAt_span a 1
  have hspan : regSpan a.toNat (1 : Byte).toNat = some [a.toNat] := regSpan_one _
  have hlen : (le 2 a.toNat ++ [1, 0]).length = 4 := by simp
  simp only [regReadBody, haddr, hcount, hzero, hspan, hlen]
  simp [hcut, htack, regReads]

theorem regReadBody_badSpan {seq n : Byte} {a : Half} {s : State} (h : regSpan a.toNat n.toNat = none) :
    regReadBody seq (le 2 a.toNat ++ [n, 0]) s = (s, answerBadArg) := by
  obtain ⟨haddr, hcount, -⟩ := numAt_span a n
  simp only [regReadBody, haddr, hcount, h]

theorem regReadBody_cut {seq : Byte} {a : Half} {s : State} (hcut : regsCut s [a.toNat] = true) :
    regReadBody seq (le 2 a.toNat ++ [1, 0]) s = (s, answerUnavailable) := by
  obtain ⟨haddr, hcount, hzero⟩ := numAt_span a 1
  have hspan : regSpan a.toNat (1 : Byte).toNat = some [a.toNat] := regSpan_one _
  have hlen : (le 2 a.toNat ++ [1, 0]).length = 4 := by simp
  simp only [regReadBody, haddr, hcount, hzero, hspan, hlen]
  simp [hcut]

/-- One register read, by a command `c` whose request is REG_READ with COUNT 1; `u` is the state it is read in. -/
theorem readOne_answers {seq : Byte} {a : Half} {s u : State} {c : Instr}
    (hexec : exec c s = complete s (hostAsk c (regReadReq seq a 1) s))
    (h : accepts 0x02 seq (le 2 a.toNat ++ [1, 0]) s) (hu : u = taking 0x02 seq (le 2 a.toNat ++ [1, 0]) s)
    (hcut : regsCut s [a.toNat] = false) (hmay : hostMay 0x02 seq [hostReg s false a.toNat] s) :
    exec c s = .next (finish s (hostRespond (answerOk (le 4 (regRead a.toNat u).1.toNat)) (regRead a.toNat u).2))
      ∧ answers 0x01 (le 4 (regRead a.toNat u).1.toNat) seq
        (finish s (hostRespond (answerOk (le 4 (regRead a.toNat u).1.toNat)) (regRead a.toNat u).2)) := by
  subst hu
  obtain ⟨hhost, hseam⟩ := regRead_keeps a.toNat (taking 0x02 seq (le 2 a.toNat ++ [1, 0]) s)
  exact sync_answers (tc := 0) (tr := 0) hexec h (regReadBody_one hcut (hostTack_taking hmay)) hseam
    (congrArg HostPort.job hhost) (by decide)

theorem regRead_answers (seq : Byte) (addr : Half) (s : State) (h : accepts 0x02 seq (le 2 addr.toNat ++ [1, 0]) s)
    (hcut : regsCut s [addr.toNat] = false) (hmay : hostMay 0x02 seq [hostReg s false addr.toNat] s) :
    ∃ t, exec (.regRead seq addr 1) s = .next t
      ∧ answers 0x01 (le 4 (regRead addr.toNat (taking 0x02 seq (le 2 addr.toNat ++ [1, 0]) s)).1.toNat) seq t :=
  ⟨_, readOne_answers rfl h rfl hcut hmay⟩

theorem regRead_badSpan (seq : Byte) (addr : Half) (n : Byte) (s : State)
    (h : accepts 0x02 seq (le 2 addr.toNat ++ [n, 0]) s)
    (hn : n = 0 ∨ 64 < n.toNat ∨ addr.toNat / 0x400 ≠ (addr.toNat + 4 * (n.toNat - 1)) / 0x400) :
    ∃ t, exec (.regRead seq addr n) s = .next t ∧ answers 0x10 [] seq t := by
  have hspan : regSpan addr.toNat n.toNat = none := regSpan_bad (hn.imp_left fun h0 => by rw [h0]; rfl)
  exact ⟨_, sync_answers (tc := 0) (tr := 0) rfl h (regReadBody_badSpan hspan) rfl rfl (by decide)⟩

theorem regRead_cut (seq : Byte) (addr : Half) (s : State) (h : accepts 0x02 seq (le 2 addr.toNat ++ [1, 0]) s)
    (hcut : regsCut s [addr.toNat] = true) :
    ∃ t, exec (.regRead seq addr 1) s = .next t ∧ answers 0x12 [] seq t :=
  ⟨_, sync_answers (tc := 0) (tr := 0) rfl h (regReadBody_cut hcut) rfl rfl (by decide)⟩

theorem awlwaitRead_answers (seq : Byte) (s : State) (h : accepts 0x02 seq (le 2 0x2008 ++ [1, 0]) s)
    (hmay : hostMay 0x02 seq [hostReg s false 0x2008] s) :
    ∃ t, exec (.awlwaitRead seq) s = .next t
      ∧ answers 0x01 (le 4 (regWord s 0x2008).toNat) seq t ∧ t.awl = { s.awl with maxWait := 0 } := by
  have hcut : regsCut s [(0x2008 : Half).toNat] = false := by
    simp [regsCut, rootHeld, addrPort]
  obtain ⟨hexec, hans⟩ := readOne_answers (c := .awlwaitRead seq) (a := 0x2008) rfl h rfl hcut hmay
  exact ⟨_, hexec, hans, by rw [finish_awl, hostRespond_awl]; rfl⟩

theorem b2n_le_one (b : Bool) : b2n b ≤ 1 := by cases b <;> decide

/-- The host address of PGnCAP0 or PGnCAP1 (R378). -/
def captureAddr (n : Fin 8) (b : Bool) : Half := BitVec.ofNat 16 (0x4410 + 0x20 * n.val + 4 * b2n b)

theorem captureAddr_toNat (n : Fin 8) (b : Bool) : (captureAddr n b).toNat = 0x4410 + 0x20 * n.val + 4 * b2n b := by
  have hb := b2n_le_one b
  simp only [captureAddr, BitVec.toNat_ofNat]
  omega

theorem pgenRead_capture (n : Fin 8) (b : Bool) (s : State) :
    pgenRead (0x10 + 0x20 * n.val + 4 * b2n b) s = capRead n b s := by
  have hn := n.isLt
  have hb := b2n_le_one b
  have hix : ix8 ((0x10 + 0x20 * n.val + 4 * b2n b) / 0x20) = n := Fin.ext (by simp only [ix8, ix]; omega)
  have hlow : ¬ 0x100 ≤ 0x10 + 0x20 * n.val + 4 * b2n b := by omega
  have hoff : (0x10 + 0x20 * n.val + 4 * b2n b) % 0x20 = 0x10 + 4 * b2n b := by omega
  simp only [pgenRead, hix, hlow, hoff, if_false]
  cases b <;> rfl

theorem regRead_capture (n : Fin 8) (b : Bool) (s : State) :
    regRead (captureAddr n b).toNat s = capRead n b s := by
  have hn := n.isLt
  have hb := b2n_le_one b
  have hdiv : (captureAddr n b).toNat / 0x400 = 0x11 := by rw [captureAddr_toNat]; omega
  have hmod : (captureAddr n b).toNat % 0x400 = 0x10 + 0x20 * n.val + 4 * b2n b := by rw [captureAddr_toNat]; omega
  rw [regRead, if_pos hdiv, hmod, pgenRead_capture]

/-- The generators are Crown's own, so their captures need no Strap. -/
theorem regsCut_capture (n : Fin 8) (b : Bool) (s : State) : regsCut s [(captureAddr n b).toNat] = false := by
  have hn := n.isLt
  have hb := b2n_le_one b
  have haddr := captureAddr_toNat n b
  have hdiv : (captureAddr n b).toNat / 0x400 ≠ 0x0F := by omega
  have hport : addrPort (captureAddr n b).toNat = none := if_neg (by omega)
  simp [regsCut, rootHeld, hdiv, hport]

theorem capRead_word (n : Fin 8) (b : Bool) (s : State) :
    (capRead n b s).1 = capWord (if b then s.pgs[n].cap1 else s.pgs[n].cap0) := by
  cases b <;> rfl

theorem capRead_first (n : Fin 8) (s : State) :
    (capRead n false s).2.pgs[n] = { s.pgs[n] with cap0 := { s.pgs[n].cap0 with valid := false, overrun := false } } := by
  simp [capRead, modPg]

theorem capRead_second (n : Fin 8) (s : State) :
    (capRead n true s).2.pgs[n] = { s.pgs[n] with cap1 := { s.pgs[n].cap1 with valid := false, overrun := false } } := by
  simp [capRead, modPg]

theorem captureRead_answers (seq : Byte) (n : Fin 8) (b : Bool) (s : State)
    (h : accepts 0x02 seq (le 2 (0x4410 + 0x20 * n.val + 4 * b2n b) ++ [1, 0]) s)
    (hmay : hostMay 0x02 seq [hostReg s false (0x4410 + 0x20 * n.val + 4 * b2n b)] s) :
    ∃ t, exec (.captureRead seq n b) s = .next t
      ∧ answers 0x01 (le 4 (capWord (if b then s.pgs[n].cap1 else s.pgs[n].cap0)).toNat) seq t
      ∧ (b = false → t.pgs[n] = { s.pgs[n] with cap0 := { s.pgs[n].cap0 with valid := false, overrun := false } })
      ∧ (b = true → t.pgs[n] = { s.pgs[n] with cap1 := { s.pgs[n].cap1 with valid := false, overrun := false } }) := by
  rw [← captureAddr_toNat n b] at h hmay
  have hreq : captureReadReq seq n b = regReadReq seq (captureAddr n b) 1 := by
    rw [captureReadReq, regReadReq, captureAddr_toNat]
  have hexec : exec (.captureRead seq n b) s
      = complete s (hostAsk (.captureRead seq n b) (regReadReq seq (captureAddr n b) 1) s) := by rw [← hreq]; rfl
  obtain ⟨hnext, hans⟩ := readOne_answers hexec h rfl (regsCut_capture n b s) hmay
  rw [regRead_capture, capRead_word] at hnext hans
  refine ⟨_, hnext, hans, ?_, ?_⟩
  · rintro rfl
    rw [finish_pgs, hostRespond_pgs, capRead_first, taking_pgs]
  · rintro rfl
    rw [finish_pgs, hostRespond_pgs, capRead_second, taking_pgs]

/-! ### RING_READ, JOURNAL_READ and FLASH_READ -/

theorem ringReadBody_entries {i n : Byte} {s : State} (hlo : 1 ≤ n.toNat) (hhi : n.toNat ≤ 32) :
    ringReadBody [i, n] s = answerOk ((List.range n.toNat).flatMap fun k =>
      le 16 (s.ring.entries[(i.toNat + k) % 256]'(Nat.mod_lt _ (by decide))).toNat) := by
  have hindex : numAt [i, n] 0 1 = i.toNat := numAt_byte i [n]
  have hcount : numAt [i, n] 1 1 = n.toNat := (numAt_cons i [n] 0 1).trans (numAt_byte n [])
  have hok : ¬ ([i, n].length ≠ 2 ∨ n.toNat = 0 ∨ 32 < n.toNat) := by
    simp only [List.length_cons, List.length_nil]; omega
  simp only [ringReadBody, hindex, hcount, hok, if_false]

theorem ringReadBody_bad {i n : Byte} {s : State} (h : n = 0 ∨ 32 < n.toNat) :
    ringReadBody [i, n] s = answerBadArg := by
  have hcount : numAt [i, n] 1 1 = n.toNat := (numAt_cons i [n] 0 1).trans (numAt_byte n [])
  have hbad : [i, n].length ≠ 2 ∨ n.toNat = 0 ∨ 32 < n.toNat := .inr (h.imp_left fun h0 => by rw [h0]; rfl)
  simp only [ringReadBody, hcount, hbad, if_true]

theorem ringRead_answers (seq i n : Byte) (s : State) (h : accepts 0x09 seq [i, n] s) (hlo : 1 ≤ n.toNat)
    (hhi : n.toNat ≤ 32) :
    ∃ t, exec (.ringRead seq i n) s = .next t
      ∧ answers 0x01 ((List.range n.toNat).flatMap fun k =>
          le 16 (s.ring.entries[(i.toNat + k) % 256]'(Nat.mod_lt _ (by decide))).toNat) seq t :=
  ⟨_, sync_answers (tc := 0) (tr := 0) rfl h
    (congrArg (Prod.mk _) (ringReadBody_entries (s := taking 0x09 seq [i, n] s) hlo hhi)) rfl rfl (by decide)⟩

theorem ringRead_badCount (seq i n : Byte) (s : State) (h : accepts 0x09 seq [i, n] s) (hn : n = 0 ∨ 32 < n.toNat) :
    ∃ t, exec (.ringRead seq i n) s = .next t ∧ answers 0x10 [] seq t :=
  ⟨_, sync_answers (tc := 0) (tr := 0) rfl h
    (congrArg (Prod.mk _) (ringReadBody_bad (s := taking 0x09 seq [i, n] s) hn)) rfl rfl (by decide)⟩

theorem journalReadBody_one {seq : Byte} {i : Half} {s : State} (hi : i.toNat ≤ 4095) (hok : s.flash.ok = true)
    (htack : hostTack 0x0A seq [hostFlash false (journalAddr s i.toNat) 16] s = (s, none)) :
    journalReadBody seq (le 2 i.toNat ++ [1, 0]) s =
      (s, answerOk (flashBytes s (journalAddr s i.toNat) 16)) := by
  obtain ⟨hindex, hcount, hzero⟩ := numAt_span i 1
  have hone : (1 : Byte).toNat = 1 := rfl
  have hlen : (le 2 i.toNat ++ [1, 0]).length = 4 := by simp
  have hform : ¬ ((le 2 i.toNat ++ [1, 0]).length ≠ 4 ∨ 4095 < i.toNat ∨ 1 = 0 ∨ 32 < 1 ∨ 0 ≠ 0) := by omega
  have hlow : min 1 (4096 - i.toNat) = 1 := by omega
  have hmod : i.toNat % 4096 = i.toNat := Nat.mod_eq_of_lt (by omega)
  simp only [journalReadBody, hindex, hcount, hone, hzero, hform, hlow, hok, if_false]
  simp [htack, hmod]

theorem journalRead_answers (seq : Byte) (i : Half) (s : State) (h : accepts 0x0A seq (le 2 i.toNat ++ [1, 0]) s)
    (hi : i.toNat ≤ 4095) (hok : s.flash.ok = true)
    (hmay : hostMay 0x0A seq [hostFlash false (journalAddr s i.toNat) 16] s) :
    ∃ t, exec (.journalRead seq i 1) s = .next t
      ∧ answers 0x01 (flashBytes s (journalAddr s i.toNat) 16) seq t := by
  have htack := hostTack_taking (p := le 2 i.toNat ++ [1, 0]) hmay
  rw [← taking_journalAddr 0x0A seq (le 2 i.toNat ++ [1, 0])] at htack
  have hbody := journalReadBody_one (s := taking 0x0A seq (le 2 i.toNat ++ [1, 0]) s) hi hok htack
  rw [taking_journalAddr, taking_flashBytes] at hbody
  exact ⟨_, sync_answers (tc := 0) (tr := 0) rfl h hbody rfl rfl (by decide)⟩

/-- The fields of FLASH_READ's payload. -/
theorem numAt_flashRead (a : Word) (n : Half) :
    numAt (le 4 a.toNat ++ le 2 n.toNat ++ [0, 0]) 0 4 = a.toNat
      ∧ numAt (le 4 a.toNat ++ le 2 n.toNat ++ [0, 0]) 4 2 = n.toNat
      ∧ numAt (le 4 a.toNat ++ le 2 n.toNat ++ [0, 0]) 6 2 = 0 := by
  rw [List.append_assoc]
  refine ⟨numAt_le 4 _ _ a.isLt, ?_, ?_⟩
  · rw [numAt_append (by simp), le_length, numAt_le 2 _ _ n.isLt]
  · rw [numAt_append (by simp), le_length, numAt_append (by simp), le_length]; rfl

/-- A FLASH_READ of a range that lies in the flash, which answers, under a Tack that allows it. -/
theorem flashReadCheck_passes {seq : Byte} {a : Word} {n : Half} {s : State} (hlo : 1 ≤ n.toNat) (hhi : n.toNat ≤ 512)
    (hend : a.toNat + n.toNat ≤ flashLimit s) (hok : s.flash.ok = true)
    (htack : hostTack 0x10 seq [hostFlash false a.toNat n.toNat] s = (s, none)) :
    flashReadCheck seq (le 4 a.toNat ++ le 2 n.toNat ++ [0, 0]) s = (s, none) := by
  obtain ⟨haddr, hcount, hzero⟩ := numAt_flashRead a n
  have hlen : (le 4 a.toNat ++ le 2 n.toNat ++ [0, 0]).length = 8 := by simp
  have hform : ¬ ((le 4 a.toNat ++ le 2 n.toNat ++ [0, 0]).length ≠ 8 ∨ 0 ≠ 0 ∨ n.toNat = 0 ∨ 512 < n.toNat
      ∨ flashLimit s < a.toNat + n.toNat) := by omega
  simp only [flashReadCheck, haddr, hcount, hzero, hform, hok, htack, if_false]
  rfl

/-- The flash port has transfer `o` in progress or waiting. -/
def flashHolds (o : FlashOp) (s : State) : Prop := s.flash.current = some o ∨ o ∈ s.flash.waiting

theorem mem_of_flashPick {l r : List FlashOp} {o b : FlashOp} (h : flashPick l = some (b, r)) (ho : o ∈ l) :
    o = b ∨ o ∈ r := by
  induction l generalizing r b with
  | nil => cases ho
  | cons x t ih =>
    rw [flashPick] at h
    split at h
    · cases h
      exact List.mem_cons.mp ho
    · rename_i b' r' hpick
      split at h
      · cases h
        rcases List.mem_cons.mp ho with rfl | ht
        · exact .inr List.mem_cons_self
        · exact (ih hpick ht).imp_right (List.mem_cons_of_mem _)
      · cases h
        exact List.mem_cons.mp ho

/-- A transfer that nothing suspends stays at the port when it serves its queue. -/
theorem flashServe_holds {o : FlashOp} {s : State} (hs : flashSuspends o = false) (h : flashHolds o s) :
    flashHolds o (flashServe s) := by
  unfold flashHolds at h ⊢
  unfold flashServe
  dsimp only
  split
  next c hc =>
    split
    next b r hpick =>
      split
      next hpre =>
        have hw : o ∈ s.flash.waiting := h.resolve_left fun ho => by
          rw [hc, Option.some.injEq] at ho
          simp [ho, hs] at hpre
        exact (mem_of_flashPick hpick hw).imp_left fun ho => by rw [ho]
      next => exact h
    next => exact h
  next hc =>
    have hw : o ∈ s.flash.waiting := h.resolve_left (by simp [hc])
    split
    next b r p hpick _ =>
      split
      · exact (mem_of_flashPick hpick hw).imp_left fun ho => by rw [ho]
      · exact .inr hw
    next b r hpick _ => exact (mem_of_flashPick hpick hw).imp_left fun ho => by rw [ho]
    next => exact .inr hw
    next => exact .inr hw

theorem flashQueue_holds {o : FlashOp} {s : State} (hs : flashSuspends o = false) : flashHolds o (flashQueue o s) :=
  flashServe_holds hs (.inr (List.mem_append_right _ List.mem_cons_self))

/-- The end of a step may ask for a journal transfer; a read stays at the port. -/
theorem finish_holds {o : FlashOp} {a b : State} (hs : flashSuspends o = false) (h : flashHolds o b) :
    flashHolds o (finish a b) := by
  have hflash : (openIrq a b (flush (notice a b))).flash = b.flash := by simp
  have h' : flashHolds o (openIrq a b (flush (notice a b))) := by simpa only [flashHolds, hflash] using h
  unfold finish journalKick
  dsimp only
  split
  · exact flashServe_holds hs (h'.imp_right (List.mem_append_left _))
  · exact h'

theorem flashRead_answers (seq : Byte) (a : Word) (n : Half) (s : State)
    (h : accepts 0x10 seq (le 4 a.toNat ++ le 2 n.toNat ++ [0, 0]) s) (hlo : 1 ≤ n.toNat) (hhi : n.toNat ≤ 512)
    (hend : a.toNat + n.toNat ≤ flashLimit s) (hok : s.flash.ok = true)
    (hmay : hostMay 0x10 seq [hostFlash false a.toNat n.toNat] s) :
    ∃ t, exec (.flashRead seq a n) s = .next t
      ∧ (flashIdle s = true → answers 0x01 (flashBytes s a.toNat n.toNat) seq t)
      ∧ (flashIdle s = false → t.host.job.isSome = true ∧ t.host.rspReady = false
          ∧ (t.flash.current = some (.hostRead a.toNat n.toNat) ∨ .hostRead a.toNat n.toNat ∈ t.flash.waiting)) := by
  obtain ⟨haddr, hcount, -⟩ := numAt_flashRead a n
  rw [← taking_flashLimit 0x10 seq (le 4 a.toNat ++ le 2 n.toNat ++ [0, 0])] at hend
  have hcheck := flashReadCheck_passes (seq := seq) hlo hhi hend hok (hostTack_taking hmay)
  have hask := hostAsk_of_accepts (.flashRead seq a n) (flashReadTurn seq (le 4 a.toNat ++ le 2 n.toNat ++ [0, 0])) h
  have hidle : flashIdle (taking 0x10 seq (le 4 a.toNat ++ le 2 n.toNat ++ [0, 0]) s) = flashIdle s := rfl
  refine ⟨_, congrArg (complete s) hask, fun hi => ?_, fun hb => ?_⟩
  · rw [flashReadTurn, hcheck]
    simp only [haddr, hcount, hidle, hi, if_true]
    rw [answers_finish]
    exact answers_hostRespond (seamFree_taking h.2.2.2) (taking_job _ _ _ _) (by decide)
  · rw [flashReadTurn, hcheck]
    simp only [haddr, hcount, hidle, hb]
    refine ⟨?_, ?_, finish_holds rfl (flashQueue_holds rfl)⟩
    · simp [taking_job]
    · simp [taking, requestTaken]

/-- The end of a host's read: its bytes are the answer, and the port goes on. -/
theorem flashTransferDone_hostRead {a n : Nat} {s : State} (mk : Bool) (hcur : s.flash.current = some (.hostRead a n)) :
    flashTransferDone .ok mk s = flashNext (hostRespond (answerOk (flashBytes s a n)) (flashGood s)) := by
  unfold flashTransferDone
  rw [hcur]

theorem flashOpDone_hostRead (a n : Nat) (mk : Bool) (s : State) (j : HostJob) (hjob : s.host.job = some j)
    (hcur : s.flash.current = some (.hostRead a n)) (hwip : s.flash.wip = false) (hseam : seamFree .host s = true) :
    ∃ t, exec (.flashOpDone .ok mk) s = .next t ∧ answers 0x01 (flashBytes s a n) j.seq t := by
  have hdone : flashOpDone .ok mk s = flashNext (hostRespond (answerOk (flashBytes s a n)) (flashGood s)) := by
    rw [flashOpDone, hwip, if_neg (by decide), flashTransferDone_hostRead mk hcur]
  have hans : answers 0x01 (flashBytes s a n) j.seq (hostRespond (answerOk (flashBytes s a n)) (flashGood s)) :=
    answers_hostRespond hseam hjob (by decide)
  refine ⟨_, congrArg (complete s) hdone, ?_⟩
  rw [answers_finish]
  simpa [answers, flashNext] using hans

/-- Settles O48: each read command does its work in the state `taking` its frame, and its response is what the body of
the command answers there. -/
theorem hostReads : Obligations.HostReads :=
  ⟨ident_answers, regRead_answers, regRead_badSpan, regRead_cut, summary_answers, ringRead_answers, ringRead_badCount,
    journalRead_answers, flashRead_answers, flashOpDone_hostRead, nonceGet_answers, nonceGet_unavailable,
    graftState_answers, captureRead_answers, awlwaitRead_answers⟩

end Sys2Proof.Machine
end

section
/-! PROOFS. A register write of the host can reset Crown (R561): a REG_WRITE of WDASVC then has no response. -/

namespace Sys2Proof.Machine

/-- The fields of REG_WRITE's payload with one value. -/
theorem numAt_regWrite (a : Half) (v : Word) :
    numAt (le 2 a.toNat ++ [1, 0] ++ le 4 v.toNat) 0 2 = a.toNat
      ∧ numAt (le 2 a.toNat ++ [1, 0] ++ le 4 v.toNat) 2 1 = 1
      ∧ numAt (le 2 a.toNat ++ [1, 0] ++ le 4 v.toNat) 3 1 = 0
      ∧ numAt (le 2 a.toNat ++ [1, 0] ++ le 4 v.toNat) 4 4 = v.toNat := by
  have hv : numAt (le 4 v.toNat) 0 4 = v.toNat := by
    rw [← List.append_nil (le 4 v.toNat), numAt_le 4 _ _ v.isLt]
  rw [List.append_assoc]
  refine ⟨numAt_le 2 _ _ a.isLt, ?_, ?_, ?_⟩ <;> rw [numAt_append (by simp), le_length]
  · exact numAt_byte 1 _
  · exact (numAt_cons 1 _ 0 1).trans (numAt_byte 0 _)
  · rw [numAt_append (by simp)]
    exact hv

theorem regWriteBody_one {seq : Byte} {a : Half} {v : Word} {s : State}
    (htack : hostTack 0x03 seq [hostReg s true a.toNat] s = (s, none)) :
    regWriteBody seq (le 2 a.toNat ++ [1, 0] ++ le 4 v.toNat) s = (regWrite .host a.toNat v s, answerOk []) := by
  obtain ⟨haddr, hcount, hzero, hval⟩ := numAt_regWrite a v
  have hlen : (le 2 a.toNat ++ [1, 0] ++ le 4 v.toNat).length = 8 := by simp
  have hvals : (List.range 1).map (fun i =>
      BitVec.ofNat 32 (numAt (le 2 a.toNat ++ [1, 0] ++ le 4 v.toNat) (4 + 4 * i) 4)) = [v] := by
    simp only [List.range_one, List.map_cons, List.map_nil, Nat.mul_zero, Nat.add_zero, hval, BitVec.ofNat_toNat,
      BitVec.setWidth_eq]
  simp only [regWriteBody, haddr, hcount, hzero, hlen, regSpan_one, List.length_singleton, hvals]
  simp only [List.map_cons, List.map_nil, htack]
  rfl

/-- Crown runs where the host port is open. -/
theorem crownRuns_of_open {s : State} (h : isOpen s = true) : crownRuns s = true := by
  unfold crownRuns
  split
  next hp => simp [isOpen, hp] at h
  next hp => simp [isOpen, hp] at h
  next => rfl

/-- A Crown reset ends the host's command without a response. -/
theorem crownReset_host {bits : BitVec 14} {kind : Nat} {keep : Bool} {s : State} (hrun : crownRuns s = true) :
    (crownReset bits kind keep s).host.job = none ∧ (crownReset bits kind keep s).host.rspReady = false := by
  unfold crownReset
  split
  next h => simp [crownRuns, h] at hrun
  next h => simp [crownRuns, h] at hrun
  next => exact ⟨rfl, rfl⟩

/-- R554, R561: a wrong key, with WD-A running and RESET_EN, resets Crown. -/
theorem wdaServe_wrongKey {v : Word} {s : State} (hrun : crownRuns s = true) (hstate : s.wda.state = 1)
    (hreset : flag s.wda.cfg 0 = true) (hkey : v ≠ wdaKey s) :
    (wdaServe v s).host.job = none ∧ (wdaServe v s).host.rspReady = false := by
  have hserve : wdaServe v s = wdaExpire 3 s := by
    simp [wdaServe, hstate, hkey]
  rw [hserve, wdaExpire]
  simp only [hreset, if_true]
  refine crownReset_host ?_
  simpa [crownRuns] using hrun

/-- Without a command in the slot there is nothing to respond to. -/
theorem hostRespond_empty {a : Answer} {s : State} (h : s.host.job = none) :
    (hostRespond a s).host.rspReady = s.host.rspReady := by
  unfold hostRespond
  split
  · have hc : (seamCheck .host none s).host.job = none := h
    simp only [hostAnswer, hc]
    rfl
  · rfl

/-- A REG_WRITE of WDASVC that expires WD-A with RESET_EN leaves no response in the buffer. -/
theorem regWrite_wdaReset {seq : Byte} {v : Word} {s t : State}
    (h : accepts 0x03 seq (le 2 0x1404 ++ [1, 0] ++ le 4 v.toNat) s) (hmay : hostMay 0x03 seq [hostReg s true 0x1404] s)
    (hstate : s.wda.state = 1) (hreset : flag s.wda.cfg 0 = true) (hkey : v ≠ wdaKey s)
    (ht : exec (.regWrite seq 0x1404 [v]) s = .next t) : t.host.rspReady = false := by
  have hreq : regWriteReq seq 0x1404 [v] = syncReq 0x03 seq (le 2 0x1404 ++ [1, 0] ++ le 4 v.toNat) 0 0 := by
    simp [regWriteReq]
  have hbody := regWriteBody_one (a := 0x1404) (v := v) (hostTack_taking (p := le 2 0x1404 ++ [1, 0] ++ le 4 v.toNat) hmay)
  have hrun : crownRuns (taking 0x03 seq (le 2 0x1404 ++ [1, 0] ++ le 4 v.toNat) s) = true := crownRuns_of_open h.1
  obtain ⟨hjob, hready⟩ := wdaServe_wrongKey (v := v) hrun hstate hreset hkey
  have hask : hostAsk (.regWrite seq 0x1404 [v]) (regWriteReq seq 0x1404 [v]) s =
      hostRespond (answerOk []) (wdaServe v (taking 0x03 seq (le 2 0x1404 ++ [1, 0] ++ le 4 v.toNat) s)) := by
    rw [hreq, syncReq, hostAsk_of_accepts _ _ h]
    exact congrArg (fun x : State × Answer => hostRespond x.2 x.1) hbody
  cases (congrArg (complete s) hask).symm.trans ht
  rw [finish_host_rspReady, hostRespond_empty hjob, hready]

/-- A ready device with WD-A running and RESET_EN set. -/
def wdaResets : State :=
  { State.reset with boot := { State.reset.boot with phase := .ready }, wda := { state := 1, cfg := 1 } }

/-- Refutes O49: a REG_WRITE of WDASVC with a wrong key, where WD-A runs with RESET_EN, resets Crown (R561), and the
response that the statement promises is gone with it. -/
theorem not_registerWrites : ¬ Obligations.RegisterWrites := by
  intro h
  obtain ⟨-, -, -, -, -, -, hwrite, -⟩ := h
  have haccepts : accepts 0x03 1 (le 2 (0x1404 : Half).toNat ++ [1, 0] ++ le 4 (0 : Word).toNat) wdaResets := by
    unfold accepts; decide +kernel
  have hmay : hostMay 0x03 1 [hostReg wdaResets true (0x1404 : Half).toNat] wdaResets := by
    unfold hostMay; decide +kernel
  obtain ⟨t, ht, ⟨-, -, -, hready, -⟩, -⟩ := hwrite 1 0x1404 0 wdaResets haccepts hmay
  have hgone := regWrite_wdaReset haccepts hmay rfl rfl (by decide) ht
  rw [hgone] at hready
  cases hready

end Sys2Proof.Machine
end

section
/-! PROOFS. The Sap domain's start and stop, its regulation point and its charger (chapter 15). -/

namespace Sys2Proof.Machine

/-! ### What a cleared Pocket holds (R491) -/

theorem pocketClear_item (s : State) (i : Fin 20) : (pocketClear s).pocket.items[i].state = .absent := by
  simp [pocketClear]

/-! ### Start and stop -/

theorem sapStart_effect {s : State} (hrun : s.sap.running = false) (hfit : s.sap.noReserve = false) :
    (sapStart s).sap = { running := true, cold := true }
      ∧ (sapStart s).pocket = { (pocketClear s).pocket with
          k3Locked := true, k3Cause := 2, powered := false, writeCount := 0, wcSat := false } := by
  simp [sapStart, hrun, hfit]

theorem sapStart_idle {s : State} (h : s.sap.running = true ∨ s.sap.noReserve = true) : sapStart s = s := by
  rcases h with h | h <;> simp [sapStart, h]

theorem sapStop_effect {s : State} (hrun : s.sap.running = true) :
    (sapStop s).sap = {}
      ∧ (sapStop s).pocket = { (pocketClear s).pocket with
          k3Locked := false, k3Cause := 0, powered := false, writeCount := 0, wcSat := false } := by
  simp [sapStop, hrun]

/-! ### The charger (Table 15.3, R445, R446) -/

/-- An event of the Sap domain moves no field of SAPSTAT: parked, it enters the record alone (R463). -/
theorem emitSap_chargeFields (e : Event) (s : State) :
    (emitSap e s).sap.tempHold = s.sap.tempHold ∧ (emitSap e s).sap.charging = s.sap.charging
      ∧ (emitSap e s).sap.level = s.sap.level := by
  unfold emitSap
  split
  · simp
  · unfold park
    split
    · exact ⟨rfl, rfl, rfl⟩
    · split <;> exact ⟨rfl, rfl, rfl⟩

section
variable {mv : Nat} {tc : Int} {s : State}

theorem sapStart_starts (hrun : s.sap.running = false) (hfit : s.sap.noReserve = false) :
    ∃ t, exec .sapStart s = .next t
      ∧ t.sap = { running := true, cold := true } ∧ t.pocket.slots = .replicate 16 0 ∧ t.pocket.nonce = none
      ∧ t.pocket.k3Locked = true ∧ t.pocket.k3Cause = 2 ∧ t.pocket.powered = false ∧ t.pocket.writeCount = 0 := by
  obtain ⟨hsap, hpocket⟩ := sapStart_effect hrun hfit
  refine ⟨_, rfl, ?_⟩
  rw [finish_sap, finish_pocket, hsap, hpocket]
  exact ⟨rfl, rfl, rfl, rfl, rfl, rfl, rfl⟩

theorem sapStart_keeps (h : s.sap.running = true ∨ s.sap.noReserve = true) :
    ∃ t, exec .sapStart s = .next t ∧ t.sap = s.sap ∧ t.pocket = s.pocket := by
  refine ⟨_, rfl, ?_⟩
  simp [sapStart_idle h]

theorem sapStop_empties (hrun : s.sap.running = true) : ∃ t, exec .sapStop s = .next t
      ∧ t.sap.running = false ∧ t.sap.level = 0 ∧ t.sap.clock = 0 ∧ t.pocket.slots = .replicate 16 0
      ∧ t.pocket.nonce = none ∧ t.pocket.powered = false ∧ (∀ i : Fin 20, t.pocket.items[i].state = .absent) := by
  obtain ⟨hsap, hpocket⟩ := sapStop_effect hrun
  refine ⟨_, rfl, ?_⟩
  rw [finish_sap, finish_pocket, hsap, hpocket]
  exact ⟨rfl, rfl, rfl, rfl, rfl, rfl, pocketClear_item s⟩

theorem mpptSample_regulates (hrun : s.sap.running = true) : ∃ t, exec (.mpptSample mv) s = .next t
      ∧ t.sap = { s.sap with sapinMv := mv * mpptFrac s / 32 } := by
  refine ⟨_, rfl, ?_⟩
  simp [hrun]

theorem chargeEnd_capacitor (hrun : s.sap.running = true) (hch : s.sap.charging = true) (hmv : chargeMv s ≤ mv)
    (hkind : reserveLithium s = false) : ∃ t, exec (.chargeEnd mv) s = .next t
      ∧ t.sap = { s.sap with charging := false, ended := true, rsvMv := mv } := by
  refine ⟨_, rfl, ?_⟩
  simp [hrun, hch, hmv, hkind]

theorem chargeEnd_lithium (hrun : s.sap.running = true) (hch : s.sap.charging = true)
    (hkind : reserveLithium s = true) : ∃ t, exec (.chargeEnd mv) s = .next t
      ∧ t.sap = { s.sap with
          charging := false, ended := true, rsvMv := mv, learned := true, capEst := satTo 16 (s.sap.liUj / 100000) } := by
  refine ⟨_, rfl, ?_⟩
  simp [hrun, hch, hkind]

theorem chargeEnd_keeps (h : s.sap.charging = false ∨ (reserveLithium s = false ∧ mv < chargeMv s)) :
    ∃ t, exec (.chargeEnd mv) s = .next t ∧ t.sap = s.sap := by
  refine ⟨_, rfl, ?_⟩
  rcases h with h | ⟨hkind, hmv⟩
  · simp [h]
  · simp [hkind, Nat.not_le.mpr hmv]

theorem chargeRestart_below (hrun : s.sap.running = true) (hrsv : s.sap.rsvPresent = true)
    (hold : s.sap.tempHold = false) (hpath : chargePath s = true) : ∃ t, exec (.chargeRestart mv) s = .next t
      ∧ (mv < restartMv s → t.sap = { s.sap with charging := true, ended := false, rsvMv := mv })
      ∧ (restartMv s ≤ mv → t.sap = s.sap) := by
  refine ⟨_, rfl, fun h => ?_, fun h => ?_⟩
  · simp [hrun, hrsv, hold, hpath, h]
  · simp [Nat.not_lt.mpr h]

theorem chargeRestart_keeps (h : chargePath s = false ∨ s.sap.rsvPresent = false) :
    ∃ t, exec (.chargeRestart mv) s = .next t ∧ t.sap = s.sap := by
  refine ⟨_, rfl, ?_⟩
  rcases h with h | h <;> simp [h]

theorem sapChgTemp_stops (hrun : s.sap.running = true) (hkind : reserveLithium s = true)
    (hold : s.sap.tempHold = false) (hout : tc < chgTmin s ∨ chgTmax s < tc) :
    ∃ t, exec (.sapChgTemp tc) s = .next t
      ∧ t.sap.tempHold = true ∧ t.sap.charging = false ∧ t.sap.level = s.sap.level := by
  refine ⟨_, rfl, ?_⟩
  simp [hrun, hkind, hold, hout, emitSap_chargeFields]

theorem sapChgTemp_keeps (hkind : reserveLithium s = false) :
    ∃ t, exec (.sapChgTemp tc) s = .next t ∧ t.sap = s.sap := by
  refine ⟨_, rfl, ?_⟩
  simp [hkind]

theorem chgTempResume_resumes (hrun : s.sap.running = true) (hold : s.sap.tempHold = true) :
    ∃ t, exec .chgTempResume s = .next t
      ∧ t.sap = { s.sap with tempHold := false, charging := !s.sap.ended && s.sap.rsvPresent && chargePath s } := by
  refine ⟨_, rfl, ?_⟩
  simp [hrun, hold]

end

/-- Settles O32: the start, the stop, the regulation point and each state of the charger of Table 15.3. -/
theorem sapStartStopAndCharge : Obligations.SapStartStopAndCharge :=
  ⟨fun _ => sapStart_starts, fun _ => sapStart_keeps, fun _ => sapStop_empties, fun _ _ => mpptSample_regulates,
    fun _ _ => chargeEnd_capacitor, fun _ _ => chargeEnd_keeps, fun _ _ => chargeEnd_lithium,
    fun _ _ => chargeRestart_below, fun _ _ => chargeRestart_keeps, fun _ _ => sapChgTemp_stops,
    fun _ _ => sapChgTemp_keeps, fun _ => chgTempResume_resumes⟩

end Sys2Proof.Machine
end

section
/-! PROOFS. The rules of a port's operations: what an update of one part of a port shows, what each shared operation of
chapters 09 to 11 leaves of the other ports and of the machine, and what becomes of the port itself. -/

namespace Sys2Proof.Machine

/-! ### The parts of a port after an update of one part -/

section
variable (s : State) (p k : Fin 8)

@[simp] theorem portCc_modCc (f : CcPort → CcPort) : portCc (modCc p f s) p = f (portCc s p) :=
  congrArg Port.cc (modPort_same s p _)
@[simp] theorem portPd_modPd (f : PdPort → PdPort) : portPd (modPd p f s) p = f (portPd s p) :=
  congrArg Port.pd (modPort_same s p _)
@[simp] theorem portCinch_modCinch (f : CinchPort → CinchPort) : portCinch (modCinch p f s) p = f (portCinch s p) :=
  congrArg Port.cinch (modPort_same s p _)
@[simp] theorem portMetro_modMetro (f : MetroPort → MetroPort) : portMetro (modMetro p f s) p = f (portMetro s p) :=
  congrArg Port.metro (modPort_same s p _)

/-- A part of every port that an update of one port keeps there stays as it was at each port. -/
theorem modPort_part {α : Type} (part : Port → α) {f : Port → Port} (h : ∀ q, part (f q) = part q) :
    part (modPort p f s).ports[k] = part s.ports[k] := by
  by_cases hk : k = p
  · subst hk; rw [modPort_same, h]
  · rw [modPort_other s p k f hk]

@[simp] theorem portPd_modCc (f : CcPort → CcPort) : portPd (modCc p f s) k = portPd s k :=
  modPort_part s p k Port.pd fun _ => rfl
@[simp] theorem portCinch_modCc (f : CcPort → CcPort) : portCinch (modCc p f s) k = portCinch s k :=
  modPort_part s p k Port.cinch fun _ => rfl
@[simp] theorem portMetro_modCc (f : CcPort → CcPort) : portMetro (modCc p f s) k = portMetro s k :=
  modPort_part s p k Port.metro fun _ => rfl
@[simp] theorem portCc_modPd (f : PdPort → PdPort) : portCc (modPd p f s) k = portCc s k :=
  modPort_part s p k Port.cc fun _ => rfl
@[simp] theorem portCinch_modPd (f : PdPort → PdPort) : portCinch (modPd p f s) k = portCinch s k :=
  modPort_part s p k Port.cinch fun _ => rfl
@[simp] theorem portMetro_modPd (f : PdPort → PdPort) : portMetro (modPd p f s) k = portMetro s k :=
  modPort_part s p k Port.metro fun _ => rfl
@[simp] theorem portCc_modCinch (f : CinchPort → CinchPort) : portCc (modCinch p f s) k = portCc s k :=
  modPort_part s p k Port.cc fun _ => rfl
@[simp] theorem portPd_modCinch (f : CinchPort → CinchPort) : portPd (modCinch p f s) k = portPd s k :=
  modPort_part s p k Port.pd fun _ => rfl
@[simp] theorem portMetro_modCinch (f : CinchPort → CinchPort) : portMetro (modCinch p f s) k = portMetro s k :=
  modPort_part s p k Port.metro fun _ => rfl
@[simp] theorem portCc_modMetro (f : MetroPort → MetroPort) : portCc (modMetro p f s) k = portCc s k :=
  modPort_part s p k Port.cc fun _ => rfl
@[simp] theorem portPd_modMetro (f : MetroPort → MetroPort) : portPd (modMetro p f s) k = portPd s k :=
  modPort_part s p k Port.pd fun _ => rfl
@[simp] theorem portCinch_modMetro (f : MetroPort → MetroPort) : portCinch (modMetro p f s) k = portCinch s k :=
  modPort_part s p k Port.cinch fun _ => rfl

end

/-! ### Operations on one port -/

/-- From `a` to `b` no other port than `p` changed, nor anything else that the operations of a port read. -/
structure OnPort (p : Fin 8) (a b : State) : Prop where
  power : b.power = a.power
  boot : b.boot = a.boot
  pattern : b.pattern = a.pattern
  wda : b.wda = a.wda
  groups : b.groups = a.groups
  link : b.strap.link = a.strap.link
  lost : b.strap.rootLost = a.strap.rootLost
  holds : b.strap.holds = a.strap.holds
  others : ∀ k : Fin 8, k ≠ p → b.ports[k] = a.ports[k]

/-- The operation leaves the ports as well. -/
structure OffPorts (a b : State) : Prop where
  power : b.power = a.power
  boot : b.boot = a.boot
  pattern : b.pattern = a.pattern
  wda : b.wda = a.wda
  groups : b.groups = a.groups
  link : b.strap.link = a.strap.link
  lost : b.strap.rootLost = a.strap.rootLost
  holds : b.strap.holds = a.strap.holds
  ports : b.ports = a.ports

namespace OnPort
variable {p : Fin 8} {a b c : State}

theorem refl (p : Fin 8) (a : State) : OnPort p a a := ⟨rfl, rfl, rfl, rfl, rfl, rfl, rfl, rfl, fun _ _ => rfl⟩

theorem trans (h : OnPort p a b) (g : OnPort p b c) : OnPort p a c :=
  ⟨g.power.trans h.power, g.boot.trans h.boot, g.pattern.trans h.pattern, g.wda.trans h.wda, g.groups.trans h.groups,
    g.link.trans h.link, g.lost.trans h.lost, g.holds.trans h.holds, fun k hk => (g.others k hk).trans (h.others k hk)⟩

theorem ofOff (h : OffPorts a b) : OnPort p a b :=
  ⟨h.power, h.boot, h.pattern, h.wda, h.groups, h.link, h.lost, h.holds, fun k _ => by rw [h.ports]⟩

theorem ite {c : Prop} [Decidable c] {x y : State} (hx : OnPort p a x) (hy : OnPort p a y) :
    OnPort p a (if c then x else y) := by
  split
  · exact hx
  · exact hy

theorem cc (h : OnPort p a b) {k : Fin 8} (hk : k ≠ p) : portCc b k = portCc a k := congrArg Port.cc (h.others k hk)
theorem pd (h : OnPort p a b) {k : Fin 8} (hk : k ≠ p) : portPd b k = portPd a k := congrArg Port.pd (h.others k hk)
theorem cinch (h : OnPort p a b) {k : Fin 8} (hk : k ≠ p) : portCinch b k = portCinch a k :=
  congrArg Port.cinch (h.others k hk)
theorem metro (h : OnPort p a b) {k : Fin 8} (hk : k ≠ p) : portMetro b k = portMetro a k :=
  congrArg Port.metro (h.others k hk)

theorem powered (h : OnPort p a b) (k : Fin 8) : portPowered b k = portPowered a k := by
  simp only [portPowered, h.power]

theorem ready (h : OnPort p a b) : isReady b = isReady a := by simp only [isReady, h.boot]

theorem used (h : OnPort p a b) (k : Fin 8) : portUsed b k = portUsed a k := by
  simp only [portUsed, h.ready, h.pattern]

end OnPort

namespace OffPorts
variable {a b : State} (h : OffPorts a b) (k : Fin 8)
include h

theorem cc : portCc b k = portCc a k := by simp only [portCc, h.ports]
theorem pd : portPd b k = portPd a k := by simp only [portPd, h.ports]
theorem cinch : portCinch b k = portCinch a k := by simp only [portCinch, h.ports]
theorem metro : portMetro b k = portMetro a k := by simp only [portMetro, h.ports]

end OffPorts

section
variable (s : State) (p k : Fin 8)

theorem modPort_onPort (f : Port → Port) : OnPort p s (modPort p f s) :=
  ⟨rfl, rfl, rfl, rfl, rfl, rfl, rfl, rfl, fun k hk => modPort_other s p k f hk⟩
theorem modCc_onPort (f : CcPort → CcPort) : OnPort p s (modCc p f s) := modPort_onPort s p _
theorem modPd_onPort (f : PdPort → PdPort) : OnPort p s (modPd p f s) := modPort_onPort s p _
theorem modCinch_onPort (f : CinchPort → CinchPort) : OnPort p s (modCinch p f s) := modPort_onPort s p _
theorem modMetro_onPort (f : MetroPort → MetroPort) : OnPort p s (modMetro p f s) := modPort_onPort s p _

/-! ### Operations that leave every port alone -/

theorem emit_offPorts (e : Event) : OffPorts s (emit e s) := by constructor <;> simp
theorem evp_offPorts (code sev : Nat) (data : List Byte) : OffPorts s (evp p code sev data s) := emit_offPorts s _

theorem rootEv_offPorts (e : Event) : OffPorts s (rootEv e s) := by
  unfold rootEv
  split
  · exact emit_offPorts s e
  · constructor <;> rfl

theorem pgDisown_offPorts : OffPorts s (pgDisown p s) := by
  unfold pgDisown
  split <;> constructor <;> rfl

theorem unwantBy_offPorts (gone : AwlUse → Bool) : OffPorts s (unwantBy gone s) := by constructor <;> rfl

theorem eraseItem_offPorts (i : Fin 20) : OffPorts s (eraseItem i s) := by
  unfold eraseItem
  split <;> constructor <;> rfl

@[simp] theorem portCc_emit (e : Event) : portCc (emit e s) k = portCc s k := (emit_offPorts s e).cc k
@[simp] theorem portPd_emit (e : Event) : portPd (emit e s) k = portPd s k := (emit_offPorts s e).pd k
@[simp] theorem portCinch_emit (e : Event) : portCinch (emit e s) k = portCinch s k := (emit_offPorts s e).cinch k
@[simp] theorem portMetro_emit (e : Event) : portMetro (emit e s) k = portMetro s k := (emit_offPorts s e).metro k
@[simp] theorem portCc_evp (c v : Nat) (d : List Byte) : portCc (evp p c v d s) k = portCc s k := portCc_emit s k _
@[simp] theorem portPd_evp (c v : Nat) (d : List Byte) : portPd (evp p c v d s) k = portPd s k := portPd_emit s k _
@[simp] theorem portCinch_evp (c v : Nat) (d : List Byte) : portCinch (evp p c v d s) k = portCinch s k :=
  portCinch_emit s k _
@[simp] theorem portMetro_evp (c v : Nat) (d : List Byte) : portMetro (evp p c v d s) k = portMetro s k :=
  portMetro_emit s k _
@[simp] theorem portCc_pgDisown : portCc (pgDisown p s) k = portCc s k := (pgDisown_offPorts s p).cc k
@[simp] theorem portPd_pgDisown : portPd (pgDisown p s) k = portPd s k := (pgDisown_offPorts s p).pd k
@[simp] theorem portCinch_pgDisown : portCinch (pgDisown p s) k = portCinch s k := (pgDisown_offPorts s p).cinch k
@[simp] theorem portMetro_pgDisown : portMetro (pgDisown p s) k = portMetro s k := (pgDisown_offPorts s p).metro k

@[simp] theorem portCc_unwantAll : portCc (unwantAll p s) k = portCc s k := rfl
@[simp] theorem portPd_unwantAll : portPd (unwantAll p s) k = portPd s k := rfl
@[simp] theorem portCinch_unwantAll : portCinch (unwantAll p s) k = portCinch s k := rfl

/-! ### The end of an authentication (R303) -/

theorem authEnd_off : OffPorts s (eraseItem (sessionItem p) (unwant p s)) := by
  have h := unwantBy_offPorts s fun u => authPort u = some p
  have g := eraseItem_offPorts (unwant p s) (sessionItem p)
  exact ⟨g.power.trans h.power, g.boot.trans h.boot, g.pattern.trans h.pattern, g.wda.trans h.wda,
    g.groups.trans h.groups, g.link.trans h.link, g.lost.trans h.lost, g.holds.trans h.holds, g.ports.trans h.ports⟩

theorem authEnd_onPort : OnPort p s (authEnd p s) := by
  rw [authEnd, authClear]
  exact (OnPort.ofOff (authEnd_off s p)).trans (modPd_onPort _ p _)

@[simp] theorem portCc_authEnd : portCc (authEnd p s) k = portCc s k := by
  rw [authEnd, authClear, portCc_modPd, (authEnd_off s p).cc]
@[simp] theorem portCinch_authEnd : portCinch (authEnd p s) k = portCinch s k := by
  rw [authEnd, authClear, portCinch_modPd, (authEnd_off s p).cinch]
@[simp] theorem portPd_authEnd : portPd (authEnd p s) p = { portPd s p with
    auth := .none, authReason := 0, authChain := [], authCerts := 0, authTime := 0, authAwait := false, authHeld := false } := by
  rw [authEnd, authClear, portPd_modPd, (authEnd_off s p).pd]

/-! ### CC lines and debounces -/

@[simp] theorem portCc_present (t : CcTerm) : portCc (present p t s) p =
    { portCc s p with term := if portPowered s p then t else .opened } := portCc_modCc s p _
@[simp] theorem portPd_present (t : CcTerm) : portPd (present p t s) k = portPd s k := portPd_modCc s p k _
@[simp] theorem portCinch_present (t : CcTerm) : portCinch (present p t s) k = portCinch s k := portCinch_modCc s p k _
theorem present_onPort (t : CcTerm) : OnPort p s (present p t s) := modCc_onPort s p _

theorem vconnOff_onPort : OnPort p s (vconnOff p s) := .ite (modCc_onPort s p _) (.refl p s)
@[simp] theorem portPd_vconnOff : portPd (vconnOff p s) k = portPd s k := by
  unfold vconnOff; split <;> simp
@[simp] theorem portCinch_vconnOff : portCinch (vconnOff p s) k = portCinch s k := by
  unfold vconnOff; split <;> simp
/-- Turning VCONN off touches the switch and the discharge of its line alone (R246). -/
theorem vconnOff_cc : ∃ on d, portCc (vconnOff p s) p = { portCc s p with vconnOn := on, ccDischarge := d } := by
  unfold vconnOff
  split
  · exact ⟨false, true, by simp⟩
  · exact ⟨_, _, rfl⟩

theorem debReport_onPort (t : DebTimer) (ms : Nat) : OnPort p s (debReport p t ms s) :=
  (modCc_onPort s p _).trans (.ofOff (evp_offPorts _ p _ _ _))
@[simp] theorem portCc_debReport (t : DebTimer) (ms : Nat) : portCc (debReport p t ms s) p =
    { portCc s p with debExtended := false, debExts := bump 6 (portCc s p).debExts } := by simp [debReport]
@[simp] theorem portPd_debReport (t : DebTimer) (ms : Nat) : portPd (debReport p t ms s) k = portPd s k := by
  simp [debReport]
@[simp] theorem portCinch_debReport (t : DebTimer) (ms : Nat) : portCinch (debReport p t ms s) k = portCinch s k := by
  simp [debReport]
@[simp] theorem portMetro_debReport (t : DebTimer) (ms : Nat) : portMetro (debReport p t ms s) k = portMetro s k := by
  simp [debReport]

/-- The running debounce is dropped; a lengthened one is reported besides (R261). -/
theorem debounceDrop_cases : debounceDrop p s = modCc p (fun c => { c with debounce := none, debExtended := false }) s
    ∨ ∃ t ms, debounceDrop p s = debReport p t ms (modCc p (fun c => { c with debounce := none, debExtended := false }) s) := by
  unfold debounceDrop
  dsimp only
  split
  · split
    · exact .inr ⟨_, _, rfl⟩
    · exact .inl rfl
  · exact .inl rfl

theorem debounceDrop_onPort : OnPort p s (debounceDrop p s) := by
  rcases debounceDrop_cases s p with h | ⟨t, ms, h⟩ <;> rw [h]
  · exact modCc_onPort s p _
  · exact (modCc_onPort s p _).trans (debReport_onPort _ p _ _)
@[simp] theorem portPd_debounceDrop : portPd (debounceDrop p s) k = portPd s k := by
  rcases debounceDrop_cases s p with h | ⟨t, ms, h⟩ <;> simp [h]
@[simp] theorem portCinch_debounceDrop : portCinch (debounceDrop p s) k = portCinch s k := by
  rcases debounceDrop_cases s p with h | ⟨t, ms, h⟩ <;> simp [h]
@[simp] theorem portMetro_debounceDrop : portMetro (debounceDrop p s) k = portMetro s k := by
  rcases debounceDrop_cases s p with h | ⟨t, ms, h⟩ <;> simp [h]
/-- A debounce that ends without completing leaves none, and at most counts in DEB_EXTS (R261). -/
theorem debounceDrop_cc : ∃ n, portCc (debounceDrop p s) p =
    { portCc s p with debounce := none, debExtended := false, debExts := n } := by
  rcases debounceDrop_cases s p with h | ⟨t, ms, h⟩
  · exact ⟨(portCc s p).debExts, by simp [h]⟩
  · exact ⟨bump 6 (portCc s p).debExts, by simp [h]⟩

theorem debounceStart_onPort (t : DebTimer) : OnPort p s (debounceStart p t s) :=
  (debounceDrop_onPort s p).trans (modCc_onPort _ p _)
@[simp] theorem portPd_debounceStart (t : DebTimer) : portPd (debounceStart p t s) k = portPd s k := by
  simp [debounceStart]
@[simp] theorem portCinch_debounceStart (t : DebTimer) : portCinch (debounceStart p t s) k = portCinch s k := by
  simp [debounceStart]
/-- A debounce that starts changes nothing of the lines but itself. -/
theorem debounceStart_cc (t : DebTimer) : ∃ d n, portCc (debounceStart p t s) p =
    { portCc s p with debounce := d, debExtended := false, debExts := n } := by
  obtain ⟨n, h⟩ := debounceDrop_cc s p
  exact ⟨some { timer := t, startAt := s.time.now, firstFlood := if (portCc s p).floodNow then some s.time.now else none },
    n, by simp only [debounceStart, portCc_modCc, h]⟩

@[simp] theorem portCc_setCcState (st : CcState) : portCc (setCcState p st s) p = { portCc s p with state := st } :=
  portCc_modCc s p _
@[simp] theorem portPd_setCcState (st : CcState) : portPd (setCcState p st s) k = portPd s k := portPd_modCc s p k _
@[simp] theorem portCinch_setCcState (st : CcState) : portCinch (setCcState p st s) k = portCinch s k :=
  portCinch_modCc s p k _
theorem setCcState_onPort (st : CcState) : OnPort p s (setCcState p st s) := modCc_onPort s p _

@[simp] theorem portCc_ovpOver : portCc (ovpOver p s) p = { portCc s p with ovpTrip := false } := portCc_modCc s p _
@[simp] theorem portPd_ovpOver : portPd (ovpOver p s) k = portPd s k := portPd_modCc s p k _
@[simp] theorem portCinch_ovpOver : portCinch (ovpOver p s) k = portCinch s k := portCinch_modCc s p k _
theorem ovpOver_onPort : OnPort p s (ovpOver p s) := modCc_onPort s p _

/-! ### Gates and discharge -/

theorem gatesLow_onPort : OnPort p s (gatesLow p s) := (OnPort.ofOff (pgDisown_offPorts s p)).trans (modCinch_onPort _ p _)
@[simp] theorem portCc_gatesLow : portCc (gatesLow p s) k = portCc s k := by simp [gatesLow]
@[simp] theorem portPd_gatesLow : portPd (gatesLow p s) k = portPd s k := by simp [gatesLow]
@[simp] theorem portCinch_gatesLow : portCinch (gatesLow p s) p =
    { portCinch s p with gates := false, compliance := false, ceiling := false, inrushReadings := 0 } := by simp [gatesLow]

theorem dischargeOn_onPort : OnPort p s (dischargeOn p s) := modCinch_onPort s p _
@[simp] theorem portCc_dischargeOn : portCc (dischargeOn p s) k = portCc s k := portCc_modCinch s p k _
@[simp] theorem portPd_dischargeOn : portPd (dischargeOn p s) k = portPd s k := portPd_modCinch s p k _
theorem dischargeOn_cinch : ∃ d st, portCinch (dischargeOn p s) p = { portCinch s p with dsch := d, st := st } :=
  ⟨_, _, portCinch_modCinch s p _⟩

theorem gatesOff_onPort : OnPort p s (gatesOff p s) := by
  unfold gatesOff
  split
  · exact .ite ((gatesLow_onPort s p).trans (dischargeOn_onPort _ p))
      ((gatesLow_onPort s p).trans (modCinch_onPort _ p _))
  · exact .refl p s
@[simp] theorem portCc_gatesOff : portCc (gatesOff p s) k = portCc s k := by
  unfold gatesOff; split
  · split <;> simp
  · rfl
@[simp] theorem portPd_gatesOff : portPd (gatesOff p s) k = portPd s k := by
  unfold gatesOff; split
  · split <;> simp
  · rfl

theorem gatesOff_gates : (portCinch (gatesOff p s) p).gates = false := by
  unfold gatesOff
  split
  · split
    · obtain ⟨d, st, h⟩ := dischargeOn_cinch (gatesLow p s) p
      simp [h]
    · simp
  next h => simpa using h

theorem gatesDark_onPort : OnPort p s (gatesDark p s) := (gatesLow_onPort s p).trans (dischargeOn_onPort _ p)
@[simp] theorem portCc_gatesDark : portCc (gatesDark p s) k = portCc s k := by simp [gatesDark]
@[simp] theorem portPd_gatesDark : portPd (gatesDark p s) k = portPd s k := by simp [gatesDark]
theorem gatesDark_cinch : ∃ d st, portCinch (gatesDark p s) p = { portCinch s p with
    gates := false, compliance := false, ceiling := false, inrushReadings := 0, dsch := d, st := st } := by
  obtain ⟨d, st, h⟩ := dischargeOn_cinch (gatesLow p s) p
  exact ⟨d, st, by rw [gatesDark, h, portCinch_gatesLow]⟩

/-! ### Contracts -/

theorem setTarget_onPort (mv : Nat) : OnPort p s (setTarget p mv s) :=
  .ite (.refl p s) ((modCinch_onPort s p _).trans (modMetro_onPort _ p _))
@[simp] theorem portCc_setTarget (mv : Nat) : portCc (setTarget p mv s) k = portCc s k := by
  unfold setTarget; split <;> simp
@[simp] theorem portPd_setTarget (mv : Nat) : portPd (setTarget p mv s) k = portPd s k := by
  unfold setTarget; split <;> simp
/-- The loop's target moves, and the threshold's older voltage with it (R283, R324). -/
theorem setTarget_cinch (mv : Nat) : ∃ o, portCinch (setTarget p mv s) p = { portCinch s p with oldMv := o, contractMv := mv } := by
  unfold setTarget
  split
  next h => subst h; exact ⟨_, rfl⟩
  · exact ⟨_, by simp; rfl⟩

theorem contractOver_onPort : OnPort p s (contractOver p s) := (setTarget_onPort s p 5000).trans (modMetro_onPort _ p _)
@[simp] theorem portCc_contractOver : portCc (contractOver p s) k = portCc s k := by simp [contractOver]
@[simp] theorem portPd_contractOver : portPd (contractOver p s) k = portPd s k := by simp [contractOver]
theorem contractOver_cinch : ∃ o, portCinch (contractOver p s) p = { portCinch s p with oldMv := o, contractMv := 5000 } := by
  simpa [contractOver] using setTarget_cinch s p 5000

theorem pdEnd_onPort : OnPort p s (pdEnd p s) := (modPd_onPort s p _).trans (contractOver_onPort _ p)
@[simp] theorem portCc_pdEnd : portCc (pdEnd p s) k = portCc s k := by simp [pdEnd]
theorem pdEnd_explicit : (portPd (pdEnd p s) p).explicit = false := by simp [pdEnd]
theorem pdEnd_cinch : ∃ o, portCinch (pdEnd p s) p = { portCinch s p with oldMv := o, contractMv := 5000 } := by
  simpa [pdEnd] using contractOver_cinch (modPd p _ s) p

theorem clearLevels_onPort : OnPort p s (clearLevels p s) := modPd_onPort s p _
@[simp] theorem portCc_clearLevels : portCc (clearLevels p s) k = portCc s k := portCc_modPd s p k _
@[simp] theorem portCinch_clearLevels : portCinch (clearLevels p s) k = portCinch s k := portCinch_modPd s p k _
@[simp] theorem clearLevels_explicit : (portPd (clearLevels p s) p).explicit = (portPd s p).explicit := by
  simp [clearLevels]

/-! ### Leaving an attach -/

theorem backfeedEnd_onPort (cause : Nat) : OnPort p s (backfeedEnd p cause s) :=
  .ite ((modCinch_onPort s p _).trans (.ofOff (evp_offPorts _ p _ _ _))) (.refl p s)
@[simp] theorem portCc_backfeedEnd (cause : Nat) : portCc (backfeedEnd p cause s) k = portCc s k := by
  unfold backfeedEnd; split <;> simp
theorem backfeedEnd_cinch (cause : Nat) : ∃ st, portCinch (backfeedEnd p cause s) p =
    { portCinch s p with backfeed := false, st := st } := by
  unfold backfeedEnd
  split
  · exact ⟨_, by simp; rfl⟩
  next h =>
    have h : (portCinch s p).backfeed = false := by simpa using h
    exact ⟨(portCinch s p).st, by rw [← h]⟩

theorem portLeave_onPort (cause : Nat) : OnPort p s (portLeave p cause s) :=
  (backfeedEnd_onPort s p cause).trans <| (debounceDrop_onPort _ p).trans <| (vconnOff_onPort _ p).trans <|
    (OnPort.ofOff (unwantBy_offPorts _ _)).trans <| (pdEnd_onPort _ p).trans <| (authEnd_onPort _ p).trans <|
    clearLevels_onPort _ p

/-- Leaving an attach ends the debounce and VCONN of the lines; their state and termination are the caller's. -/
theorem portLeave_cc (cause : Nat) : ∃ on d n, portCc (portLeave p cause s) p = { portCc s p with
    debounce := none, debExtended := false, vconnOn := on, ccDischarge := d, debExts := n } := by
  obtain ⟨n, hdrop⟩ := debounceDrop_cc (backfeedEnd p cause s) p
  obtain ⟨on, d, hoff⟩ := vconnOff_cc (debounceDrop p (backfeedEnd p cause s)) p
  exact ⟨on, d, n, by simp [portLeave, hoff, hdrop]⟩

/-- Of the power path, backfeed and the contract end. -/
theorem portLeave_cinch (cause : Nat) : ∃ st o, portCinch (portLeave p cause s) p = { portCinch s p with
    backfeed := false, st := st, oldMv := o, contractMv := 5000 } := by
  obtain ⟨st, hback⟩ := backfeedEnd_cinch s p cause
  obtain ⟨o, hpd⟩ := pdEnd_cinch (unwantAll p (vconnOff p (debounceDrop p (backfeedEnd p cause s)))) p
  exact ⟨st, o, by simp [portLeave, hpd, hback]⟩

theorem portLeave_explicit (cause : Nat) : (portPd (portLeave p cause s) p).explicit = false := by
  simp [portLeave, pdEnd_explicit]

/-! ### Out of service (R81, R329, R334) -/

theorem outOfService_onPort : OnPort p s (outOfService p s) :=
  (gatesDark_onPort s p).trans <| (portLeave_onPort _ p 2).trans <| (setCcState_onPort _ p _).trans <|
    (ovpOver_onPort _ p).trans (present_onPort _ p _)

theorem outOfService_cc : (portCc (outOfService p s) p).state = .outOfService
    ∧ (portCc (outOfService p s) p).term = .opened := by
  simp [outOfService]

theorem outOfService_explicit : (portPd (outOfService p s) p).explicit = false := by
  simp [outOfService, portLeave_explicit]

theorem outOfService_cinch : ∃ d st o, portCinch (outOfService p s) p = { portCinch s p with
    gates := false, compliance := false, ceiling := false, inrushReadings := 0, dsch := d, st := st, backfeed := false
    oldMv := o, contractMv := 5000 } := by
  obtain ⟨d, _, hdark⟩ := gatesDark_cinch s p
  obtain ⟨st, o, hleave⟩ := portLeave_cinch (gatesDark p s) p 2
  exact ⟨d, st, o, by simp [outOfService, hleave, hdark]⟩

theorem groupHoldOut_onPort : OnPort p s (groupHoldOut p s) := (outOfService_onPort s p).trans (modCinch_onPort _ p _)

/-! ### Ports in turn -/

/-- What each operation keeps, the operations on some ports keep. -/
theorem onPorts_keeps {P : State → Prop} {f : Fin 8 → State → State} (h : ∀ k s, P s → P (f k s)) (ps : List (Fin 8))
    {s : State} (hs : P s) : P (onPorts ps f s) := by
  induction ps generalizing s with
  | nil => exact hs
  | cons q ps ih => exact ih (h q s hs)

/-- What the operation on a port brings about there, and the operations on the other ports keep, holds at each in the end. -/
theorem onPorts_each {I : State → Prop} {Q : Fin 8 → State → Prop} {f : Fin 8 → State → State}
    (hI : ∀ k s, I s → I (f k s)) (hown : ∀ k s, I s → Q k (f k s))
    (hother : ∀ k q s, q ≠ k → I s → Q q s → Q q (f k s)) {ps : List (Fin 8)} {s : State} (hs : I s) {k : Fin 8}
    (hk : k ∈ ps) : Q k (onPorts ps f s) := by
  have hstep : ∀ j t, (I t ∧ Q k t) → I (f j t) ∧ Q k (f j t) := by
    intro j t ⟨hIt, hQ⟩
    by_cases hj : k = j
    · exact ⟨hI j t hIt, hj ▸ hown k t hIt⟩
    · exact ⟨hI j t hIt, hother j k t hj hIt hQ⟩
  induction ps generalizing s with
  | nil => cases hk
  | cons q ps ih =>
    rcases List.mem_cons.mp hk with rfl | hk
    · exact (onPorts_keeps (P := fun t => I t ∧ Q k t) hstep ps ⟨hI k s hs, hown k s hs⟩).2
    · exact ih (hI q s hs) hk

/-- What holding a port out keeps, the end of backfeed in its group keeps (R334). -/
theorem groupAfterBackfeed_keeps {P : State → Prop} (h : ∀ k s, P s → P (groupHoldOut k s)) (g : Fin 2) {s : State}
    (hs : P s) : P (groupAfterBackfeed g s) := by
  unfold groupAfterBackfeed
  split
  · refine onPorts_keeps (fun k t ht => ?_) _ hs
    split
    · exact ht
    · exact h k t ht
  · exact hs

/-! ### Unattached -/

theorem srcDebounce_onPort (t : DebTimer) : OnPort p s (srcDebounce p t s) :=
  (modCc_onPort s p _).trans (debounceStart_onPort _ p t)
@[simp] theorem portPd_srcDebounce (t : DebTimer) : portPd (srcDebounce p t s) k = portPd s k := by simp [srcDebounce]
@[simp] theorem portCinch_srcDebounce (t : DebTimer) : portCinch (srcDebounce p t s) k = portCinch s k := by
  simp [srcDebounce]
theorem srcDebounce_cc (t : DebTimer) : ∃ d n r, portCc (srcDebounce p t s) p =
    { portCc s p with debounce := d, debExtended := false, debExts := n, raSeen := r } := by
  obtain ⟨d, n, h⟩ := debounceStart_cc (modCc p (fun c => { c with raSeen := raOpposite c }) s) p t
  exact ⟨d, n, _, by rw [srcDebounce, h, portCc_modCc]⟩

end

end Sys2Proof.Machine
end

section
/-! PROOFS. Attach and detach at a Type-C port (chapter 09): what recognition, an Unattached state, the debounces, the
Try.SRC path and the loss of VBUS make of a port. -/

namespace Sys2Proof.Machine

/-! ### The end of a step at a port -/

section
variable (a b : State) (p : Fin 8)

/-- The entries of a step touch LAST_EVENT alone. -/
theorem finish_portPd : ∃ c, portPd (finish a b) p = { portPd b p with lastEvent := c } := by
  obtain ⟨c, h⟩ := finish_port a b p
  exact ⟨c, congrArg Port.pd h⟩

@[simp] theorem serviceable_finish : serviceable (finish a b) p = serviceable b p := by simp [serviceable]

end

/-! ### Conditions -/

theorem serviceable_of_onPort {p k : Fin 8} {a b : State} (h : OnPort k a b) (hc : portCinch b p = portCinch a p) :
    serviceable b p = serviceable a p := by
  simp only [serviceable, h.boot, h.pattern, h.wda, hc]

theorem standTimes_parts {s : State} {p : Fin 8} (h : standTimes s p = true) :
    standActs s p = true ∧ s.power.refoscRunning = true := by simpa [standTimes] using h

theorem ready_of_standTimes {s : State} {p : Fin 8} (h : standTimes s p = true) : s.boot.phase = .ready := by
  have hacts : standActs s p = true := (standTimes_parts h).1
  simp only [standActs, Bool.and_eq_true] at hacts
  simpa [isReady] using hacts.1.1

theorem not_limp_of_standTimes {s : State} {p : Fin 8} (h : standTimes s p = true) : s.boot.phase ≠ .limp := by
  rw [ready_of_standTimes h]; decide

theorem ccRuns_of_standTimes {s : State} {p : Fin 8} (h : standTimes s p = true) : ccRuns s p = true := by
  simp [ccRuns, h]

section
variable {c : CcPort}

theorem srcSees_of_bothOpen (h : bothOpen c = true) : srcSees c = false := by
  simp only [bothOpen, Bool.and_eq_true, decide_eq_true_eq] at h
  simp [srcSees, oneRd, h]

theorem snkSees_of_bothOpen (h : bothOpen c = true) : snkSees c = false := by
  simp only [bothOpen, Bool.and_eq_true, decide_eq_true_eq] at h
  simp [snkSees, oneRp, isRp, h]

end

/-! ### Recognition (R237, R238) -/

/-- The state that a change of recognition leads to: AttachWait from Unattached where a partner is seen. -/
def ccNext (c : CcPort) : CcState :=
  match c.state with
  | .unattachedSrc => if srcSees c then .attachWaitSrc else .unattachedSrc
  | .unattachedSnk => if snkSees c then .attachWaitSnk else .unattachedSnk
  | st => st

section
variable (s : State) (p k : Fin 8)

theorem ccEvaluate_onPort : OnPort p s (ccEvaluate p s) := by
  unfold ccEvaluate
  dsimp only
  split
  · exact .ite ((setCcState_onPort s p _).trans (srcDebounce_onPort _ p _)) (.refl p s)
  · exact .ite ((setCcState_onPort s p _).trans (debounceStart_onPort _ p _)) (.refl p s)
  · exact .ite (srcDebounce_onPort s p _) (srcDebounce_onPort s p _)
  · exact .ite (debounceStart_onPort s p _) (debounceStart_onPort s p _)
  · exact .ite (srcDebounce_onPort s p _) (debounceDrop_onPort s p)
  · exact .ite (debounceStart_onPort s p _) (.ite (debounceStart_onPort s p _) (debounceDrop_onPort s p))
  · exact .ite (debounceDrop_onPort s p) (debounceStart_onPort s p _)
  · exact .ite (.ite (debounceDrop_onPort s p) (debounceStart_onPort s p _)) (.refl p s)
  · exact .refl p s

@[simp] theorem portPd_ccEvaluate : portPd (ccEvaluate p s) k = portPd s k := by
  unfold ccEvaluate
  dsimp only
  split <;> (repeat' split) <;> simp

@[simp] theorem portCinch_ccEvaluate : portCinch (ccEvaluate p s) k = portCinch s k := by
  unfold ccEvaluate
  dsimp only
  split <;> (repeat' split) <;> simp

/-- `b` differs from `a` at most in the debounce that runs and what it counts. -/
def sameLines (a b : CcPort) : Prop :=
  ∃ d e n r, b = { a with debounce := d, debExtended := e, debExts := n, raSeen := r }

theorem sameLines.refl (c : CcPort) : sameLines c c := ⟨c.debounce, c.debExtended, c.debExts, c.raSeen, rfl⟩

theorem debounceDrop_sameLines : sameLines (portCc s p) (portCc (debounceDrop p s) p) := by
  obtain ⟨n, h⟩ := debounceDrop_cc s p
  exact ⟨none, false, n, _, h⟩

theorem debounceStart_sameLines (t : DebTimer) : sameLines (portCc s p) (portCc (debounceStart p t s) p) := by
  obtain ⟨d, n, h⟩ := debounceStart_cc s p t
  exact ⟨d, false, n, _, h⟩

theorem srcDebounce_sameLines (t : DebTimer) : sameLines (portCc s p) (portCc (srcDebounce p t s) p) := by
  obtain ⟨d, n, r, h⟩ := srcDebounce_cc s p t
  exact ⟨d, false, n, r, h⟩

theorem ccNext_stays {c : CcPort} (h : ccNext c = c.state) : ({ c with state := ccNext c } : CcPort) = c := by rw [h]

/-- A change of recognition moves the state and the debounce alone. -/
theorem ccEvaluate_sameLines :
    sameLines { portCc s p with state := ccNext (portCc s p) } (portCc (ccEvaluate p s) p) := by
  unfold ccEvaluate
  dsimp only
  split
  case h_1 h =>
    split
    next hsee => simpa [ccNext, h, hsee] using srcDebounce_sameLines (setCcState p .attachWaitSrc s) p .cc
    next hsee => rw [ccNext_stays (by simp [ccNext, h, hsee])]; exact .refl _
  case h_2 h =>
    split
    next hsee => simpa [ccNext, h, hsee] using debounceStart_sameLines (setCcState p .attachWaitSnk s) p .cc
    next hsee => rw [ccNext_stays (by simp [ccNext, h, hsee])]; exact .refl _
  case h_9 hsrc hsnk _ _ _ _ _ _ =>
    rw [ccNext_stays (by unfold ccNext; split <;> simp_all)]
    exact .refl _
  case h_3 h => rw [ccNext_stays (by simp [ccNext, h])]; split <;> exact srcDebounce_sameLines s p _
  case h_4 h => rw [ccNext_stays (by simp [ccNext, h])]; split <;> exact debounceStart_sameLines s p _
  case h_5 h =>
    rw [ccNext_stays (by simp [ccNext, h])]
    split
    · exact srcDebounce_sameLines s p _
    · exact debounceDrop_sameLines s p
  case h_6 h =>
    rw [ccNext_stays (by simp [ccNext, h])]
    split
    · exact debounceStart_sameLines s p _
    · split
      · exact debounceStart_sameLines s p _
      · exact debounceDrop_sameLines s p
  case h_7 h =>
    rw [ccNext_stays (by simp [ccNext, h])]
    split
    · exact debounceDrop_sameLines s p
    · exact debounceStart_sameLines s p _
  case h_8 h =>
    rw [ccNext_stays (by simp [ccNext, h])]
    split
    · split
      · exact debounceDrop_sameLines s p
      · exact debounceStart_sameLines s p _
    · exact .refl _

/-- The state after a change of recognition. -/
theorem ccEvaluate_state : (portCc (ccEvaluate p s) p).state = ccNext (portCc s p) := by
  obtain ⟨d, e, n, r, h⟩ := ccEvaluate_sameLines s p
  rw [h]

theorem ccEvaluate_term : (portCc (ccEvaluate p s) p).term = (portCc s p).term := by
  obtain ⟨d, e, n, r, h⟩ := ccEvaluate_sameLines s p
  rw [h]

/-- Unattached, with no partner on the lines, recognition changes nothing. -/
theorem ccEvaluate_idle (hst : isUnattached (portCc s p).state = true) (hopen : bothOpen (portCc s p) = true) :
    ccEvaluate p s = s := by
  unfold ccEvaluate
  cases h : (portCc s p).state <;> rw [h] at hst
  case unattachedSrc => simp [h, srcSees_of_bothOpen hopen]
  case unattachedSnk => simp [h, snkSees_of_bothOpen hopen]
  all_goals cases hst

/-! ### Unattached (R234, R237, R651) -/

variable (how : UnattachedAs)

/-- The lines as an Unattached state finds them, with the configuration as written. -/
def unattachedCc (how : UnattachedAs) (c : CcPort) : CcPort :=
  let c := { c with cfg := c.cfgW, time0 := c.time0W, time1 := c.time1W }
  let sink := unattachedSink how c
  { c with
    state := if sink then .unattachedSnk else .unattachedSrc
    term := if sink then .rd else .rp (rpLevel c)
    vconnLatched := false, raSeen := false, debugSource := false, drpSrcPhase := !sink }

theorem enterUnattached_eq : enterUnattached p how s = ccEvaluate p (modCc p (unattachedCc how) s) := rfl

/-- Whether a port with ROLE as written becomes a sink (R651). -/
def becomesSink (how : UnattachedAs) (role : Nat) : Bool :=
  match how with
  | .src => decide (role = 1)
  | .snk => decide (role = 1) || decide (role = 2)
  | .detachedSink => true

theorem unattachedCc_state (c : CcPort) : (unattachedCc how c).state =
    if becomesSink how (field c.cfgW 5 4) then .unattachedSnk else .unattachedSrc := by
  cases how <;> rfl

theorem enterUnattached_onPort : OnPort p s (enterUnattached p how s) :=
  (modCc_onPort s p _).trans (ccEvaluate_onPort _ p)

/-- The state is one without a partner: not attached, and out of the Try.SRC path. -/
def partnerless (st : CcState) : Bool := !isAttached st && decide (st ≠ .tryWaitSnk)

theorem enterUnattached_partnerless : partnerless (portCc (enterUnattached p how s) p).state = true := by
  rw [enterUnattached_eq, ccEvaluate_state, portCc_modCc, ccNext, unattachedCc_state]
  split <;> (repeat' split) <;> simp_all [partnerless, isAttached]

/-- With both lines open an Unattached state stays, and nothing is debounced. -/
theorem enterUnattached_open (hopen : bothOpen (portCc s p) = true) :
    portCc (enterUnattached p how s) p = unattachedCc how (portCc s p) := by
  rw [enterUnattached_eq, ccEvaluate_idle, portCc_modCc]
  · rw [portCc_modCc, unattachedCc_state]; split <;> rfl
  · rw [portCc_modCc]; exact hopen

theorem goUnattachedAs_onPort : OnPort p s (goUnattachedAs p how s) :=
  (ovpOver_onPort s p).trans <| .ite ((setCcState_onPort _ p _).trans (present_onPort _ p _)) <|
    .ite ((setCcState_onPort _ p _).trans (present_onPort _ p _)) <|
    .ite ((setCcState_onPort _ p _).trans (present_onPort _ p _)) (enterUnattached_onPort _ p how)

@[simp] theorem portPd_goUnattachedAs : portPd (goUnattachedAs p how s) k = portPd s k := by
  unfold goUnattachedAs
  dsimp only
  split_ifs <;> simp [enterLimp, enterUnattached_eq]

@[simp] theorem portCinch_goUnattachedAs : portCinch (goUnattachedAs p how s) k = portCinch s k := by
  unfold goUnattachedAs
  dsimp only
  split_ifs <;> simp [enterLimp, enterUnattached_eq]

theorem goUnattachedAs_partnerless : partnerless (portCc (goUnattachedAs p how s) p).state = true := by
  unfold goUnattachedAs
  dsimp only
  split_ifs
  · simp [partnerless, isAttached]
  · simp [partnerless, isAttached]
  · simp [enterLimp, partnerless, isAttached]
  · exact enterUnattached_partnerless _ p how

/-- A port that may be in service, outside Limp, enters an Unattached state. -/
theorem goUnattachedAs_enters (hserv : serviceable s p = true) (hup : portPowered s p = true)
    (hphase : s.boot.phase ≠ .limp) : goUnattachedAs p how s = enterUnattached p how (ovpOver p s) := by
  have hserv' : serviceable (ovpOver p s) p = true := by
    rw [serviceable_of_onPort (ovpOver_onPort s p) (portCinch_ovpOver s p p), hserv]
  have hup' : (ovpOver p s).power.groupUp[groupOf p] = true := hup
  have hphase' : (ovpOver p s).boot.phase ≠ .limp := hphase
  simp [goUnattachedAs, hserv', hup', hphase']

end

/-! ### Detach (R651) -/

/-- Nothing of an attach is left at the port: no attached state, the gates off, and no contract. -/
def detached (p : Fin 8) (s : State) : Prop :=
  isAttached (portCc s p).state = false ∧ (portCinch s p).gates = false ∧ (portPd s p).explicit = false

theorem detached_of_onPort {p k : Fin 8} {a b : State} (h : OnPort k a b) (hp : p ≠ k) (hd : detached p a) :
    detached p b := by
  rw [detached, h.cc hp, h.cinch hp, h.pd hp]
  exact hd

theorem detached_finish {p : Fin 8} {a b : State} (h : detached p b) : detached p (finish a b) := by
  obtain ⟨c, hpd⟩ := finish_portPd a b p
  simpa only [detached, finish_portCc, finish_portCinch, hpd] using h

theorem groupHoldOut_detached (p k : Fin 8) (s : State) (h : detached p s) : detached p (groupHoldOut k s) := by
  by_cases hp : p = k
  · subst hp
    obtain ⟨d, st, o, hcinch⟩ := outOfService_cinch s p
    simp [groupHoldOut, detached, outOfService_cc, outOfService_explicit, hcinch, isAttached]
  · exact detached_of_onPort (groupHoldOut_onPort s k) hp h

theorem groupHoldOut_unserviceable (p : Fin 8) (s : State) : serviceable (groupHoldOut p s) p = false := by
  simp [serviceable, groupHoldOut]

section
variable (s : State) (p : Fin 8) (how : UnattachedAs)

/-- The gates off and the attach left, before the port's next state. -/
def leftAttach (p : Fin 8) (s : State) : State :=
  portLeave p 0 (gatesOff p (evp p 0x2002 1 [stateByte (portCc s p).state] s))

theorem detach_eq : detach p s = groupAfterBackfeed (groupOf p)
    (goUnattachedAs p (if vbusDetaches s p then .detachedSink else .src) (leftAttach p s)) := rfl

theorem leftAttach_onPort : OnPort p s (leftAttach p s) :=
  (OnPort.ofOff (evp_offPorts s p _ _ _)).trans <| (gatesOff_onPort _ p).trans (portLeave_onPort _ p 0)

theorem leftAttach_cinch : (portCinch (leftAttach p s) p).gates = false := by
  obtain ⟨st, o, h⟩ := portLeave_cinch (gatesOff p (evp p 0x2002 1 [stateByte (portCc s p).state] s)) p 0
  rw [leftAttach, h]
  exact gatesOff_gates _ p

theorem leftAttach_detached : detached p (goUnattachedAs p how (leftAttach p s)) := by
  have hstate := goUnattachedAs_partnerless (leftAttach p s) p how
  simp only [partnerless, Bool.and_eq_true, Bool.not_eq_true'] at hstate
  refine ⟨hstate.1, ?_, ?_⟩
  · simpa using leftAttach_cinch s p
  · rw [portPd_goUnattachedAs]; exact portLeave_explicit _ p 0

theorem detach_detached : detached p (detach p s) := by
  rw [detach_eq]
  exact groupAfterBackfeed_keeps (groupHoldOut_detached p) _ (leftAttach_detached s p _)

theorem leftAttach_open : bothOpen (portCc (leftAttach p s) p) = bothOpen (portCc s p) := by
  obtain ⟨on, d, n, h⟩ := portLeave_cc (gatesOff p (evp p 0x2002 1 [stateByte (portCc s p).state] s)) p 0
  simp [leftAttach, h, bothOpen]

/-- A sink's detach leads to Unattached.SNK, whatever its ROLE, where the port may still be in service (R651). -/
theorem detach_sink (hphase : s.boot.phase ≠ .limp) (hup : portPowered s p = true)
    (hopen : bothOpen (portCc s p) = true) (hvbus : vbusDetaches s p = true) :
    serviceable (detach p s) p = true → (portCc (detach p s) p).state = .unattachedSnk := by
  rw [detach_eq, hvbus, if_pos rfl]
  refine groupAfterBackfeed_keeps (P := fun t => serviceable t p = true → (portCc t p).state = .unattachedSnk)
    (fun k t ht => ?_) _ (fun hserv => ?_)
  · by_cases hk : p = k
    · subst hk; simp [groupHoldOut_unserviceable]
    · have hon := groupHoldOut_onPort t k
      rw [serviceable_of_onPort hon (hon.cinch hk), hon.cc hk]
      exact ht
  · have hon := leftAttach_onPort s p
    rw [serviceable_of_onPort (goUnattachedAs_onPort _ p _) (portCinch_goUnattachedAs _ p p _)] at hserv
    rw [goUnattachedAs_enters _ p _ hserv (by rw [hon.powered, hup]) (by rwa [hon.boot]), enterUnattached_open]
    · rfl
    · simpa [bothOpen] using (leftAttach_open s p).trans hopen

/-- No VBUS, outside the transitions of R651 and what Root alone watches: the port detaches. -/
theorem vbusDisconnect_detaches (hwatch : rootWatches s p = false) (hruns : ccRuns s p = true)
    (hvbus : vbusDetaches s p = true) (hexempt : vbusExempt (portPd s p) = false) :
    vbusDisconnect p s = detach p s := by
  simp [vbusDisconnect, hwatch, hruns, hvbus, hexempt]

end

/-! ### Attach (R238, R241) -/

section
variable (s : State) (p : Fin 8)

/-- A turn-on without a pulsed inrush (R319). -/
theorem turnOn_slew (hserv : serviceable s p = true) (hup : s.power.groupUp[groupOf p] = true)
    (hmode : flag (portCinch s p).cfg 24 = false) :
    turnOn p s = modCinch p (fun c => { c with
      gates := true, st := if c.backfeed then .backfeed else .inrush, pumpOk := false, dsch := false, alarmFast := false
      alarmI2t := false, inrushReadings := 0, oldMv := c.contractMv }) s := by
  unfold turnOn
  simp [hserv, hup, hmode]

/-- The roles and the lines of Attached.SRC, before VCONN and the gates (R241). -/
def sourceLines (p : Fin 8) (s : State) : State :=
  modPd p (fun q => { q with source := true, dfp := true })
    (modCc p (fun c => { c with state := .attachedSrc, orient := decide (c.cc2 = .rd), term := .rp (rpLevel c) })
      (debounceDrop p s))

theorem sourceLines_onPort : OnPort p s (sourceLines p s) :=
  (debounceDrop_onPort s p).trans <| (modCc_onPort _ p _).trans (modPd_onPort _ p _)

theorem vconnTurnOn_onPort : OnPort p s (vconnTurnOn p s) := modCc_onPort s p _

/-- A source's attach comes to its turn-on with the state, the orientation and the roles of Attached.SRC. -/
theorem attachSrc_turnsOn : ∃ x, attachSrc p s = turnOn p x ∧ OnPort p s x ∧ portCinch x p = portCinch s p
    ∧ (portCc x p).state = .attachedSrc ∧ (portCc x p).orient = decide ((portCc s p).cc2 = .rd)
    ∧ (portPd x p).source = true ∧ (portPd x p).dfp = true := by
  obtain ⟨n, hdrop⟩ := debounceDrop_cc s p
  refine ⟨_, rfl, ?_⟩
  split
  · refine ⟨(sourceLines_onPort s p).trans <| (vconnTurnOn_onPort _ p).trans (.ofOff (evp_offPorts _ p _ _ _)), ?_⟩
    simp [attachEvent, vconnTurnOn, hdrop]
  · refine ⟨(sourceLines_onPort s p).trans (.ofOff (evp_offPorts _ p _ _ _)), ?_⟩
    simp [attachEvent, hdrop]

theorem attachSrc_attaches (hserv : serviceable s p = true) (hup : s.power.groupUp[groupOf p] = true)
    (hmode : flag (portCinch s p).cfg 24 = false) (hback : (portCinch s p).backfeed = false) :
    (portCc (attachSrc p s) p).state = .attachedSrc
      ∧ (portCc (attachSrc p s) p).orient = decide ((portCc s p).cc2 = .rd)
      ∧ (portPd (attachSrc p s) p).source = true ∧ (portPd (attachSrc p s) p).dfp = true
      ∧ (portCinch (attachSrc p s) p).gates = true ∧ (portCinch (attachSrc p s) p).st = .inrush := by
  obtain ⟨x, hx, hon, hcinch, hstate, horient, hsource, hdfp⟩ := attachSrc_turnsOn s p
  rw [hx, turnOn_slew x p (by rwa [serviceable_of_onPort hon hcinch]) (by rwa [hon.power]) (by rwa [hcinch])]
  simp [hstate, horient, hsource, hdfp, hcinch, hback]

theorem attachSnk_attaches : (portCc (attachSnk p s) p).state = .attachedSnk
    ∧ (portPd (attachSnk p s) p).source = false ∧ (portPd (attachSnk p s) p).step = .snkWaitCaps
    ∧ (portCc (attachSnk p s) p).debounce = none := by
  obtain ⟨n, hdrop⟩ := debounceDrop_cc s p
  simp [attachSnk, attachEvent, hdrop]

/-! ### The debounces (R236, R260, R261) -/

/-- The debounce is over, and nothing is made of it yet. -/
def debounceOver (p : Fin 8) (s : State) : State := modCc p (fun c => { c with debounce := none, debExtended := false }) s

theorem debounceOver_onPort : OnPort p s (debounceOver p s) := modCc_onPort s p _

theorem debounceOver_cinch : portCinch (debounceOver p s) p = portCinch s p := portCinch_modCc s p p _

theorem serviceable_debounceOver : serviceable (debounceOver p s) p = serviceable s p :=
  serviceable_of_onPort (debounceOver_onPort s p) (debounceOver_cinch s p)

theorem portCc_debounceOver :
    portCc (debounceOver p s) p = { portCc s p with debounce := none, debExtended := false } := portCc_modCc s p _

variable {s p}

theorem debExpire_completes {t : DebTimer} (h : debounceEnds p t s) : debExpire p t s = debComplete p t s := by
  obtain ⟨hext, hany⟩ := h
  obtain ⟨d, hd, ht⟩ := (Option.any_eq_true _ _).mp hany
  simp only [Bool.and_eq_true, decide_eq_true_eq, Bool.not_eq_true'] at ht
  obtain ⟨rfl, hlong⟩ := ht
  simp [debExpire, hd, hext, hlong]

theorem debExpire_lengthens {t : DebTimer} {d : Debounce} (hd : (portCc s p).debounce = some d) (ht : d.timer = t)
    (hext : (portCc s p).debExtended = false) (hlong : debLengthened s (portCc s p) d = true) :
    debExpire p t s = modCc p (fun c => { c with debExtended := true }) s := by
  simp [debExpire, hd, ht, hext, hlong]

/-- What stands on the lines, the configuration and the state do not depend on the debounce. -/
theorem debounceOver_sees : srcSees (portCc (debounceOver p s) p) = srcSees (portCc s p)
    ∧ snkSees (portCc (debounceOver p s) p) = snkSees (portCc s p)
    ∧ bothOpen (portCc (debounceOver p s) p) = bothOpen (portCc s p)
    ∧ oneRp (portCc (debounceOver p s) p) = oneRp (portCc s p)
    ∧ attachedSeen (portCc (debounceOver p s) p) = attachedSeen (portCc s p)
    ∧ (portCc (debounceOver p s) p).cc1 = (portCc s p).cc1 ∧ (portCc (debounceOver p s) p).cc2 = (portCc s p).cc2
    ∧ rpLevel (portCc (debounceOver p s) p) = rpLevel (portCc s p)
    ∧ ccRole (portCc (debounceOver p s) p) = ccRole (portCc s p) ∧ (portCc (debounceOver p s) p).cfg = (portCc s p).cfg
    ∧ (portCc (debounceOver p s) p).state = (portCc s p).state := by
  rw [portCc_debounceOver]
  exact ⟨rfl, rfl, rfl, rfl, rfl, rfl, rfl, rfl, rfl, rfl, rfl⟩

theorem ccComplete_source (hst : (portCc s p).state = .attachWaitSrc) (hsee : srcSees (portCc s p) = true)
    (hone : ¬((portCc s p).cc1 = .rd ∧ (portCc s p).cc2 = .rd)) : ccComplete p s = attachSrc p (debounceOver p s) := by
  obtain ⟨hsrc, -, -, -, -, hcc1, hcc2, -, -, -, hstate⟩ := debounceOver_sees (p := p) (s := s)
  simp only [ccComplete, ← debounceOver.eq_1, hstate, hst, hsrc, hsee, hcc1, hcc2, hone, if_false, Bool.not_true,
    Bool.false_eq_true]

theorem ccComplete_sink (hst : (portCc s p).state = .attachWaitSnk) (hsee : snkSees (portCc s p) = true)
    (hone : ¬(isRp (portCc s p).cc1 = true ∧ isRp (portCc s p).cc2 = true)) :
    ccComplete p s = if ccRole (portCc s p) = 2 ∧ flag (portCc s p).cfg 9 = true then
        ccEvaluate p (present p (.rp (rpLevel (portCc s p))) (setCcState p .trySrc (debounceOver p s)))
      else attachSnk p (debounceOver p s) := by
  obtain ⟨-, hsnk, -, -, -, hcc1, hcc2, hrp, hrole, hcfg, hstate⟩ := debounceOver_sees (p := p) (s := s)
  simp only [ccComplete, ← debounceOver.eq_1, hstate, hst, hsnk, hsee, hcc1, hcc2, hrp, hrole, hcfg, hone, if_false,
    Bool.not_true, Bool.false_eq_true, Bool.and_eq_true]

/-- TryWait.SNK attaches as sink where Rp stands on one line and VBUS is there, and else waits on (R238). -/
theorem ccComplete_tryWait (hst : (portCc s p).state = .tryWaitSnk) (hone : oneRp (portCc s p) = true) :
    ccComplete p s = if 3670 ≤ vbusMv (portMetro s p) then attachSnk p (debounceOver p s) else debounceOver p s := by
  obtain ⟨-, -, -, hrp, -, -, -, -, -, -, hstate⟩ := debounceOver_sees (p := p) (s := s)
  have hdeb : (portCc (debounceOver p s) p).debounce = none := by rw [portCc_debounceOver]
  have hmetro : portMetro (debounceOver p s) p = portMetro s p := portMetro_modCc s p p _
  simp only [ccComplete, ← debounceOver.eq_1, hstate, hst]
  simp [tryWaitAttach, hstate, hst, hdeb, hrp, hone, hmetro]

theorem pdComplete_wait (hst : (portCc s p).state = .attachWaitSrc ∨ (portCc s p).state = .attachWaitSnk)
    (hopen : bothOpen (portCc s p) = true) : pdComplete p s =
      goUnattachedAs p (if (portCc s p).state = .attachWaitSnk then .snk else .src) (debounceOver p s) := by
  obtain ⟨-, -, hboth, -, -, -, -, -, -, -, hstate⟩ := debounceOver_sees (p := p) (s := s)
  rcases hst with hst | hst
  all_goals
    simp only [pdComplete, ← debounceOver.eq_1, hstate, hst, hboth, hopen]
    rfl

theorem pdComplete_source (hst : (portCc s p).state = .attachedSrc) (hgone : attachedSeen (portCc s p) ≠ .rd) :
    pdComplete p s = detach p (debounceOver p s) := by
  obtain ⟨-, -, -, -, hseen, -, -, -, -, -, hstate⟩ := debounceOver_sees (p := p) (s := s)
  simp only [pdComplete, ← debounceOver.eq_1, hstate, hst, hseen, hgone, if_false]

/-- In ErrorRecovery a debounce ends without more. -/
theorem debComplete_recovery (t : DebTimer) (hst : (portCc s p).state = .errorRecovery) :
    debComplete p t s = debounceOver p s := by
  obtain ⟨-, -, -, -, -, -, -, -, -, -, hstate⟩ := debounceOver_sees (p := p) (s := s)
  cases t
  · simp only [debComplete, ccComplete, ← debounceOver.eq_1, hstate, hst]
  · simp only [debComplete, pdComplete, ← debounceOver.eq_1, hstate, hst]
  · simp only [debComplete, tryComplete, ← debounceOver.eq_1, hstate, hst]
    simp

end

/-! ### The clauses -/

section
variable {p : Fin 8} {s : State}

theorem ccDebounceExpire_source (ht : standTimes s p = true) (hst : (portCc s p).state = .attachWaitSrc)
    (hsee : srcSees (portCc s p) = true) (hone : ¬((portCc s p).cc1 = .rd ∧ (portCc s p).cc2 = .rd))
    (hends : debounceEnds p .cc s) (hserv : serviceable s p = true) (hup : s.power.groupUp[groupOf p] = true)
    (hmode : flag (portCinch s p).cfg 24 = false) (hback : (portCinch s p).backfeed = false) :
    ∃ t, exec (.ccDebounceExpire p) s = .next t
      ∧ (portCc t p).state = .attachedSrc ∧ (portCc t p).orient = decide ((portCc s p).cc2 = .rd)
      ∧ (portPd t p).source = true ∧ (portPd t p).dfp = true ∧ (portCinch t p).gates = true
      ∧ (portCinch t p).st = .inrush := by
  have hcinch := debounceOver_cinch s p
  have hcc2 : (portCc (debounceOver p s) p).cc2 = (portCc s p).cc2 := by rw [portCc_debounceOver]
  obtain ⟨hstate, horient, hsource, hdfp, hgates, hst'⟩ := attachSrc_attaches (debounceOver p s) p
    (by rwa [serviceable_debounceOver]) hup (by rwa [hcinch]) (by rwa [hcinch])
  refine ⟨_, rfl, ?_⟩
  rw [if_pos (ccRuns_of_standTimes ht), debExpire_completes hends, debComplete, ccComplete_source hst hsee hone]
  obtain ⟨c, hpd⟩ := finish_portPd s (attachSrc p (debounceOver p s)) p
  simp [hpd, hstate, horient, hsource, hdfp, hgates, hst', hcc2]

theorem ccDebounceExpire_sink (ht : standTimes s p = true) (hst : (portCc s p).state = .attachWaitSnk)
    (hsee : snkSees (portCc s p) = true) (hone : ¬(isRp (portCc s p).cc1 = true ∧ isRp (portCc s p).cc2 = true))
    (hends : debounceEnds p .cc s) : ∃ t, exec (.ccDebounceExpire p) s = .next t
      ∧ (if ccRole (portCc s p) = 2 ∧ flag (portCc s p).cfg 9 = true then
          (portCc t p).state = .trySrc
          ∧ (portCc t p).term = (if portPowered s p then .rp (rpLevel (portCc s p)) else .opened)
        else (portCc t p).state = .attachedSnk ∧ (portPd t p).source = false ∧ (portPd t p).step = .snkWaitCaps) := by
  refine ⟨_, rfl, ?_⟩
  rw [if_pos (ccRuns_of_standTimes ht), debExpire_completes hends, debComplete, ccComplete_sink hst hsee hone]
  split
  · rw [finish_portCc, ccEvaluate_state, ccEvaluate_term]
    simp [ccNext]
    rfl
  · obtain ⟨c, hpd⟩ := finish_portPd s (attachSnk p (debounceOver p s)) p
    obtain ⟨hstate, hsource, hstep, -⟩ := attachSnk_attaches (debounceOver p s) p
    simp [hpd, hstate, hsource, hstep]

theorem pdDebounceExpire_wait (ht : standTimes s p = true)
    (hst : (portCc s p).state = .attachWaitSrc ∨ (portCc s p).state = .attachWaitSnk)
    (hopen : bothOpen (portCc s p) = true) (hends : debounceEnds p .pd s) (hserv : serviceable s p = true)
    (hup : s.power.groupUp[groupOf p] = true) : ∃ t, exec (.pdDebounceExpire p) s = .next t
      ∧ (portCc t p).state = (if field (portCc s p).cfgW 5 4 = 1
          ∨ (field (portCc s p).cfgW 5 4 = 2
          ∧ (portCc s p).state = .attachWaitSnk) then .unattachedSnk else .unattachedSrc)
      ∧ (portCc t p).debounce = none := by
  have hserv' : serviceable (debounceOver p s) p = true := by rwa [serviceable_debounceOver]
  have hphase : (debounceOver p s).boot.phase ≠ .limp := not_limp_of_standTimes (s := s) ht
  have hopen' : bothOpen (portCc (ovpOver p (debounceOver p s)) p) = true := by
    rw [portCc_ovpOver, portCc_debounceOver]; exact hopen
  refine ⟨_, rfl, ?_⟩
  rw [if_pos (ccRuns_of_standTimes ht), debExpire_completes hends, debComplete, pdComplete_wait hst hopen, finish_portCc,
    goUnattachedAs_enters _ p _ hserv' hup hphase, enterUnattached_open _ p _ hopen', unattachedCc_state, portCc_ovpOver,
    portCc_debounceOver]
  refine ⟨?_, rfl⟩
  rcases hst with hst | hst <;> simp [hst, becomesSink]

theorem pdDebounceExpire_detach (ht : standTimes s p = true) (hst : (portCc s p).state = .attachedSrc)
    (hgone : attachedSeen (portCc s p) ≠ .rd) (hends : debounceEnds p .pd s) :
    ∃ t, exec (.pdDebounceExpire p) s = .next t
      ∧ isAttached (portCc t p).state = false ∧ (portCinch t p).gates = false ∧ (portPd t p).explicit = false := by
  refine ⟨_, rfl, ?_⟩
  rw [if_pos (ccRuns_of_standTimes ht), debExpire_completes hends, debComplete, pdComplete_source hst hgone]
  exact detached_finish (detach_detached (debounceOver p s) p)

theorem pdDebounceExpire_lengthens {d : Debounce} (hd : (portCc s p).debounce = some d) (ht : standTimes s p = true)
    (htimer : d.timer = .pd) (hext : (portCc s p).debExtended = false) (hlong : debLengthened s (portCc s p) d = true) :
    ∃ t, exec (.pdDebounceExpire p) s = .next t ∧ portCc t p = { portCc s p with debExtended := true } := by
  refine ⟨_, rfl, ?_⟩
  rw [if_pos (ccRuns_of_standTimes ht), debExpire_lengthens hd htimer hext hlong, finish_portCc, portCc_modCc]

theorem debounceExtended_completes {d : Debounce} (hd : (portCc s p).debounce = some d) (ht : standTimes s p = true)
    (hext : (portCc s p).debExtended = true) (hlong : debLengthened s (portCc s p) d = false)
    (hst : (portCc s p).state = .errorRecovery) : ∃ t, exec (.debounceExtended p d.timer) s = .next t
      ∧ portCc t p = { portCc s p with
          debExts := bump 6 (portCc s p).debExts, debExtended := false, debounce := none } := by
  refine ⟨_, rfl, ?_⟩
  rw [if_pos (ccRuns_of_standTimes ht), finish_portCc, debExtendedEnd]
  simp only [hd, hext, hlong]
  rw [if_pos (by simp), debComplete_recovery _ (by rw [portCc_debReport]; exact hst), portCc_debounceOver,
    portCc_debReport]

theorem debounceExtended_waits {d : Debounce} (hd : (portCc s p).debounce = some d)
    (h : (portCc s p).debExtended = false ∨ debLengthened s (portCc s p) d = true) :
    ∃ t, exec (.debounceExtended p d.timer) s = .next t ∧ portCc t p = portCc s p := by
  have hend : debExtendedEnd p d.timer s = s := by
    rcases h with h | h <;> simp [debExtendedEnd, hd, h]
  refine ⟨_, rfl, ?_⟩
  rw [hend, ite_self, finish_portCc]

theorem drpToggle_toSink (ht : standTimes s p = true) (hrole : ccRole (portCc s p) = 2)
    (hset : ccPending (portCc s p) = false) (hst : (portCc s p).state = .unattachedSrc) :
    ∃ t, exec (.drpToggle p) s = .next t ∧ (portCc t p).term = .rd
      ∧ (portCc t p).state = (if snkSees (portCc s p) then .attachWaitSnk else .unattachedSnk) := by
  have hgo : drpToggle p s = ccEvaluate p
      (modCc p (fun c => { c with state := .unattachedSnk, term := .rd, drpSrcPhase := false }) s) := by
    simp [drpToggle, ht, hrole, hset, hst, isUnattached]
  refine ⟨_, rfl, ?_⟩
  rw [hgo, finish_portCc, ccEvaluate_state, ccEvaluate_term, portCc_modCc]
  exact ⟨rfl, rfl⟩

theorem drpToggle_toSource (ht : standTimes s p = true) (hrole : ccRole (portCc s p) = 2)
    (hset : ccPending (portCc s p) = false) (hst : (portCc s p).state = .unattachedSnk) :
    ∃ t, exec (.drpToggle p) s = .next t ∧ (portCc t p).term = .rp (rpLevel (portCc s p))
      ∧ (portCc t p).state = (if srcSees (portCc s p) then .attachWaitSrc else .unattachedSrc) := by
  have hgo : drpToggle p s = ccEvaluate p
      (modCc p (fun c => { c with state := .unattachedSrc, term := .rp (rpLevel c), drpSrcPhase := true }) s) := by
    simp [drpToggle, ht, hrole, hset, hst, isUnattached]
  refine ⟨_, rfl, ?_⟩
  rw [hgo, finish_portCc, ccEvaluate_state, ccEvaluate_term, portCc_modCc]
  exact ⟨rfl, rfl⟩

theorem tryTimeout_waits (ht : standTimes s p = true) (hst : (portCc s p).state = .trySrc)
    (hone : oneRd (portCc s p) = false) : ∃ t, exec (.tryTimerExpire p .tryTimeout) s = .next t
      ∧ (portCc t p).state = .tryWaitSnk ∧ (portCc t p).term = (if portPowered s p then .rd else .opened) := by
  have hgo : tryTimer p .tryTimeout s = ccEvaluate p (present p .rd (setCcState p .tryWaitSnk (debounceDrop p s))) := by
    simp [tryTimer, hst, hone]
  have hpow : portPowered (setCcState p .tryWaitSnk (debounceDrop p s)) p = portPowered s p :=
    ((debounceDrop_onPort s p).trans (setCcState_onPort _ p _)).powered p
  refine ⟨_, rfl, ?_⟩
  rw [if_pos ht, hgo, finish_portCc, ccEvaluate_state, ccEvaluate_term, portCc_present, portCc_setCcState, hpow]
  exact ⟨rfl, rfl⟩

theorem drpTryWait_ends (ht : standTimes s p = true) (hst : (portCc s p).state = .tryWaitSnk)
    (hone : oneRp (portCc s p) = false) (hserv : serviceable s p = true) (hup : s.power.groupUp[groupOf p] = true) :
    ∃ t, exec (.tryTimerExpire p .drpTryWait) s = .next t
      ∧ (portCc t p).state ≠ .tryWaitSnk ∧ isAttached (portCc t p).state = false
      ∧ (field (portCc s p).cfgW 5 4 = 2 → bothOpen (portCc s p) = true → (portCc t p).state = .unattachedSnk) := by
  have hgo : tryTimer p .drpTryWait s = goUnattachedAs p .snk (debounceDrop p s) := by
    simp [tryTimer, hst, hone]
  have hpartner := goUnattachedAs_partnerless (debounceDrop p s) p .snk
  simp only [partnerless, Bool.and_eq_true, Bool.not_eq_true', decide_eq_true_eq] at hpartner
  have hon := debounceDrop_onPort s p
  obtain ⟨n, hdrop⟩ := debounceDrop_cc s p
  refine ⟨_, rfl, ?_⟩
  rw [if_pos ht, hgo, finish_portCc]
  refine ⟨hpartner.2, hpartner.1, fun hrole hopen => ?_⟩
  rw [goUnattachedAs_enters _ p _ (by rwa [serviceable_of_onPort hon (portCinch_debounceDrop s p p)])
    (by rwa [hon.powered]) (by rw [hon.boot]; exact not_limp_of_standTimes ht), enterUnattached_open, unattachedCc_state,
    portCc_ovpOver, hdrop]
  · simp [becomesSink, hrole]
  · rw [portCc_ovpOver, hdrop]; exact hopen

theorem ccDebounceExpire_tryWait (ht : standTimes s p = true) (hst : (portCc s p).state = .tryWaitSnk)
    (hone : oneRp (portCc s p) = true) (hends : debounceEnds p .cc s) :
    ∃ t, exec (.ccDebounceExpire p) s = .next t
      ∧ (portCc t p).state = (if 3670 ≤ vbusMv (portMetro s p) then .attachedSnk else .tryWaitSnk)
      ∧ (portCc t p).debounce = none := by
  obtain ⟨hstate, -, -, hdeb⟩ := attachSnk_attaches (debounceOver p s) p
  refine ⟨_, rfl, ?_⟩
  rw [if_pos (ccRuns_of_standTimes ht), debExpire_completes hends, debComplete, ccComplete_tryWait hst hone, finish_portCc]
  split
  · exact ⟨hstate, hdeb⟩
  · rw [portCc_debounceOver]; exact ⟨hst, rfl⟩

theorem tryTimer_idle (t0 : TryTimer) (htry : (portCc s p).state ≠ .trySrc) (hwait : (portCc s p).state ≠ .tryWaitSnk) :
    ∃ t, exec (.tryTimerExpire p t0) s = .next t ∧ portCc t p = portCc s p := by
  have hgo : tryTimer p t0 s = s := by cases t0 <;> simp [tryTimer, htry, hwait]
  refine ⟨_, rfl, ?_⟩
  rw [hgo, ite_self, finish_portCc]

theorem vbusDisconnect_sink (ht : standTimes s p = true) (hwatch : rootWatches s p = false)
    (hst : (portCc s p).state = .attachedSnk) (hexempt : vbusExempt (portPd s p) = false) :
    ∃ t, exec (.vbusDisconnect p) s = .next t
      ∧ isAttached (portCc t p).state = false ∧ (portCinch t p).gates = false ∧ (portPd t p).explicit = false
      ∧ (serviceable t p = true → s.power.groupUp[groupOf p] = true → bothOpen (portCc s p) = true →
          (portCc t p).state = .unattachedSnk) := by
  have hvbus : vbusDetaches s p = true := by simp [vbusDetaches, hst]
  obtain ⟨hstate, hgates, hexplicit⟩ := detached_finish (a := s) (detach_detached s p)
  refine ⟨_, rfl, ?_⟩
  rw [vbusDisconnect_detaches s p hwatch (ccRuns_of_standTimes ht) hvbus hexempt]
  refine ⟨hstate, hgates, hexplicit, fun hserv hup hopen => ?_⟩
  rw [serviceable_finish] at hserv
  rw [finish_portCc]
  exact detach_sink s p (not_limp_of_standTimes ht) hup hopen hvbus hserv

theorem vbusDisconnect_exempt (hwatch : rootWatches s p = false) (hexempt : vbusExempt (portPd s p) = true) :
    ∃ t, exec (.vbusDisconnect p) s = .next t ∧ portCc t p = portCc s p := by
  refine ⟨_, rfl, ?_⟩
  simp [vbusDisconnect, hwatch, hexempt]

end

/-- Settles O17: attach and detach by their debounces, the Try.SRC path, DRP, and the loss of VBUS. -/
theorem typeCAttach : Obligations.TypeCAttach :=
  ⟨fun _ _ => ccDebounceExpire_source, fun _ _ => ccDebounceExpire_sink, fun _ _ => pdDebounceExpire_wait,
    fun _ _ => pdDebounceExpire_detach, fun _ _ _ => pdDebounceExpire_lengthens, fun _ _ _ => debounceExtended_completes,
    fun _ _ _ => debounceExtended_waits, fun _ _ => drpToggle_toSink, fun _ _ => drpToggle_toSource,
    fun _ _ => tryTimeout_waits, fun _ _ => drpTryWait_ends, fun _ _ => ccDebounceExpire_tryWait,
    fun _ t0 _ => tryTimer_idle t0, fun _ _ => vbusDisconnect_sink, fun _ _ => vbusDisconnect_exempt⟩

end Sys2Proof.Machine
end

section
/-! PROOFS. Requests to a port and a group, and the end of a discharge interval (R329, R81, R337, R330 to R336). -/

namespace Sys2Proof.Machine

/-! ### Back in service, and out of it -/

section
variable {who : Requester} {p : Fin 8} {s : State}

theorem unlatch_keeps (h : (portCinch s p).latched = true) : (portCinch (unlatch p s) p).latched = false
    ∧ (portCinch (unlatch p s) p).forceOff = (portCinch s p).forceOff := by
  simp only [unlatch, h, if_true]
  split <;> simp [goUnattached]

theorem unlatch_idle (h : (portCinch s p).latched = false) : unlatch p s = s := by simp [unlatch, h]

/-- The port is out of service: its state, its lines, its gates and its contract (R81). -/
def outThere (p : Fin 8) (s : State) : Prop :=
  (portCc s p).state = .outOfService ∧ (portCc s p).term = .opened ∧ (portCinch s p).gates = false
    ∧ (portPd s p).explicit = false

theorem outOfService_out (p : Fin 8) (s : State) : outThere p (outOfService p s) := by
  obtain ⟨d, st, o, hcinch⟩ := outOfService_cinch s p
  exact ⟨(outOfService_cc s p).1, (outOfService_cc s p).2, by rw [hcinch], outOfService_explicit s p⟩

theorem outThere_finish {a b : State} (h : outThere p b) : outThere p (finish a b) := by
  obtain ⟨c, hpd⟩ := finish_portPd a b p
  simpa only [outThere, finish_portCc, finish_portCinch, hpd] using h

/-- Taken out by request, a port stays out, and its FORCE_OFF stands, whatever the end of backfeed brings (R81, R334). -/
theorem takeOut_out (p : Fin 8) (s : State) :
    outThere p (takeOut p s) ∧ (portCinch (takeOut p s) p).forceOff = (portCinch s p).forceOff := by
  obtain ⟨d, st, o, hcinch⟩ := outOfService_cinch s p
  refine groupAfterBackfeed_keeps (P := fun t => outThere p t ∧ (portCinch t p).forceOff = (portCinch s p).forceOff)
    (fun k t ht => ?_) _ ⟨outOfService_out p s, by rw [hcinch]⟩
  by_cases hk : p = k
  · subst hk
    obtain ⟨d, st, o, hcinch'⟩ := outOfService_cinch t p
    obtain ⟨hstate, hterm, -, hexplicit⟩ := outOfService_out p t
    simpa [groupHoldOut, outThere, hcinch'] using ⟨⟨hstate, hterm, hexplicit⟩, ht.2⟩
  · have hon := groupHoldOut_onPort t k
    rw [outThere, hon.cc hk, hon.cinch hk, hon.pd hk]
    exact ht

/-- A port that may not be in service goes out of it. -/
theorem goUnattachedAs_unserviceable (how : UnattachedAs) (h : serviceable s p = false) :
    (portCc (goUnattachedAs p how s) p).state = .outOfService := by
  have h' : serviceable (ovpOver p s) p = false := by
    rw [serviceable_of_onPort (ovpOver_onPort s p) (portCinch_ovpOver s p p), h]
  simp [goUnattachedAs, h']

theorem forceOff_takesOut (hreach : portReach s p = true) (hwas : (portCinch s p).forceOff = false) :
    outThere p (forceOff p true s) ∧ (portCinch (forceOff p true s) p).forceOff = true := by
  have hreach' : portReach (modCinch p (fun c => { c with forceOff := true }) s) p = true := hreach
  have hgo : forceOff p true s = takeOut p (modCinch p (fun c => { c with forceOff := true }) s) := by
    simp [forceOff, hreach', hwas]
  obtain ⟨hout, hforce⟩ := takeOut_out p (modCinch p (fun c => { c with forceOff := true }) s)
  rw [portCinch_modCinch] at hforce
  rw [hgo]
  exact ⟨hout, hforce⟩

theorem forceOff_unreached (on : Bool) (hreach : portReach s p = false) :
    forceOff p on s = modCinch p (fun c => { c with forceOff := on }) s := by
  have hreach' : portReach (modCinch p (fun c => { c with forceOff := on }) s) p = false := hreach
  simp [forceOff, hreach']

theorem forceOff_returns (hreach : portReach s p = true) (hwas : (portCinch s p).forceOff = true) :
    forceOff p false s = goUnattached p (modCinch p (fun c => { c with forceOff := false }) s) := by
  have hreach' : portReach (modCinch p (fun c => { c with forceOff := false }) s) p = true := hreach
  simp [forceOff, hreach', hwas]

/-! ### The clauses of GATECTL -/

theorem unlatch_unlatches (hmay : maySet who (0x8014 + 0x400 * p.val) s) (h : (portCinch s p).latched = true) :
    ∃ t, exec (.unlatch who p) s = .next t ∧ (portCinch t p).latched = false
      ∧ (portCinch t p).forceOff = (portCinch s p).forceOff := by
  refine ⟨_, rfl, ?_⟩
  rw [guarded_allowed s hmay, finish_portCinch]
  exact unlatch_keeps h

theorem unlatch_unlatched (hmay : maySet who (0x8014 + 0x400 * p.val) s) (h : (portCinch s p).latched = false) :
    ∃ t, exec (.unlatch who p) s = .next t ∧ portCinch t p = portCinch s p ∧ portCc t p = portCc s p := by
  refine ⟨_, rfl, ?_⟩
  rw [guarded_allowed s hmay, finish_portCinch, finish_portCc, unlatch_idle h]
  exact ⟨rfl, rfl⟩

theorem forceOff_on (hmay : maySet who (0x8014 + 0x400 * p.val) s) (hwas : (portCinch s p).forceOff = false)
    (hreach : portReach s p = true) : ∃ t, exec (.forceOff who p true) s = .next t
      ∧ (portCinch t p).forceOff = true ∧ (portCinch t p).gates = false
      ∧ (portCc t p).state = .outOfService ∧ (portCc t p).term = .opened ∧ (portPd t p).explicit = false := by
  obtain ⟨hout, hforce⟩ := forceOff_takesOut hreach hwas
  obtain ⟨hstate, hterm, hgates, hexplicit⟩ := outThere_finish (a := s) hout
  refine ⟨_, rfl, ?_⟩
  rw [guarded_allowed s hmay]
  exact ⟨by rwa [finish_portCinch], hgates, hstate, hterm, hexplicit⟩

theorem forceOff_bitAlone {on : Bool} (hmay : maySet who (0x8014 + 0x400 * p.val) s) (hreach : portReach s p = false) :
    ∃ t, exec (.forceOff who p on) s = .next t
      ∧ portCinch t p = { portCinch s p with forceOff := on } ∧ portCc t p = portCc s p := by
  refine ⟨_, rfl, ?_⟩
  rw [guarded_allowed s hmay, finish_portCinch, finish_portCc, forceOff_unreached on hreach]
  simp

theorem forceOff_off (hmay : maySet who (0x8014 + 0x400 * p.val) s) (hwas : (portCinch s p).forceOff = true)
    (hreach : portReach s p = true) : ∃ t, exec (.forceOff who p false) s = .next t
      ∧ (portCinch t p).forceOff = false ∧ ((portCinch s p).latched = true → (portCc t p).state = .outOfService) := by
  refine ⟨_, rfl, ?_⟩
  rw [guarded_allowed s hmay, finish_portCinch, finish_portCc, forceOff_returns hreach hwas]
  refine ⟨by simp [goUnattached], fun hlatched => goUnattachedAs_unserviceable _ ?_⟩
  simp [serviceable, hlatched]

end

/-! ### REARM (R337) -/

section
variable {who : Requester} {g : Fin 2} {s : State}

theorem modGroup_same (f : Group → Group) : (modGroup g f s).groups[g] = f s.groups[g] := by simp [modGroup]

theorem portCinch_modGroup (f : Group → Group) (k : Fin 8) : portCinch (modGroup g f s) k = portCinch s k := rfl

theorem mem_groupPorts {p : Fin 8} : p ∈ groupPorts g ↔ groupOf p = g := by simp [groupPorts, allPorts]

/-- One port of a rearmed group: out of service, and under test if the Pattern uses it. -/
def testPort (p : Fin 8) (s : State) : State :=
  let s := outOfService p (modCinch p (fun c => { c with stuck := false, groupOut := false, st := .off }) s)
  modCinch p (fun c => { c with stuckTest := portUsed s p && portPowered s p }) s

/-- The group with its cut-off closed, before its ports' tests. -/
def rearmed (g : Fin 2) (s : State) : State :=
  modGroup g (fun t => { t with gcutOpen := false, cause := 0, rearming := true, rearmDue := false }) s

theorem rearm_eq (h : rootSeen s = true) :
    rearm g s = rearmDone g (onPorts (groupPorts g) testPort (rearmed g s)) := by
  simp only [rearm, h, Bool.not_true, Bool.false_eq_true, if_false]
  rfl

theorem testPort_onPort (p : Fin 8) (s : State) : OnPort p s (testPort p s) := by
  dsimp only [testPort]
  exact (modCinch_onPort s p _).trans <| (outOfService_onPort _ p).trans (modCinch_onPort _ p _)

/-- What a test finds at its port: out of service, not stuck, gates off, the test running where the port is used. -/
def underTest (used : Bool) (p : Fin 8) (s : State) : Prop :=
  (portCc s p).state = .outOfService ∧ (portCinch s p).stuck = false ∧ (portCinch s p).gates = false
    ∧ (portCinch s p).stuckTest = used

theorem testPort_underTest (p : Fin 8) (s : State) :
    underTest (portUsed s p && portPowered s p) p (testPort p s) := by
  have hon : OnPort p s (outOfService p (modCinch p (fun c => { c with stuck := false, groupOut := false, st := .off }) s)) :=
    (modCinch_onPort s p _).trans (outOfService_onPort _ p)
  obtain ⟨d, st, o, hcinch⟩ := outOfService_cinch
    (modCinch p (fun c => { c with stuck := false, groupOut := false, st := .off }) s) p
  simp [underTest, testPort, outOfService_cc, hcinch, hon.used, hon.powered]

/-- After the tests of a group have begun, every one of its ports is under test, and the group is as it was. -/
theorem tests_begin (ps : List (Fin 8)) (b : State) : (onPorts ps testPort b).groups = b.groups
    ∧ ∀ p ∈ ps, underTest (portUsed b p && portPowered b p) p (onPorts ps testPort b) := by
  have hkeep : ∀ k t, OnPort k t (testPort k t) := testPort_onPort
  refine ⟨onPorts_keeps (P := fun t => t.groups = b.groups) (fun k t ht => (hkeep k t).groups.trans ht) ps rfl, ?_⟩
  intro p hp
  refine onPorts_each (I := fun t => ∀ k, (portUsed t k && portPowered t k) = (portUsed b k && portPowered b k))
    (Q := fun k t => underTest (portUsed b k && portPowered b k) k t) (fun k t ht j => ?_) (fun k t ht => ?_)
    (fun k q t hq _ ht => ?_) (fun _ => rfl) hp
  · rw [(hkeep k t).used, (hkeep k t).powered, ht]
  · rw [← ht k]; exact testPort_underTest k t
  · rw [underTest, (hkeep k t).cc hq, (hkeep k t).cinch hq]; exact ht

/-- While a port of the group is under test the rearming goes on. -/
theorem rearmDone_waits {p : Fin 8} (hp : p ∈ groupPorts g) (h : (portCinch s p).stuckTest = true) : rearmDone g s = s := by
  have hany : (groupPorts g).any (fun p => (portCinch s p).stuckTest) = true := List.any_eq_true.mpr ⟨p, hp, h⟩
  simp [rearmDone, hany]

theorem rearmDone_notRearming (h : s.groups[g].rearming = false) : rearmDone g s = s := by
  rw [rearmDone, if_pos (by rw [h]; rfl)]

theorem rearm_tests (hmay : maySet who 0x500C s) (hseen : rootSeen s = true) (hup : s.power.groupUp[g] = true)
    (hused : (groupPorts g).any (fun p => portUsed s p) = true) : ∃ t, exec (.rearm who g) s = .next t
      ∧ t.groups[g].gcutOpen = false ∧ t.groups[g].cause = 0 ∧ t.groups[g].rearming = true
      ∧ (∀ p : Fin 8, p ∈ groupPorts g → (portCc t p).state = .outOfService ∧ (portCinch t p).stuck = false
          ∧ (portCinch t p).gates = false ∧ (portCinch t p).stuckTest = portUsed s p) := by
  obtain ⟨hgroups, hports⟩ := tests_begin (groupPorts g) (rearmed g s)
  have htest : ∀ p ∈ groupPorts g, underTest (portUsed s p) p (onPorts (groupPorts g) testPort (rearmed g s)) := by
    intro p hp
    have hpow : portPowered s p = true := by
      simp only [portPowered, mem_groupPorts.mp hp]; exact hup
    have h := hports p hp
    rwa [show portUsed (rearmed g s) p = portUsed s p from rfl, show portPowered (rearmed g s) p = portPowered s p from rfl,
      hpow, Bool.and_true] at h
  obtain ⟨p, hp, hpused⟩ := List.any_eq_true.mp hused
  obtain ⟨-, -, -, hrun⟩ := htest p hp
  refine ⟨_, rfl, ?_⟩
  rw [guarded_allowed s hmay, rearm_eq hseen, rearmDone_waits hp (hrun.trans hpused), finish_groups, hgroups, rearmed,
    modGroup_same]
  refine ⟨rfl, rfl, rfl, fun q hq => ?_⟩
  rw [finish_portCc, finish_portCinch]
  exact htest q hq

theorem rearm_waits (hmay : maySet who 0x500C s) (hseen : rootSeen s = false) :
    ∃ t, exec (.rearm who g) s = .next t ∧ t.groups[g] = { s.groups[g] with rearmDue := true } := by
  refine ⟨_, rfl, ?_⟩
  rw [guarded_allowed s hmay, finish_groups, rearm]
  simp [hseen, modGroup]

end

/-! ### The end of a discharge interval (R330, R333, R334) -/

section
variable {p : Fin 8} {mv : Nat} {s : State}

/-- The interval's end itself. -/
def intervalOver (p : Fin 8) (s : State) : State :=
  modCinch p (fun c => { c with
    dsch := false, stuckTest := false, st := if c.st = .discharging then .off else c.st }) s

/-- VBUS has stayed up with the gates off, no Rp and no backfeed, at a port in use that is no sink or under test. -/
def staysUp (p : Fin 8) (mv : Nat) (s : State) : Bool :=
  !(portCinch s p).gates && (!isRp (portCc s p).rootCc1 && !isRp (portCc s p).rootCc2) && !(portCinch s p).backfeed
    && portUsed s p && decide (800 < mv) && ((portCinch s p).stuckTest || decide ((portCc s p).state ≠ .attachedSnk))

theorem dischargeEnd_idle (h : (portCinch s p).dsch = false ∨ s.boot.cold = true) : dischargeEnd p mv s = s := by
  rcases h with h | h <;> simp [dischargeEnd, h]

/-- STUCK_ON, by Crown's path or Root's own part, or the PR_Swap's Rd; then the group's test. -/
theorem dischargeEnd_eq (hdsch : (portCinch s p).dsch = true) (hcold : s.boot.cold = false) :
    dischargeEnd p mv s =
      let u := if staysUp p mv s then
          (if rootSeen s then stuckOn p mv (intervalOver p s) else rootStuck p mv (intervalOver p s))
        else prsDark p mv (intervalOver p s)
      if (portCinch s p).stuckTest then rearmDone (groupOf p) u else u := by
  have hcc : portCc (intervalOver p s) p = portCc s p := portCc_modCinch s p p _
  have hused : portUsed (intervalOver p s) p = portUsed s p := rfl
  have hseen : rootSeen (intervalOver p s) = rootSeen s := rfl
  simp only [dischargeEnd, hdsch, hcold, Bool.not_true, Bool.or_self, Bool.false_eq_true, if_false,
    ← intervalOver.eq_1, hcc, hused, hseen]
  rfl

/-- What closing the rearming, its event and a port's way back keep, the end of a group's test keeps (R337). -/
theorem rearmDone_keeps {P : State → Prop} {g : Fin 2}
    (hgroup : ∀ t, P t → P (modGroup g (fun t => { t with rearming := false }) t))
    (hevent : ∀ e t, P t → P (emit e t)) (hback : ∀ k t, P t → P (goUnattached k t)) (hs : P s) : P (rearmDone g s) := by
  unfold rearmDone
  split
  · exact hs
  · dsimp only
    split
    · exact hgroup s hs
    · refine onPorts_keeps (fun k t ht => ?_) _ (hevent _ _ (hgroup s hs))
      split
      · exact hback k t ht
      · exact ht

/-! #### Off -/

theorem prsDark_idle (h : (portPd s p).step ≠ .prsSrcOff) : prsDark p mv s = s := by simp [prsDark, h]

theorem staysUp_down (h : mv ≤ 800) : staysUp p mv s = false := by simp [staysUp, h]

theorem dischargeEnd_off (hdsch : (portCinch s p).dsch = true) (hcold : s.boot.cold = false) (hmv : mv ≤ 800)
    (hst : (portCinch s p).st = .discharging) (hstep : (portPd s p).step ≠ .prsSrcOff)
    (hrearm : s.groups[groupOf p].rearming = false) : ∃ t, exec (.dischargeEnd p mv) s = .next t
      ∧ (portCinch t p).dsch = false ∧ (portCinch t p).st = .off ∧ (portCinch t p).stuck = (portCinch s p).stuck := by
  have hdark : prsDark p mv (intervalOver p s) = intervalOver p s :=
    prsDark_idle (by rw [show portPd (intervalOver p s) p = portPd s p from portPd_modCinch s p p _]; exact hstep)
  have hdone : rearmDone (groupOf p) (intervalOver p s) = intervalOver p s := rearmDone_notRearming hrearm
  have hgo : dischargeEnd p mv s = intervalOver p s := by
    rw [dischargeEnd_eq hdsch hcold, staysUp_down hmv]
    simp only [Bool.false_eq_true, if_false, hdark, hdone, ite_self]
  refine ⟨_, rfl, ?_⟩
  rw [hgo, finish_portCinch]
  simp [intervalOver, hst]

/-! #### STUCK_ON -/

/-- The port shows STUCK_ON out of service, its group's cut-off as given. -/
def stuckThere (p : Fin 8) (cut : Bool) (cause : BitVec 3) (s : State) : Prop :=
  (portCinch s p).stuck = true ∧ (portCinch s p).st = .stuckOn ∧ (portCc s p).state = .outOfService
    ∧ s.groups[groupOf p].gcutOpen = cut ∧ s.groups[groupOf p].cause = cause

variable {cut : Bool} {cause : BitVec 3}

theorem stuckThere_of_onPort {k : Fin 8} {a b : State} (hk : p ≠ k) (hon : OnPort k a b) (h : stuckThere p cut cause a) :
    stuckThere p cut cause b := by
  rw [stuckThere, hon.cinch hk, hon.cc hk, hon.groups]
  exact h

theorem groupOutAll_stuckThere {g : Fin 2} (h : stuckThere p cut cause s) : stuckThere p cut cause (groupOutAll g s) := by
  refine onPorts_keeps (fun k t ht => ?_) _ h
  split
  next => exact ht
  next hk =>
    refine stuckThere_of_onPort (fun he => hk ?_) (groupHoldOut_onPort t k) ht
    subst he
    simp [ht.1]

theorem rearmDone_stuckThere (h : stuckThere p cut cause s) : stuckThere p cut cause (rearmDone (groupOf p) s) := by
  refine rearmDone_keeps (fun t ht => ?_) (fun e t ht => ?_) (fun k t ht => ?_) h
  · obtain ⟨hstuck, hst, hstate, hcut, hcause⟩ := ht
    refine ⟨hstuck, hst, hstate, ?_, ?_⟩
    · rw [modGroup_same]; exact hcut
    · rw [modGroup_same]; exact hcause
  · simpa [stuckThere] using ht
  · by_cases hk : p = k
    · subst hk
      obtain ⟨hstuck, hst, -, hcut, hcause⟩ := ht
      have hon := goUnattachedAs_onPort t p .src
      refine ⟨?_, ?_, goUnattachedAs_unserviceable _ (by simp [serviceable, hstuck]), ?_, ?_⟩
      · rw [goUnattached, portCinch_goUnattachedAs]; exact hstuck
      · rw [goUnattached, portCinch_goUnattachedAs]; exact hst
      · rw [goUnattached, hon.groups]; exact hcut
      · rw [goUnattached, hon.groups]; exact hcause
    · exact stuckThere_of_onPort hk (goUnattachedAs_onPort t k .src) ht

/-- The stuck port itself, out of service, before its group follows (R334). -/
def stuckPort (p : Fin 8) (mv : Nat) (s : State) : State :=
  modCinch p (fun c => { c with st := .stuckOn, dsch := false })
    (outOfService p (evp p 0x2024 6 (le 2 (satTo 16 mv)) (modCinch p (fun c => { c with stuck := true, stuckTest := false }) s)))

theorem stuckPort_onPort (p : Fin 8) (mv : Nat) (s : State) : OnPort p s (stuckPort p mv s) :=
  (modCinch_onPort s p _).trans <| (OnPort.ofOff (evp_offPorts _ p _ _ _)).trans <|
    (outOfService_onPort _ p).trans (modCinch_onPort _ p _)

/-- The cut-off opened with a cause, and no rearming under way. -/
def cutOff (g : Fin 2) (cause : Nat) (s : State) : State :=
  modGroup g (fun t => { t with rearming := false }) (gcutOpen g cause s)

theorem cutOff_ports (g : Fin 2) (n : Nat) (s : State) : (cutOff g n s).ports = s.ports := by
  simp [cutOff, gcutOpen]

@[simp] theorem portCinch_cutOff (g : Fin 2) (n : Nat) (s : State) (k : Fin 8) :
    portCinch (cutOff g n s) k = portCinch s k := by simp only [portCinch, cutOff_ports]

@[simp] theorem portCc_cutOff (g : Fin 2) (n : Nat) (s : State) (k : Fin 8) :
    portCc (cutOff g n s) k = portCc s k := by simp only [portCc, cutOff_ports]

theorem cutOff_group (g : Fin 2) (n : Nat) (s : State) :
    (cutOff g n s).groups[g].gcutOpen = true ∧ (cutOff g n s).groups[g].cause = BitVec.ofNat 3 n := by
  rw [cutOff, modGroup_same, gcutOpen, emit_groups, modGroup_same]
  exact ⟨rfl, rfl⟩

theorem stuckOn_eq : stuckOn p mv s =
    if gcutFitted s (groupOf p) then groupOutAll (groupOf p) (cutOff (groupOf p) 1 (stuckPort p mv s))
    else stuckPort p mv s := by
  have hfit : gcutFitted (stuckPort p mv s) (groupOf p) = gcutFitted s (groupOf p) := by
    simp only [gcutFitted, (stuckPort_onPort p mv s).groups]
  rw [← hfit]
  rfl

theorem stuckPort_stuckThere (p : Fin 8) (mv : Nat) (s : State) :
    stuckThere p s.groups[groupOf p].gcutOpen s.groups[groupOf p].cause (stuckPort p mv s) := by
  obtain ⟨d, st, o, hcinch⟩ := outOfService_cinch
    (evp p 0x2024 6 (le 2 (satTo 16 mv)) (modCinch p (fun c => { c with stuck := true, stuckTest := false }) s)) p
  rw [stuckThere, (stuckPort_onPort p mv s).groups]
  simp [stuckPort, hcinch, outOfService_cc]

theorem stuckOn_stuckThere (p : Fin 8) (mv : Nat) (s : State) : stuckThere p
    (gcutFitted s (groupOf p) || s.groups[groupOf p].gcutOpen)
    (if gcutFitted s (groupOf p) then 1 else s.groups[groupOf p].cause) (stuckOn p mv s) := by
  have hport := stuckPort_stuckThere p mv s
  rw [stuckOn_eq]
  split
  next h =>
    obtain ⟨hstuck, hst, hstate, -, -⟩ := hport
    obtain ⟨hcut, hcause⟩ := cutOff_group (groupOf p) 1 (stuckPort p mv s)
    refine groupOutAll_stuckThere ⟨?_, ?_, ?_, ?_, ?_⟩
    · rw [portCinch_cutOff]; exact hstuck
    · rw [portCinch_cutOff]; exact hst
    · rw [portCc_cutOff]; exact hstate
    · rw [hcut, h, Bool.true_or]
    · rw [hcause]; rfl
  next h => simpa [h] using hport

theorem dischargeEnd_stuck (hdsch : (portCinch s p).dsch = true) (hcold : s.boot.cold = false) (hmv : 800 < mv)
    (hgates : (portCinch s p).gates = false) (hused : portUsed s p = true) (hseen : rootSeen s = true)
    (hback : (portCinch s p).backfeed = false) (hsink : (portCc s p).state ≠ .attachedSnk)
    (hcc1 : isRp (portCc s p).rootCc1 = false) (hcc2 : isRp (portCc s p).rootCc2 = false) :
    ∃ t, exec (.dischargeEnd p mv) s = .next t
      ∧ (portCinch t p).stuck = true ∧ (portCinch t p).st = .stuckOn ∧ (portCc t p).state = .outOfService
      ∧ (gcutFitted s (groupOf p) = true → t.groups[groupOf p].gcutOpen = true ∧ t.groups[groupOf p].cause = 1)
      ∧ (gcutFitted s (groupOf p) = false → t.groups[groupOf p].gcutOpen = s.groups[groupOf p].gcutOpen) := by
  have hup : staysUp p mv s = true := by simp [staysUp, hgates, hused, hback, hsink, hcc1, hcc2, hmv]
  have hstuck : stuckThere p (gcutFitted s (groupOf p) || s.groups[groupOf p].gcutOpen)
      (if gcutFitted s (groupOf p) then 1 else s.groups[groupOf p].cause) (dischargeEnd p mv s) := by
    have h : stuckThere p (gcutFitted s (groupOf p) || s.groups[groupOf p].gcutOpen)
      (if gcutFitted s (groupOf p) then 1 else s.groups[groupOf p].cause) (stuckOn p mv (intervalOver p s)) :=
      stuckOn_stuckThere p mv (intervalOver p s)
    rw [dischargeEnd_eq hdsch hcold, hup, hseen]
    generalize (gcutFitted s (groupOf p) || s.groups[groupOf p].gcutOpen) = cut at h ⊢
    generalize (if gcutFitted s (groupOf p) then 1 else s.groups[groupOf p].cause) = cause at h ⊢
    simp only [if_true]
    split
    · exact rearmDone_stuckThere h
    · exact h
  obtain ⟨hst, hshown, hstate, hcut, hcause⟩ := hstuck
  refine ⟨_, rfl, ?_⟩
  rw [finish_portCinch, finish_portCc, finish_groups]
  refine ⟨hst, hshown, hstate, fun hfit => ?_, fun hfit => ?_⟩
  · rw [hcut, hcause, hfit]; exact ⟨rfl, rfl⟩
  · rw [hcut, hfit]; rfl

/-! #### Root's own part -/

/-- Root holds the stuck port off, with the reading that its entry will give, and has opened a cut-off that is fitted. -/
def stuckAtRoot (p : Fin 8) (mv : Nat) (fitted : Bool) (s : State) : Prop :=
  (portCinch s p).stuck = true ∧ (portCinch s p).stuckDue = some mv
    ∧ (fitted = true → s.groups[groupOf p].gcutOpen = true ∧ s.groups[groupOf p].cause = 1)

theorem stuckAtRoot_of_kept {fitted : Bool} {a b : State} (hcinch : portCinch b p = portCinch a p)
    (hgroups : b.groups = a.groups) (h : stuckAtRoot p mv fitted a) : stuckAtRoot p mv fitted b := by
  rw [stuckAtRoot, hcinch, hgroups]
  exact h

theorem rootDark_onPort (k : Fin 8) (s : State) : OnPort k s (rootDark k s) :=
  (OnPort.ofOff (pgDisown_offPorts s k)).trans (modCinch_onPort _ k _)

/-- A port of the group that Root takes dark (R334). -/
theorem darkPort_onPort (k : Fin 8) (s : State) : OnPort k s (present k .opened (vconnOff k (rootDark k s))) :=
  (rootDark_onPort k s).trans <| (vconnOff_onPort _ k).trans (present_onPort _ k _)

theorem rootStuck_stuckAtRoot (p : Fin 8) (mv : Nat) (s : State) :
    stuckAtRoot p mv (gcutFitted s (groupOf p)) (rootStuck p mv s) := by
  have hfit : gcutFitted (modCinch p (fun c => { c with stuck := true, dsch := false, stuckDue := some mv }) s) (groupOf p)
    = gcutFitted s (groupOf p) := rfl
  unfold rootStuck
  simp only [hfit]
  split
  next h => simp [stuckAtRoot] at h ⊢; simp [h]
  next h =>
    refine onPorts_keeps (fun k t ht => ?_) _ ⟨?_, ?_, fun _ => ?_⟩
    · split
      next => exact ht
      next hk =>
        have hne : p ≠ k := by
          rintro rfl
          simp [ht.1] at hk
        have hon := darkPort_onPort k (modHold k (fun h => { h with detached := h.detached || h.inHold }) (holdOver k t))
        exact stuckAtRoot_of_kept (hon.cinch hne) hon.groups ht
    · simp [portCinch_modGroup]
    · simp [portCinch_modGroup]
    · rw [modGroup_same]; exact ⟨rfl, rfl⟩

theorem rearmDone_stuckAtRoot {fitted : Bool} (h : stuckAtRoot p mv fitted s) :
    stuckAtRoot p mv fitted (rearmDone (groupOf p) s) := by
  refine rearmDone_keeps (fun t ht => ?_) (fun e t ht => ?_) (fun k t ht => ?_) h
  · obtain ⟨hstuck, hdue, hcut⟩ := ht
    refine ⟨hstuck, hdue, fun hfit => ?_⟩
    rw [modGroup_same]
    exact hcut hfit
  · exact stuckAtRoot_of_kept (portCinch_emit t p e) (emit_groups t e) ht
  · exact stuckAtRoot_of_kept (portCinch_goUnattachedAs t k p .src) (goUnattachedAs_onPort t k .src).groups ht

theorem dischargeEnd_rootStuck (hdsch : (portCinch s p).dsch = true) (hcold : s.boot.cold = false) (hmv : 800 < mv)
    (hgates : (portCinch s p).gates = false) (hused : portUsed s p = true) (hseen : rootSeen s = false)
    (hback : (portCinch s p).backfeed = false) (hsink : (portCc s p).state ≠ .attachedSnk)
    (hcc1 : isRp (portCc s p).rootCc1 = false) (hcc2 : isRp (portCc s p).rootCc2 = false) :
    ∃ t, exec (.dischargeEnd p mv) s = .next t
      ∧ (portCinch t p).stuck = true ∧ (portCinch t p).stuckDue = some mv
      ∧ (gcutFitted s (groupOf p) = true → t.groups[groupOf p].gcutOpen = true ∧ t.groups[groupOf p].cause = 1) := by
  have hup : staysUp p mv s = true := by simp [staysUp, hgates, hused, hback, hsink, hcc1, hcc2, hmv]
  have hstuck : stuckAtRoot p mv (gcutFitted s (groupOf p)) (dischargeEnd p mv s) := by
    have h : stuckAtRoot p mv (gcutFitted s (groupOf p)) (rootStuck p mv (intervalOver p s)) :=
      rootStuck_stuckAtRoot p mv (intervalOver p s)
    rw [dischargeEnd_eq hdsch hcold, hup, hseen]
    simp only [if_true, Bool.false_eq_true, if_false]
    split
    · exact rearmDone_stuckAtRoot h
    · exact h
  refine ⟨_, rfl, ?_⟩
  rw [finish_portCinch, finish_groups]
  exact hstuck

/-! #### What raises no STUCK_ON -/

theorem portCinch_prsDark (k : Fin 8) (s : State) : portCinch (prsDark p mv s) k = portCinch s k := by
  unfold prsDark
  split
  · unfold pdSend pdSendOn setStep
    split <;> simp
  · rfl

theorem rearmDone_stuck {g : Fin 2} {b : Bool} (h : (portCinch s p).stuck = b) :
    (portCinch (rearmDone g s) p).stuck = b := by
  refine rearmDone_keeps (P := fun t => (portCinch t p).stuck = b) (fun t ht => ht) (fun e t ht => ?_) (fun k t ht => ?_) h
  · rw [portCinch_emit]; exact ht
  · rw [goUnattached, portCinch_goUnattachedAs]; exact ht

theorem dischargeEnd_unused (hcold : s.boot.cold = false) (hused : portUsed s p = false) :
    ∃ t, exec (.dischargeEnd p mv) s = .next t ∧ (portCinch t p).stuck = (portCinch s p).stuck := by
  refine ⟨_, rfl, ?_⟩
  rw [finish_portCinch]
  cases hdsch : (portCinch s p).dsch with
  | false => rw [dischargeEnd_idle (.inl hdsch)]
  | true =>
    have hdown : staysUp p mv s = false := by simp [staysUp, hused]
    have hdark : (portCinch (prsDark p mv (intervalOver p s)) p).stuck = (portCinch s p).stuck := by
      rw [portCinch_prsDark, intervalOver, portCinch_modCinch]
    rw [dischargeEnd_eq hdsch hcold, hdown]
    simp only [Bool.false_eq_true, if_false]
    split
    · exact rearmDone_stuck hdark
    · exact hdark

theorem dischargeEnd_keeps (h : (portCinch s p).dsch = false ∨ s.boot.cold = true) :
    ∃ t, exec (.dischargeEnd p mv) s = .next t ∧ portCinch t p = portCinch s p ∧ t.groups = s.groups := by
  refine ⟨_, rfl, ?_⟩
  rw [finish_portCinch, finish_groups, dischargeEnd_idle h]
  exact ⟨rfl, rfl⟩

end

/-- Settles O24: UNLATCH and FORCE_OFF, REARM, and the end of a discharge interval by Crown's path and by Root's. -/
theorem portRequestsAndDischarge : Obligations.PortRequestsAndDischarge :=
  ⟨fun _ _ _ => unlatch_unlatches, fun _ _ _ => unlatch_unlatched, fun _ _ _ => forceOff_on,
    fun _ _ _ _ => forceOff_bitAlone, fun _ _ _ => forceOff_off, fun _ _ _ => rearm_tests, fun _ _ _ => rearm_waits,
    fun _ _ _ => dischargeEnd_off, fun _ _ _ => dischargeEnd_stuck, fun _ _ _ => dischargeEnd_rootStuck,
    fun _ _ _ => dischargeEnd_unused, fun _ _ _ => dischargeEnd_keeps⟩

end Sys2Proof.Machine
end

section
/-! PROOFS. Hard Reset and the timers of a level change (R283 to R290, R311, Table 10.9). -/

namespace Sys2Proof.Machine

/-! ### The fallback that Root takes (R220) -/

section
variable (p : Fin 8) (s : State)

theorem modHold_same (f : HoldPort → HoldPort) : (modHold p f s).strap.holds[p] = f s.strap.holds[p] := by
  simp [modHold]

theorem setCode_onPort (v : Int) : OnPort p s (setCode p v s) :=
  .ite (.refl p s) ((modCinch_onPort s p _).trans (modMetro_onPort _ p _))

/-- The hold over, the fallback marked as taken, and Pn_VSET at zero current. -/
def fallenBack (p : Fin 8) (off : Bool) (s : State) : State :=
  setCode p 0 (modHold p (fun h => { h with fellBack := true, fellBackOff := off }) (holdOver p s))

/-- The lines open and the gates off, with the discharge on (R220). -/
def fallbackDark (p : Fin 8) (s : State) : State := present p .opened (vconnOff p (rootDark p s))

theorem takeFallback_off (hoff : s.strap.holds[p].fallbackOff = true) : takeFallback p s =
    if rootSeen (fallbackDark p (fallenBack p true s)) then
      modCinch p (fun c => { c with st := .discharging }) (fallbackDark p (fallenBack p true s))
    else fallbackDark p (fallenBack p true s) := by
  simp only [takeFallback, hoff, if_true]
  rfl

theorem takeFallback_onPort : OnPort p (fallenBack p s.strap.holds[p].fallbackOff s) (takeFallback p s) := by
  unfold takeFallback
  dsimp only
  split
  · exact .ite ((darkPort_onPort p _).trans (modCinch_onPort _ p _)) (darkPort_onPort p _)
  · split
    · exact .ite ((modCinch_onPort _ p _).trans <| (present_onPort _ p _).trans (modCinch_onPort _ p _))
        ((modCinch_onPort _ p _).trans (present_onPort _ p _))
    · exact .refl p _

/-- A port that falls back is out of its hold (R221). -/
theorem takeFallback_hold : (takeFallback p s).strap.holds[p].inHold = false
    ∧ (takeFallback p s).strap.holds[p].fellBack = true := by
  rw [(takeFallback_onPort p s).holds, fallenBack, (setCode_onPort p _ 0).holds, modHold_same, holdOver, modHold_same]
  exact ⟨rfl, rfl⟩

theorem fallbackDark_cinch : (portCinch (fallbackDark p s) p).gates = false
    ∧ (portCinch (fallbackDark p s) p).dsch = portPowered s p := by
  have hpow : portPowered (pgDisown p s) p = portPowered s p :=
    (OnPort.ofOff (p := p) (pgDisown_offPorts s p)).powered p
  simp [fallbackDark, rootDark]

/-- A fallback to no power turns the gates off and discharges (R220). -/
theorem takeFallback_dark (hoff : s.strap.holds[p].fallbackOff = true) :
    (portCinch (takeFallback p s) p).gates = false ∧ (portCinch (takeFallback p s) p).dsch = portPowered s p := by
  have hpow : portPowered (fallenBack p true s) p = portPowered s p := (setCode_onPort p _ 0).powered p
  have hdark := fallbackDark_cinch p (fallenBack p true s)
  rw [hpow] at hdark
  rw [takeFallback_off p s hoff]
  split
  · rw [portCinch_modCinch]; exact hdark
  · exact hdark

end

/-! ### Hard Reset (R303, R311) -/

section
variable {p : Fin 8} {s : State}

/-- What a Hard Reset leaves of a port whose role and count were as given: no contract, no authentication, one more. -/
def hardResetAt (source : Bool) (resets : EvCount) (p : Fin 8) (s : State) : Prop :=
  (portPd s p).explicit = false ∧ (portPd s p).pdo = 0 ∧ (portPd s p).rdo = 0 ∧ (portPd s p).eprMode = false
    ∧ (portPd s p).auth = .none ∧ (portPd s p).hardResets = bump 8 resets
    ∧ (portPd s p).step = (if source then .hardResetHold else .snkHardReset) ∧ (portCinch s p).contractMv = 5000

theorem hardReset_at (p : Fin 8) (sent : Bool) (cause : Nat) (s : State) :
    hardResetAt (portPd s p).source (portPd s p).hardResets p (hardReset p sent cause s) := by
  unfold hardReset
  dsimp only
  split
  all_goals
    rw [hardResetAt]
    generalize hx : authEnd p _ = x
    obtain ⟨o, hcinch⟩ := contractOver_cinch (modPd p _ x) p
    rw [hcinch, portPd_contractOver, portPd_modPd, ← hx]
    simp

theorem hardResetAt_finish {a b : State} {source : Bool} {resets : EvCount} (h : hardResetAt source resets p b) :
    hardResetAt source resets p (finish a b) := by
  obtain ⟨c, hpd⟩ := finish_portPd a b p
  simpa only [hardResetAt, finish_portCinch, hpd] using h

/-- A step that raises nothing leaves the ports as its command did. -/
theorem finish_ports_quiet {a b : State} (h : b.raised = []) : (finish a b).ports = b.ports := by
  have hnotice : (notice a b).raised = [] := by rw [notice_raised, h]
  rw [finish, journalKick_ports, openIrq_ports, flush_nil _ hnotice, notice_ports]

theorem finish_portPd_quiet {a b : State} (h : b.raised = []) (k : Fin 8) : portPd (finish a b) k = portPd b k := by
  simp only [portPd, finish_ports_quiet h]

/-! ### Hard Reset signalling -/

theorem hardResetSignal_inHold (hon : bmcOn s p = true) (hhold : s.strap.holds[p].inHold = true) :
    ∃ t, exec (.hardResetSignal p) s = .next t
      ∧ t.strap.holds[p].inHold = false ∧ t.strap.holds[p].hardReset = true ∧ t.strap.holds[p].fellBack = true
      ∧ (s.strap.holds[p].fallbackOff = true → (portCinch t p).gates = false
          ∧ (portCinch t p).dsch = portPowered s p) := by
  obtain ⟨hin, hfell⟩ := takeFallback_hold p s
  refine ⟨_, rfl, ?_⟩
  rw [hon, hhold, finish_strap, finish_portCinch]
  simp only [Bool.not_true, Bool.false_eq_true, if_false, if_true]
  rw [modHold_same]
  exact ⟨hin, rfl, hfell, takeFallback_dark p s⟩

theorem hardResetSignal_attached (hon : bmcOn s p = true) (hhold : s.strap.holds[p].inHold = false)
    (hacts : standActs s p = true) (hatt : isAttached (portCc s p).state = true) :
    ∃ t, exec (.hardResetSignal p) s = .next t
      ∧ (portPd t p).explicit = false ∧ (portPd t p).pdo = 0 ∧ (portPd t p).rdo = 0 ∧ (portPd t p).eprMode = false
      ∧ (portPd t p).auth = .none ∧ (portPd t p).hardResets = bump 8 (portPd s p).hardResets
      ∧ (portPd t p).step = (if (portPd s p).source then .hardResetHold else .snkHardReset)
      ∧ (portCinch t p).contractMv = 5000 := by
  refine ⟨_, rfl, ?_⟩
  simp only [hon, hhold, hacts, hatt, Bool.not_true, Bool.false_eq_true, if_false, Bool.and_self, if_true]
  exact hardResetAt_finish (hardReset_at p false 0 s)

theorem hardResetSignal_idle (hoff : bmcOn s p = false) (hraised : s.raised = []) :
    ∃ t, exec (.hardResetSignal p) s = .next t ∧ portPd t p = portPd s p ∧ portCinch t p = portCinch s p := by
  refine ⟨_, rfl, ?_⟩
  simp only [hoff, Bool.not_false, if_true]
  exact ⟨finish_portPd_quiet hraised p, finish_portCinch _ _ p⟩

/-! ### A level change (R283, R284) -/

@[simp] theorem portPd_setStep (st : PdStep) : portPd (setStep p st s) p = { portPd s p with step := st } :=
  portPd_modPd s p _
@[simp] theorem portCinch_setStep (st : PdStep) (k : Fin 8) : portCinch (setStep p st s) k = portCinch s k :=
  portCinch_modPd s p k _
@[simp] theorem portCc_setStep (st : PdStep) (k : Fin 8) : portCc (setStep p st s) k = portCc s k :=
  portCc_modPd s p k _

theorem srcTransitionExpire_moves (ht : standTimes s p = true) (hstep : (portPd s p).step = .srcTransition)
    (hcomp : (portCinch s p).compliance = false)
    (hnew : (portCinch s p).contractMv ≠ reqMv (portPd s p).pendPdo (portPd s p).pendRdo
      ∨ (portMetro s p).confirmed = false) : ∃ t, exec (.srcTransitionExpire p) s = .next t
      ∧ (portPd t p).step = .srcSettling
      ∧ (portCinch t p).contractMv = reqMv (portPd s p).pendPdo (portPd s p).pendRdo := by
  generalize hmv : reqMv (portPd s p).pendPdo (portPd s p).pendRdo = mv at hnew ⊢
  obtain ⟨o, hcinch⟩ := setTarget_cinch s p mv
  have hcomp' : (portCinch (setStep p .srcSettling (setTarget p mv s)) p).compliance = false := by
    rw [portCinch_setStep, hcinch]; exact hcomp
  have hsame : (decide ((portCinch s p).contractMv = mv) && (portMetro s p).confirmed) = false := by
    rcases hnew with h | h <;> simp [h]
  have hmove : moveLevel p s = setStep p .srcSettling (setTarget p mv s) := by
    simp only [moveLevel, hmv, hsame, hcomp', Bool.or_self, Bool.false_eq_true, if_false]
  obtain ⟨c, hpd⟩ := finish_portPd s (setStep p .srcSettling (setTarget p mv s)) p
  refine ⟨_, rfl, ?_⟩
  simp only [ht, hstep, Bool.not_true, Bool.false_eq_true, if_false, hmove]
  rw [hpd, finish_portCinch, portCinch_setStep, hcinch, portPd_setStep]
  exact ⟨rfl, rfl⟩

theorem srcTransitionExpire_swap (ht : standTimes s p = true) (hstep : (portPd s p).step = .prsSrcAccepted) :
    ∃ t, exec (.srcTransitionExpire p) s = .next t ∧ (portPd t p).step = .prsSrcOff ∧ (portCinch t p).gates = false := by
  obtain ⟨c, hpd⟩ := finish_portPd s (setStep p .prsSrcOff (gatesOff p s)) p
  refine ⟨_, rfl, ?_⟩
  simp only [ht, hstep, Bool.not_true, Bool.false_eq_true, if_false]
  rw [hpd, finish_portCinch, portCinch_setStep, portPd_setStep]
  exact ⟨rfl, gatesOff_gates s p⟩

theorem pdTransitionFail_resets (ht : standTimes s p = true) (hstep : (portPd s p).step = .srcSettling) :
    ∃ t, exec (.pdTransitionFail p) s = .next t
      ∧ (portPd t p).hardResets = bump 8 (portPd s p).hardResets ∧ (portPd t p).explicit = false
      ∧ (portPd t p).step = (if (portPd s p).source then .hardResetHold else .snkHardReset) := by
  have hreset := hardReset_at p true 1
    (evp p 0x2013 5 (le 2 (satTo 16 (portCinch s p).contractMv) ++ le 2 (satTo 16 (vbusMv (portMetro s p)))) s)
  rw [portPd_evp] at hreset
  obtain ⟨hexp, -, -, -, -, hcount, hst, -⟩ := hardResetAt_finish (a := s) hreset
  refine ⟨_, rfl, ?_⟩
  simp only [ht, hstep, decide_true, Bool.and_self, if_true]
  exact ⟨hcount, hexp, hst⟩

theorem vconnSourceOnTimeout_resets (ht : standTimes s p = true) (hstep : (portPd s p).step = .vcsOn)
    (hoff : (portCc s p).vconnOn = false) : ∃ t, exec (.vconnSourceOnTimeout p) s = .next t
      ∧ (portPd t p).hardResets = bump 8 (portPd s p).hardResets ∧ (portPd t p).explicit = false := by
  obtain ⟨hexp, -, -, -, -, hcount, -, -⟩ := hardResetAt_finish (a := s) (hardReset_at p true 3 s)
  refine ⟨_, rfl, ?_⟩
  simp only [ht, hstep, hoff, decide_true, Bool.not_false, Bool.and_self, if_true]
  exact ⟨hcount, hexp⟩

/-! ### The Hard Reset timers (R243) -/

theorem psHardReset_low (ht : standTimes s p = true) (hstep : (portPd s p).step = .hardResetHold) :
    ∃ t, exec (.hardResetTimer p .psHardReset) s = .next t
      ∧ (portPd t p).step = .hardResetOff ∧ (portCinch t p).gates = false ∧ portCc t p = portCc s p := by
  obtain ⟨c, hpd⟩ := finish_portPd s (setStep p .hardResetOff (gatesOff p s)) p
  refine ⟨_, rfl, ?_⟩
  simp only [ht, hstep, Bool.not_true, Bool.false_eq_true, if_false, if_true, hardResetLow]
  rw [hpd, finish_portCinch, finish_portCc, portCinch_setStep, portPd_setStep, portCc_setStep, portCc_gatesOff]
  exact ⟨rfl, gatesOff_gates s p, rfl⟩

theorem srcRecover_restores (ht : standTimes s p = true) (hstep : (portPd s p).step = .hardResetOff)
    (hserv : serviceable s p = true) (hup : s.power.groupUp[groupOf p] = true)
    (hmode : flag (portCinch s p).cfg 24 = false) : ∃ t, exec (.hardResetTimer p .srcRecover) s = .next t
      ∧ (portPd t p).step = .srcStartup ∧ (portCinch t p).gates = true
      ∧ (portCc t p).term = .rp (rpLevel (portCc s p)) := by
  generalize hx : modPd p (fun q => { q with step := .srcStartup, ams := 0 })
    (present p (.rp (rpLevel (portCc s p))) s) = x
  have hon : OnPort p s x := hx ▸ (present_onPort s p _).trans (modPd_onPort _ p _)
  have hcinch : portCinch x p = portCinch s p := by rw [← hx, portCinch_modPd, portCinch_present]
  have hpow : portPowered s p = true := hup
  have hturn := turnOn_slew x p (by rwa [serviceable_of_onPort hon hcinch]) (by rwa [hon.power]) (by rwa [hcinch])
  obtain ⟨c, hpd⟩ := finish_portPd s (turnOn p x) p
  refine ⟨_, rfl, ?_⟩
  simp only [ht, hstep, Bool.not_true, Bool.false_eq_true, if_false, if_true, hardResetRestore, hx]
  rw [hpd, hturn, finish_portCinch, finish_portCc, portCinch_modCinch, portPd_modCinch, portCc_modCinch, ← hx,
    portPd_modPd, portCc_modPd, portCc_present, hpow]
  exact ⟨rfl, rfl, rfl⟩

/-! ### tSinkTx, and timers that do not act (R279, R216) -/

theorem sinkTxExpire_ends (ht : standTimes s p = true) (hraised : s.raised = []) :
    ∃ t, exec (.sinkTxExpire p) s = .next t ∧ portPd t p = { portPd s p with sinkTxWait := false } := by
  refine ⟨_, rfl, ?_⟩
  rw [if_pos ht, finish_portPd_quiet (b := modPd p _ s) hraised, portPd_modPd]

theorem standTimes_stopped (h : strapUp s = false ∨ s.power.refoscRunning = false) : standTimes s p = false := by
  rcases h with h | h <;> simp [standTimes, standActs, portReach, rootSeen, h]

theorem timers_stopped (h : strapUp s = false ∨ s.power.refoscRunning = false) (hraised : s.raised = []) :
    (∃ t, exec (.srcTransitionExpire p) s = .next t ∧ portPd t p = portPd s p ∧ portCinch t p = portCinch s p)
      ∧ (∃ t, exec (.pdTransitionFail p) s = .next t ∧ portPd t p = portPd s p)
      ∧ (∃ t, exec (.sinkTxExpire p) s = .next t ∧ portPd t p = portPd s p) := by
  have ht : standTimes s p = false := standTimes_stopped h
  refine ⟨⟨_, rfl, ?_⟩, ⟨_, rfl, ?_⟩, ⟨_, rfl, ?_⟩⟩
  · simp only [ht, Bool.not_false, if_true]
    exact ⟨finish_portPd_quiet hraised p, finish_portCinch _ _ p⟩
  · simp only [ht, Bool.false_and, Bool.false_eq_true, if_false]
    exact finish_portPd_quiet hraised p
  · simp only [ht, Bool.false_eq_true, if_false]
    exact finish_portPd_quiet hraised p

end

/-- Settles O21: Hard Reset signalling, the transitions of a level, and the timers of a Hard Reset. -/
theorem pdHardResetAndTransitions : Obligations.PdHardResetAndTransitions :=
  ⟨fun _ _ => hardResetSignal_inHold, fun _ _ => hardResetSignal_attached, fun _ _ => hardResetSignal_idle,
    fun _ _ => srcTransitionExpire_moves, fun _ _ => srcTransitionExpire_swap, fun _ _ => pdTransitionFail_resets,
    fun _ _ => vconnSourceOnTimeout_resets, fun _ _ => psHardReset_low, fun _ _ => srcRecover_restores,
    fun _ _ => sinkTxExpire_ends, fun _ _ => timers_stopped⟩

end Sys2Proof.Machine
end

section
/-! PROOFS. Metrology (chapter 13): what Crown does with a reading pair leaves the pair, the corrections, the energy and
the fault of every channel as they are; then the windows, the energy and the reference check. -/

namespace Sys2Proof.Machine

/-! ### What the loop and the limits leave of a port's meter -/

/-- The meter without what the loop, the confirmation of a level and the voltage alarms keep there. -/
def meterCore (m : MetroPort) : MetroPort :=
  { m with
    targetUv := 0, workUv := 0, clUv := none, confirmed := false, confCount := 0, codeChanged := false, ovCount := 0
    uvCount := 0, ov := false, uv := false }

/-- From `a` to `b` the power inputs stay, and the meter of every port but for what `meterCore` leaves out. -/
structure MetersKept (a b : State) : Prop where
  power : b.power = a.power
  meters : ∀ k, meterCore (portMetro b k) = meterCore (portMetro a k)

namespace MetersKept
variable {a b c : State}

theorem refl (a : State) : MetersKept a a := ⟨rfl, fun _ => rfl⟩

theorem trans (h : MetersKept a b) (g : MetersKept b c) : MetersKept a c :=
  ⟨g.power.trans h.power, fun k => (g.meters k).trans (h.meters k)⟩

theorem ite {c : Prop} [Decidable c] {x y : State} (hx : MetersKept a x) (hy : MetersKept a y) :
    MetersKept a (if c then x else y) := by
  split
  · exact hx
  · exact hy

theorem of_ports (hpow : b.power = a.power) (hports : ∀ k, portMetro b k = portMetro a k) : MetersKept a b :=
  ⟨hpow, fun k => congrArg meterCore (hports k)⟩

theorem of_off (h : OffPorts a b) : MetersKept a b := of_ports h.power h.metro

/-- What `meterCore` shows of a meter is kept. -/
theorem part {α : Type} (h : MetersKept a b) (f : MetroPort → α) (k : Fin 8) (hf : ∀ m, f (meterCore m) = f m) :
    f (portMetro b k) = f (portMetro a k) := by
  rw [← hf, h.meters, hf]

end MetersKept

section
variable (p : Fin 8) (s : State)

theorem modCc_meters (f : CcPort → CcPort) : MetersKept s (modCc p f s) :=
  .of_ports rfl fun k => portMetro_modCc s p k f
theorem modPd_meters (f : PdPort → PdPort) : MetersKept s (modPd p f s) :=
  .of_ports rfl fun k => portMetro_modPd s p k f
theorem modCinch_meters (f : CinchPort → CinchPort) : MetersKept s (modCinch p f s) :=
  .of_ports rfl fun k => portMetro_modCinch s p k f

/-- An update of the loop's part of a meter. -/
theorem modMetro_meters (f : MetroPort → MetroPort) (hf : ∀ m, meterCore (f m) = meterCore m := by intro; rfl) :
    MetersKept s (modMetro p f s) := by
  refine ⟨rfl, fun k => ?_⟩
  by_cases hk : k = p
  · subst hk; rw [portMetro_modMetro, hf]
  · rw [(modMetro_onPort s p f).metro hk]

theorem emit_meters (e : Event) : MetersKept s (emit e s) := .of_off (emit_offPorts s e)
theorem evp_meters (code sev : Nat) (data : List Byte) : MetersKept s (evp p code sev data s) :=
  .of_off (evp_offPorts s p code sev data)
theorem pgDisown_meters : MetersKept s (pgDisown p s) := .of_off (pgDisown_offPorts s p)
theorem unwantBy_meters (gone : AwlUse → Bool) : MetersKept s (unwantBy gone s) := .of_off (unwantBy_offPorts s gone)
theorem eraseItem_meters (i : Fin 20) : MetersKept s (eraseItem i s) := .of_off (eraseItem_offPorts s i)

/-! ### Messages and negotiations -/

theorem present_meters (t : CcTerm) : MetersKept s (present p t s) := modCc_meters p s _
theorem setCcState_meters (st : CcState) : MetersKept s (setCcState p st s) := modCc_meters p s _
theorem setStep_meters (st : PdStep) : MetersKept s (setStep p st s) := modPd_meters p s _
theorem pdSendOn_meters (on : Sop) (m : PdMsg) : MetersKept s (pdSendOn p on m s) := .ite (modPd_meters p s _) (.refl s)
theorem pdSend_meters (m : PdMsg) : MetersKept s (pdSend p m s) := pdSendOn_meters p s _ m

theorem amsStart_meters (k : Byte) : MetersKept s (amsStart p k s) := by
  unfold amsStart
  exact .ite ((modPd_meters p s _).trans <| (modPd_meters p _ _).trans (present_meters p _ _)) (modPd_meters p s _)
theorem amsEnd_meters : MetersKept s (amsEnd p s) :=
  .ite ((modPd_meters p s _).trans (present_meters p _ _)) (modPd_meters p s _)
theorem amsSend_meters (k : Byte) (m : PdMsg) : MetersKept s (amsSend p k m s) :=
  (MetersKept.ite (amsStart_meters p s k) (.refl s)).trans (pdSend_meters p _ m)

theorem sendOffer_meters (own : Bool) (pdos : List Word) : MetersKept s (sendOffer p own pdos s) := by
  have hams : ∀ (c : Prop) [Decidable c] (x : State), MetersKept s x →
      MetersKept s (if c then amsStart p amsNegotiation x else x) := fun _ _ x hx =>
    .ite (hx.trans (amsStart_meters p x amsNegotiation)) hx
  exact .ite ((hams _ _ (modPd_meters p s _)).trans (pdSend_meters p _ _))
    ((hams _ _ (modPd_meters p s _)).trans (pdSend_meters p _ _))

theorem sendCaps_meters : MetersKept s (sendCaps p s) :=
  .ite (modPd_meters p s _) ((modPd_meters p s _).trans (sendOffer_meters p _ true _))

theorem startSource_meters : MetersKept s (startSource p s) :=
  .ite (((modPd_meters p s _).trans (modPd_meters p _ _)).trans (pdSendOn_meters p _ _ _))
    ((modPd_meters p s _).trans (sendCaps_meters p _))

/-! ### Authentication (R303) -/

theorem unauthenticated_meters : MetersKept s (unauthenticated p s) := .of_ports rfl fun _ => rfl
theorem authClear_meters (st : AuthState) : MetersKept s (authClear st p s) := modPd_meters p s _
theorem modItem_meters (i : Fin 20) (f : PkItem → PkItem) : MetersKept s (modItem i f s) := .of_ports rfl fun _ => rfl
theorem pocketShort_meters (i : Fin 20) (cause : Nat) : MetersKept s (pocketShort i cause s) :=
  (emit_meters s _).trans (.of_ports rfl fun _ => rfl)

theorem authLease_meters : MetersKept s (authLease p s) := by
  have hshort : ∀ i cause, MetersKept s
      (unauthenticated p (authClear .noSlot p (eraseItem (sessionItem p) (pocketShort i cause s)))) := fun i cause =>
    (pocketShort_meters s i cause).trans <| (eraseItem_meters _ _).trans <| (authClear_meters p _ _).trans <|
      unauthenticated_meters p _
  have hclear : ∀ f, MetersKept s (modItem (sessionItem p) f (eraseItem (sessionItem p) s)) := fun f =>
    (eraseItem_meters s _).trans (modItem_meters _ _ f)
  exact .ite (hshort _ _) <| .ite (hshort _ _) <| .ite (hshort _ _) <|
    ((MetersKept.ite (.refl s) (hclear _)).trans (modPd_meters p _ _)).trans (amsSend_meters p _ _ _)

theorem authBegin_meters : MetersKept s (authBegin p s) :=
  .ite ((unwantBy_meters s _).trans (authLease_meters p _)) (.refl s)

theorem authEnd_meters : MetersKept s (authEnd p s) :=
  (MetersKept.of_off (authEnd_off s p)).trans (authClear_meters p _ _)

/-! ### Contracts and levels -/

theorem contractMade_meters : MetersKept s (contractMade p s) := by
  unfold contractMade
  dsimp only
  generalize hx : evp p 0x2010 1 _ _ = x
  have hmade : MetersKept s x := by
    rw [← hx]
    exact (modPd_meters p s _).trans <| (amsEnd_meters p _).trans <| (modPd_meters p _ _).trans (evp_meters p _ _ _ _)
  exact .ite (hmade.trans <| (modPd_meters p _ _).trans (amsSend_meters p _ _ _))
    (.ite hmade (hmade.trans (authBegin_meters p _)))

theorem levelConfirmed_meters : MetersKept s (levelConfirmed p s) :=
  .ite ((pdSend_meters p s _).trans (contractMade_meters p _)) (.refl s)

theorem setCode_meters (v : Int) : MetersKept s (setCode p v s) :=
  .ite (.refl s) ((modCinch_meters p s _).trans (modMetro_meters p _ _))

theorem setTarget_meters (mv : Nat) : MetersKept s (setTarget p mv s) :=
  .ite (.refl s) ((modCinch_meters p s _).trans (modMetro_meters p _ _))

theorem contractOver_meters : MetersKept s (contractOver p s) :=
  (setTarget_meters p s 5000).trans (modMetro_meters p _ _)
theorem pdEnd_meters : MetersKept s (pdEnd p s) := (modPd_meters p s _).trans (contractOver_meters p _)

/-! ### Gates, leaving an attach, and trips -/

theorem gatesLow_meters : MetersKept s (gatesLow p s) := (pgDisown_meters p s).trans (modCinch_meters p _ _)
theorem dischargeOn_meters : MetersKept s (dischargeOn p s) := modCinch_meters p s _
theorem gatesDark_meters : MetersKept s (gatesDark p s) := (gatesLow_meters p s).trans (dischargeOn_meters p _)
theorem gatesOff_meters : MetersKept s (gatesOff p s) :=
  .ite (.ite (gatesDark_meters p s) ((gatesLow_meters p s).trans (modCinch_meters p _ _))) (.refl s)

theorem debounceDrop_meters : MetersKept s (debounceDrop p s) :=
  .of_ports (debounceDrop_onPort s p).power (portMetro_debounceDrop s p)
theorem vconnOff_meters : MetersKept s (vconnOff p s) := .ite (modCc_meters p s _) (.refl s)
theorem backfeedEnd_meters (cause : Nat) : MetersKept s (backfeedEnd p cause s) :=
  .ite ((modCinch_meters p s _).trans (evp_meters p _ _ _ _)) (.refl s)

theorem clearLevels_meters : MetersKept s (clearLevels p s) := modPd_meters p s _

theorem portLeave_meters (cause : Nat) : MetersKept s (portLeave p cause s) :=
  (backfeedEnd_meters p s cause).trans <| (debounceDrop_meters p _).trans <| (vconnOff_meters p _).trans <|
    (unwantBy_meters _ _).trans <| (pdEnd_meters p _).trans <| (authEnd_meters p _).trans (clearLevels_meters p _)

theorem outOfService_meters : MetersKept s (outOfService p s) :=
  (gatesDark_meters p s).trans <| (portLeave_meters p _ 2).trans <| (setCcState_meters p _ _).trans <|
    (modCc_meters p _ _).trans (present_meters p _ _)

theorem groupAfterBackfeed_meters (g : Fin 2) : MetersKept s (groupAfterBackfeed g s) :=
  groupAfterBackfeed_keeps (P := MetersKept s)
    (fun k _ ht => ht.trans ((outOfService_meters k _).trans (modCinch_meters k _ _))) g (.refl s)

theorem errorRecovery_meters : MetersKept s (errorRecovery p s) :=
  .ite (.refl s) <| (gatesOff_meters p s).trans <| (portLeave_meters p _ 1).trans <| (setCcState_meters p _ _).trans <|
    (present_meters p _ _).trans (groupAfterBackfeed_meters _ _)

theorem tripCount_meters (code : Nat) : MetersKept s (tripCount p code s) :=
  .ite ((modCinch_meters p s _).trans <| (modCinch_meters p _ _).trans (evp_meters p _ _ _ _)) (modCinch_meters p s _)

theorem afterTrip_meters (code : Nat) : MetersKept s (afterTrip p code s) := by
  unfold afterTrip
  dsimp only
  generalize hx : tripCount p code _ = x
  have htrip : MetersKept s x := by
    rw [← hx]
    exact (gatesDark_meters p s).trans <| (modCinch_meters p _ _).trans (tripCount_meters p _ code)
  exact .ite (htrip.trans <| (portLeave_meters p _ 1).trans <| (setCcState_meters p _ _).trans <|
    (present_meters p _ _).trans (groupAfterBackfeed_meters _ _)) (htrip.trans (errorRecovery_meters p _))

/-! ### What acts on a reading pair -/

theorem clStep_meters : MetersKept s (clStep p s) := by
  unfold clStep
  dsimp only
  refine .ite (modMetro_meters p s _) (.ite (.refl s) (.ite (modMetro_meters p s _) ?_))
  split
  · exact .ite (modMetro_meters p s _) (.refl s)
  · exact .refl s

theorem moveCode_meters (d : Int) : MetersKept s (moveCode p d s) := setCode_meters p s _

theorem retarget_meters : MetersKept s (retarget p s) := .ite (.refl s) (modMetro_meters p s _)

theorem loopStep_meters : MetersKept s (loopStep p s) :=
  .ite (.refl s) <| .ite ((modMetro_meters p s _).trans (moveCode_meters p _ _)) <|
    .ite (modMetro_meters p s _) <| .ite (.refl s) <| .ite (.refl s) (moveCode_meters p s _)

theorem confirmStep_meters : MetersKept s (confirmStep p s) :=
  .ite (.refl s) <| .ite (modMetro_meters p s _) <|
    .ite ((modCinch_meters p s _).trans <| (modMetro_meters p _ _).trans (levelConfirmed_meters p _))
      (modMetro_meters p s _)

theorem inrushEnd_meters : MetersKept s (inrushEnd p s) := by
  unfold inrushEnd
  dsimp only
  generalize hx : modCinch p _ (pgDisown p s) = x
  have hon : MetersKept s x := hx ▸ (pgDisown_meters p s).trans (modCinch_meters p (pgDisown p s) _)
  exact .ite (.refl s) <| .ite (hon.trans <| (pdSend_meters p _ _).trans (startSource_meters p _)) <|
    .ite (hon.trans (startSource_meters p _)) hon

theorem inrushStep_meters : MetersKept s (inrushStep p s) :=
  .ite (.refl s) <| .ite (modCinch_meters p s _) <| .ite (inrushEnd_meters p s) (modCinch_meters p s _)

theorem ceilingStep_meters : MetersKept s (ceilingStep p s) := .ite (.refl s) (modCinch_meters p s _)

/-- An event raised or not. -/
theorem MetersKept.evpIf (p : Fin 8) {a b : State} {c : Prop} [Decidable c] {code sev : Nat} {data : List Byte}
    (h : MetersKept a b) : MetersKept a (if c then evp p code sev data b else b) :=
  .ite (h.trans (evp_meters p b code sev data)) h

theorem alarmStep_meters : MetersKept s (alarmStep p s) :=
  .ite (modMetro_meters p s _) (((modMetro_meters p s _).evpIf p).evpIf p)

theorem i2tStep_meters : MetersKept s (i2tStep p s) :=
  .ite (.refl s) <| .ite ((modCinch_meters p s _).trans <| (evp_meters p _ _ _ _).trans (afterTrip_meters p _ 4))
    (modCinch_meters p s _)

theorem crownReading_meters : MetersKept s (crownReading p s) := by
  unfold crownReading
  dsimp only
  have htarget : MetersKept s (retarget p (if (portMetro s p).iCal || (portMetro s p).vCal then s else clStep p s)) :=
    (MetersKept.ite (.refl s) (clStep_meters p s)).trans (retarget_meters p _)
  exact (MetersKept.ite htarget <| htarget.trans <| (loopStep_meters p _).trans <| (confirmStep_meters p _).trans <|
    (inrushStep_meters p _).trans <| (ceilingStep_meters p _).trans (alarmStep_meters p _)).trans (i2tStep_meters p _)

theorem prsDark_meters (mv : Nat) : MetersKept s (prsDark p mv s) :=
  .ite ((present_meters p s _).trans <| (setStep_meters p _ _).trans (pdSend_meters p _ _)) (.refl s)

theorem tryWaitAttach_meters : MetersKept s (tryWaitAttach p s) :=
  .ite ((debounceDrop_meters p s).trans <| (modCc_meters p _ _).trans <| (modPd_meters p _ _).trans
    (evp_meters p _ _ _ _)) (.refl s)

/-! ### One reading pair -/

/-- VIN of the port's group as the pair brought it. -/
def vinRead (p : Fin 8) (r : Reading) (s : State) : State :=
  { s with power := { s.power with vinMv := s.power.vinMv.set (groupOf p) r.vinMv } }

/-- The pair taken, with its calibration windows and its energy. -/
def pairTaken (p : Fin 8) (r : Reading) (s : State) : State :=
  energyStep p (calWindows p r (takeReading p r (vinRead p r s)))

theorem metroReading_meters {p : Fin 8} {r : Reading} {s : State} (hrun : s.strap.codeRunning = true)
    (hsilent : r.silent = none) : MetersKept (pairTaken p r s) (metroReading p r s) := by
  unfold metroReading
  simp only [hrun, hsilent, Bool.not_true, Bool.false_eq_true, if_false, ← vinRead.eq_1, ← pairTaken.eq_1]
  generalize pairTaken p r s = x
  have hroot : MetersKept x (modMetro p (fun m => { m with confCount := 0 }) x) := modMetro_meters p x _
  have hcrown := crownReading_meters p x
  exact .ite (.ite hroot (hroot.trans (inrushStep_meters p _)))
    (.ite hcrown (hcrown.trans <| (prsDark_meters p _ _).trans (tryWaitAttach_meters p _)))

/-! ### The pair as it is taken (R381 to R385) -/

/-- A meter with the pair taken: the current and STALE are the two that rest on more than the meter. -/
def pairIn (r : Reading) (i : Int) (stale : Bool) (m : MetroPort) : MetroPort :=
  { m with
    seq := m.seq + 1, vCal := voltsRepeat m r, iCal := r.calI.isSome, stale := stale, sampled := false
    vbus := if voltsRepeat m r then m.vbus else min 262140 r.vbus
    ibus := if r.calI.isSome then m.ibus else i
    ovr := if r.calI.isSome then m.ovr else decide (150000000 < r.shuntNv.natAbs) }

theorem currentOf_offPorts (m : MetroPort) (nv : Int) : OffPorts s (currentOf s m nv).2 := by
  unfold currentOf
  dsimp only
  split <;> constructor <;> rfl

theorem takeReading_onPort (r : Reading) : OnPort p s (takeReading p r s) :=
  (OnPort.ofOff (currentOf_offPorts s (portMetro s p) r.shuntNv)).trans (by unfold takeReading; exact modMetro_onPort _ p _)

theorem takeReading_metro (r : Reading) : ∃ i stale, portMetro (takeReading p r s) p = pairIn r i stale (portMetro s p) := by
  refine ⟨(currentOf s (portMetro s p) r.shuntNv).1, !strapUp s, ?_⟩
  unfold takeReading
  dsimp only
  rw [portMetro_modMetro, (currentOf_offPorts s (portMetro s p) r.shuntNv).metro]
  rfl

@[simp] theorem portMetro_vinRead (r : Reading) (k : Fin 8) : portMetro (vinRead p r s) k = portMetro s k := rfl

/-! ### Calibration windows and energy -/

/-- The reading pair with its marks, and SEQ. -/
def pairOf (m : MetroPort) : MetroPort :=
  { vbus := m.vbus, ibus := m.ibus, seq := m.seq, vCal := m.vCal, iCal := m.iCal, ovr := m.ovr }

@[simp] theorem portMetro_rootEv (e : Event) (k : Fin 8) : portMetro (rootEv e s) k = portMetro s k :=
  (rootEv_offPorts s e).metro k

theorem metroFault_pair (cause channel : Nat) :
    pairOf (portMetro (metroFault p cause channel s) p) = pairOf (portMetro s p) := by
  unfold metroFault
  split
  · rfl
  · split
    · split
      · rw [portMetro_modMetro]; rfl
      · rfl
    · rw [portMetro_rootEv, portMetro_modMetro]; rfl

theorem metroRecover_pair : pairOf (portMetro (metroRecover p s) p) = pairOf (portMetro s p) := by
  unfold metroRecover
  dsimp only
  split
  · rw [portMetro_rootEv, portMetro_modMetro]; rfl
  · rfl

theorem calNext_pair (volts gain bad : Bool) (m : MetroPort) : pairOf (calNext volts gain bad m) = pairOf m := by
  cases volts <;> rfl

theorem calWindow_pair (volts : Bool) (w : CalWin) :
    pairOf (portMetro (calWindow p volts w s) p) = pairOf (portMetro s p) := by
  unfold calWindow
  extract_lets m gain again open_ ch
  by_cases hopen : open_ = true
  · rw [if_pos hopen, metroFault_pair, portMetro_modMetro, calNext_pair]
  · rw [if_neg hopen]
    split
    · split
      · rw [metroFault_pair, portMetro_modMetro, calNext_pair]
      · rw [portMetro_modMetro, calNext_pair]
    · rw [metroRecover_pair, portMetro_modMetro]
      cases volts <;> rfl

theorem calWindows_pair (r : Reading) : pairOf (portMetro (calWindows p r s) p) = pairOf (portMetro s p) := by
  unfold calWindows
  dsimp only
  cases r.calV <;> cases r.calI <;> simp only [calWindow_pair]

/-- A positive current counts in the energy delivered (R397). -/
theorem energyStep_out (h : 0 < (portMetro s p).ibus) : ∃ e, portMetro (energyStep p s) p = { portMetro s p with
    eout := e
    eoutRem := ((portMetro s p).eoutRem + (portMetro s p).vbus * (portMetro s p).ibus.natAbs) % energyUnits } := by
  simp only [energyStep, h, if_true]
  split
  · exact ⟨_, by rw [portMetro_rootEv, portMetro_modMetro]⟩
  · exact ⟨_, by rw [portMetro_modMetro]⟩

/-- Any other current counts in the energy taken. -/
theorem energyStep_in (h : ¬ 0 < (portMetro s p).ibus) : ∃ e, portMetro (energyStep p s) p = { portMetro s p with
    ein := e
    einRem := ((portMetro s p).einRem + (portMetro s p).vbus * (portMetro s p).ibus.natAbs) % energyUnits } := by
  simp only [energyStep, h, if_false]
  split
  · exact ⟨_, by rw [portMetro_rootEv, portMetro_modMetro]⟩
  · exact ⟨_, by rw [portMetro_modMetro]⟩

theorem energyStep_cases : ∃ o oRem i iRem, portMetro (energyStep p s) p =
    { portMetro s p with eout := o, eoutRem := oRem, ein := i, einRem := iRem } := by
  by_cases h : 0 < (portMetro s p).ibus
  · obtain ⟨e, h⟩ := energyStep_out p s h
    exact ⟨_, _, _, _, h⟩
  · obtain ⟨e, h⟩ := energyStep_in p s h
    exact ⟨_, _, _, _, h⟩

end

/-! ### What a reading pair shows after its step -/

section
variable {p : Fin 8} {r : Reading} {s : State}

/-- What `meterCore` shows of the meter is, after the whole pair, what the pair, its windows and its energy made it. -/
theorem metroReading_part {α : Type} (f : MetroPort → α) (hrun : s.strap.codeRunning = true) (hsilent : r.silent = none)
    (hf : ∀ m, f (meterCore m) = f m := by intro; rfl) :
    f (portMetro (finish s (metroReading p r s)) p) = f (portMetro (pairTaken p r s) p) := by
  rw [finish_portMetro]
  exact (metroReading_meters hrun hsilent).part f p hf

theorem pairTaken_pair : ∃ i stale, pairOf (portMetro (pairTaken p r s) p) = pairOf (pairIn r i stale (portMetro s p)) := by
  obtain ⟨i, stale, hpair⟩ := takeReading_metro p (vinRead p r s) r
  obtain ⟨_, _, _, _, henergy⟩ := energyStep_cases p (calWindows p r (takeReading p r (vinRead p r s)))
  refine ⟨i, stale, ?_⟩
  calc pairOf (portMetro (pairTaken p r s) p)
      = pairOf (portMetro (calWindows p r (takeReading p r (vinRead p r s))) p) := by rw [pairTaken, henergy]; rfl
    _ = pairOf (portMetro (takeReading p r (vinRead p r s)) p) := calWindows_pair p _ r
    _ = _ := by rw [hpair, portMetro_vinRead]

/-- The pair and its marks, whatever windows ran (R381 to R385, R389). -/
theorem metroReading_pair (hrun : s.strap.codeRunning = true) (hsilent : r.silent = none) : ∃ i stale,
    pairOf (portMetro (finish s (metroReading p r s)) p) = pairOf (pairIn r i stale (portMetro s p)) := by
  rw [metroReading_part pairOf hrun hsilent]
  exact pairTaken_pair

theorem energyStep_onPort (p : Fin 8) (s : State) : OnPort p s (energyStep p s) :=
  .ite (.ite ((modMetro_onPort s p _).trans (.ofOff (rootEv_offPorts _ _))) (modMetro_onPort s p _))
    (.ite ((modMetro_onPort s p _).trans (.ofOff (rootEv_offPorts _ _))) (modMetro_onPort s p _))

/-- Outside calibration the pair is taken and its energy counted. -/
theorem pairTaken_plain (hv : r.calV = none) (hi : r.calI = none) :
    pairTaken p r s = energyStep p (takeReading p r (vinRead p r s)) := by
  simp only [pairTaken, calWindows, hv, hi]

theorem metroReading_plain (hrun : s.strap.codeRunning = true) (hsilent : r.silent = none) (hv : r.calV = none)
    (hi : r.calI = none) (hsample : (portMetro s p).sampled = false) : ∃ t, exec (.metroReading p r) s = .next t
      ∧ (portMetro t p).vbus = min 262140 r.vbus ∧ (portMetro t p).seq = (portMetro s p).seq + 1
      ∧ (portMetro t p).vCal = false ∧ (portMetro t p).iCal = false
      ∧ (portMetro t p).ovr = decide (150000000 < r.shuntNv.natAbs)
      ∧ t.power.vinMv[groupOf p] = r.vinMv
      ∧ (0 < (portMetro t p).ibus → (portMetro t p).ein = (portMetro s p).ein ∧ (portMetro t p).eoutRem =
          ((portMetro s p).eoutRem + (portMetro t p).vbus * (portMetro t p).ibus.natAbs) % energyUnits)
      ∧ ((portMetro t p).ibus ≤ 0 → (portMetro t p).eout = (portMetro s p).eout ∧ (portMetro t p).einRem =
          ((portMetro s p).einRem + (portMetro t p).vbus * (portMetro t p).ibus.natAbs) % energyUnits) := by
  obtain ⟨i, stale, htaken⟩ := takeReading_metro p (vinRead p r s) r
  rw [portMetro_vinRead] at htaken
  obtain ⟨i', stale', hpair⟩ := metroReading_pair (p := p) hrun hsilent
  have hrep : voltsRepeat (portMetro s p) r = false := by simp [voltsRepeat, hv, hsample]
  have hpow : (pairTaken p r s).power = (vinRead p r s).power := by
    rw [pairTaken_plain hv hi, (energyStep_onPort p _).power, (takeReading_onPort p _ r).power]
  refine ⟨_, rfl, (congrArg MetroPort.vbus hpair).trans ?_, congrArg MetroPort.seq hpair,
    (congrArg MetroPort.vCal hpair).trans hrep, (congrArg MetroPort.iCal hpair).trans ?_,
    (congrArg MetroPort.ovr hpair).trans ?_, ?_, ?_⟩
  · simp [pairOf, pairIn, hrep]
  · simp [pairOf, pairIn, hi]
  · simp [pairOf, pairIn, hi]
  · rw [finish_power, (metroReading_meters hrun hsilent).power, hpow, vinRead]
    exact Vector.getElem_set_self _
  · rw [metroReading_part MetroPort.ibus hrun hsilent, metroReading_part MetroPort.vbus hrun hsilent,
      metroReading_part MetroPort.ein hrun hsilent, metroReading_part MetroPort.eout hrun hsilent,
      metroReading_part MetroPort.einRem hrun hsilent, metroReading_part MetroPort.eoutRem hrun hsilent,
      pairTaken_plain hv hi]
    by_cases hpos : 0 < (portMetro (takeReading p r (vinRead p r s)) p).ibus
    · obtain ⟨e, henergy⟩ := energyStep_out p _ hpos
      rw [henergy]
      exact ⟨fun _ => ⟨by rw [htaken]; rfl, by rw [htaken]; rfl⟩, fun hneg => absurd hpos (not_lt.mpr hneg)⟩
    · obtain ⟨e, henergy⟩ := energyStep_in p _ hpos
      rw [henergy]
      exact ⟨fun h => absurd h hpos, fun _ => ⟨by rw [htaken]; rfl, by rw [htaken]; rfl⟩⟩

theorem metroReading_calV (w : CalWin) (hrun : s.strap.codeRunning = true) :
    ∃ t, exec (.metroReading p { r with calV := some w, calI := none, silent := none }) s = .next t
      ∧ (portMetro t p).vbus = (portMetro s p).vbus ∧ (portMetro t p).vCal = true ∧ (portMetro t p).iCal = false := by
  obtain ⟨i, stale, hpair⟩ :=
    metroReading_pair (p := p) (r := { r with calV := some w, calI := none, silent := none }) hrun rfl
  exact ⟨_, rfl, (congrArg MetroPort.vbus hpair :), (congrArg MetroPort.vCal hpair :), (congrArg MetroPort.iCal hpair :)⟩

theorem metroReading_calI (w : CalWin) (hrun : s.strap.codeRunning = true) :
    ∃ t, exec (.metroReading p { r with calV := none, calI := some w, silent := none }) s = .next t
      ∧ (portMetro t p).ibus = (portMetro s p).ibus ∧ (portMetro t p).iCal = true
      ∧ (portMetro t p).ovr = (portMetro s p).ovr := by
  obtain ⟨i, stale, hpair⟩ :=
    metroReading_pair (p := p) (r := { r with calV := none, calI := some w, silent := none }) hrun rfl
  exact ⟨_, rfl, (congrArg MetroPort.ibus hpair :), (congrArg MetroPort.iCal hpair :), (congrArg MetroPort.ovr hpair :)⟩

/-! ### Metrology fault (R390, R392) -/

/-- A used port that is not in metrology fault enters it, with nothing of its readings. -/
theorem metroFault_new {cause channel : Nat} (hused : portUsed s p = true) (hok : (portMetro s p).fault = false) :
    portMetro (metroFault p cause channel s) p = { portMetro s p with
      fault := true, cause := BitVec.ofNat 4 cause, faultAt := s.time.now, faultCount := bump 8 (portMetro s p).faultCount
      vZero := false, vGain := false, iZero := false, iGain := false, confCount := 0 } := by
  simp only [metroFault, hused, hok, Bool.not_true, Bool.false_eq_true, if_false]
  rw [portMetro_rootEv, portMetro_modMetro]

theorem metroFault_onPort (p : Fin 8) (cause channel : Nat) (s : State) : OnPort p s (metroFault p cause channel s) :=
  .ite (.refl p s) <| .ite (.ite (modMetro_onPort s p _) (.refl p s))
    ((modMetro_onPort s p _).trans (.ofOff (rootEv_offPorts _ _)))

/-- A voltage window whose result is too far off: repeated once, then a fault (R390). -/
theorem calWindow_off {w : CalWin} (hdev : 200 < w.dev.natAbs)
    (hshift : (portMetro s p).vGainNext = true ∨ w.shiftMv ≤ 100) : calWindow p true w s =
      if (portMetro s p).vBad then metroFault p (if (portMetro s p).vGainNext then 2 else 1) 0
        (modMetro p (calNext true (!(portMetro s p).vGainNext) false) s)
      else modMetro p (calNext true (portMetro s p).vGainNext true) s := by
  have hopen : (!(portMetro s p).vGainNext && decide (100 < w.shiftMv)) = false := by
    rcases hshift with h | h <;> simp [h]
  simp only [calWindow, hopen, hdev, if_true, Bool.false_eq_true, if_false]

theorem metroReading_off (w : CalWin) (hrun : s.strap.codeRunning = true) (hdev : 200 < w.dev.natAbs)
    (hshift : (portMetro s p).vGainNext = true ∨ w.shiftMv ≤ 100) (hused : portUsed s p = true)
    (hok : (portMetro s p).fault = false) :
    ∃ t, exec (.metroReading p { r with calV := some w, calI := none, silent := none }) s = .next t
      ∧ (portMetro t p).vCorr = (portMetro s p).vCorr
      ∧ ((portMetro s p).vBad = false → (portMetro t p).fault = false ∧ (portMetro t p).vBad = true
          ∧ (portMetro t p).vGainNext = (portMetro s p).vGainNext)
      ∧ ((portMetro s p).vBad = true → (portMetro t p).fault = true
          ∧ (portMetro t p).cause = (if (portMetro s p).vGainNext then 2 else 1)) := by
  refine ⟨_, rfl, ?_⟩
  generalize hr : ({ r with calV := some w, calI := none, silent := none } : Reading) = r'
  have hsilent : r'.silent = none := hr ▸ rfl
  obtain ⟨i, stale, htaken⟩ := takeReading_metro p (vinRead p r' s) r'
  have hused' : portUsed (takeReading p r' (vinRead p r' s)) p = true :=
    ((takeReading_onPort p (vinRead p r' s) r').used p).trans hused
  rw [metroReading_part MetroPort.vCorr hrun hsilent, metroReading_part MetroPort.vBad hrun hsilent,
    metroReading_part MetroPort.fault hrun hsilent, metroReading_part MetroPort.vGainNext hrun hsilent,
    metroReading_part MetroPort.cause hrun hsilent]
  have hwin : calWindows p r' (takeReading p r' (vinRead p r' s))
      = calWindow p true w (takeReading p r' (vinRead p r' s)) := by
    rw [← hr]; rfl
  rw [pairTaken, hwin]
  generalize takeReading p r' (vinRead p r' s) = x at htaken hused'
  rw [portMetro_vinRead] at htaken
  have hbad : (portMetro x p).vBad = (portMetro s p).vBad := by rw [htaken]; rfl
  have hgain : (portMetro x p).vGainNext = (portMetro s p).vGainNext := by rw [htaken]; rfl
  have hcorr : (portMetro x p).vCorr = (portMetro s p).vCorr := by rw [htaken]; rfl
  have hfault : (portMetro x p).fault = false := by rw [htaken]; exact hok
  obtain ⟨_, _, _, _, henergy⟩ := energyStep_cases p (calWindow p true w x)
  rw [henergy, calWindow_off hdev (by rwa [hgain]), hbad, hgain]
  by_cases hagain : (portMetro s p).vBad = true
  · have hnew := metroFault_new (s := modMetro p (calNext true (!(portMetro s p).vGainNext) false) x) (p := p)
      (cause := if (portMetro s p).vGainNext then 2 else 1) (channel := 0)
      (((modMetro_onPort x p _).used p).trans hused') (by rw [portMetro_modMetro]; exact hfault)
    rw [if_pos hagain, hnew, portMetro_modMetro]
    refine ⟨hcorr, fun h => absurd hagain (by simp [h]), fun _ => ⟨rfl, ?_⟩⟩
    cases (portMetro s p).vGainNext <;> rfl
  · rw [if_neg hagain, portMetro_modMetro]
    exact ⟨hcorr, fun _ => ⟨hfault, rfl, rfl⟩, fun h => absurd h hagain⟩

theorem metroReading_silent (ch : Fin 2) (hrun : s.strap.codeRunning = true) (hused : portUsed s p = true)
    (hok : (portMetro s p).fault = false) : ∃ t, exec (.metroReading p { r with silent := some ch }) s = .next t
      ∧ (portMetro t p).fault = true ∧ (portMetro t p).cause = 6
      ∧ (portMetro t p).faultCount = bump 8 (portMetro s p).faultCount
      ∧ (portMetro t p).vbus = (portMetro s p).vbus := by
  have hstep : metroReading p { r with silent := some ch } s = metroFault p 6 ch.val (vinRead p r s) := by
    simp only [metroReading, hrun, Bool.not_true, Bool.false_eq_true, if_false]
    rfl
  refine ⟨_, rfl, ?_⟩
  rw [finish_portMetro, hstep, metroFault_new (s := vinRead p r s) hused hok]
  exact ⟨rfl, rfl, rfl, rfl⟩

theorem metroReading_stopped (hrun : s.strap.codeRunning = false) :
    ∃ t, exec (.metroReading p r) s = .next t ∧ portMetro t p = portMetro s p := by
  refine ⟨_, rfl, ?_⟩
  simp only [metroReading, hrun, Bool.not_false, if_true, finish_portMetro]

/-! ### The reference (R392) and the PPS floor (R407) -/

/-- Cause 5 overrides the cause of a fault that stands (R392). -/
theorem metroFault_reference (hused : portUsed s p = true) :
    (portMetro (metroFault p 5 0 s) p).fault = true ∧ (portMetro (metroFault p 5 0 s) p).cause = 5 := by
  by_cases hok : (portMetro s p).fault = true
  · simp only [metroFault, hused, hok, Bool.not_true, Bool.false_eq_true, if_false, if_true, portMetro_modMetro,
      and_self]
  · rw [metroFault_new hused (by simpa using hok)]
    exact ⟨rfl, rfl⟩

theorem metroFault_unused (p : Fin 8) {cause channel : Nat} (hused : portUsed s p = false) :
    metroFault p cause channel s = s := by
  simp [metroFault, hused]

theorem rootEv_metro (e : Event) (s : State) : (rootEv e s).metro = s.metro := by
  unfold rootEv
  split
  · exact emit_metro _ _
  · rfl

theorem metroFault_metro (p : Fin 8) (cause channel : Nat) (s : State) : (metroFault p cause channel s).metro = s.metro := by
  unfold metroFault
  split
  · rfl
  · split
    · split <;> rfl
    · exact rootEv_metro _ _

theorem metroRecover_metro (p : Fin 8) (s : State) : (metroRecover p s).metro = s.metro := by
  unfold metroRecover
  dsimp only
  split
  · exact rootEv_metro _ _
  · rfl

/-- Every port in use is put in metrology fault with cause 5, every other is left as it is. -/
theorem metroFaults_each {x : State} (k : Fin 8) :
    (portUsed x k = true → (portMetro (onPorts allPorts (fun p s => metroFault p 5 0 s) x) k).fault = true
        ∧ (portMetro (onPorts allPorts (fun p s => metroFault p 5 0 s) x) k).cause = 5)
      ∧ (portUsed x k = false →
          portMetro (onPorts allPorts (fun p s => metroFault p 5 0 s) x) k = portMetro x k) := by
  have hkept : ∀ j t, (∀ i, portUsed t i = portUsed x i) → ∀ i, portUsed (metroFault j 5 0 t) i = portUsed x i :=
    fun j t ht i => ((metroFault_onPort j 5 0 t).used i).trans (ht i)
  constructor
  · intro hused
    refine onPorts_each (I := fun t => ∀ i, portUsed t i = portUsed x i)
      (Q := fun q t => portUsed x q = true → (portMetro t q).fault = true ∧ (portMetro t q).cause = 5)
      hkept (fun j t ht hj => metroFault_reference ((ht j).trans hj)) (fun j q t hq _ hQ hj => ?_) (fun _ => rfl)
      (List.mem_finRange k) hused
    rw [(metroFault_onPort j 5 0 t).metro hq]
    exact hQ hj
  · intro hunused
    refine (onPorts_keeps (P := fun t => (∀ i, portUsed t i = portUsed x i) ∧ portMetro t k = portMetro x k)
      (fun j t ⟨ht, hk⟩ => ⟨hkept j t ht, ?_⟩) allPorts ⟨fun _ => rfl, rfl⟩).2
    by_cases hj : k = j
    · rw [metroFault_unused j ((ht j).trans (hj ▸ hunused)), hk]
    · rw [(metroFault_onPort j 5 0 t).metro hj, hk]

theorem refCheck_bad (dev : Int) (hrun : s.strap.codeRunning = true) (hdev : 300 < dev.natAbs) :
    ∃ t, exec (.refCheck dev) s = .next t
      ∧ t.metro.refDev = dev ∧ t.metro.refFault = true ∧ t.metro.refClean = 0
      ∧ (∀ p : Fin 8, (portUsed s p = true → (portMetro t p).fault = true ∧ (portMetro t p).cause = 5)
          ∧ (portUsed s p = false → portMetro t p = portMetro s p)) := by
  refine ⟨_, rfl, ?_⟩
  simp only [hrun, if_true, refCheck, hdev, decide_true, finish_metro, finish_portMetro]
  generalize hx : (if s.metro.refFault = true then _ else rootEv _ _ : State) = x
  have hused : ∀ p, portUsed x p = portUsed s p := fun p => by
    rw [← hx]
    split
    · rfl
    · exact (OnPort.ofOff (p := p) (rootEv_offPorts _ _)).used p
  have hports : ∀ p, portMetro x p = portMetro s p := fun p => by
    rw [← hx]
    split
    · rfl
    · exact portMetro_rootEv _ _ p
  have hmetro : x.metro = { s.metro with refDev := dev, refFault := true, refClean := 0 } := by
    rw [← hx]
    split
    · rfl
    · exact rootEv_metro _ _
  have hkeep : (onPorts allPorts (fun p s => metroFault p 5 0 s) x).metro = x.metro :=
    onPorts_keeps (P := fun t => t.metro = x.metro) (fun k t ht => (metroFault_metro k 5 0 t).trans ht) allPorts rfl
  rw [hkeep, hmetro]
  refine ⟨rfl, rfl, rfl, fun p => ?_⟩
  obtain ⟨hin, hout⟩ := metroFaults_each (x := x) p
  exact ⟨fun h => hin ((hused p).trans h), fun h => (hout ((hused p).trans h)).trans (hports p)⟩

theorem refCheck_good (dev : Int) (hrun : s.strap.codeRunning = true) (hdev : dev.natAbs ≤ 300) :
    ∃ t, exec (.refCheck dev) s = .next t
      ∧ t.metro.refDev = dev ∧ t.metro.refFault = false ∧ t.metro.refClean = s.metro.refClean + 1 := by
  have hgood : ¬ 300 < dev.natAbs := by omega
  refine ⟨_, rfl, ?_⟩
  simp only [hrun, if_true, refCheck, hgood, decide_false, Bool.false_eq_true, if_false, finish_metro]
  generalize hx : ({ s with metro := _ } : State) = x
  have hkeep : (onPorts allPorts metroRecover x).metro = x.metro :=
    onPorts_keeps (P := fun t => t.metro = x.metro) (fun k t ht => (metroRecover_metro k t).trans ht) allPorts rfl
  rw [hkeep, ← hx]
  exact ⟨rfl, rfl, rfl⟩

theorem ppsClFloor_ends (hexp : (portPd s p).explicit = true) (hsrc : (portPd s p).source = true)
    (hpps : pdoPps (portPd s p).pdo = true) (ht : standTimes s p = true)
    (hlow : (portMetro s p).targetUv < 100000 * field (portPd s p).pdo 15 8) : ∃ t, exec (.ppsClFloor p) s = .next t
      ∧ (portPd t p).explicit = false ∧ (portPd t p).hardResets = bump 8 (portPd s p).hardResets
      ∧ (portPd t p).step = .hardResetHold := by
  have hreset := hardReset_at p true 5
    (evp p 0x2035 4 (le 2 (satTo 16 (contractI s p / 10)) ++ le 2 (satTo 16 ((portMetro s p).targetUv / 1000))) s)
  rw [portPd_evp, hsrc] at hreset
  obtain ⟨hover, -, -, -, -, hcount, hstep, -⟩ := hardResetAt_finish (a := s) hreset
  refine ⟨_, rfl, ?_⟩
  simp only [hexp, hsrc, hpps, ht, hlow, decide_true, Bool.and_self, if_true]
  exact ⟨hover, hcount, hstep⟩

theorem ppsClFloor_idle (hidle : (portPd s p).explicit = false ∨ (portPd s p).source = false
      ∨ pdoPps (portPd s p).pdo = false ∨ standTimes s p = false
      ∨ 100000 * field (portPd s p).pdo 15 8 ≤ (portMetro s p).targetUv) (hraised : s.raised = []) :
    ∃ t, exec (.ppsClFloor p) s = .next t ∧ portPd t p = portPd s p := by
  have hcond : ((portPd s p).explicit && (portPd s p).source && pdoPps (portPd s p).pdo && standTimes s p
      && decide ((portMetro s p).targetUv < 100000 * field (portPd s p).pdo 15 8)) = false := by
    rcases hidle with h | h | h | h | h <;> simp [h]
  refine ⟨_, rfl, ?_⟩
  simp only [hcond, Bool.false_eq_true, if_false]
  exact finish_portPd_quiet hraised p

end

/-- Settles O28: a reading pair, its windows and energy, a silent channel, the reference check and the PPS floor. -/
theorem metrologyReadings : Obligations.MetrologyReadings :=
  ⟨fun _ _ _ => metroReading_plain, fun _ _ w _ => metroReading_calV w, fun _ _ w _ => metroReading_calI w,
    fun _ _ w _ => metroReading_off w, fun _ _ ch _ => metroReading_silent ch, fun _ _ _ => metroReading_stopped,
    fun dev _ => refCheck_bad dev, fun dev _ => refCheck_good dev, fun _ _ => ppsClFloor_ends,
    fun _ _ => ppsClFloor_idle⟩

end Sys2Proof.Machine
end

section
/-! PROOFS. The host's long jobs (Tables 6.5 and 6.6): their acceptance, the flash port that serves them, the burn queue,
and the relay of a request to another device (R423 to R427). -/

namespace Sys2Proof.Machine

/-! ### Accepting a long job (R155) -/

theorem frameCmd_hostFrame (cmd : Nat) (seq : Byte) (p : List Byte) :
    frameCmd (hostFrame cmd seq p) = (BitVec.ofNat 8 cmd).toNat := numAt_byte _ _

section
variable (cmd : Nat) (seq : Byte) (p : List Byte) (s : State)

theorem taking_rein : (taking cmd seq p s).rein = s.rein := rfl
theorem taking_heart : (taking cmd seq p s).heart = s.heart := rfl
theorem taking_strap : (taking cmd seq p s).strap = s.strap := rfl

end

/-- ACCEPTED with Seam free: the buffer holds it, and the job stays in the slot. -/
theorem hostAccept_free {j : HostJob} {s : State} (hseam : seamFree .host s = true) (hjob : s.host.job = some j) :
    hostAccept s = { s with
      seam := seamUse .host none s.seam
      host := { s.host with buf := rspOf j answerAccepted, rspReady := true, job := some { j with answer := none } } } := by
  have hacc : answerAccepted.rsp = 2#8 := rfl
  have hjob' : (seamCheck .host none s).host.job = some j := hjob
  simp only [hostAccept, hostRespond, hseam, if_true, hostAnswer, hjob', hacc]
  rfl

/-- ACCEPTED changes the host port and Seam alone. -/
theorem hostAccept_form (s : State) : ∃ h m, hostAccept s = { s with host := h, seam := m } := by
  obtain ⟨h, m, hform, -⟩ := hostRespond_form answerAccepted s
  exact ⟨h, m, hform⟩

section
variable (s : State)

@[simp] theorem hostAccept_flash : (hostAccept s).flash = s.flash := by
  obtain ⟨h, m, hform⟩ := hostAccept_form s; rw [hform]
@[simp] theorem hostAccept_heart : (hostAccept s).heart = s.heart := by
  obtain ⟨h, m, hform⟩ := hostAccept_form s; rw [hform]
@[simp] theorem hostAccept_rein : (hostAccept s).rein = s.rein := by
  obtain ⟨h, m, hform⟩ := hostAccept_form s; rw [hform]

end

/-- The slot holds the job of a long command that has been taken, with at most its completion besides, and Seam is free
for its ACCEPTED. -/
structure LongTaken (seq : Byte) (result : Option (Byte × List Byte)) (s : State) : Prop where
  seam : seamFree .host s = true
  job : ∃ j, s.host.job = some j ∧ j.seq = seq ∧ j.long = true ∧ j.result = result

theorem longTaken_taking {cmd : Nat} {seq : Byte} {p : List Byte} {s : State} (h : accepts cmd seq p s)
    (hlong : longCmd (BitVec.ofNat 8 cmd).toNat = true) : LongTaken seq none (taking cmd seq p s) :=
  ⟨seamFree_taking h.2.2.2, takenJob cmd seq p, taking_job cmd seq p s, rfl, by rw [takenJob, frameCmd_hostFrame, hlong],
    rfl⟩

/-- An operation that leaves the slot and Seam leaves the job as taken. -/
theorem LongTaken.of_eq {seq : Byte} {result : Option (Byte × List Byte)} {a b : State} (h : LongTaken seq result a)
    (hseam : b.seam = a.seam) (hhost : b.host.job = a.host.job) : LongTaken seq result b :=
  ⟨by simpa only [seamFree, hseam] using h.seam, by rw [hhost]; exact h.job⟩

theorem pends_finish {seq : Byte} (a b : State) : pends seq (finish a b) ↔ pends seq b := by
  simp [pends]

theorem completed_finish {rsp : Byte} {payload : List Byte} (a b : State) :
    completed rsp payload (finish a b) ↔ completed rsp payload b := by
  simp [completed]

/-- After ACCEPTED the job is pending. -/
theorem LongTaken.pends {seq : Byte} {result : Option (Byte × List Byte)} {s : State} (h : LongTaken seq result s) :
    pends seq (hostAccept s) := by
  obtain ⟨j, hjob, hseq, -, -⟩ := h.job
  rw [hostAccept_free h.seam hjob]
  exact ⟨rfl, rfl, hseq, rfl, rfl⟩

/-- ACCEPTED leaves the completion that the job has. -/
theorem LongTaken.completed {seq rsp : Byte} {payload : List Byte} {s : State}
    (h : LongTaken seq (some (rsp, payload)) s) : completed rsp payload (hostAccept s) := by
  obtain ⟨j, hjob, -, -, hres⟩ := h.job
  rw [hostAccept_free h.seam hjob]
  exact congrArg some hres

/-- The work done gives the job its completion. -/
theorem LongTaken.jobResult {seq rsp : Byte} {payload : List Byte} {s : State} (h : LongTaken seq none s) :
    LongTaken seq (some (rsp, payload)) (jobResult rsp payload s) := by
  obtain ⟨j, hjob, hseq, hlong, hres⟩ := h.job
  refine ⟨by simpa only [seamFree, jobResult_seam] using h.seam, { j with result := some (rsp, payload) }, ?_, hseq, hlong,
    rfl⟩
  simp [Machine.jobResult, hjob, hlong, hres]

/-- A long job that is accepted, whose start does not refuse it, and which keeps its slot and Seam while it begins. -/
theorem longReq_accepted {cmd : Nat} {seq : Byte} {p : List Byte} {start : State → State × Option Answer} {c : Instr}
    {s u : State} (hexec : exec c s = complete s (hostAsk c (longReq cmd seq p start) s)) (h : accepts cmd seq p s)
    (hstart : start (taking cmd seq p s) = (u, none)) : exec c s = .next (finish s (hostAccept u)) := by
  rw [hexec, longReq, hostAsk_of_accepts c _ h, hstart]
  rfl

/-- A long job that its start refuses is answered at once. -/
theorem longReq_refused {cmd : Nat} {seq rsp : Byte} {p payload : List Byte} {start : State → State × Option Answer}
    {c : Instr} {s : State} (hexec : exec c s = complete s (hostAsk c (longReq cmd seq p start) s))
    (h : accepts cmd seq p s) (hstart : start (taking cmd seq p s) = (taking cmd seq p s, some ⟨rsp, payload⟩))
    (hrsp : rsp ≠ 2) :
    exec c s = .next (finish s (hostRespond ⟨rsp, payload⟩ (taking cmd seq p s)))
      ∧ answers rsp payload seq (finish s (hostRespond ⟨rsp, payload⟩ (taking cmd seq p s))) := by
  refine ⟨?_, (answers_finish _ _).mpr (answers_hostRespond (seamFree_taking h.2.2.2) (taking_job cmd seq p s) hrsp)⟩
  rw [hexec, longReq, hostAsk_of_accepts c _ h, hstart]
  rfl

/-! The long jobs of this part, each as the request that its command is. -/

section
variable (seq : Byte) (s : State)

theorem exec_flashWrite (a : Word) (d : List Byte) : exec (.flashWrite seq a d) s =
    complete s (hostAsk (.flashWrite seq a d) (longReq 0x11 seq (le 4 a.toNat ++ le 2 d.length ++ [0, 0] ++ d)
      (flashWriteStart seq (le 4 a.toNat ++ le 2 d.length ++ [0, 0] ++ d))) s) := rfl

theorem exec_flashErase (a : Word) : exec (.flashErase seq a) s =
    complete s (hostAsk (.flashErase seq a) (longReq 0x12 seq (le 4 a.toNat) (flashEraseStart seq (le 4 a.toNat))) s) := rfl

theorem exec_reinRelay (dest : Byte) (f : List Byte) : exec (.reinRelay seq dest f) s =
    complete s (hostAsk (.reinRelay seq dest f) (longReq 0x38 seq ([dest, 0, 0, 0] ++ f)
      (relayStart ([dest, 0, 0, 0] ++ f))) s) := rfl

end

/-! ### A program or erase at the flash port (R23) -/

/-- Transfer `o` waits, or is in progress with no record read waiting that would suspend it. -/
def flashServes (o : FlashOp) (s : State) : Prop :=
  o ∈ s.flash.waiting ∨ (s.flash.current = some o ∧ ∀ x ∈ s.flash.waiting, flashRank x ≠ 0)

theorem flashServes.holds {o : FlashOp} {s : State} (h : flashServes o s) : flashHolds o s :=
  h.elim .inr fun hc => .inl hc.1

/-- The pick is of the best rank, and it and the others are those that waited. -/
theorem flashPick_best {l r : List FlashOp} {b : FlashOp} (h : flashPick l = some (b, r)) :
    b ∈ l ∧ (∀ x ∈ r, x ∈ l) ∧ ∀ x ∈ l, flashRank b ≤ flashRank x := by
  induction l generalizing b r with
  | nil => cases h
  | cons o t ih =>
    rw [flashPick] at h
    split at h
    next hnone =>
      cases h
      have ht : t = [] := by
        cases t with
        | nil => rfl
        | cons x t =>
          rw [flashPick] at hnone
          split at hnone
          · cases hnone
          · split at hnone <;> cases hnone
      subst ht
      simp
    next b' r' hpick =>
      obtain ⟨hb, hr, hle⟩ := ih hpick
      split at h
      next hlt =>
        cases h
        refine ⟨List.mem_cons_of_mem _ hb, fun x hx => ?_, fun x hx => ?_⟩
        · rcases List.mem_cons.mp hx with rfl | hx
          · exact List.mem_cons_self
          · exact List.mem_cons_of_mem _ (hr x hx)
        · rcases List.mem_cons.mp hx with rfl | hx
          · exact hlt.le
          · exact hle x hx
      next hge =>
        cases h
        refine ⟨List.mem_cons_self, fun x hx => List.mem_cons_of_mem _ hx, fun x hx => ?_⟩
        rcases List.mem_cons.mp hx with rfl | hx
        · exact le_rfl
        · exact (not_lt.mp hge).trans (hle x hx)

/-- Serving the queue leaves a transfer of another rank than a record read's waiting or in progress. -/
theorem flashServe_serves {o : FlashOp} {s : State} (hrank : flashRank o ≠ 0) (h : flashServes o s) :
    flashServes o (flashServe s) := by
  have hrest : ∀ {b r}, flashPick s.flash.waiting = some (b, r) → flashRank b = 0 → o ∈ s.flash.waiting → o ∈ r := by
    intro b r hpick hb hw
    refine (mem_of_flashPick hpick hw).resolve_left fun ho => hrank ?_
    rw [ho, hb]
  unfold flashServe
  dsimp only
  split
  next c hc =>
    split
    next b r hpick =>
      split
      next hpre =>
        have hb : flashRank b = 0 := by simp at hpre; exact hpre.1.1
        rcases h with hw | ⟨-, hnone⟩
        · exact .inl (hrest hpick hb hw)
        · exact absurd hb (hnone b (flashPick_best hpick).1)
      next => exact h
    next => exact h
  next hc =>
    have hw : o ∈ s.flash.waiting := h.resolve_right fun ho => by rw [hc] at ho; cases ho.1
    split
    next b r p hpick _ =>
      split
      next hb => exact .inl (hrest hpick hb hw)
      next => exact .inl hw
    next b r hpick _ =>
      rcases mem_of_flashPick hpick hw with ho | hr
      · subst ho
        obtain ⟨-, hr, hle⟩ := flashPick_best hpick
        exact .inr ⟨rfl, fun x hx hx0 => hrank (Nat.le_zero.mp (hx0 ▸ hle x (hr x hx)))⟩
      · exact .inl hr
    next => exact .inl hw
    next => exact .inl hw

theorem flashQueue_serves {o : FlashOp} {s : State} (hrank : flashRank o ≠ 0) : flashServes o (flashQueue o s) :=
  flashServe_serves hrank (.inl (List.mem_append_right _ List.mem_cons_self))

/-- The journal transfer that the end of a step may ask for suspends nothing. -/
theorem finish_serves {o : FlashOp} {a b : State} (hrank : flashRank o ≠ 0) (h : flashServes o b) :
    flashServes o (finish a b) := by
  have hflash : (openIrq a b (flush (notice a b))).flash = b.flash := by simp
  have h' : flashServes o (openIrq a b (flush (notice a b))) := by simpa only [flashServes, hflash] using h
  unfold finish journalKick
  dsimp only
  split
  · refine flashServe_serves hrank (h'.imp (List.mem_append_left _) fun hc => ⟨hc.1, fun x hx => ?_⟩)
    rcases List.mem_append.mp hx with hx | hx
    · exact hc.2 x hx
    · rw [List.mem_singleton.mp hx]; decide
  · exact h'

/-! ### FLASH_WRITE and FLASH_ERASE -/

/-- An accepted flash job: ACCEPTED, its transfer at the flash port, and the flash's bytes as they were. -/
theorem flashJob_accepted {cmd : Nat} {seq : Byte} {addr n : Nat} {op : FlashOp} {p : List Byte}
    {start : State → State × Option Answer} {c : Instr} {s : State}
    (hexec : exec c s = complete s (hostAsk c (longReq cmd seq p start) s)) (h : accepts cmd seq p s)
    (hlong : longCmd (BitVec.ofNat 8 cmd).toNat = true) (hok : s.flash.ok = true)
    (hmay : hostMay cmd seq [hostFlash true addr n] s) (hrank : flashRank op ≠ 0)
    (hstart : start (taking cmd seq p s) = flashJob cmd seq addr n op (taking cmd seq p s)) :
    ∃ t, exec c s = .next t ∧ pends seq t ∧ t.flash.mem = s.flash.mem
      ∧ (t.flash.current = some op ∨ op ∈ t.flash.waiting) := by
  have hok' : (taking cmd seq p s).flash.ok = true := hok
  have hjob : flashJob cmd seq addr n op (taking cmd seq p s) = (flashQueue op (taking cmd seq p s), none) := by
    simp only [flashJob, hok', hostTack_taking hmay, Bool.not_true, Bool.false_eq_true, if_false]
  have htaken : LongTaken seq none (flashQueue op (taking cmd seq p s)) :=
    (longTaken_taking h hlong).of_eq (by simp) (by simp)
  have hserves : flashServes op (hostAccept (flashQueue op (taking cmd seq p s))) := by
    simpa only [flashServes, hostAccept_flash] using flashQueue_serves (s := taking cmd seq p s) hrank
  refine ⟨_, longReq_accepted hexec h (hstart.trans hjob), (pends_finish _ _).mpr htaken.pends, ?_,
    (finish_serves hrank hserves).holds⟩
  rw [finish_mem, hostAccept_flash, flashQueue_mem]
  rfl

/-- The fields of FLASH_WRITE's payload. -/
theorem numAt_flashWrite (a : Word) {d : List Byte} (hd : d.length < 65536) :
    numAt (le 4 a.toNat ++ le 2 d.length ++ [0, 0] ++ d) 0 4 = a.toNat
      ∧ numAt (le 4 a.toNat ++ le 2 d.length ++ [0, 0] ++ d) 4 2 = d.length
      ∧ numAt (le 4 a.toNat ++ le 2 d.length ++ [0, 0] ++ d) 6 2 = 0
      ∧ slice (le 4 a.toNat ++ le 2 d.length ++ [0, 0] ++ d) 8 d.length = d := by
  refine ⟨?_, ?_, ?_, ?_⟩
  · simp only [List.append_assoc]
    exact numAt_le 4 _ _ a.isLt
  · simp only [List.append_assoc]
    rw [numAt_append (by simp), le_length]
    exact numAt_le 2 _ _ hd
  · rw [List.append_assoc, numAt_append (by simp)]
    simp [numAt, slice, ofLe]
  · have hlen : (le 4 a.toNat ++ le 2 d.length ++ [0, 0]).length = 8 := by simp
    rw [slice, List.drop_left' hlen]
    simp

theorem flashWrite_accepted (seq : Byte) (a : Word) (d : List Byte) (s : State)
    (h : accepts 0x11 seq (le 4 a.toNat ++ le 2 d.length ++ [0, 0] ++ d) s) (hlo : 1 ≤ d.length) (hhi : d.length ≤ 256)
    (hpage : a.toNat / 256 = (a.toNat + d.length - 1) / 256) (hend : a.toNat + d.length ≤ flashLimit s)
    (hok : s.flash.ok = true) (hmay : hostMay 0x11 seq [hostFlash true a.toNat d.length] s) :
    ∃ t, exec (.flashWrite seq a d) s = .next t ∧ pends seq t ∧ t.flash.mem = s.flash.mem
      ∧ (t.flash.current = some (.hostWrite a.toNat d) ∨ .hostWrite a.toNat d ∈ t.flash.waiting) := by
  obtain ⟨haddr, hcount, hzero, hdata⟩ := numAt_flashWrite a (d := d) (by omega)
  refine flashJob_accepted (exec_flashWrite seq s a d) h (by decide) hok hmay (by simp [flashRank]) ?_
  have hlen : (le 4 a.toNat ++ le 2 d.length ++ [0, 0] ++ d).length = 8 + d.length := by simp; omega
  rw [← taking_flashLimit 0x11 seq (le 4 a.toNat ++ le 2 d.length ++ [0, 0] ++ d)] at hend
  simp only [flashWriteStart, haddr, hcount, hzero, hdata, hlen]
  rw [if_neg (by omega)]

theorem numAt_word (a : Word) : numAt (le 4 a.toNat) 0 4 = a.toNat := by
  simpa using numAt_le 4 a.toNat [] a.isLt

theorem flashErase_accepted (seq : Byte) (a : Word) (s : State) (h : accepts 0x12 seq (le 4 a.toNat) s)
    (halign : a.toNat % 4096 = 0) (hend : a.toNat + 4096 ≤ flashLimit s) (hok : s.flash.ok = true)
    (hmay : hostMay 0x12 seq [hostFlash true a.toNat 4096] s) :
    ∃ t, exec (.flashErase seq a) s = .next t ∧ pends seq t ∧ t.flash.mem = s.flash.mem
      ∧ (t.flash.current = some (.hostErase a.toNat) ∨ .hostErase a.toNat ∈ t.flash.waiting) := by
  refine flashJob_accepted (exec_flashErase seq s a) h (by decide) hok hmay (by simp [flashRank]) ?_
  have hlen : (le 4 a.toNat).length = 4 := le_length _ _
  rw [← taking_flashLimit 0x12 seq (le 4 a.toNat)] at hend
  simp only [flashEraseStart, numAt_word, hlen]
  rw [if_neg (by omega)]

theorem flashErase_unaligned (seq : Byte) (a : Word) (s : State) (h : accepts 0x12 seq (le 4 a.toNat) s)
    (halign : a.toNat % 4096 ≠ 0) :
    ∃ t, exec (.flashErase seq a) s = .next t ∧ answers 0x10 [] seq t ∧ t.flash.mem = s.flash.mem := by
  have hstart : flashEraseStart seq (le 4 a.toNat) (taking 0x12 seq (le 4 a.toNat) s)
      = (taking 0x12 seq (le 4 a.toNat) s, some ⟨0x10, []⟩) := by
    simp only [flashEraseStart, numAt_word]
    rw [if_pos (.inr (.inl halign))]
    rfl
  obtain ⟨hexec, hans⟩ := longReq_refused (exec_flashErase seq s a) h hstart (by decide)
  obtain ⟨_, _, hform, -⟩ := hostRespond_form ⟨0x10, []⟩ (taking 0x12 seq (le 4 a.toNat) s)
  refine ⟨_, hexec, hans, ?_⟩
  rw [finish_mem, hform]
  rfl

/-! ### The end of a program or erase (R157) -/

theorem jobResult_some {rsp : Byte} {payload : List Byte} {j : HostJob} {s : State} (hjob : s.host.job = some j)
    (hlong : j.long = true) (hres : j.result = none) : completed rsp payload (jobResult rsp payload s) := by
  simp [completed, jobResult, hjob, hlong, hres]

theorem flashServe_ok (s : State) : (flashServe s).flash.ok = s.flash.ok := by
  unfold flashServe
  dsimp only
  split
  · split
    · split <;> rfl
    · rfl
  · split
    · split <;> rfl
    · rfl
    · rfl
    · rfl

theorem finish_flashOk (a b : State) : (finish a b).flash.ok = b.flash.ok := by
  have hok : (openIrq a b (flush (notice a b))).flash.ok = b.flash.ok := by simp
  unfold finish journalKick
  dsimp only
  split
  · exact (flashServe_ok _).trans hok
  · exact hok

@[simp] theorem flashNext_mem (s : State) : (flashNext s).flash.mem = s.flash.mem := flashServe_mem _
@[simp] theorem flashNext_host (s : State) : (flashNext s).host = s.host := flashServe_host _
@[simp] theorem flashNext_ok (s : State) : (flashNext s).flash.ok = s.flash.ok := flashServe_ok _
theorem flashGood_job (s : State) : (flashGood s).host.job = s.host.job := rfl

/-- A host's program or erase has succeeded: the flash as `work` leaves it, the flash answering, the job complete. -/
theorem flashJob_done {mk : Bool} {j : HostJob} {s : State} {work : State → State} (hjob : s.host.job = some j)
    (hlong : j.long = true) (hres : j.result = none) (hwip : s.flash.wip = false)
    (hdone : flashTransferDone .ok mk s = flashNext (jobOk (work (flashGood s))))
    (hhost : (work (flashGood s)).host = (flashGood s).host) :
    ∃ t, exec (.flashOpDone .ok mk) s = .next t ∧ t.flash.mem = (work (flashGood s)).flash.mem
      ∧ t.flash.ok = (work (flashGood s)).flash.ok ∧ completed 0x03 [] t := by
  have hstep : flashOpDone .ok mk s = flashNext (jobOk (work (flashGood s))) := by
    rw [flashOpDone, hwip, if_neg (by decide), hdone]
  have hjob' : (work (flashGood s)).host.job = some j := by rw [hhost, flashGood_job, hjob]
  have hcomp : completed 0x03 [] (jobOk (work (flashGood s))) := jobResult_some hjob' hlong hres
  refine ⟨_, congrArg (complete s) hstep, ?_, ?_, (completed_finish _ _).mpr ?_⟩
  · rw [finish_mem, flashNext_mem, jobOk, jobResult_flash]
  · rw [finish_flashOk, flashNext_ok, jobOk, jobResult_flash]
  · simpa only [completed, flashNext_host] using hcomp

theorem flashWrite_done (a : Nat) (d : List Byte) (mk : Bool) (j : HostJob) (s : State) (hlong : j.long = true)
    (hwip : s.flash.wip = false) : ∃ t,
      exec (.flashOpDone .ok mk) { s with
        flash := { s.flash with current := some (.hostWrite a d) }
        host := { s.host with job := some { j with result := none } } }
        = .next t
      ∧ t.flash.mem = (flashProgram a d s).flash.mem ∧ t.flash.ok = true ∧ completed 0x03 [] t := by
  obtain ⟨t, hexec, hmem, hok, hcomp⟩ := flashJob_done (mk := mk) (work := flashProgram a d)
    (s := { s with
      flash := { s.flash with current := some (.hostWrite a d) }
      host := { s.host with job := some { j with result := none } } })
    rfl hlong rfl hwip rfl rfl
  exact ⟨t, hexec, hmem, hok, hcomp⟩

theorem flashErase_done (a : Nat) (mk : Bool) (j : HostJob) (s : State) (hlong : j.long = true)
    (hwip : s.flash.wip = false) : ∃ t,
      exec (.flashOpDone .ok mk) { s with
        flash := { s.flash with current := some (.hostErase a) }
        host := { s.host with job := some { j with result := none } } }
        = .next t
      ∧ t.flash.mem = (flashEraseRange a 4096 s).flash.mem ∧ completed 0x03 [] t := by
  obtain ⟨t, hexec, hmem, -, hcomp⟩ := flashJob_done (mk := mk) (work := flashEraseRange a 4096)
    (s := { s with
      flash := { s.flash with current := some (.hostErase a) }
      host := { s.host with job := some { j with result := none } } })
    rfl hlong rfl hwip rfl rfl
  exact ⟨t, hexec, hmem, hcomp⟩

/-! ### The burn queue (R97) -/

/-- A burn that joins the engine's queue, accepted. -/
theorem burnJob_accepted {cmd : Nat} {seq : Byte} {p : List Byte} {b : BurnJob} {start : State → State × Option Answer}
    {c : Instr} {s : State} (hexec : exec c s = complete s (hostAsk c (longReq cmd seq p start) s))
    (h : accepts cmd seq p s) (hlong : longCmd (BitVec.ofNat 8 cmd).toNat = true)
    (hstart : start (taking cmd seq p s) = (burnQueue b (taking cmd seq p s), none)) :
    ∃ t, exec c s = .next t ∧ pends seq t ∧ t.heart = { s.heart with waiting := s.heart.waiting ++ [b] } := by
  have htaken : LongTaken seq none (burnQueue b (taking cmd seq p s)) := (longTaken_taking h hlong).of_eq rfl rfl
  refine ⟨_, longReq_accepted hexec h hstart, (pends_finish _ _).mpr htaken.pends, ?_⟩
  rw [finish_heart, hostAccept_heart]
  rfl

/-- Behind another burn a burn waits, whatever would refuse it. -/
theorem burnAsk_behind {kind : BurnKind} {tc : Int} {vpp : Nat} {s : State} (h : s.heart.waiting ≠ []) :
    burnAsk kind tc vpp s = burnQueue { kind, host := true } s := by
  unfold burnAsk
  dsimp only
  split
  next hw _ => exact absurd hw h
  next => rfl

/-- The fields of HW_BURN's payload. -/
theorem numAt_hwBurn (row source pulse flags : Byte) (mask : BitVec 64) :
    numAt ([row, source, pulse, flags] ++ le 8 mask.toNat) 0 1 = row.toNat
      ∧ numAt ([row, source, pulse, flags] ++ le 8 mask.toNat) 1 1 = source.toNat
      ∧ numAt ([row, source, pulse, flags] ++ le 8 mask.toNat) 2 1 = pulse.toNat
      ∧ numAt ([row, source, pulse, flags] ++ le 8 mask.toNat) 3 1 = flags.toNat
      ∧ numAt ([row, source, pulse, flags] ++ le 8 mask.toNat) 4 8 = mask.toNat := by
  have hmask : numAt (le 8 mask.toNat) 0 8 = mask.toNat := by simpa using numAt_le 8 mask.toNat [] mask.isLt
  refine ⟨numAt_byte _ _, (numAt_cons _ _ 0 1).trans (numAt_byte _ _), ?_, ?_, ?_⟩
  · exact (numAt_cons _ _ 1 1).trans <| (numAt_cons _ _ 0 1).trans (numAt_byte _ _)
  · exact (numAt_cons _ _ 2 1).trans <| (numAt_cons _ _ 1 1).trans <| (numAt_cons _ _ 0 1).trans (numAt_byte _ _)
  · rw [numAt_append (by simp)]
    exact hmask

theorem hwBurn_accepted (seq row : Byte) (src : Bool) (pulse : Byte) (fl : Bool) (mask : BitVec 64) (vpp : Nat) (tc : Int)
    (s : State) (hwait : s.heart.waiting ≠ [])
    (h : accepts 0x20 seq ([row, BitVec.ofNat 8 (b2n src), pulse, BitVec.ofNat 8 (b2n fl)] ++ le 8 mask.toNat) s)
    (hlo : 5 ≤ pulse.toNat) (hhi : pulse.toNat ≤ 40)
    (hmay : hostMay 0x20 seq [{ units := heartAccess true row.toNat, addr := row.toNat }] s) :
    ∃ t, exec (.hwBurn seq row (BitVec.ofNat 8 (b2n src)) pulse (BitVec.ofNat 8 (b2n fl)) mask vpp tc) s = .next t
      ∧ pends seq t ∧ t.heart.cells = s.heart.cells
      ∧ t.heart.waiting = s.heart.waiting ++ [{ kind := .row row src pulse.toNat fl mask, host := true }] := by
  obtain ⟨hrow, hsrc, hpulse, hfl, hmask⟩ :=
    numAt_hwBurn row (BitVec.ofNat 8 (b2n src)) pulse (BitVec.ofNat 8 (b2n fl)) mask
  have hbit : ∀ b : Bool, (BitVec.ofNat 8 (b2n b)).toNat = b2n b ∧ b2n b ≤ 1 ∧ (b2n b == 1) = b := by decide
  rw [(hbit src).1] at hsrc
  rw [(hbit fl).1] at hfl
  have hform : hwBurnForm ([row, BitVec.ofNat 8 (b2n src), pulse, BitVec.ofNat 8 (b2n fl)] ++ le 8 mask.toNat) = true := by
    simp only [hwBurnForm, hsrc, hpulse, hfl, (hbit src).2.1, (hbit fl).2.1, hlo, hhi]
    simp
  obtain ⟨t, hexec, hpends, hheart⟩ := burnJob_accepted (b := { kind := .row row src pulse.toNat fl mask, host := true })
    (c := .hwBurn seq row (BitVec.ofNat 8 (b2n src)) pulse (BitVec.ofNat 8 (b2n fl)) mask vpp tc) rfl h (by decide) (by
      simp only [hwBurnStart, hform, hrow, hsrc, hpulse, hfl, hmask, hostTack_taking hmay, (hbit src).2.2, (hbit fl).2.2,
        Bool.not_true, Bool.false_eq_true, if_false, BitVec.ofNat_toNat, BitVec.setWidth_eq]
      rw [burnAsk_behind (by exact hwait)])
  exact ⟨t, hexec, hpends, by rw [hheart], by rw [hheart]⟩

theorem hwLock_accepted (seq w r : Byte) (s : State) (h : accepts 0x21 seq [w, r, 0, 0] s)
    (hmay : hostMay 0x21 seq [{ units := regionUnits (w ||| r), addr := 0 }] s) :
    ∃ t, exec (.hwLock seq w r) s = .next t
      ∧ pends seq t ∧ t.heart = { s.heart with waiting := s.heart.waiting ++ [{ kind := .lock w r, host := true }] } := by
  have hw : numAt [w, r, 0, 0] 0 1 = w.toNat := numAt_byte _ _
  have hr : numAt [w, r, 0, 0] 1 1 = r.toNat := (numAt_cons _ _ 0 1).trans (numAt_byte _ _)
  have hzero : numAt [w, r, 0, 0] 2 2 = 0 := rfl
  refine burnJob_accepted (c := .hwLock seq w r) rfl h (by decide) ?_
  simp only [hwLockStart, hw, hr, hzero, BitVec.ofNat_toNat, BitVec.setWidth_eq, hostTack_taking hmay]
  rfl

/-! ### Frames of the relay (R416, R423, R427) -/

theorem reinInsert_length (o : ReinOut) (l : List ReinOut) : (reinInsert o l).length = l.length + 1 := by
  induction l with
  | nil => rfl
  | cons x t ih =>
    rw [reinInsert]
    split
    · rfl
    · rw [List.length_cons, ih, List.length_cons]

/-- A frame sent changes what goes out and the sequence number alone; with at most eight devices it goes out. -/
theorem reinSend_form (ty : Nat) (bcast : Bool) (dest : Fin 8) (payload : List Byte) (s : State) : ∃ out n,
    reinSend ty bcast dest payload s = { s with rein := { s.rein with sent := out, seq := n } }
      ∧ (s.rein.oversize = false → out.length = s.rein.sent.length + 1) := by
  unfold reinSend
  split
  next hover => exact ⟨s.rein.sent, s.rein.seq, rfl, fun h => by simp [h] at hover⟩
  next => exact ⟨_, _, rfl, fun _ => reinInsert_length _ _⟩

/-- The chunks sent in order: one frame for each. -/
theorem reinSends_form (ty : Nat) (dest : Fin 8) (cs : List (List Byte)) (s : State) : ∃ out n,
    cs.foldl (fun s c => reinSend ty false dest c s) s = { s with rein := { s.rein with sent := out, seq := n } }
      ∧ (s.rein.oversize = false → out.length = s.rein.sent.length + cs.length) := by
  induction cs generalizing s with
  | nil => exact ⟨_, _, rfl, fun _ => rfl⟩
  | cons c cs ih =>
    obtain ⟨out, n, hsend, hlen⟩ := reinSend_form ty false dest c s
    obtain ⟨out', n', hrest, hlen'⟩ := ih (reinSend ty false dest c s)
    rw [hsend] at hrest hlen'
    refine ⟨out', n', ?_, fun hover => ?_⟩
    · rw [List.foldl_cons, hsend]
      exact hrest
    · rw [hlen' hover, hlen hover, List.length_cons]
      omega

theorem relaySend_form (ty : Nat) (dest : Fin 8) (bs : List Byte) (s : State) : ∃ out n,
    relaySend ty dest bs s = { s with rein := { s.rein with sent := out, seq := n } }
      ∧ (s.rein.oversize = false → out.length = s.rein.sent.length + (relayChunks bs).length) :=
  reinSends_form ty dest (relayChunks bs) s

/-- A relayed frame has at least one chunk. -/
theorem relayChunks_pos (bs : List Byte) : 1 ≤ (relayChunks bs).length := by
  simp [relayChunks]

/-- An arriving chunk goes on, or counts as bad: of the ring's state what goes out and RX_ERRS change. -/
theorem relayForward_form (ty : Nat) (h : ReinHdr) (chunk : Byte) (last : Bool) (bytes : List Byte) (s : State) :
    ∃ out n, relayForward ty h chunk last bytes s = { s with rein := { s.rein with sent := out, rxErrs := n } } := by
  unfold relayForward
  split
  · exact ⟨_, _, rfl⟩
  · split
    · unfold reinForward
      split <;> exact ⟨_, _, rfl⟩
    · exact ⟨_, _, rfl⟩

/-! ### REIN_RELAY (R423, R426) -/

/-- A relay that fails completes its job with the RELAY_STATUS. -/
theorem LongTaken.relayFail {seq : Byte} {dest status : Nat} {s : State} (h : LongTaken seq none s) :
    LongTaken seq (some (0x03, [BitVec.ofNat 8 status, 0])) (relayFail dest status s) :=
  (h.of_eq (emit_seam _ _) (by rw [emit_host])).jobResult

/-- The destination is noted before the request goes out. -/
def relayTo (dest : Nat) (s : State) : State := modRein (fun r => { r with relayDest := some (ix8 dest) }) s

theorem relayRun_self {dest : Nat} {frame : List Byte} {s : State} (hself : dest = s.rein.addr.val) :
    relayRun dest frame s = jobFail 1 s := by
  rw [relayRun, if_pos hself]

theorem relayRun_notRing {dest : Nat} {frame : List Byte} {s : State} (hself : dest ≠ s.rein.addr.val)
    (hstate : s.rein.state ≠ 0) : relayRun dest frame s = relayFail dest 2 s := by
  rw [relayRun, if_neg hself, if_pos hstate]

theorem relayRun_absent {dest : Nat} {frame : List Byte} {s : State} (hself : dest ≠ s.rein.addr.val)
    (hstate : s.rein.state = 0) (hany : ((reinParticipants s).any fun e => addrOf s e = dest) = false) :
    relayRun dest frame s = relayFail dest 1 s := by
  rw [relayRun, if_neg hself, if_neg (not_not.mpr hstate), hany, if_neg Bool.false_ne_true]

theorem relayRun_sends {dest : Nat} {frame : List Byte} {s : State} (hself : dest ≠ s.rein.addr.val)
    (hstate : s.rein.state = 0) (hany : ((reinParticipants s).any fun e => addrOf s e = dest) = true) :
    relayRun dest frame s = relaySend 7 (ix8 dest) frame (relayTo dest s) := by
  rw [relayRun, if_neg hself, if_neg (not_not.mpr hstate), hany, if_pos rfl]
  rfl

/-- Whatever becomes of the request, its job stays in the slot. -/
theorem relayRun_taken {seq : Byte} {dest : Nat} {frame : List Byte} {s : State} (h : LongTaken seq none s) :
    ∃ result, LongTaken seq result (relayRun dest frame s) := by
  by_cases hself : dest = s.rein.addr.val
  · exact ⟨_, by rw [relayRun_self hself]; exact h.jobResult⟩
  by_cases hstate : s.rein.state = 0
  · cases hany : (reinParticipants s).any fun e => addrOf s e = dest
    · exact ⟨_, by rw [relayRun_absent hself hstate hany]; exact h.relayFail⟩
    · obtain ⟨out, n, hsend, -⟩ := relaySend_form 7 (ix8 dest) frame (relayTo dest s)
      exact ⟨none, by rw [relayRun_sends hself hstate hany, hsend]; exact h.of_eq rfl rfl⟩
  · exact ⟨_, by rw [relayRun_notRing hself hstate]; exact h.relayFail⟩

/-- The devices on the ring and their addresses rest on the last enumeration and on the device's own number. -/
theorem participants_congr {a b : State} (hseen : b.rein.seen = a.rein.seen) (haddr : b.rein.addr = a.rein.addr)
    (hcount : b.rein.count = a.rein.count) (hheart : b.heart = a.heart) (dest : Nat) :
    ((reinParticipants b).any fun e => addrOf b e = dest) = (reinParticipants a).any fun e => addrOf a e = dest := by
  have hrow : ∀ row, fuseRow b row = fuseRow a row := fun row => by unfold fuseRow evalFuse; rw [hheart]
  have hown : ownId b = ownId a := by simp only [ownId, deviceId, fuseBytes, hrow]
  simp only [reinParticipants, addrOf, hown, hseen, haddr, hcount]

theorem reinRelay_runs (seq dest : Byte) (f : List Byte) (s : State) (h : accepts 0x38 seq ([dest, 0, 0, 0] ++ f) s)
    (hup : strapUp s = true) :
    ∃ t, exec (.reinRelay seq dest f) s = .next t ∧ pends seq t
      ∧ (dest.toNat = s.rein.addr.val → completed 0x04 (le 4 1) t)
      ∧ (dest.toNat ≠ s.rein.addr.val → s.rein.state ≠ 0 → completed 0x03 [2, 0] t)
      ∧ (dest.toNat ≠ s.rein.addr.val → s.rein.state = 0 →
          ((reinParticipants s).any fun e => addrOf s e = dest.toNat) = false → completed 0x03 [1, 0] t)
      ∧ (dest.toNat ≠ s.rein.addr.val → s.rein.state = 0 → s.rein.oversize = false →
          ((reinParticipants s).any fun e => addrOf s e = dest.toNat) = true →
          t.rein.relayDest = some (ix8 dest.toNat) ∧ t.rein.sent.length = (relayChunks f).length) := by
  have hdest : numAt ([dest, 0, 0, 0] ++ f) 0 1 = dest.toNat := numAt_byte _ _
  have hzero : numAt ([dest, 0, 0, 0] ++ f) 1 3 = 0 := by simp [numAt, slice, ofLe]
  have hlen : ([dest, 0, 0, 0] ++ f).length = 4 + f.length := by simp; omega
  have hup' : strapUp (taking 0x38 seq ([dest, 0, 0, 0] ++ f) s) = true := by rwa [strapUp, taking_strap]
  generalize hx : reinBegin (taking 0x38 seq ([dest, 0, 0, 0] ++ f) s) = x
  have hstart : relayStart ([dest, 0, 0, 0] ++ f) (taking 0x38 seq ([dest, 0, 0, 0] ++ f) s)
      = (relayRun dest.toNat f x, none) := by
    simp only [relayStart, hdest, hzero, hlen, hup', hx]
    rw [if_neg (by omega)]
    rfl
  have htaken : LongTaken seq none x := hx ▸ (longTaken_taking h (by decide)).of_eq rfl rfl
  have hrein : x.rein = { s.rein with sent := [] } := by rw [← hx, reinBegin, modRein, taking_rein]
  have hheart : x.heart = s.heart := by rw [← hx, reinBegin, modRein_heart, taking_heart]
  have haddr : x.rein.addr = s.rein.addr := by rw [hrein]
  have hstate : x.rein.state = s.rein.state := by rw [hrein]
  have hover : x.rein.oversize = s.rein.oversize := by rw [hrein]
  have hsent : x.rein.sent = [] := by rw [hrein]
  have hany : ((reinParticipants x).any fun e => addrOf x e = dest.toNat)
      = (reinParticipants s).any fun e => addrOf s e = dest.toNat :=
    participants_congr (by rw [hrein]) haddr (by rw [hrein]) hheart _
  rw [← haddr, ← hstate, ← hover, ← hany]
  obtain ⟨result, hrun⟩ := relayRun_taken (dest := dest.toNat) (frame := f) htaken
  refine ⟨_, longReq_accepted (exec_reinRelay seq s dest f) h hstart, (pends_finish _ _).mpr hrun.pends,
    fun hself => ?_, fun hself hst => ?_, fun hself hst hno => ?_, fun hself hst ho hyes => ?_⟩
  · rw [completed_finish, relayRun_self hself]
    exact htaken.jobResult.completed
  · rw [completed_finish, relayRun_notRing hself hst]
    exact htaken.relayFail.completed
  · rw [completed_finish, relayRun_absent hself hst hno]
    exact htaken.relayFail.completed
  · obtain ⟨out, n, hsend, hcount⟩ := relaySend_form 7 (ix8 dest.toNat) f (relayTo dest.toNat x)
    rw [finish_rein, hostAccept_rein, relayRun_sends hself hst hyes, hsend]
    refine ⟨rfl, (hcount ho).trans ?_⟩
    rw [relayTo, modRein, hsent]
    exact Nat.zero_add _

/-! ### DEST puts a request together (R424) -/

section
variable {h : ReinHdr} {s : State}

theorem relayPart_whole (parts : List RelayPart) (src : Fin 8) (bytes : List Byte) :
    relayPart parts src 0 true bytes = (parts.filter fun x => x.src ≠ src, some bytes) := by
  simp [relayPart]

theorem relayPart_first (parts : List RelayPart) (src : Fin 8) (bytes : List Byte) :
    relayPart parts src 0 false bytes = ((parts.filter fun x => x.src ≠ src) ++ [{ src, next := 1, bytes }], none) := by
  simp [relayPart]

theorem relayPart_last (src : Fin 8) (n : Byte) (a b : List Byte) (hn : n ≠ 0) :
    relayPart [{ src, next := n.toNat, bytes := a }] src n true b = ([], some (a ++ b)) := by
  have hn' : ¬ n = 0#8 := hn
  simp [relayPart, hn']

/-- A chunk that fits its frame and is for this device joins what its source has sent. -/
def relayReqIn (h : ReinHdr) (chunk : Byte) (last : Bool) (bytes : List Byte) (s : State) : State :=
  relayForward 7 h chunk last bytes (reinBegin s)

/-- The requests put together so far are noted. -/
def relayReqsSet (parts : List RelayPart) (s : State) : State := modRein (fun r => { r with relayReqs := parts }) s

theorem execRelayReq_part {chunk : Byte} {last : Bool} {bytes : List Byte} {parts : List RelayPart}
    (hfor : reinForUs s h = true) (hlen : bytes.length ≤ 254)
    (hpart : relayPart s.rein.relayReqs h.src chunk last bytes = (parts, none)) :
    exec (.relayReq h chunk last bytes) s = .next (finish s (relayReqsSet parts (relayReqIn h chunk last bytes s))) := by
  obtain ⟨out, n, hform⟩ := relayForward_form 7 h chunk last bytes (reinBegin s)
  have hfor' : reinForUs (relayReqIn h chunk last bytes s) h = true := by rw [relayReqIn, hform]; exact hfor
  have hreqs : (relayReqIn h chunk last bytes s).rein.relayReqs = s.rein.relayReqs := by rw [relayReqIn, hform]; rfl
  have hfits : reinFits 7 (bytes.length + 2) = true := by simp [reinFits]; omega
  refine congrArg (complete s) ?_
  simp only [← relayReqIn.eq_1, hfor', hfits, hreqs, hpart, Bool.and_self, if_true]
  rfl

theorem execRelayReq_whole {chunk : Byte} {last : Bool} {bytes frame : List Byte} {parts : List RelayPart}
    (hfor : reinForUs s h = true) (hlen : bytes.length ≤ 254)
    (hpart : relayPart s.rein.relayReqs h.src chunk last bytes = (parts, some frame)) :
    exec (.relayReq h chunk last bytes) s =
      .next (finish s (relayServe h.src frame (relayReqsSet parts (relayReqIn h chunk last bytes s)))) := by
  obtain ⟨out, n, hform⟩ := relayForward_form 7 h chunk last bytes (reinBegin s)
  have hfor' : reinForUs (relayReqIn h chunk last bytes s) h = true := by rw [relayReqIn, hform]; exact hfor
  have hreqs : (relayReqIn h chunk last bytes s).rein.relayReqs = s.rein.relayReqs := by rw [relayReqIn, hform]; rfl
  have hfits : reinFits 7 (bytes.length + 2) = true := by simp [reinFits]; omega
  refine congrArg (complete s) ?_
  simp only [← relayReqIn.eq_1, hfor', hfits, hreqs, hpart, Bool.and_self, if_true]
  rfl

/-- What the arrival of a chunk changes: what goes out, RX_ERRS and the requests put together. -/
theorem relayReqIn_form (chunk : Byte) (last : Bool) (bytes : List Byte) (parts : List RelayPart) (s : State) :
    ∃ out n, relayReqsSet parts (relayReqIn h chunk last bytes s) =
      { s with rein := { s.rein with sent := out, rxErrs := n, relayReqs := parts } } := by
  obtain ⟨out, n, hform⟩ := relayForward_form 7 h chunk last bytes (reinBegin s)
  exact ⟨out, n, by rw [relayReqIn, hform]; rfl⟩

/-- A step of the host port's neighbours: of its state only what the end of any step may touch. -/
theorem finish_host_kept {a b : State} (hhost : b.host = a.host) : (finish a b).host =
    { a.host with irqStat := (finish a b).host.irqStat, devAlarmsLatched := (finish a b).host.devAlarmsLatched } := by
  obtain ⟨k, l, hfin⟩ := finish_host a b
  rw [hfin, hhost]

theorem relayReq_first (f : List Byte) (hfor : reinForUs s h = true) (hlen : f.length ≤ 254) :
    ∃ t, exec (.relayReq h 0 false f) s = .next t
      ∧ t.rein.relayReqs = s.rein.relayReqs.filter (fun x => x.src ≠ h.src) ++ [{ src := h.src, next := 1, bytes := f }]
      ∧ t.host = { s.host with irqStat := t.host.irqStat, devAlarmsLatched := t.host.devAlarmsLatched } := by
  refine ⟨_, execRelayReq_part hfor hlen (relayPart_first _ _ _), ?_, finish_host_kept ?_⟩
  · rw [finish_rein]
    rfl
  · obtain ⟨out, n, hform⟩ := relayReqIn_form (h := h) 0 false f _ s
    rw [hform]

theorem relayReq_refused (f : List Byte) (hfor : reinForUs s h = true) (hlen : f.length ≤ 254)
    (hverdict : relayVerdict s f ≠ 1) : ∃ t, exec (.relayReq h 0 true f) s = .next t
      ∧ t.host = { s.host with irqStat := t.host.irqStat, devAlarmsLatched := t.host.devAlarmsLatched }
      ∧ t.rein.relayDest = s.rein.relayDest ∧ t.rein.relayTaken = s.rein.relayTaken
      ∧ (s.rein.oversize = false → 1 ≤ t.rein.sent.length) := by
  refine ⟨_, execRelayReq_whole hfor hlen (relayPart_whole _ _ _), ?_⟩
  obtain ⟨out, n, hform⟩ := relayReqIn_form (h := h) 0 true f (s.rein.relayReqs.filter fun x => x.src ≠ h.src) s
  rw [hform]
  generalize hx : ({ s with rein := _ } : State) = x
  have hverdict' : relayVerdict x f ≠ 1 := hx ▸ hverdict
  obtain ⟨out', n', hsend, hcount⟩ := relaySend_form 8 h.src [BitVec.ofNat 8 (relayVerdict x f)] x
  have hserve : relayServe h.src f x = { x with rein := { x.rein with sent := out', seq := n' } } := by
    simp only [relayServe, hverdict', ne_eq, not_false_eq_true, if_true]
    exact hsend
  rw [hserve]
  refine ⟨finish_host_kept (by rw [← hx]), ?_, ?_, fun hover => ?_⟩
  · rw [finish_rein, ← hx]
  · rw [finish_rein, ← hx]
  · have hover' : x.rein.oversize = false := hx ▸ hover
    rw [finish_rein]
    exact (relayChunks_pos _).trans ((Nat.le_add_left _ _).trans (hcount hover').ge)

/-- The frame with which IDENT is relayed. -/
theorem identFrame_parts (seq : Byte) : frameCmd (hostFrame 0x01 seq []) = 0x01 ∧ framePayload (hostFrame 0x01 seq []) = []
    ∧ (hostFrame 0x01 seq []).length = 8 := by
  refine ⟨frameCmd_hostFrame 0x01 seq [], ?_, ?_⟩
  · have hlen : numAt (hostFrame 0x01 seq []) 2 2 = 0 := rfl
    rw [framePayload, hlen]
    simp [slice]
  · simp [hostFrame]

/-- A relayed IDENT runs without anything of the machine but the last command's record, and its answer goes out. -/
theorem relayExecute_ident (src : Fin 8) (seq : Byte) (s : State) : ∃ a, a.rsp = 0x01
    ∧ relayExecute src (hostFrame 0x01 seq []) s = relayRespond src 0x01 seq 0 a s := by
  obtain ⟨hcmd, hpayload, -⟩ := identFrame_parts seq
  refine ⟨identBody s, rfl, ?_⟩
  simp only [relayExecute, hcmd, hpayload, hostFrame_seq]
  rfl

theorem relayServe_ident (src : Fin 8) (seq : Byte) (s : State) (hverdict : relayVerdict s (hostFrame 0x01 seq []) = 1) :
    ∃ a out n, a.rsp = 0x01 ∧ relayServe src (hostFrame 0x01 seq []) s = { s with
        host := { s.host with last := lastOf s 0x01 seq 0 a }
        rein := { s.rein with
          relayTaken := some (frameSeq (hostFrame 0x01 seq []), frameCheck (hostFrame 0x01 seq []))
          sent := out, seq := n } }
      ∧ (s.rein.oversize = false → 1 ≤ out.length) := by
  obtain ⟨hcmd, -, -⟩ := identFrame_parts seq
  generalize hx : modRein (fun r => { r with
    relayTaken := some (frameSeq (hostFrame 0x01 seq []), frameCheck (hostFrame 0x01 seq [])) }) s = x
  obtain ⟨a, hrsp, hexecute⟩ := relayExecute_ident src seq x
  obtain ⟨out, n, hsend, hcount⟩ := relaySend_form 8 src
    (1 :: rspBytes { rsp := a.rsp, seq := seq, payload := a.payload, station := 0 })
    { x with host := { x.host with last := lastOf x 0x01 seq 0 a } }
  refine ⟨a, out, n, hrsp, ?_, fun hover => ?_⟩
  · have hserve : relayServe src (hostFrame 0x01 seq []) s = relayRespond src 0x01 seq 0 a x := by
      simp only [relayServe, hverdict, hx, hexecute, hcmd]
      rw [if_neg (by decide), if_neg (by omega)]
    rw [hserve, relayRespond]
    exact hsend.trans (by rw [← hx]; rfl)
  · have hover' : x.rein.oversize = false := hx ▸ hover
    exact (relayChunks_pos _).trans ((Nat.le_add_left _ _).trans (hcount hover').ge)

/-- The chunks of a request that came before its last one, and the last: the whole frame. -/
theorem relayPart_frame {src : Fin 8} {n : Byte} {a b frame : List Byte} {parts : List RelayPart} (hframe : a ++ b = frame)
    (hfirst : n = 0 → a = []) (hnext : n ≠ 0 → parts = [{ src, next := n.toNat, bytes := a }]) :
    ∃ rest, relayPart parts src n true b = (rest, some frame) := by
  by_cases hn : n = 0
  · rw [hfirst hn, List.nil_append] at hframe
    exact ⟨_, by rw [hn, ← hframe]; exact relayPart_whole _ _ _⟩
  · exact ⟨_, by rw [hnext hn, ← hframe]; exact relayPart_last _ _ _ _ hn⟩

theorem relayReq_ident (seq : Byte) (a b : List Byte) (n : Byte) (hfor : reinForUs s h = true)
    (hframe : a ++ b = hostFrame 0x01 seq []) (hfirst : n = 0 → a = [])
    (hnext : n ≠ 0 → s.rein.relayReqs = [{ src := h.src, next := n.toNat, bytes := a }])
    (hverdict : relayVerdict s (hostFrame 0x01 seq []) = 1) (hover : s.rein.oversize = false) :
    ∃ t, exec (.relayReq h n true b) s = .next t
      ∧ t.rein.relayTaken = some (frameSeq (hostFrame 0x01 seq []), frameCheck (hostFrame 0x01 seq []))
      ∧ t.host.last.cmd = 0x01 ∧ t.host.last.seq = seq ∧ t.host.last.rsp = 0x01 ∧ t.host.buf = s.host.buf
      ∧ t.host.job = s.host.job ∧ 1 ≤ t.rein.sent.length := by
  obtain ⟨-, -, hlen⟩ := identFrame_parts seq
  obtain ⟨parts, hpart⟩ := relayPart_frame hframe hfirst hnext
  have hb : b.length ≤ 254 := by
    have := congrArg List.length hframe
    rw [List.length_append, hlen] at this
    omega
  obtain ⟨out, m, hform⟩ := relayReqIn_form (h := h) n true b parts s
  refine ⟨_, execRelayReq_whole hfor hb hpart, ?_⟩
  rw [hform]
  generalize hx : ({ s with rein := _ } : State) = x
  have hverdict' : relayVerdict x (hostFrame 0x01 seq []) = 1 := hx ▸ hverdict
  obtain ⟨ans, out', m', hrsp, hserve, hsent⟩ := relayServe_ident h.src seq x hverdict'
  rw [hserve]
  refine ⟨by rw [finish_rein], by rw [finish_host_last]; rfl, by rw [finish_host_last]; rfl,
    by rw [finish_host_last]; exact hrsp, ?_, ?_, ?_⟩
  · rw [finish_host_buf, ← hx]
  · rw [finish_host_job, ← hx]
  · rw [finish_rein]
    exact hsent (hx ▸ hover)

/-! ### The answer, and its timeout (R425) -/

/-- The answer that the job waited for completes it. -/
theorem relayAnswer_completes {src : Fin 8} {v : Byte} {resp : List Byte} {j : HostJob}
    (hdest : s.rein.relayDest = some src) (hjob : s.host.job = some j) (hlong : j.long = true) (hres : j.result = none) :
    completed 0x03 ([0, v] ++ (if v = 1 then resp else [])) (relayAnswer src (v :: resp) s)
      ∧ (relayAnswer src (v :: resp) s).rein.relayDest = none := by
  have hanswer : relayAnswer src (v :: resp) s = jobResult 0x03 ([0, v] ++ (if v = 1 then resp else []))
      (modRein (fun r => { r with relayDest := none }) s) := by
    rw [relayAnswer, if_neg (not_not.mpr hdest)]
    rfl
  rw [hanswer]
  refine ⟨jobResult_some hjob hlong hres, ?_⟩
  rw [jobResult_rein]
  rfl

theorem relayRsp_completes (j : HostJob) (hjob : s.host.job = some j) (h : ReinHdr) (v : Byte) (resp : List Byte)
    (hfor : reinForUs s h = true) (hlen : resp.length ≤ 253) (hdest : s.rein.relayDest = some h.src)
    (hlong : j.long = true) (hres : j.result = none) : ∃ t, exec (.relayRsp h 0 true (v :: resp)) s = .next t
      ∧ completed 0x03 ([0, v] ++ (if v = 1 then resp else [])) t ∧ t.rein.relayDest = none := by
  obtain ⟨out, n, hform⟩ := relayForward_form 8 h 0 true (v :: resp) (reinBegin s)
  have hfits : reinFits 8 ((v :: resp).length + 2) = true := by simp [reinFits]; omega
  refine ⟨_, rfl, ?_⟩
  rw [hform, completed_finish]
  generalize hx : ({ reinBegin s with rein := _ } : State) = x
  have hfor' : reinForUs x h = true := hx ▸ hfor
  have hdest' : x.rein.relayDest = some h.src := hx ▸ hdest
  have hjob' : x.host.job = some j := hx ▸ hjob
  simp only [hfor', hfits, relayPart_whole, Bool.and_self, if_true, finish_rein]
  exact relayAnswer_completes hdest' hjob' hlong hres

theorem relayTimeout_completes (j : HostJob) (hjob : s.host.job = some j) (hdest : s.rein.relayDest.isSome = true)
    (hlong : j.long = true) (hres : j.result = none) :
    ∃ t, exec .relayTimeout s = .next t ∧ completed 0x03 [3, 0] t ∧ t.rein.relayDest = none := by
  obtain ⟨d, hd⟩ := Option.isSome_iff_exists.mp hdest
  have hstep : relayTimeout s = relayFail d.val 3 (modRein (fun r => { r with relayDest := none }) s) := by
    rw [relayTimeout, hd]
  refine ⟨_, congrArg (complete s) hstep, ?_, ?_⟩
  · rw [completed_finish, relayFail]
    exact jobResult_some (by rw [emit_host]; exact hjob) hlong hres
  · rw [finish_rein, relayFail, jobResult_rein, emit_rein]
    rfl

theorem relayTimeout_none (hdest : s.rein.relayDest = none) :
    ∃ t, exec .relayTimeout s = .next t ∧ t.rein = s.rein ∧ t.host.job = s.host.job := by
  have hstep : relayTimeout s = s := by rw [relayTimeout, hdest]
  exact ⟨_, congrArg (complete s) hstep, finish_rein _ _, finish_host_job _ _⟩

end

/-- Settles O50: the flash jobs, the burn queue, and the relay at both of its ends. -/
theorem hostLongJobs : Obligations.HostLongJobs :=
  ⟨flashWrite_accepted, flashErase_accepted, flashErase_unaligned, flashWrite_done, flashErase_done, hwBurn_accepted,
    hwLock_accepted, reinRelay_runs, fun _ f _ => relayReq_refused f, fun _ f _ => relayReq_first f,
    fun _ seq a b n _ => relayReq_ident seq a b n, fun _ j hjob h v resp => relayRsp_completes j hjob h v resp,
    fun _ j hjob => relayTimeout_completes j hjob, fun _ => relayTimeout_none⟩

end Sys2Proof.Machine
end

section
/-! PROOFS. The supplies: a group's UVLO in both directions, the VDDIO sample, and a stop of the reference oscillator
(R39, R40, R56, R57, R646). -/

namespace Sys2Proof.Machine

/-! ### A port that loses its group's VIN (R61, Table 2.8) -/

section
variable (p : Fin 8) (s : State)

/-- With its group unpowered a port's balls are dark, whatever its registers hold. -/
theorem portDark_of_unpowered (h : portPowered s p = false) : portDark s p := by
  simp [portDark, gateBall, dschBall, dschOn, ccBall, vsetBall, ewBall, h]

theorem vconnOff_off : (portCc (vconnOff p s) p).vconnOn = false := by
  unfold vconnOff
  split
  · rw [portCc_modCc]
  next h => simpa using h

theorem portLeave_vconn (cause : Nat) : (portCc (portLeave p cause s) p).vconnOn = false := by
  simp [portLeave, vconnOff_off]

@[simp] theorem portCc_setCode (k : Fin 8) (v : Int) : portCc (setCode p v s) k = portCc s k := by
  unfold setCode
  split <;> simp

@[simp] theorem portCinch_setCode (v : Int) : portCinch (setCode p v s) p = { portCinch s p with vset := v } := by
  unfold setCode
  split
  next h => rw [← h]
  · simp

/-- Where the fall of VIN leaves a port: its gates and VCONN off, and its state Unpowered unless it is out of service. -/
def unpoweredThere (p : Fin 8) (s : State) : Prop :=
  (portCinch s p).gates = false ∧ (portCc s p).vconnOn = false
    ∧ ((portCc s p).state = .groupUnpowered ∨ (portCc s p).state = .outOfService)

/-- The port's hold over, with a port that was in hold marked as detached (R221). -/
def holdDetached (p : Fin 8) (s : State) : State :=
  modHold p (fun h => { h with detached := h.detached || h.inHold }) (holdOver p s)

theorem portUnpowered_onPort : OnPort p (holdDetached p s) (portUnpowered p s) :=
  (gatesLow_onPort _ p).trans <| (portLeave_onPort _ p 2).trans <| (setCode_onPort p _ 0).trans <|
    (modCinch_onPort _ p _).trans <| (setCcState_onPort _ p _).trans (present_onPort _ p _)

theorem portUnpowered_there : unpoweredThere p (portUnpowered p s) := by
  unfold portUnpowered
  dsimp only
  generalize modHold p _ (holdOver p s) = x
  obtain ⟨st, o, hleave⟩ := portLeave_cinch (gatesLow p x) p 2
  refine ⟨by simp [hleave], by simp [portLeave_vconn], ?_⟩
  rw [portCc_present, portCc_setCcState]
  dsimp only
  split
  · exact .inr rfl
  · exact .inl rfl

/-- The fall at one port leaves what it has left at another. -/
theorem portUnpowered_others {k : Fin 8} (hk : k ≠ p) (h : unpoweredThere k s) :
    unpoweredThere k (portUnpowered p s) := by
  have hon := portUnpowered_onPort p s
  rw [unpoweredThere, hon.cc hk, hon.cinch hk]
  exact h

end

/-! ### A group's VIN falls (R39, R56) -/

theorem onPorts_power {f : Fin 8 → State → State} (h : ∀ k x, (f k x).power = x.power) (ps : List (Fin 8)) (s : State) :
    (onPorts ps f s).power = s.power :=
  onPorts_keeps (P := fun x => x.power = s.power) (fun k x hx => (h k x).trans hx) ps rfl

section
variable {g : Fin 2} {mv : Nat} {s : State}

/-- The supplies once VIN of a group reads `mv`, its power bit at `on`. -/
def vinAt (g : Fin 2) (on : Bool) (mv : Nat) (w : Power) : Power :=
  { w with groupUp := w.groupUp.set g on, vinMv := w.vinMv.set g mv }

theorem vinAt_here (on : Bool) (w : Power) : (vinAt g on mv w).groupUp[g] = on ∧ (vinAt g on mv w).vinMv[g] = mv := by
  simp [vinAt]

theorem vinAt_other (on : Bool) (w : Power) : (vinAt g on mv w).groupUp[1 - g] = w.groupUp[1 - g] := by
  have hne : g.val ≠ (1 - g).val := by omega
  simp [vinAt, Vector.getElem_set_ne, hne]

/-- Reporting the fall touches neither the power bits nor the voltages. -/
theorem groupTell_power (s : State) : (groupTell g s).power.groupUp = s.power.groupUp
    ∧ (groupTell g s).power.vinMv = s.power.vinMv := by
  unfold groupTell
  split
  · exact ⟨rfl, rfl⟩
  · simp

theorem groupDown_alone (hup : s.power.groupUp[g] = true) (hother : s.power.groupUp[1 - g] = true) :
    groupDown g mv s =
      onPorts (groupPorts g) portUnpowered (groupTell g { s with power := vinAt g false mv s.power }) := by
  simp only [groupDown, hup, hother, Bool.not_true, Bool.false_eq_true, if_false, vinAt]

theorem groupUnpowered_effect (hup : s.power.groupUp[g] = true) (hother : s.power.groupUp[1 - g] = true) :
    ∃ t, exec (.groupUnpowered g mv) s = .next t
      ∧ t.power.groupUp[g] = false ∧ t.power.groupUp[1 - g] = true ∧ t.power.vinMv[g] = mv ∧ gcutBall t g = false
      ∧ ∀ p : Fin 8, groupOf p = g → portDark t p ∧ (portCinch t p).gates = false ∧ (portCc t p).vconnOn = false
          ∧ ((portCc t p).state = .groupUnpowered ∨ (portCc t p).state = .outOfService) := by
  obtain ⟨hups, hmvs⟩ := groupTell_power (g := g) { s with power := vinAt g false mv s.power }
  obtain ⟨hdown, hmv⟩ := vinAt_here (g := g) (mv := mv) false s.power
  generalize ht : finish s (groupDown g mv s) = t
  have hpower : t.power = (groupTell g { s with power := vinAt g false mv s.power }).power := by
    rw [← ht, finish_power, groupDown_alone hup hother]
    exact onPorts_power (fun k x => (portUnpowered_onPort k x).power) _ _
  have hoff : t.power.groupUp[g] = false := by rw [hpower, hups]; exact hdown
  refine ⟨t, congrArg _ ht, hoff, ?_, ?_, by simp [gcutBall, gcutOff, hoff], fun p hp => ⟨?_, ?_⟩⟩
  · rw [hpower, hups, vinAt_other, hother]
  · rw [hpower, hmvs]; exact hmv
  · exact portDark_of_unpowered p t (by simp only [portPowered, hp, hoff])
  · rw [← ht, finish_portCinch, finish_portCc, groupDown_alone hup hother]
    exact onPorts_each (I := fun _ => True) (Q := unpoweredThere) (fun _ _ h => h)
      (fun k x _ => portUnpowered_there k x) (fun k q x hq _ h => portUnpowered_others k x hq h) trivial
      (mem_groupPorts.mpr hp)

end

/-! ### A group's VIN rises (R56) -/

section
variable {p : Fin 8} {s : State}

/-- A port of a powered group that goes to Unattached is not Unpowered any more. -/
theorem goUnattached_leavesUnpowered (hpow : portPowered s p = true) :
    (portCc (goUnattached p s) p).state ≠ .groupUnpowered := by
  have hpow' : (ovpOver p s).power.groupUp[groupOf p] = true := hpow
  unfold goUnattached goUnattachedAs
  simp only [hpow', Bool.not_true, Bool.false_eq_true, if_false]
  split_ifs
  · simp
  · simp [enterLimp]
  · rw [enterUnattached_eq, ccEvaluate_state, portCc_modCc, ccNext, unattachedCc_state]
    split <;> (repeat' split) <;> simp_all

/-- In a reset hold the discharge of the port goes on with its group (Table 2.8). -/
def dischargesCold (p : Fin 8) (s : State) : State :=
  if s.boot.cold then modCinch p (fun c => { c with dsch := true }) s else s

theorem dischargesCold_onPort (p : Fin 8) (s : State) : OnPort p s (dischargesCold p s) :=
  .ite (modCinch_onPort s p _) (.refl p s)

theorem dischargesCold_cc (p : Fin 8) (s : State) : portCc (dischargesCold p s) p = portCc s p := by
  unfold dischargesCold
  split
  · rw [portCc_modCinch]
  · rfl

theorem portPoweredUp_eq (p : Fin 8) (s : State) : portPoweredUp p s =
    if (portCc (dischargesCold p s) p).state = .groupUnpowered ∧ ((isReady (dischargesCold p s)
      ∧ portReach (dischargesCold p s) p) ∨ (dischargesCold p s).boot.phase = .limp)
    then goUnattached p (dischargesCold p s) else dischargesCold p s := rfl

theorem portPoweredUp_onPort (p : Fin 8) (s : State) : OnPort p s (portPoweredUp p s) :=
  .ite ((dischargesCold_onPort p s).trans (goUnattachedAs_onPort _ p _)) (dischargesCold_onPort p s)

/-- The stand or the mask ROM runs the port, so that it takes it up when its group is powered. -/
def takesUp (s : State) (p : Fin 8) : Prop := s.boot.phase = .limp ∨ (isReady s = true ∧ portReach s p = true)

theorem OnPort.reach {k : Fin 8} {a b : State} (h : OnPort k a b) (p : Fin 8) : portReach b p = portReach a p := by
  simp only [portReach, rootSeen, strapUp, h.link, h.lost, h.holds]

theorem OnPort.takesUp_iff {k : Fin 8} {a b : State} (h : OnPort k a b) (p : Fin 8) : takesUp b p ↔ takesUp a p := by
  rw [takesUp, takesUp, h.boot, h.ready, h.reach]

theorem dischargesCold_takesUp : takesUp (dischargesCold p s) p ↔ takesUp s p :=
  (dischargesCold_onPort p s).takesUp_iff p

theorem portPoweredUp_takesUp (hpow : portPowered s p = true) (h : takesUp s p) :
    (portCc (portPoweredUp p s) p).state ≠ .groupUnpowered := by
  rw [portPoweredUp_eq]
  split
  · exact goUnattached_leavesUnpowered (by rw [(dischargesCold_onPort p s).powered, hpow])
  next hstay => exact fun hst => hstay ⟨hst, (dischargesCold_takesUp.mpr h).symm⟩

theorem portPoweredUp_waits (h : ¬ takesUp s p) : (portCc (portPoweredUp p s) p).state = (portCc s p).state := by
  rw [portPoweredUp_eq, if_neg fun hgo => h (dischargesCold_takesUp.mp hgo.2.symm), dischargesCold_cc]

variable {g : Fin 2} {mv : Nat}

/-- The supplies once VIN of a group is back: a later fall is to be reported anew. -/
def vinBack (g : Fin 2) (mv : Nat) (w : Power) : Power :=
  { vinAt g true mv w with groupTold := w.groupTold.set g false }

/-- The state as the ports find it: VIN up, and the rise reported where the other group runs. -/
def vinRisen (g : Fin 2) (mv : Nat) (s : State) : State :=
  emitIf s.power.groupUp[1 - g] (devEv 0x0005 1 [BitVec.ofNat 8 g.val]) { s with power := vinBack g mv s.power }

theorem groupUp_rises (hdown : s.power.groupUp[g] = false) :
    groupUp g mv s = onPorts (groupPorts g) portPoweredUp (vinRisen g mv s) := by
  simp only [groupUp, hdown, Bool.false_eq_true, if_false, vinRisen, vinBack, vinAt]

theorem vinRisen_offPorts : OffPorts { s with power := vinBack g mv s.power } (vinRisen g mv s) := by
  unfold vinRisen emitIf
  split
  · exact emit_offPorts _ _
  · constructor <;> rfl

theorem vinRisen_takesUp : takesUp (vinRisen g mv s) p ↔ takesUp s p :=
  (OnPort.ofOff (p := p) vinRisen_offPorts).takesUp_iff p

theorem groupPowered_effect (hdown : s.power.groupUp[g] = false) : ∃ t, exec (.groupPowered g mv) s = .next t
      ∧ t.power.groupUp[g] = true ∧ t.power.vinMv[g] = mv
      ∧ ∀ p : Fin 8, groupOf p = g →
          ((s.boot.phase = .limp ∨ (isReady s = true ∧ portReach s p = true)) → (portCc t p).state ≠ .groupUnpowered)
          ∧ (s.boot.phase ≠ .limp → portReach s p = false → (portCc t p).state = (portCc s p).state) := by
  obtain ⟨hon, hmv⟩ := vinAt_here (g := g) (mv := mv) true s.power
  have hrisen : (vinRisen g mv s).power = vinBack g mv s.power := vinRisen_offPorts.power
  have hpower : (groupUp g mv s).power = vinBack g mv s.power := by
    rw [groupUp_rises hdown, ← hrisen]
    exact onPorts_power (fun k x => (portPoweredUp_onPort k x).power) _ _
  refine ⟨_, rfl, ?_, ?_, fun p hp => ⟨fun htakes => ?_, fun hlimp hreach => ?_⟩⟩
  · rw [finish_power, hpower]; exact hon
  · rw [finish_power, hpower]; exact hmv
  · rw [finish_portCc, groupUp_rises hdown]
    refine onPorts_each (I := fun x => portPowered x p = true ∧ takesUp x p)
      (Q := fun k x => k = p → (portCc x k).state ≠ .groupUnpowered) (fun k x hx => ?_) (fun k x hx hk => ?_)
      (fun k q x hq _ h hqp => ?_) ⟨?_, vinRisen_takesUp.mpr htakes⟩ (mem_groupPorts.mpr hp) rfl
    · have hport := portPoweredUp_onPort k x
      exact ⟨by rw [hport.powered, hx.1], (hport.takesUp_iff p).mpr hx.2⟩
    · subst hk; exact portPoweredUp_takesUp hx.1 hx.2
    · rw [(portPoweredUp_onPort k x).cc hq]; exact h hqp
    · simp only [portPowered, hp, hrisen]; exact hon
  · have hwaits : ¬ takesUp s p := by simp [takesUp, hlimp, hreach]
    rw [finish_portCc, groupUp_rises hdown]
    refine (onPorts_keeps (P := fun x => ¬ takesUp x p ∧ (portCc x p).state = (portCc s p).state)
      (fun k x hx => ?_) _ ⟨mt vinRisen_takesUp.mp hwaits, ?_⟩).2
    · have hport := portPoweredUp_onPort k x
      refine ⟨mt (hport.takesUp_iff p).mp hx.1, ?_⟩
      by_cases hk : p = k
      · subst hk; rw [portPoweredUp_waits hx.1, hx.2]
      · rw [hport.cc hk, hx.2]
    · rw [vinRisen_offPorts.cc]; rfl

end

/-! ### The reference oscillator stops (R646) -/

/-- The supplies stand at `w`, and no generator runs. -/
def pgsAtRest (w : Power) (s : State) : Prop := s.power = w ∧ ∀ n : Fin 8, s.pgs[n].run = false

section
variable {w : Power} {s : State}

theorem pgsAtRest_of_kept {a b : State} (hpower : b.power = a.power) (hpgs : b.pgs = a.pgs) (h : pgsAtRest w a) :
    pgsAtRest w b := by
  rw [pgsAtRest, hpower, hpgs]
  exact h

theorem modPg_same (n : Fin 8) (f : Pg → Pg) (s : State) : (modPg n f s).pgs[n] = f s.pgs[n] := by simp [modPg]

theorem modPg_other {n k : Fin 8} (f : Pg → Pg) (s : State) (h : k ≠ n) : (modPg n f s).pgs[k] = s.pgs[k] := by
  have hne : n.val ≠ k.val := fun e => h (Fin.ext e.symm)
  simp [modPg, hne]

/-- An update that leaves a stopped generator stopped. -/
theorem modPg_atRest (n : Fin 8) {f : Pg → Pg} (hf : ∀ g, g.run = false → (f g).run = false) (h : pgsAtRest w s) :
    pgsAtRest w (modPg n f s) := by
  refine ⟨h.1, fun k => ?_⟩
  by_cases hk : k = n
  · subst hk; rw [modPg_same]; exact hf _ (h.2 k)
  · rw [modPg_other f s hk]; exact h.2 k

theorem pgStop_run {n k : Fin 8} (s : State) (h : k = n ∨ s.pgs[k].run = false) :
    (pgStop n s).pgs[k].run = false := by
  by_cases hk : k = n
  · subst hk; rw [pgStop, modPg_same]
  · rw [pgStop, modPg_other _ s hk]; exact h.resolve_left hk

theorem pgStop_atRest (n : Fin 8) (h : pgsAtRest w s) : pgsAtRest w (pgStop n s) := modPg_atRest n (fun _ _ => rfl) h

theorem pgDisown_atRest (n : Fin 8) (h : pgsAtRest w s) : pgsAtRest w (pgDisown n s) := by
  unfold pgDisown
  split
  · refine modPg_atRest n (fun g hg => ?_) (pgStop_atRest n h)
    split <;> exact hg
  · exact h

theorem countNow_atRest (n : Fin 8) (h : pgsAtRest w s) : pgsAtRest w (countNow n s).2 := by
  unfold countNow
  dsimp only
  split <;> exact h

theorem captureAll_atRest (code : Nat) (h : pgsAtRest w s) : pgsAtRest w (captureAll code s) := by
  refine List.foldlRecOn _ _ h fun x hx n _ => ?_
  unfold capture
  split
  · exact modPg_atRest n (fun _ hg => hg) (countNow_atRest n hx)
  · exact hx

/-- A trip does not reach a generator that is stopped (R377). -/
theorem pgTrip_atRest (n : Fin 8) (h : pgsAtRest w s) : pgTrip n s = s := by
  simp only [pgTrip, h.2 n, Bool.not_false, if_true]

theorem emitSap_kept (e : Event) (s : State) : (emitSap e s).power = s.power ∧ (emitSap e s).pgs = s.pgs := by
  unfold emitSap
  split
  · exact ⟨emit_power s e, emit_pgs s e⟩
  · unfold park
    split
    · exact ⟨rfl, rfl⟩
    · split <;> exact ⟨rfl, rfl⟩

theorem sapWake_kept (src : Nat) (s : State) : (sapWake src s).power = s.power ∧ (sapWake src s).pgs = s.pgs := by
  unfold sapWake
  dsimp only
  split <;> exact emitSap_kept _ _

theorem cmpWake_kept (n : Fin 8) (s : State) : (cmpWake n s).power = s.power ∧ (cmpWake n s).pgs = s.pgs := by
  unfold cmpWake
  split
  · obtain ⟨hpower, hpgs⟩ := sapWake_kept (2 + n.val) (emit (devEv 0x1003 2 [BitVec.ofNat 8 n.val,
      BitVec.ofNat 8 s.sap.level.val]) s)
    exact ⟨hpower.trans (emit_power s _), hpgs.trans (emit_pgs s _)⟩
  · exact ⟨rfl, rfl⟩

theorem cmpReport_kept (n : Fin 8) (s : State) : (cmpReport n s).power = s.power ∧ (cmpReport n s).pgs = s.pgs := by
  unfold cmpReport
  dsimp only
  split_ifs <;> simp

/-- A comparator that latches trips no generator that is stopped (R361, R377). -/
theorem cmpLatchSet_atRest (n : Fin 8) (h : pgsAtRest w s) : pgsAtRest w (cmpLatchSet n s) := by
  unfold cmpLatchSet
  split
  · exact h
  dsimp only
  generalize hx : captureAll (1 + n.val) _ = x
  have hrest : pgsAtRest w x := hx ▸ captureAll_atRest _ h
  have htrips : ∀ mask : Nat, pgsAtRest w
      ((List.finRange 8).foldl (fun s k => if mask >>> k.val % 2 = 1 then pgTrip k s else s) x) := fun mask => by
    refine List.foldlRecOn _ _ hrest fun y hy k _ => ?_
    split
    · rw [pgTrip_atRest k hy]; exact hy
    · exact hy
  generalize hz : cmpWake n _ = z
  have hwoken : pgsAtRest w z := by
    rw [← hz]
    obtain ⟨hpower, hpgs⟩ := cmpWake_kept n _
    exact pgsAtRest_of_kept hpower hpgs (htrips _)
  split
  · obtain ⟨hpower, hpgs⟩ := cmpReport_kept n z
    exact pgsAtRest_of_kept hpower hpgs hwoken
  · exact hwoken

theorem cmpLevel_atRest (n : Fin 8) (h : pgsAtRest w s) : pgsAtRest w (cmpLevel n s) := by
  unfold cmpLevel
  dsimp only
  split
  · exact cmpLatchSet_atRest n h
  · exact h

/-- Once each generator of a list has been stopped, those and the ones that were stopped before are. -/
theorem pgStops_run (l : List (Fin 8)) (s : State) (k : Fin 8) (h : k ∈ l ∨ s.pgs[k].run = false) :
    (l.foldl (fun s n => pgStop n s) s).pgs[k].run = false := by
  induction l generalizing s with
  | nil => simpa using h
  | cons n l ih =>
    refine ih (pgStop n s) ?_
    rcases h with h | h
    · rcases List.mem_cons.mp h with hk | hk
      · exact .inr (pgStop_run s (.inl hk))
      · exact .inl hk
    · exact .inr (pgStop_run s (.inr h))

theorem pgAllStop_atRest (s : State) : pgsAtRest s.power (pgAllStop s) := by
  have hstopped : pgsAtRest s.power ((List.finRange 8).foldl (fun s n => pgStop n s) s) :=
    ⟨List.foldlRecOn (motive := fun x : State => x.power = s.power) _ _ rfl fun _ hx _ _ => hx,
      fun k => pgStops_run _ s k (.inl (List.mem_finRange k))⟩
  exact List.foldlRecOn _ _ hstopped fun x hx n _ => cmpLevel_atRest n hx

/-- What is written at a port is no generator's. -/
theorem modPort_atRest (p : Fin 8) (f : Port → Port) (h : pgsAtRest w s) : pgsAtRest w (modPort p f s) := h

@[simp] theorem setCode_pgs (p : Fin 8) (v : Int) (s : State) : (setCode p v s).pgs = s.pgs := by
  unfold setCode
  split <;> simp

@[simp] theorem vconnOff_pgs (p : Fin 8) (s : State) : (vconnOff p s).pgs = s.pgs := by
  unfold vconnOff
  split <;> simp

theorem fallenBack_atRest (p : Fin 8) (off : Bool) (h : pgsAtRest w s) : pgsAtRest w (fallenBack p off s) :=
  pgsAtRest_of_kept (setCode_onPort p _ 0).power (setCode_pgs p 0 _) h

theorem fallbackDark_atRest (p : Fin 8) (h : pgsAtRest w s) : pgsAtRest w (fallbackDark p s) :=
  pgsAtRest_of_kept ((vconnOff_onPort _ p).trans (present_onPort _ p _)).power (vconnOff_pgs p _) (pgDisown_atRest p h)

theorem takeFallback_atRest (p : Fin 8) (h : pgsAtRest w s) : pgsAtRest w (takeFallback p s) := by
  cases hoff : s.strap.holds[p].fallbackOff with
  | true =>
    rw [takeFallback_off p s hoff]
    have hdark := fallbackDark_atRest p (fallenBack_atRest p true h)
    split
    · exact modPort_atRest p _ hdark
    · exact hdark
  | false =>
    have hback := fallenBack_atRest p false h
    unfold takeFallback
    simp only [hoff, Bool.false_eq_true, if_false]
    have hvsafe := fun v => modPort_atRest p v (modPort_atRest p (fun q => { q with cinch := { q.cinch with
      contractMv := 5000, oldMv := max q.cinch.oldMv q.cinch.contractMv } }) hback)
    split_ifs
    · exact modPort_atRest p _ (hvsafe _)
    · exact hvsafe _
    · exact hback

/-- The port is attached as Root sees it, and neither a trip, a detach nor an earlier fallback has settled it. -/
def fallsBackAtStop (s : State) (p : Fin 8) : Bool :=
  rootAttached (portCc s p) && !s.strap.holds[p].fellBack && !s.strap.holds[p].tripped && !s.strap.holds[p].detached

/-- Root's fallback at a stop of the oscillator; out of hold it keeps the Rp that the port presents. -/
def stopFallback (p : Fin 8) (s : State) : State :=
  takeFallback p (if s.strap.holds[p].inHold then s else modHold p (fun h => { h with rpLevel := rpLevel (portCc s p) }) s)

theorem stopFallback_atRest (p : Fin 8) (h : pgsAtRest w s) : pgsAtRest w (stopFallback p s) := by
  refine takeFallback_atRest p ?_
  split
  · exact h
  · exact h

/-- The supplies at the stop: the oscillator off, and the count of fallbacks waiting to be reported. -/
def oscillatorStopped (n : Nat) (w : Power) : Power :=
  { w with refoscRunning := false, refoscRestart := false, refoscReport := some n }

theorem refoscStop_running (hrun : s.power.refoscRunning = true) (hcode : s.strap.codeRunning = true) :
    refoscStop s = onPorts (allPorts.filter (fallsBackAtStop s)) stopFallback
      (pgAllStop { s with power := oscillatorStopped (allPorts.filter (fallsBackAtStop s)).length s.power }) := by
  simp only [refoscStop, hrun, hcode, Bool.not_true, Bool.false_eq_true, if_false, if_true]
  rfl

theorem refoscStop_effect (hrun : s.power.refoscRunning = true) (hcode : s.strap.codeRunning = true) :
    ∃ t, exec .refoscStop s = .next t
      ∧ t.power.refoscRunning = false
      ∧ t.power.refoscReport = some (allPorts.filter fun p => rootAttached (portCc s p)
          && !s.strap.holds[p].fellBack && !s.strap.holds[p].tripped && !s.strap.holds[p].detached).length
      ∧ ∀ n : Fin 8, t.pgs[n].run = false := by
  have hrest : pgsAtRest (oscillatorStopped (allPorts.filter (fallsBackAtStop s)).length s.power) (refoscStop s) := by
    rw [refoscStop_running hrun hcode]
    exact onPorts_keeps (fun p x => stopFallback_atRest p) _ (pgAllStop_atRest _)
  obtain ⟨hpower, hstopped⟩ := pgsAtRest_of_kept (finish_power s _) (finish_pgs s _) hrest
  refine ⟨_, rfl, ?_, ?_, hstopped⟩
  · rw [hpower]; rfl
  · rw [hpower]; rfl

end

/-- Settles O4: the fall and the rise of a group's VIN, the VDDIO sample, and the oscillator's stop. -/
theorem supplyChanges : Obligations.SupplyChanges :=
  ⟨fun _ _ _ => groupUnpowered_effect, fun _ _ _ => groupPowered_effect, fun _ _ => ⟨_, rfl, finish_power _ _⟩,
    fun _ => refoscStop_effect⟩

end Sys2Proof.Machine
end

section
/-! PROOFS. What a power-on and RST_N leave (R62, R66, R67, Table 2.8, Tables 3.4 and 3.8), and the state just after a
VDD18 power-on. -/

namespace Sys2Proof.Machine

/-! ### The state just after a power-on (R61, R605, R606) -/

/-- No flash and no Satchel byte is listed, and the two rows of Heartwood rise. -/
theorem reset_canonical : canonical State.reset := by
  refine ⟨rfl, rfl, ?_⟩
  decide

/-- Settles O57: the fields of State.reset, read off it. -/
theorem resetState : Obligations.ResetState := by
  refine ⟨rfl, rfl, rfl, rfl, rfl, rfl, ?_, ?_, ?_, rfl, rfl, rfl, rfl, reset_canonical, rfl, ?_⟩
  · decide
  · decide
  · decide
  · intro hopen; cases hopen

/-! ### Where both dies stand after a reset -/

/-- With the host port closed, nothing raised and no copy waiting for the journal, the end of a step does nothing. -/
theorem finish_quiet {a b : State} (hclosed : isOpen b = false) (hraised : b.raised = [])
    (hcopies : b.ring.copies = []) : finish a b = b := by
  have hopen : openIrq a b b = b := by
    unfold openIrq
    split <;> rfl
  simp [finish, notice, hclosed, flush_nil b hraised, hopen, journalKick, hcopies]

/-- A state in Reset hold: every port with its discharge as its group's supply has it, and every GCUT open. -/
structure AtResetHold (t : State) : Prop where
  phase : t.boot.phase = .resetHold
  ports : ∀ p : Fin 8, t.ports[p] = { cinch := {
    dsch := t.power.groupUp[groupOf p] || decide (4500 ≤ t.power.vinMv[groupOf p]) } }
  groups : ∀ g : Fin 2, t.groups[g].gcutOpen = true
  raised : t.raised = []
  copies : t.ring.copies = []

namespace AtResetHold
variable {t : State} (h : AtResetHold t)
include h

theorem finish (a : State) : finish a t = t :=
  finish_quiet (by simp [isOpen, h.phase]) h.raised h.copies

/-- The port's balls in Table 2.8's first two columns. -/
theorem port (p : Fin 8) : if t.power.groupUp[groupOf p] then portHeld t p else portDark t p := by
  have hcinch : portCinch t p = (t.ports[p]).cinch := rfl
  have hcc : portCc t p = (t.ports[p]).cc := rfl
  split
  next hup =>
    have hup : portPowered t p = true := hup
    have hdsch : (portCinch t p).dsch = true := by
      rw [hcinch, h.ports]
      exact Bool.or_eq_true_iff.mpr (.inl hup)
    refine ⟨by simp [gateBall, gatesDriven, hcinch, h.ports], by simp [dschBall, dschOn, hup, hdsch], ?_, ?_, ?_⟩
    · simp [ccBall, hcc, h.ports]
    · simp [vsetBall, hcinch, h.ports]
    · simp [ewBall, hcinch, h.ports]
  next hup => exact portDark_of_unpowered p t (by simpa [portPowered] using hup)

theorem gcut (g : Fin 2) : gcutBall t g = false := by
  have hopen := h.groups g
  simp only [gcutBall, gcutOff, hopen, Bool.true_or, Bool.not_true]

theorem rstOut : rstOutBall t = .low := by simp [rstOutBall, h.phase]

theorem irq : irqBall t = .threeState := by simp [irqBall, isOpen, h.phase]

theorem reinOut : reinOutBall t ≠ .driven := by
  have hhold : ballHold t ≠ .none := by simp [ballHold, h.phase]
  unfold reinOutBall
  split_ifs <;> simp_all

/-- Keeping CHOLD alive is the Sap domain's (R467). -/
theorem keepAlive : AtResetHold (Machine.keepAlive t) := ⟨h.phase, h.ports, h.groups, h.raised, h.copies⟩

end AtResetHold

theorem dieReset_resetHold (w : Power) (b : Boot) (s : State) (hphase : b.phase = .resetHold) :
    AtResetHold (dieReset w b s) :=
  ⟨hphase, fun p => Vector.getElem_ofFn _, fun g => by simp [dieReset, State.reset], rfl, rfl⟩

theorem powerOn_resetHold (c : PorCause) (s : State) : AtResetHold (powerOn c s) := by
  unfold powerOn
  exact (dieReset_resetHold _ _ s rfl).keepAlive

theorem rstNReset_resetHold (s : State) : AtResetHold (rstNReset s) := by
  refine dieReset_resetHold _ _ s ?_
  split <;> rfl

/-! ### Power-on and RST_N -/

theorem powerOnReset_exec (c : PorCause) (s : State) : exec (.powerOnReset c) s = .next (powerOn c s) := by
  have hexec : exec (.powerOnReset c) s = .next (finish s (powerOn c s)) := rfl
  rw [hexec, (powerOn_resetHold c s).finish]

/-- The bits of RSTCAUSE that a power-on sets (R66). -/
theorem powerOn_cause (c : PorCause) (s : State) : (powerOn c s).boot.cause =
    (if s.boot.phase = .crownReset then s.boot.arrived else 0)
      ||| (match c with | .vdd18 => 1 | .vin => 2 | .both => 3) := by
  cases c <;> rfl

theorem rstNSeen_long {lowNs : Nat} (h : 1000 ≤ lowNs) : rstNSeen lowNs = true := by
  have hshort : ¬ lowNs < 100 := by omega
  simp [rstNSeen, hshort, h]

theorem rstNSeen_short {lowNs : Nat} (h : lowNs < 100) : rstNSeen lowNs = false := by simp [rstNSeen, h]

/-- RST_N joins the causes kept, and counts a boot where none was due (R67). -/
theorem rstNReset_boot (s : State) : (rstNReset s).boot.cause = s.boot.cause ||| 4
    ∧ (rstNReset s).boot.resetCount = if crownRuns s then bump 8 s.boot.resetCount else s.boot.resetCount := by
  cases h : crownRuns s <;> simp [rstNReset, dieReset, countBoot, h]

theorem rstNAssert_long {lowNs : Nat} (h : 1000 ≤ lowNs) (s : State) :
    exec (.rstNAssert lowNs) s = .next (rstNReset s) := by
  have hexec : exec (.rstNAssert lowNs) s = .next (finish s (if rstNSeen lowNs then rstNReset s else s)) := rfl
  rw [hexec, rstNSeen_long h, if_pos rfl, (rstNReset_resetHold s).finish]

theorem rstNAssert_short {lowNs : Nat} (h : lowNs < 100) (s : State) :
    exec (.rstNAssert lowNs) s = .next (finish s s) := by
  have hexec : exec (.rstNAssert lowNs) s = .next (finish s (if rstNSeen lowNs then rstNReset s else s)) := rfl
  rw [hexec, rstNSeen_short h, if_neg (by decide)]

/-- Settles O2: a power-on and a long RST_N pulse leave a Reset hold; a short pulse is none. -/
theorem powerOnAndRstN : Obligations.PowerOnAndRstN := by
  refine ⟨fun c s => ?_, fun lowNs s hlong => ?_, fun lowNs s hshort => ?_⟩
  · have h := powerOn_resetHold c s
    exact ⟨powerOn c s, powerOnReset_exec c s, h.phase, powerOn_cause c s, rfl, rfl, rfl, rfl, rfl, rfl, rfl, rfl, rfl,
      rfl, rfl, rfl, rfl, rfl, rfl, h.port, h.gcut, h.rstOut, h.irq, h.reinOut⟩
  · have h := rstNReset_resetHold s
    obtain ⟨hcause, hcount⟩ := rstNReset_boot s
    exact ⟨rstNReset s, rstNAssert_long hlong s, h.phase, hcause, hcount, rfl, rfl, rfl, rfl, rfl, rfl, rfl, rfl,
      h.port, h.gcut, h.rstOut, h.irq⟩
  · exact ⟨_, rstNAssert_short hshort s, finish_boot s s, finish_power s s, finish_strap s s⟩

end Sys2Proof.Machine
end

section
/-! PROOFS. The core-voltage loop (R75 to R83): an evaluation, a step up, and a write of VCCTL. -/

namespace Sys2Proof.Machine

section
variable (s : State)

/-! ### What the loop's operations write -/

/-- The override of R80 that the supplies mean, and that one has been seen. -/
def overrideSeen (now : Bool) (w : Power) : Power := { w with override := now, ovrSeen := w.ovrSeen || now }

theorem vcOverride_power :
    (vcOverride s).power = overrideSeen (decide (swCeil s < s.power.timingFloor)) s.power := by
  unfold vcOverride
  dsimp only
  split_ifs <;> simp [overrideSeen]

theorem vcOverride_strap : (vcOverride s).strap = s.strap := by
  unfold vcOverride
  dsimp only
  split_ifs <;> simp

/-- The supplies with the set-point moved toward `v` (R79). -/
def setpointAt (v hard : Nat) (w : Power) : Power := { w with setpoint := min v hard, atMax := decide (hard ≤ v) }

theorem vcSet_power (v : Nat) : (vcSet v s).power = setpointAt v (vcHard s) s.power := rfl

/-- What the set-point rule reads: the floor, VCCTL and VDD18. -/
theorem vcRule_congr {a b : State} (hfloor : b.power.timingFloor = a.power.timingFloor)
    (hctl : b.power.vcctl = a.power.vcctl) : vcRule b = vcRule a ∧ vcCap b = vcCap a := by
  simp only [vcRule, vcCap, swFloor, swCeil, hfloor, hctl, and_self]

theorem vcHard_congr {a b : State} (h : b.power.vdd18Mv = a.power.vdd18Mv) : vcHard b = vcHard a := by
  simp only [vcHard, h]

theorem vcHeld_congr {a b : State} (h : b.strap = a.strap) : vcHeld b = vcHeld a := by
  simp only [vcHeld, strapUp, h]

/-! ### An evaluation (R75, R77, R80, R82, R83) -/

/-- The supplies as an evaluation finds them. -/
def measured (floor : Nat) (meas : Byte) (mv : Nat) (w : Power) : Power :=
  { w with timingFloor := floor, vcoreMeas := meas, vdd18Mv := mv }

/-- The state in which the set-point is judged: slacks, floor and voltages taken, and the override they mean. -/
def vcSeen (floor : Nat) (meas : Byte) (slack : List Int) (mv : Nat) (s : State) : State :=
  vcOverride { s with
    grain := { s.grain with stands := Vector.ofFn fun k =>
      if s.grain.stands[k].role = 0 then s.grain.stands[k]
      else { s.grain.stands[k] with slack := slack.getD k.val s.grain.stands[k].slack } }
    power := measured floor meas mv s.power }

/-- The set-point that an evaluation wants. -/
def vcNext (slack : List Int) (s : State) : Nat :=
  if vcHeld s then s.power.setpoint
  else if s.power.setpoint ≤ vcRule s then vcRule s
  else if vcCap s < s.power.setpoint || slack.all (fun x => decide (12 < x)) then s.power.setpoint - 1
  else s.power.setpoint

/-- The set-point moved as an evaluation decides. -/
def vcMoved (slack : List Int) (s : State) : State :=
  if vcHeld s then vcSet s.power.setpoint s
  else if s.power.setpoint ≤ vcRule s then vcSet (vcRule s) s
  else if vcCap s < s.power.setpoint || slack.all (fun x => decide (12 < x)) then vcSet (s.power.setpoint - 1) s
  else vcSet s.power.setpoint s

theorem vcMoved_eq (slack : List Int) : vcMoved slack s = vcSet (vcNext slack s) s := by
  unfold vcMoved vcNext
  split_ifs <;> rfl

variable {s} {floor : Nat} {meas : Byte} {slack : List Int} {mv : Nat}

theorem vcEval_ready (hready : isReady s = true) :
    vcEval floor meas slack mv s = vcSet (vcNext slack (vcSeen floor meas slack mv s)) (vcSeen floor meas slack mv s) := by
  have hon : ¬ (!loopOn s) = true := by simp [loopOn, hready]
  rw [← vcMoved_eq, vcEval, if_neg hon]
  rfl

theorem vcSeen_power : (vcSeen floor meas slack mv s).power =
    overrideSeen (decide (swCeil s < floor)) (measured floor meas mv s.power) := vcOverride_power _

theorem vcSeen_strap : (vcSeen floor meas slack mv s).strap = s.strap := vcOverride_strap _

theorem vcoreLoopEval_effect (floor meas : Byte) (slack : List Int) (mv : Nat) (hready : isReady s = true) :
    ∃ t, exec (.vcoreLoopEval floor meas slack mv) s = .next t
      ∧ t.power.timingFloor = floor.toNat ∧ t.power.vcoreMeas = meas ∧ t.power.vcctl = s.power.vcctl
      ∧ t.power.vdd18Mv = mv ∧ t.power.setpoint ≤ vcHard t
      ∧ t.power.override = decide (swCeil s < floor.toNat)
      ∧ t.power.ovrSeen = (s.power.ovrSeen || decide (swCeil s < floor.toNat))
      ∧ (vcHeld s = true → t.power.setpoint = min s.power.setpoint (vcHard t))
      ∧ (vcHeld s = false → s.power.setpoint ≤ vcRule t → t.power.setpoint = min (vcRule t) (vcHard t))
      ∧ (vcHeld s = false → vcRule t < s.power.setpoint →
          (slack.all (fun x => decide (12 < x)) = true ∨ vcCap t < s.power.setpoint) →
          t.power.setpoint = min (s.power.setpoint - 1) (vcHard t))
      ∧ (vcHeld s = false → vcRule t < s.power.setpoint → slack.all (fun x => decide (12 < x)) = false →
          s.power.setpoint ≤ vcCap t → t.power.setpoint = min s.power.setpoint (vcHard t)) := by
  have hseen := vcSeen_power (floor := floor.toNat) (meas := meas) (slack := slack) (mv := mv) (s := s)
  have hheld : vcHeld (vcSeen floor.toNat meas slack mv s) = vcHeld s := vcHeld_congr vcSeen_strap
  have hexec : exec (.vcoreLoopEval floor meas slack mv) s = .next (finish s (vcEval floor.toNat meas slack mv s)) := rfl
  rw [vcEval_ready hready] at hexec
  generalize vcSeen floor.toNat meas slack mv s = x at hseen hheld hexec
  generalize ht : finish s (vcSet (vcNext slack x) x) = t at hexec
  have hpower : t.power = setpointAt (vcNext slack x) (vcHard x) x.power := by
      rw [← ht, finish_power, vcSet_power]
  obtain ⟨hrule, hcap⟩ := vcRule_congr (a := x) (b := t) (by rw [hpower]; rfl) (by rw [hpower]; rfl)
  have hhard : vcHard t = vcHard x := vcHard_congr (by rw [hpower]; rfl)
  have hnow : x.power.setpoint = s.power.setpoint := by rw [hseen]; rfl
  have hset : t.power.setpoint = min (vcNext slack x) (vcHard x) := by rw [hpower]; rfl
  refine ⟨t, hexec, ?_, ?_, ?_, ?_, ?_, ?_, ?_, ?_, ?_, ?_, ?_⟩
  · rw [hpower, setpointAt, hseen]; rfl
  · rw [hpower, setpointAt, hseen]; rfl
  · rw [hpower, setpointAt, hseen]; rfl
  · rw [hpower, setpointAt, hseen]; rfl
  · rw [hset, hhard]; exact Nat.min_le_right _ _
  · rw [hpower, setpointAt, hseen]; rfl
  · rw [hpower, setpointAt, hseen]; rfl
  all_goals
    rw [hset, hhard, vcNext, hheld, hnow]
  · intro hlost; rw [if_pos hlost]
  all_goals
    intro hlink
    simp only [hlink, Bool.false_eq_true, if_false, hrule, hcap]
  · intro hle; rw [if_pos hle]
  · intro hlt hdown; rw [if_neg (Nat.not_le.mpr hlt), if_pos]
    simpa [or_comm] using hdown
  · intro hlt hall hle
    have hcap : ¬ vcCap x < s.power.setpoint := Nat.not_lt.mpr hle
    rw [if_neg (Nat.not_le.mpr hlt), if_neg]
    simp [hall, hcap]

/-! ### A step up (R76, R77, R79) -/

/-- The state with VDD18 as measured. -/
def vdd18At (mv : Nat) (s : State) : State := { s with power := { s.power with vdd18Mv := mv } }

theorem vcStepUp_eq {slack : Int} (hready : isReady s = true) : vcStepUp slack mv s =
    if slack < 6 then
      vcSet (max s.power.setpoint (min (s.power.setpoint + 4) (vcCap (vdd18At mv s)))) (vdd18At mv s)
    else if vcHard (vdd18At mv s) < s.power.setpoint then vcSet s.power.setpoint (vdd18At mv s)
    else vdd18At mv s := by
  have hon : loopOn s = true := hready
  unfold vcStepUp
  rw [if_pos hon, if_neg]
  · rfl
  · rw [show loopOn { s with power := { s.power with vdd18Mv := mv } } = true from hready]; decide

theorem vcStepUp_low {slack : Int} (hready : isReady s = true) (hlow : slack < 6) : (vcStepUp slack mv s).power =
    setpointAt (max s.power.setpoint (min (s.power.setpoint + 4) (vcCap s))) (vcHard (vdd18At mv s))
      (vdd18At mv s).power := by
  rw [vcStepUp_eq hready, if_pos hlow, vcSet_power]
  rfl

/-- A canary with slack enough leaves the set-point, but for R79's maximum. -/
theorem vcStepUp_high {slack : Int} (hready : isReady s = true) (hhigh : 6 ≤ slack) : ∃ atMax,
    (vcStepUp slack mv s).power = { (vdd18At mv s).power with
      setpoint := min s.power.setpoint (vcHard (vdd18At mv s)), atMax := atMax } := by
  rw [vcStepUp_eq hready, if_neg (by omega)]
  split
  · exact ⟨_, vcSet_power _ _⟩
  next hle => exact ⟨s.power.atMax, by rw [Nat.min_eq_left (Nat.not_lt.mp hle)]; rfl⟩

theorem vcoreStepUp_low {slack : Int} (mv : Nat) (hready : isReady s = true) (hlow : slack < 6) :
    ∃ t, exec (.vcoreStepUp slack mv) s = .next t
      ∧ t.power.vdd18Mv = mv ∧ t.power.timingFloor = s.power.timingFloor
      ∧ t.power.setpoint = min (max s.power.setpoint (min (s.power.setpoint + 4) (vcCap s))) (vcHard t) := by
  have hpower := (finish_power s _).trans (vcStepUp_low (mv := mv) hready hlow)
  refine ⟨_, rfl, ?_, ?_, ?_⟩
  · rw [hpower]; rfl
  · rw [hpower]; rfl
  · rw [vcHard_congr (a := vdd18At mv s) (by rw [hpower]; rfl), hpower, setpointAt]

theorem vcoreStepUp_high {slack : Int} (mv : Nat) (hready : isReady s = true) (hhigh : 6 ≤ slack) :
    ∃ t, exec (.vcoreStepUp slack mv) s = .next t
      ∧ t.power.vdd18Mv = mv ∧ t.power.setpoint = min s.power.setpoint (vcHard t) ∧ t.power.vcctl = s.power.vcctl
      ∧ t.power.timingFloor = s.power.timingFloor := by
  obtain ⟨atMax, hstep⟩ := vcStepUp_high (mv := mv) hready hhigh
  have hpower := (finish_power s _).trans hstep
  refine ⟨_, rfl, ?_, ?_, ?_, ?_⟩
  · rw [hpower]; rfl
  · rw [vcHard_congr (a := vdd18At mv s) (by rw [hpower]), hpower]
  · rw [hpower]; rfl
  · rw [hpower]; rfl

/-! ### A write of VCCTL (R77, R79, R80, R83) -/

/-- The state with VCCTL as written, and the override that it means. -/
def vcctlSeen (v : Word) (s : State) : State :=
  vcOverride { s with power := { s.power with vcctl := v &&& 0x00FFFF01 } }

theorem vcctlWrite_eq {v : Word} (hready : isReady s = true) : vcctlWrite v s =
    if vcHeld (vcctlSeen v s) then vcctlSeen v s
    else vcSet (min (max (vcctlSeen v s).power.setpoint (vcRule (vcctlSeen v s))) (vcCap (vcctlSeen v s)))
      (vcctlSeen v s) :=
  if_pos hready

theorem vcctlWrite_effect {who : Requester} {v : Word} (hready : isReady s = true) (hmay : maySet who 0x4C00 s) :
    ∃ t, exec (.vcctlWrite who v) s = .next t
      ∧ t.power.vcctl = v &&& 0x00FFFF01 ∧ t.power.timingFloor = s.power.timingFloor
      ∧ t.power.override = decide (swCeil t < s.power.timingFloor)
      ∧ t.power.setpoint = (if vcHeld s then s.power.setpoint
          else min (min (max s.power.setpoint (vcRule t)) (vcCap t)) (vcHard t)) := by
  have hexec : exec (.vcctlWrite who v) s =
      .next (finish s (guarded who (regAccess true 0x4C00) (vcctlWrite v) s)) := rfl
  rw [guarded_allowed s hmay, vcctlWrite_eq hready] at hexec
  have hseen : (vcctlSeen v s).power = _ := vcOverride_power _
  have hheld : vcHeld (vcctlSeen v s) = vcHeld s := vcHeld_congr (vcOverride_strap _)
  rw [hheld] at hexec
  generalize vcctlSeen v s = x at hexec hseen
  cases hlost : vcHeld s with
  | true =>
    rw [hlost, if_pos rfl] at hexec
    have hpower := (finish_power s x).trans hseen
    refine ⟨_, hexec, ?_, ?_, ?_, ?_⟩
    · rw [hpower]; rfl
    · rw [hpower]; rfl
    · simp only [swCeil, hpower]; rfl
    · rw [hpower, if_pos rfl]; rfl
  | false =>
    rw [hlost, if_neg (by decide)] at hexec
    generalize ht : finish s (vcSet _ x) = t at hexec
    have hpower : t.power = setpointAt (min (max x.power.setpoint (vcRule x)) (vcCap x)) (vcHard x) x.power := by
      rw [← ht, finish_power, vcSet_power]
    obtain ⟨hrule, hcap⟩ := vcRule_congr (a := x) (b := t) (by rw [hpower]; rfl) (by rw [hpower]; rfl)
    have hhard : vcHard t = vcHard x := vcHard_congr (by rw [hpower]; rfl)
    have hnow : x.power.setpoint = s.power.setpoint := by rw [hseen]; rfl
    refine ⟨t, hexec, ?_, ?_, ?_, ?_⟩
    · rw [hpower, setpointAt, hseen]; rfl
    · rw [hpower, setpointAt, hseen]; rfl
    · simp only [swCeil, hpower, setpointAt, hseen]; rfl
    · rw [hrule, hcap, hhard, hpower, hnow, if_neg (by decide)]; rfl

end

/-- Settles O5: an evaluation of the loop, a canary's step up, and a write of VCCTL. -/
theorem coreVoltageLoop : Obligations.CoreVoltageLoop :=
  ⟨fun floor meas slack mv _ => vcoreLoopEval_effect floor meas slack mv,
    fun _ mv _ hready hlow => vcoreStepUp_low mv hready hlow, fun _ mv _ hhigh hready => vcoreStepUp_high mv hready hhigh,
    fun _ _ _ => vcctlWrite_effect⟩

end Sys2Proof.Machine
end

section
/-! PROOFS. What the operations of ports, groups and comparators leave alone: the boot, the supplies, Heartwood, the Grain,
the Pattern, WD-B, Graft, the flash, the Strap but for the holds, the interrupts that stand, and the settings of R643. -/

namespace Sys2Proof.Machine

/-- The registers of a port that the Pattern's stands set at step 7 and that no operation of the port moves (R643). -/
def portSettings (q : Port) : Word × Word × Word × Word × Word :=
  (q.metro.loopCfg, q.cinch.cfg, q.cinch.i2tCfg, q.pd.cfg, q.cc.time0W)

/-- The Strap without the ports' holds and the entries that wait for its restore. -/
def strapCore (t : Strap) : Strap := { t with holds := .replicate 8 {}, due := [] }

/-- What the operations of ports leave as it is. -/
structure Kept where
  boot : Boot
  power : Power
  heart : Heart
  grain : Grain
  pattern : Pattern
  wdb : WdB
  graft : Graft
  flash : Flash
  strap : Strap
  irqStat : BitVec 12
  settings : Fin 8 → Word × Word × Word × Word × Word

/-- The part of the state that the operations of ports do not work on. -/
def kept (s : State) : Kept :=
  { boot := s.boot, power := s.power, heart := s.heart, grain := s.grain, pattern := s.pattern, wdb := s.wdb
    graft := s.graft, flash := s.flash, strap := strapCore s.strap, irqStat := s.host.irqStat
    settings := fun k => portSettings s.ports[k] }

/-- From `a` to `b` nothing changed but what the operations of ports work on. -/
structure PortWork (a b : State) : Prop where
  same : kept b = kept a

namespace PortWork
variable {a b c : State}

theorem refl (a : State) : PortWork a a := ⟨rfl⟩

theorem trans (h : PortWork a b) (g : PortWork b c) : PortWork a c := ⟨g.same.trans h.same⟩

theorem ite {c : Prop} [Decidable c] {x y : State} (hx : PortWork a x) (hy : PortWork a y) :
    PortWork a (if c then x else y) := by
  split
  · exact hx
  · exact hy

theorem onPorts {f : Fin 8 → State → State} (h : ∀ k x, PortWork x (f k x)) (ps : List (Fin 8)) (s : State) :
    PortWork s (onPorts ps f s) :=
  onPorts_keeps (P := PortWork s) (fun k x hx => hx.trans (h k x)) ps (refl s)

theorem foldl {α : Type} {f : State → α → State} (h : ∀ x y, PortWork x (f x y)) (l : List α) (s : State) :
    PortWork s (l.foldl f s) :=
  List.foldlRecOn l f (refl s) fun x hx y _ => hx.trans (h x y)

section
variable (h : PortWork a b)
include h

theorem boot : b.boot = a.boot := congrArg Kept.boot h.same
theorem power : b.power = a.power := congrArg Kept.power h.same
theorem heart : b.heart = a.heart := congrArg Kept.heart h.same
theorem grain : b.grain = a.grain := congrArg Kept.grain h.same
theorem pattern : b.pattern = a.pattern := congrArg Kept.pattern h.same
theorem wdb : b.wdb = a.wdb := congrArg Kept.wdb h.same
theorem graft : b.graft = a.graft := congrArg Kept.graft h.same
theorem flash : b.flash = a.flash := congrArg Kept.flash h.same
theorem strap : strapCore b.strap = strapCore a.strap := congrArg Kept.strap h.same
theorem irqStat : b.host.irqStat = a.host.irqStat := congrArg Kept.irqStat h.same
theorem settings (k : Fin 8) : portSettings b.ports[k] = portSettings a.ports[k] :=
  congrFun (congrArg Kept.settings h.same) k
theorem codeRunning : b.strap.codeRunning = a.strap.codeRunning :=
  congrArg (fun x : Kept => x.strap.codeRunning) h.same

end

end PortWork

section
variable (p : Fin 8) (g : Fin 2) (s : State)

/-! ### Updates of one part -/

theorem modPort_work (f : Port → Port) (hf : (fun q => portSettings (f q)) = portSettings) :
    PortWork s (modPort p f s) := by
  have hsettings : (fun k : Fin 8 => portSettings (modPort p f s).ports[k]) = fun k : Fin 8 => portSettings s.ports[k] :=
    funext fun k => modPort_part s p k portSettings (congrFun hf)
  exact ⟨congrArg (fun v => ({ kept s with settings := v } : Kept)) hsettings⟩

theorem modCc_work (f : CcPort → CcPort) (hf : (fun q : Port => portSettings { q with cc := f q.cc }) = portSettings) :
    PortWork s (modCc p f s) := modPort_work p s _ hf
theorem modPd_work (f : PdPort → PdPort) (hf : (fun q : Port => portSettings { q with pd := f q.pd }) = portSettings) :
    PortWork s (modPd p f s) := modPort_work p s _ hf
theorem modCinch_work (f : CinchPort → CinchPort)
    (hf : (fun q : Port => portSettings { q with cinch := f q.cinch }) = portSettings) :
    PortWork s (modCinch p f s) := modPort_work p s _ hf
theorem modMetro_work (f : MetroPort → MetroPort)
    (hf : (fun q : Port => portSettings { q with metro := f q.metro }) = portSettings) :
    PortWork s (modMetro p f s) := modPort_work p s _ hf
theorem modHold_work (f : HoldPort → HoldPort) : PortWork s (modHold p f s) := ⟨rfl⟩
theorem modGroup_work (f : Group → Group) : PortWork s (modGroup g f s) := ⟨rfl⟩
theorem groups_work (v : Vector Group 2) : PortWork s { s with groups := v } := ⟨rfl⟩
theorem wda_work (w : WdA) : PortWork s { s with wda := w } := ⟨rfl⟩
theorem modPg_work (f : Pg → Pg) : PortWork s (modPg p f s) := ⟨rfl⟩
theorem modCmp_work (f : Cmp → Cmp) : PortWork s (modCmp p f s) := ⟨rfl⟩

/-! ### Events -/

theorem emit_work (e : Event) : PortWork s (emit e s) := .ite ⟨rfl⟩ ⟨rfl⟩
theorem evp_work (code sev : Nat) (data : List Byte) : PortWork s (evp p code sev data s) := emit_work s _

/-! ### Generators and comparators -/

theorem pgStop_work : PortWork s (pgStop p s) := ⟨rfl⟩
theorem pgDisown_work : PortWork s (pgDisown p s) := .ite ⟨rfl⟩ (.refl s)
theorem pgCfgWrite_work (v : Word) : PortWork s (pgCfgWrite p v s) := .ite ⟨rfl⟩ (.ite ⟨rfl⟩ ⟨rfl⟩)
theorem pgUnset_work : PortWork s (pgUnset p s) := 
  .ite ((modPg_work p s fun g => { g with timeW := 0 }).trans (pgCfgWrite_work p _ 0)) ⟨rfl⟩
theorem pgSettle_work : PortWork s (pgSettle p s) := .ite (pgStop_work p s) (.refl s)
theorem pgLimp_work : PortWork s (pgLimp p s) := ⟨rfl⟩

theorem cmpReport_work : PortWork s (cmpReport p s) := by
  unfold cmpReport
  dsimp only
  have hpolicy : PortWork s (if flag s.cmps[p].cfg 12 && isReady s then
      { s with policy := s.policy ++ [.comparator p] } else s) := .ite ⟨rfl⟩ (.refl s)
  exact .ite (.ite (hpolicy.trans <| (modCmp_work p _ _).trans (emit_work _ _)) (hpolicy.trans (modCmp_work p _ _))) hpolicy

theorem cmpDeferred_work : PortWork s (cmpDeferred s) :=
  .foldl (fun x n => .ite ((modCmp_work n x _).trans (cmpReport_work n _)) (.refl x)) _ s

/-! ### The Pocket and authentication (R303) -/

theorem unwantBy_work (gone : AwlUse → Bool) : PortWork s (unwantBy gone s) := ⟨rfl⟩
theorem eraseItem_work (i : Fin 20) : PortWork s (eraseItem i s) := by
  unfold eraseItem
  split <;> exact ⟨rfl⟩
theorem authClear_work (st : AuthState) : PortWork s (authClear st p s) := modPd_work p s _ (by rfl)
theorem authEnd_work : PortWork s (authEnd p s) :=
  (unwantBy_work s _).trans <| (eraseItem_work _ _).trans (authClear_work p _ _)
theorem authDrop_work : PortWork s (authDrop p s) := .ite ((unwantBy_work s _).trans (authClear_work p _ _)) (.refl s)

/-! ### CC lines and debounces -/

theorem present_work (t : CcTerm) : PortWork s (present p t s) := modCc_work p s _ (by rfl)
theorem setCcState_work (st : CcState) : PortWork s (setCcState p st s) := modCc_work p s _ (by rfl)
theorem ovpOver_work : PortWork s (ovpOver p s) := modCc_work p s _ (by rfl)
theorem vconnOff_work : PortWork s (vconnOff p s) := .ite (modCc_work p s _ (by rfl)) (.refl s)
theorem debReport_work (t : DebTimer) (ms : Nat) : PortWork s (debReport p t ms s) :=
  (modCc_work p s _ (by rfl)).trans (evp_work p _ _ _ _)
theorem debounceDrop_work : PortWork s (debounceDrop p s) := by
  rcases debounceDrop_cases s p with h | ⟨t, ms, h⟩ <;> rw [h]
  · exact modCc_work p s _ (by rfl)
  · exact (modCc_work p s _ (by rfl)).trans (debReport_work p _ t ms)
theorem debounceStart_work (t : DebTimer) : PortWork s (debounceStart p t s) :=
  (debounceDrop_work p s).trans (modCc_work p _ _ (by rfl))
theorem srcDebounce_work (t : DebTimer) : PortWork s (srcDebounce p t s) :=
  (modCc_work p s _ (by rfl)).trans (debounceStart_work p _ t)

theorem ccEvaluate_work : PortWork s (ccEvaluate p s) := by
  unfold ccEvaluate
  dsimp only
  split
  · exact .ite ((setCcState_work p s _).trans (srcDebounce_work p _ _)) (.refl s)
  · exact .ite ((setCcState_work p s _).trans (debounceStart_work p _ _)) (.refl s)
  · exact .ite (srcDebounce_work p s _) (srcDebounce_work p s _)
  · exact .ite (debounceStart_work p s _) (debounceStart_work p s _)
  · exact .ite (srcDebounce_work p s _) (debounceDrop_work p s)
  · exact .ite (debounceStart_work p s _) (.ite (debounceStart_work p s _) (debounceDrop_work p s))
  · exact .ite (debounceDrop_work p s) (debounceStart_work p s _)
  · exact .ite (.ite (debounceDrop_work p s) (debounceStart_work p s _)) (.refl s)
  · exact .refl s

theorem enterUnattached_work (how : UnattachedAs) : PortWork s (enterUnattached p how s) :=
  (modCc_work p s _ (by rfl)).trans (ccEvaluate_work p _)
theorem goUnattachedAs_work (how : UnattachedAs) : PortWork s (goUnattachedAs p how s) := by
  have hstate : ∀ st t, PortWork s (present p t (setCcState p st (ovpOver p s))) := fun st t =>
    (ovpOver_work p s).trans <| (setCcState_work p _ st).trans (present_work p _ t)
  exact .ite (hstate _ _) <| .ite (hstate _ _) <| .ite (hstate _ _) <|
    (ovpOver_work p s).trans (enterUnattached_work p _ how)
theorem goUnattached_work : PortWork s (goUnattached p s) := goUnattachedAs_work p s .src

/-! ### Gates, contracts and leaving an attach -/

theorem gatesLow_work : PortWork s (gatesLow p s) := (pgDisown_work p s).trans (modCinch_work p _ _ (by rfl))
theorem dischargeOn_work : PortWork s (dischargeOn p s) := modCinch_work p s _ (by rfl)
theorem gatesDark_work : PortWork s (gatesDark p s) := (gatesLow_work p s).trans (dischargeOn_work p _)
theorem gatesOff_work : PortWork s (gatesOff p s) :=
  .ite (.ite (gatesDark_work p s) ((gatesLow_work p s).trans (modCinch_work p _ _ (by rfl)))) (.refl s)
theorem setTarget_work (mv : Nat) : PortWork s (setTarget p mv s) :=
  .ite (.refl s) ((modCinch_work p s _ (by rfl)).trans (modMetro_work p _ _ (by rfl)))
theorem contractOver_work : PortWork s (contractOver p s) := (setTarget_work p s 5000).trans (modMetro_work p _ _ (by rfl))
theorem setCode_work (v : Int) : PortWork s (setCode p v s) :=
  .ite (.refl s) ((modCinch_work p s _ (by rfl)).trans (modMetro_work p _ _ (by rfl)))
theorem pdEnd_work : PortWork s (pdEnd p s) := (modPd_work p s _ (by rfl)).trans (contractOver_work p _)
theorem clearLevels_work : PortWork s (clearLevels p s) := modPd_work p s _ (by rfl)
theorem backfeedEnd_work (cause : Nat) : PortWork s (backfeedEnd p cause s) :=
  .ite ((modCinch_work p s _ (by rfl)).trans (evp_work p _ _ _ _)) (.refl s)
theorem portLeave_work (cause : Nat) : PortWork s (portLeave p cause s) :=
  (backfeedEnd_work p s cause).trans <| (debounceDrop_work p _).trans <| (vconnOff_work p _).trans <|
    (unwantBy_work _ _).trans <| (pdEnd_work p _).trans <| (authEnd_work p _).trans (clearLevels_work p _)
theorem outOfService_work : PortWork s (outOfService p s) :=
  (gatesDark_work p s).trans <| (portLeave_work p _ 2).trans <| (setCcState_work p _ _).trans <|
    (ovpOver_work p _).trans (present_work p _ _)
theorem groupHoldOut_work : PortWork s (groupHoldOut p s) := (outOfService_work p s).trans (modCinch_work p _ _ (by rfl))

/-! ### Groups (R334 to R338) -/

theorem groupAfterBackfeed_work : PortWork s (groupAfterBackfeed g s) :=
  groupAfterBackfeed_keeps (P := PortWork s) (fun k _ ht => ht.trans (groupHoldOut_work k _)) g (.refl s)
theorem takeOut_work : PortWork s (takeOut p s) := (outOfService_work p s).trans (groupAfterBackfeed_work _ _)
theorem errorRecovery_work : PortWork s (errorRecovery p s) :=
  .ite (.refl s) <| (gatesOff_work p s).trans <| (portLeave_work p _ 1).trans <| (setCcState_work p _ _).trans <|
    (present_work p _ _).trans (groupAfterBackfeed_work _ _)
theorem detach_work : PortWork s (detach p s) := by
  unfold detach
  exact (evp_work p s _ _ _).trans <| (gatesOff_work p _).trans <| (portLeave_work p _ 0).trans <|
    (goUnattachedAs_work p _ _).trans (groupAfterBackfeed_work _ _)
theorem groupOutAll_work : PortWork s (groupOutAll g s) :=
  .onPorts (fun k x => .ite (.refl x) (groupHoldOut_work k x)) _ s
theorem gcutOpen_work (cause : Nat) : PortWork s (gcutOpen g cause s) := (modGroup_work g s _).trans (emit_work _ _)

theorem stuckOn_work (mv : Nat) : PortWork s (stuckOn p mv s) := by
  have hout : PortWork s (modCinch p (fun c => { c with st := .stuckOn, dsch := false }) (outOfService p
      (evp p 0x2024 6 (le 2 (satTo 16 mv)) (modCinch p (fun c => { c with stuck := true, stuckTest := false }) s)))) :=
    (modCinch_work p s _ (by rfl)).trans <| (evp_work p _ _ _ _).trans <| (outOfService_work p _).trans
      (modCinch_work p _ _ (by rfl))
  exact .ite (hout.trans <| (gcutOpen_work _ _ 1).trans <| (modGroup_work _ _ _).trans (groupOutAll_work _ _)) hout

theorem rearmDone_work : PortWork s (rearmDone g s) :=
  .ite (.refl s) <| .ite (modGroup_work g s _) <| (modGroup_work g s _).trans <| (emit_work _ _).trans <|
    .onPorts (fun k x => .ite (goUnattached_work k x) (.refl x)) _ _

theorem rearm_work : PortWork s (rearm g s) := by
  refine .ite (modGroup_work g s _) <| (modGroup_work g s _).trans <| (PortWork.onPorts (fun k x => ?_) _ _).trans
    (rearmDone_work g _)
  have hout := (modCinch_work k x (fun c => { c with stuck := false, groupOut := false, st := .off }) (by rfl)).trans
    (outOfService_work k _)
  dsimp only
  generalize outOfService k _ = y at hout
  exact hout.trans (modCinch_work k y _ (by rfl))

theorem rearmDeferred_work : PortWork s (rearmDeferred s) :=
  .foldl (fun x k => .ite (rearm_work k x) (.refl x)) _ s

theorem groupReady_work : PortWork s (groupReady g s) := by
  unfold groupReady
  dsimp only
  have hclosed : PortWork s (if s.groups[g].gcutOpen && decide (s.groups[g].cause = 3) then
      modGroup g (fun t => { t with gcutOpen := false, cause := 0 }) s else s) := .ite (modGroup_work g s _) (.refl s)
  refine .ite (.onPorts (fun k x => .ite (.refl x) (groupHoldOut_work k x)) _ s) (hclosed.trans ?_)
  exact (PortWork.onPorts (fun k x => .ite (modCinch_work k x _ (by rfl)) (.refl x)) _ _).trans (modGroup_work g _ _)

theorem droopEntry_work (mv : Nat) : PortWork s (droopEntry p mv s) :=
  .ite ((modCinch_work p s _ (by rfl)).trans (evp_work p _ _ _ _)) (.refl s)
theorem droopDeferred_work : PortWork s (droopDeferred s) := by
  refine .onPorts (fun k x => ?_) _ s
  split
  · exact (modCinch_work k x _ (by rfl)).trans (droopEntry_work k _ _)
  · exact .refl x

/-! ### Messages and offers -/

theorem setStep_work (st : PdStep) : PortWork s (setStep p st s) := modPd_work p s _ (by rfl)
theorem pdSendOn_work (on : Sop) (m : PdMsg) : PortWork s (pdSendOn p on m s) := .ite (modPd_work p s _ (by rfl)) (.refl s)
theorem amsStart_work (k : Byte) : PortWork s (amsStart p k s) :=
  .ite ((modPd_work p s _ (by rfl)).trans <| (modPd_work p _ _ (by rfl)).trans (present_work p _ _))
    (modPd_work p s _ (by rfl))
theorem sendOffer_work (own : Bool) (pdos : List Word) : PortWork s (sendOffer p own pdos s) := by
  have hams : ∀ (c : Prop) [Decidable c] (x : State), PortWork s x →
      PortWork s (if c then amsStart p amsNegotiation x else x) := fun _ _ x hx =>
    .ite (hx.trans (amsStart_work p x amsNegotiation)) hx
  exact .ite ((hams _ _ (modPd_work p s _ (by rfl))).trans (pdSendOn_work p _ _ _))
    ((hams _ _ (modPd_work p s _ (by rfl))).trans (pdSendOn_work p _ _ _))
theorem sendCaps_work : PortWork s (sendCaps p s) :=
  .ite (modPd_work p s _ (by rfl)) ((modPd_work p s _ (by rfl)).trans (sendOffer_work p _ true _))
theorem startSource_work : PortWork s (startSource p s) :=
  .ite (((modPd_work p s _ (by rfl)).trans (modPd_work p _ _ (by rfl))).trans (pdSendOn_work p _ _ _))
    ((modPd_work p s _ (by rfl)).trans (sendCaps_work p _))
theorem softResetWith_work {give : Fin 8 → State → State} (hgive : PortWork s (give p s)) (sent : Bool) :
    PortWork s (softResetWith give p sent s) := by
  unfold softResetWith
  dsimp only
  generalize hx : evp p 0x2011 2 _ _ = x
  have hreset : PortWork s x := by
    rw [← hx]
    exact hgive.trans <| (unwantBy_work (give p s) _).trans <| (modPd_work p _ _ (by rfl)).trans (evp_work p _ _ _ _)
  exact .ite (hreset.trans <| (pdSendOn_work p _ _ _).trans (setStep_work p _ _)) hreset

theorem offerAgain_work : PortWork s (offerAgain p s) := by
  unfold offerAgain
  dsimp only
  refine .ite (.refl s) ?_
  split
  · exact .refl s
  · exact .refl s
  · exact .refl s
  · exact sendCaps_work p s

theorem wdaPolicy_work : PortWork s (wdaPolicy p s) := by
  unfold wdaPolicy
  refine .ite (.refl s) ?_
  split
  · exact .ite ((wda_work s _).trans (offerAgain_work p _)) (wda_work s _)
  · exact .ite ((wda_work s _).trans (takeOut_work p _)) (wda_work s _)
  · exact ⟨rfl⟩

/-! ### A stand that has its port again (R225, R227) -/

theorem outcomeEvent_work : PortWork s (outcomeEvent p s) := by
  unfold outcomeEvent
  split
  · exact .refl s
  · exact .refl s
  · exact .refl s
  · exact emit_work s _
theorem holdClear_work : PortWork s (holdClear p s) := modHold_work p s _
theorem cinchSync_work : PortWork s (cinchSync p s) := modCinch_work p s _ (by rfl)
theorem stayUnattached_work (boot : Bool) : PortWork s (stayUnattached p boot s) :=
  .ite (goUnattached_work p s) (.ite (enterUnattached_work p s _) (.refl s))
theorem pdRestart_work : PortWork s (applyOutcome.pdRestart p s) := by
  unfold applyOutcome.pdRestart
  exact (unwantBy_work s _).trans <| (authEnd_work p _).trans <| (pdEnd_work p _).trans (modPd_work p _ _ (by rfl))

theorem applyOutcome_work (boot : Bool) : PortWork s (applyOutcome p boot s) := by
  unfold applyOutcome
  dsimp only
  have hsync : PortWork s (cinchSync p (holdClear p s)) := (holdClear_work p s).trans (cinchSync_work p _)
  generalize cinchSync p (holdClear p s) = x at hsync
  have hattached := hsync.trans (setCcState_work p x (attachedState x p))
  have hrecovery := hattached.trans (errorRecovery_work p _)
  split
  · have hheld := hattached.trans (modCc_work p _ (fun c => { c with hushStatus := .idle }) (by rfl))
    have hreset := hheld.trans (softResetWith_work p _ (authDrop_work p _) true)
    exact .ite (hreset.trans (wdaPolicy_work p _)) hreset
  · exact hrecovery
  · exact hrecovery
  · exact hrecovery
  · exact hrecovery
  · exact hattached.trans (detach_work p _)
  · have hafresh := hattached.trans (pdRestart_work p _)
    exact .ite hattached (.ite (hafresh.trans (startSource_work p _)) (hafresh.trans (setStep_work p _ _)))
  · exact hsync.trans (stayUnattached_work p x boot)

theorem rootReports_work : PortWork s (rootReports p s) := by
  unfold rootReports
  split
  · exact (modCinch_work p s _ (by rfl)).trans (stuckOn_work p _ _)
  · exact .refl s

theorem portRequests_work : PortWork s (portRequests p s) :=
  .ite (takeOut_work p s) (.ite (goUnattached_work p s) (.ite (goUnattached_work p s) (.refl s)))

theorem portResume_work (boot : Bool) : PortWork s (portResume p boot s) := by
  unfold portResume
  dsimp only
  have hback := (modCc_work p s (fun c => { c with cc1 := c.rootCc1, cc2 := c.rootCc2, events := [] }) (by rfl)).trans
    (modPd_work p _ (fun q => { q with rxq := [] }) (by rfl))
  generalize modPd p _ _ = x at hback
  have hclear := hback.trans (holdClear_work p x)
  have hacts := hback.trans <| (applyOutcome_work p x boot).trans (portRequests_work p _)
  exact .ite (.ite hclear (hclear.trans (outOfService_work p _))) <|
    .ite (hclear.trans (portRequests_work p _)) (.ite (hacts.trans (ccEvaluate_work p _)) hacts)

theorem rootThresholds_work : PortWork s (rootThresholds s) :=
  (PortWork.onPorts (fun k x => modCinch_work k x _ (by rfl)) allPorts s).trans (groups_work _ _)
theorem showHold_work : PortWork s (showHold p s) :=
  .ite ((modPd_work p s _ (by rfl)).trans <| (setCcState_work p _ _).trans (modCinch_work p _ _ (by rfl)))
    (modPd_work p s _ (by rfl))
theorem portReady_work : PortWork s (portReady p s) :=
  .ite (portResume_work p s true) ((modHold_work p s _).trans (showHold_work p _))
theorem fastCmpFault_work (f : Fin 8 × Bool) : PortWork s (fastCmpFault f s) :=
  (modCinch_work f.1 s _ (by rfl)).trans (evp_work f.1 _ _ _ _)

/-! ### Root alone (R218 to R221) -/

theorem holdOver_work : PortWork s (holdOver p s) := modHold_work p s _
theorem rootDark_work : PortWork s (rootDark p s) := (pgDisown_work p s).trans (modCinch_work p _ _ (by rfl))
theorem takeFallback_work : PortWork s (takeFallback p s) := by
  unfold takeFallback
  dsimp only
  have hback := (holdOver_work p s).trans <| (modHold_work p _ fun h => { h with
    fellBack := true, fellBackOff := s.strap.holds[p].fallbackOff }).trans (setCode_work p _ 0)
  generalize setCode p 0 _ = x at hback
  have hdark := hback.trans <| (rootDark_work p x).trans <| (vconnOff_work p _).trans (present_work p _ .opened)
  have hfive := hback.trans <| (modCinch_work p x (fun c => { c with
    contractMv := 5000, oldMv := max c.oldMv c.contractMv }) (by rfl)).trans
      (present_work p _ (.rp x.strap.holds[p].rpLevel))
  exact .ite (.ite (hdark.trans (modCinch_work p _ _ (by rfl))) hdark)
    (.ite (.ite (hfive.trans (modCinch_work p _ _ (by rfl))) hfive) hback)

theorem rootHoldStart_work : PortWork s (rootHoldStart p s) := by
  unfold rootHoldStart
  dsimp only
  exact .ite (.refl s) (.ite ((modHold_work p s _).trans (takeFallback_work p _)) (modHold_work p s _))

/-! ### Limp and the integrity hold (R71, R90) -/

theorem limpGroup_work : PortWork s (limpGroup g s) := .ite (modGroup_work g s _) (.refl s)
theorem limpPort_work : PortWork s (limpPort p s) := by
  unfold limpPort
  dsimp only
  have hoff : PortWork s (if (portCinch (holdOver p s) p).gates then gatesDark p (holdOver p s) else
      modCinch p (fun c => { c with dsch := false, st := if c.stuck then c.st else .off }) (holdOver p s)) :=
    .ite ((holdOver_work p s).trans (gatesDark_work p _)) ((holdOver_work p s).trans (modCinch_work p _ _ (by rfl)))
  have hleft := hoff.trans <| (portLeave_work p _ 2).trans (modCinch_work p _ (fun c => { c with vset := 0 }) (by rfl))
  exact .ite (hleft.trans (groupHoldOut_work p _)) (hleft.trans (goUnattached_work p _))

theorem portResetHold_work : PortWork s (portResetHold p s) := by
  unfold portResetHold
  exact (outOfService_work p s).trans (modCinch_work p _ _ (by rfl))

end

end Sys2Proof.Machine
end

section
/-! PROOFS. The causes that reset Crown alone (R66, R67, R198): what a reset carries over of the boot, the supplies, WD-B and
the Crown-reset wire. -/

namespace Sys2Proof.Machine

/-- The boot, the supplies, WD-B and the Crown-reset wire. -/
def resetBasis (s : State) : Boot × Power × WdB × Bool := (s.boot, s.power, s.wdb, s.strap.wire)

theorem PortWork.resetBasis {a b : State} (h : PortWork a b) : resetBasis b = resetBasis a :=
  congrArg (fun x : Kept => (x.boot, x.power, x.wdb, x.strap.wire)) h.same

section
variable (s : State)

/-! ### What ends with Crown -/

theorem hostInterrupted_resetBasis (kind : Nat) : resetBasis (hostInterrupted kind s) = resetBasis s := by
  unfold hostInterrupted
  cases s.host.job with
  | none => rfl
  | some j =>
    dsimp only
    split
    · rfl
    · unfold emitIf
      split
      · simp [resetBasis]
      · rfl

theorem flush_resetBasis : resetBasis (flush s) = resetBasis s := by simp [resetBasis]

/-- What a reset tears in the flash, byte by byte. -/
theorem torn_resetBasis {f : State → Nat → State} (hf : ∀ x k, resetBasis (f x k) = resetBasis x) (n : Nat) :
    resetBasis ((List.range n).foldl f s) = resetBasis s :=
  List.foldlRecOn (motive := fun x => resetBasis x = resetBasis s) _ f rfl fun x hx k _ => (hf x k).trans hx

theorem tornProgram_resetBasis (a n : Nat) : resetBasis (tornProgram a n s) = resetBasis s := by
  refine torn_resetBasis s (fun x k => ?_) n
  rfl
theorem tornErase_resetBasis (a n : Nat) : resetBasis (tornErase a n s) = resetBasis s := by
  refine torn_resetBasis s (fun x k => ?_) n
  rfl

theorem tornCopy_resetBasis : resetBasis (tornCopy s) = resetBasis s := by
  unfold tornCopy
  dsimp only
  split
  · exact tornErase_resetBasis s _ _
  · exact tornErase_resetBasis s _ _
  · exact tornErase_resetBasis s _ _
  · rfl

theorem tornGraft_resetBasis : resetBasis (tornGraft s) = resetBasis s := by
  unfold tornGraft
  split
  · exact (tornProgram_resetBasis _ _ _).trans (tornProgram_resetBasis s _ _)
  · exact (tornProgram_resetBasis _ _ _).trans (tornProgram_resetBasis s _ _)
  · exact (tornErase_resetBasis _ _ _).trans (tornErase_resetBasis s _ _)
  · rfl

theorem tornOp_resetBasis (o : FlashOp) : resetBasis (tornOp o s) = resetBasis s := by
  unfold tornOp
  split
  · rfl
  · split
    · exact tornProgram_resetBasis s _ _
    · rfl
  · dsimp only
    split
    · exact tornErase_resetBasis s _ _
    · exact tornProgram_resetBasis s _ _
  · exact tornProgram_resetBasis s _ _
  · exact tornErase_resetBasis s _ _
  · rfl
  · rfl
  · split
    · exact tornGraft_resetBasis s
    · rfl
  · exact tornCopy_resetBasis s

theorem flashAbort_resetBasis : resetBasis (flashAbort s) = resetBasis s := by
  have hstep : ∀ (o : Option FlashOp) (x : State),
      resetBasis (match o with | some o => tornOp o x | none => x) = resetBasis x := by
    intro o x
    cases o with
    | none => rfl
    | some o => exact tornOp_resetBasis x o
  exact (hstep s.flash.suspended _).trans (hstep s.flash.current s)

theorem burnAbort_resetBasis : resetBasis (burnAbort s) = resetBasis s := by
  unfold burnAbort
  cases s.heart.running with
  | none => rfl
  | some r =>
    dsimp only
    split <;> rfl

theorem pocketDown_resetBasis : resetBasis (pocketDown s) = resetBasis s := by
  have herase := (PortWork.onPorts (fun k x => eraseItem_work x (sessionItem k)) allPorts s).resetBasis
  unfold pocketDown
  dsimp only
  generalize onPorts _ _ _ = x at herase ⊢
  exact herase

/-! ### Root's loss, and the wire (R198, R213) -/

theorem resyncAbandon_resetBasis : resetBasis (resyncAbandon s) = resetBasis s := by
  unfold resyncAbandon
  split
  · dsimp only
    generalize hx : onPorts _ _ _ = x
    have hholds : resetBasis x = resetBasis s := by
      rw [← hx]
      exact (PortWork.onPorts (fun k x => modHold_work k x _) allPorts s).resetBasis
    exact hholds
  · rfl

theorem rootLoss_resetBasis : resetBasis (rootLoss s) = resetBasis s := by
  have hcut : resetBasis (loadCut (resyncAbandon s)) = resetBasis s := resyncAbandon_resetBasis s
  unfold rootLoss
  dsimp only
  split
  · exact hcut
  · exact ((PortWork.onPorts (fun k x => rootHoldStart_work k x) allPorts _).resetBasis).trans hcut

/-- The assertion changes the supplies only in what REFOSC's restart asks for. -/
theorem wireAssert_resetBasis : resetBasis (wireAssert s) =
    (s.boot, { s.power with refoscRestart := !s.power.refoscRunning }, s.wdb, true) := by
  unfold wireAssert
  dsimp only
  generalize hx : rootLoss _ = x
  have hloss : resetBasis x = (s.boot, { s.power with refoscRestart := !s.power.refoscRunning }, s.wdb, true) := by
    rw [← hx]
    exact rootLoss_resetBasis _
  split <;> exact hloss

/-! ### A reset of a Crown that runs -/

/-- Crown down to its domain's wire, before its own registers fall back. -/
def crownStopped (kind : Nat) (s : State) : State :=
  pocketDown (flashAbort (burnAbort (wireAssert (copiesLost (flush (hostInterrupted kind s))))))

theorem crownStopped_resetBasis (kind : Nat) : resetBasis (crownStopped kind s) =
    (s.boot, { s.power with refoscRestart := !s.power.refoscRunning }, s.wdb, true) := by
  have hended : resetBasis (copiesLost (flush (hostInterrupted kind s))) = resetBasis s :=
    (flush_resetBasis _).trans (hostInterrupted_resetBasis s kind)
  obtain ⟨hboot, hpower, hwdb, -⟩ : _ ∧ _ ∧ _ ∧ _ := by simpa only [resetBasis, Prod.mk.injEq] using hended
  rw [crownStopped, pocketDown_resetBasis, flashAbort_resetBasis, burnAbort_resetBasis, wireAssert_resetBasis, hboot,
    hpower, hwdb]

/-- The boot that stands while a reset waits for its end. -/
def resetBoot (bits : BitVec 14) (b : Boot) : Boot := countBoot { b with cause := b.cause ||| bits, arrived := bits }

theorem crownReset_running (bits : BitVec 14) (kind : Nat) (keep : Bool) (hruns : crownRuns s = true) :
    crownReset bits kind keep s =
      crownDown keep { crownStopped kind s with boot := resetBoot bits (crownStopped kind s).boot } := by
  unfold crownReset
  split
  next hphase => simp [crownRuns, hphase] at hruns
  next hphase => simp [crownRuns, hphase] at hruns
  next => rfl

variable (bits : BitVec 14) (kind : Nat) (keep : Bool)

/-- What Table 3.4 and Table 3.8 keep over a Crown reset, and what it writes. -/
structure ResetFrom (bits : BitVec 14) (s t : State) : Prop where
  phase : t.boot.phase = .crownReset
  cause : t.boot.cause = s.boot.cause ||| bits
  count : t.boot.resetCount = bump 8 s.boot.resetCount
  power : t.power = { s.power with
    setpoint := 0x6E, timingFloor := 0, atMax := false, override := false, refoscRestart := !s.power.refoscRunning }
  wdb : t.wdb = { lastCause := s.wdb.lastCause, expiries := s.wdb.expiries, storm := s.wdb.storm
                  monLost := s.wdb.monLost, entryDue := s.wdb.entryDue }
  wire : t.strap.wire = true

theorem resetFrom (hruns : crownRuns s = true) : ResetFrom bits s (crownReset bits kind keep s) := by
  rw [crownReset_running s bits kind keep hruns]
  obtain ⟨hboot, hpower, hwdb, hwire⟩ : _ ∧ _ ∧ _ ∧ _ := by
    simpa only [resetBasis, Prod.mk.injEq] using crownStopped_resetBasis s kind
  generalize crownStopped kind s = x at hboot hpower hwdb hwire
  have hcount : bump 8 x.boot.resetCount = bump 8 s.boot.resetCount := by rw [hboot]
  exact { phase := rfl, cause := congrArg (fun b : Boot => b.cause ||| bits) hboot
          count := hcount
          power := congrArg (fun w : Power => { w with
             setpoint := 0x6E, timingFloor := 0, atMax := false, override := false }) hpower
          wdb := congrArg (fun w : WdB => ({ lastCause := w.lastCause, expiries := w.expiries, storm := w.storm
                                             monLost := w.monLost, entryDue := w.entryDue } : WdB)) hwdb
          wire := hwire }

/-! ### The commands -/

theorem crownRuns_congr {a b : State} (h : b.boot.phase = a.boot.phase) : crownRuns b = crownRuns a := by
  simp only [crownRuns, h]

/-- The supplies' measurement of a VCORE undervoltage, with its entry. -/
def vcoreSeen (meas : Byte) (s : State) : State :=
  emit (devEv 0x1303 5 [BitVec.ofNat 8 s.power.setpoint, meas]) { s with power := { s.power with vcoreMeas := meas } }

theorem vcoreUv_short (meas : Byte) : vcoreUv meas false s = vcoreSeen meas s := rfl

theorem vcoreUv_lasting (meas : Byte) (hruns : crownRuns s = true) :
    vcoreUv meas true s = crownReset 0x400 0 false (vcoreSeen meas s) := by
  have hseen : crownRuns (vcoreSeen meas s) = true := by
    rw [← hruns]
    exact crownRuns_congr (by simp [vcoreSeen])
  have huv : vcoreUv meas true s = if crownRuns (vcoreSeen meas s) then crownReset 0x400 0 false (vcoreSeen meas s) else
      if (vcoreSeen meas s).boot.together.vcore then crownReset 0x400 0 false { vcoreSeen meas s with
        boot := { (vcoreSeen meas s).boot with together := { (vcoreSeen meas s).boot.together with vcore := false } } }
      else vcoreSeen meas s := rfl
  rw [huv, if_pos hseen]

/-- WD-B counted as expired, before the reset that it causes (R569). -/
def wdbCounted (cause : Nat) (s : State) : State :=
  { s with
    boot := { s.boot with together := { s.boot.together with wdb := false } }
    wdb := { s.wdb with
      running := false, lastCause := BitVec.ofNat 3 cause, expiries := bump 8 s.wdb.expiries, storm := s.wdb.storm + 1
      entryDue := some (BitVec.ofNat 3 cause, satTo 2 (s.wdb.storm + 1)) } }

theorem wdbExpire_running (cause : Nat) (hrunning : s.wdb.running = true) (hruns : crownRuns s = true) :
    wdbExpire cause s = crownReset (if cause = 4 then 0x40 else 0x20) 1 false (wdbCounted cause s) := by
  have hhold : s.boot.phase ≠ .resetHold := by
    intro hphase
    simp [crownRuns, hphase] at hruns
  simp [wdbExpire, wdbCounted, hrunning, hhold]

end

/-- Settles O3: each cause resets a Crown that runs, and a short undervoltage leaves its measurement alone. -/
theorem crownResetCauses : Obligations.CrownResetCauses := by
  refine ⟨fun s hruns => ?_, fun meas s hruns => ?_, fun meas s => ?_, fun early s hrunning hruns => ?_⟩
  · have h := resetFrom { s with power := { s.power with vddio := false } } 0x800 0 false hruns
    have hexec : exec .vddioUv s = .next (finish s (vddioDown s)) := rfl
    refine ⟨_, hexec, ?_⟩
    rw [finish_boot, finish_power, finish_strap, vddioDown, h.power]
    exact ⟨h.phase, h.cause, h.count, rfl, rfl, rfl, rfl, h.wire⟩
  · have h := resetFrom (vcoreSeen meas s) 0x400 0 false ((crownRuns_congr (by simp [vcoreSeen])).trans hruns)
    have hexec : exec (.vcoreUv meas true) s = .next (finish s (vcoreUv meas true s)) := rfl
    refine ⟨_, hexec, ?_⟩
    rw [finish_boot, finish_power, finish_strap, vcoreUv_lasting s meas hruns, h.power]
    obtain ⟨hphase, hcause, hcount⟩ := And.intro h.phase (And.intro h.cause h.count)
    simp only [vcoreSeen, emit_boot, emit_power] at hphase hcause hcount ⊢
    exact ⟨hphase, hcause, hcount, trivial, trivial, h.wire⟩
  · have hexec : exec (.vcoreUv meas false) s = .next (finish s (vcoreUv meas false s)) := rfl
    refine ⟨_, hexec, ?_⟩
    rw [finish_boot, finish_power, vcoreUv_short, vcoreSeen, emit_boot, emit_power]
    exact ⟨rfl, rfl⟩
  · obtain ⟨cause, hcause, hnot, hbits⟩ : ∃ cause : Nat, cause = (if early then 2 else 1) ∧ ¬ cause = 4 ∧
        BitVec.ofNat 3 cause = (if early then 2 else 1 : BitVec 3) := ⟨_, rfl, by cases early <;> decide⟩
    have h := resetFrom (wdbCounted cause s) 0x20 1 false hruns
    have hexec : exec (.wdBExpired early) s = .next (finish s (wdbExpire (if early then 2 else 1) s)) := rfl
    refine ⟨_, hexec, ?_⟩
    rw [finish_boot, finish_wdb, finish_strap, ← hcause, wdbExpire_running s cause hrunning hruns, if_neg hnot, h.wdb]
    exact ⟨h.phase, h.cause, h.count, rfl, hbits, rfl, rfl, h.wire⟩

end Sys2Proof.Machine
end

section
/-! PROOFS. The loader's verdicts (R70, R71, R135, R140, R208): a refusal of the slot, Limp after the second one, and the
checks of a fetched slot. -/

namespace Sys2Proof.Machine

section
variable (s : State) (reason ff : Nat)

/-! ### Limp (R71) -/

/-- The boot as Limp shows it. -/
def limpBoot (now : Nat) (b : Boot) : Boot :=
  { b with phase := .limp, limp := true, cold := false, bootSlot := 3, cause := b.cause ||| 0x2000, bootTime := now - b.t0 }

/-- Limp before the ports and the groups: Root runs its mask ROM only (R647), and WD-B leaves boot mode. -/
def limpBegun (s : State) : State :=
  { s with
    boot := limpBoot s.time.now s.boot
    host := { s.host with irqStat := 0x80 }
    strap := { s.strap with codeRunning := false, params := false, loadData := [], loadFailed := none }
    wdb := { s.wdb with bootMode := false, inWindow := false } }

theorem limpEnter_work : PortWork (limpBegun s) (limpEnter reason s) := by
  unfold limpEnter
  have hgroups := (emit_work (limpBegun s) (devEv 0x0003 5 [BitVec.ofNat 8 reason])).trans <|
    (limpGroup_work 0 _).trans (limpGroup_work 1 _)
  exact hgroups.trans (.onPorts (fun k x => (limpPort_work k x).trans (pgLimp_work k _)) allPorts _)

theorem limpEnter_boot : (limpEnter reason s).boot = limpBoot s.time.now s.boot := (limpEnter_work s reason).boot
theorem limpEnter_pattern : (limpEnter reason s).pattern = s.pattern := (limpEnter_work s reason).pattern
theorem limpEnter_grain : (limpEnter reason s).grain = s.grain := (limpEnter_work s reason).grain
theorem limpEnter_codeRunning : (limpEnter reason s).strap.codeRunning = false := (limpEnter_work s reason).codeRunning

/-! ### A refusal (R70, R140, R594) -/

/-- The entry of a refused slot, and Graft's way back from a refused trial slot (R594). -/
def slotDropped (reason : Nat) (s : State) : State :=
  let x := emit (devEv 0x0301 5 [BitVec.ofNat 8 s.boot.slot.val, BitVec.ofNat 8 reason]) s
  if x.graft.trialNow && decide (s.boot.slot = 1) then graftFellBack 1 x else x

theorem graftFellBack_keeps (cause : Nat) : (graftFellBack cause s).boot = s.boot
    ∧ (graftFellBack cause s).pattern = s.pattern ∧ (graftFellBack cause s).strap = s.strap := by
  unfold graftFellBack graftAppend
  dsimp only
  split <;> simp [flashProgram]

theorem slotDropped_keeps : (slotDropped reason s).boot = s.boot ∧ (slotDropped reason s).pattern = s.pattern
    ∧ (slotDropped reason s).strap = s.strap := by
  unfold slotDropped
  dsimp only
  split
  · simp only [graftFellBack_keeps, emit_boot, emit_pattern, emit_strap, and_self]
  · simp only [emit_boot, emit_pattern, emit_strap, and_self]

/-- The next slot takes the refused one's place (R140). -/
def nextSlot (ff : Nat) (b : Boot) : Boot :=
  { b with failFirst := BitVec.ofNat 3 ff, second := true, slot := 1 - b.slot, phase := .fetch, cause := b.cause ||| 0x1000 }

/-- The refusal of a first slot, before its entry. -/
def slotMoved (reason ff : Nat) (slot : Fin 2) (x : State) : State :=
  { x with
    pattern := { x.pattern with reasonFirst := BitVec.ofNat 8 reason }
    boot := { x.boot with
      failFirst := BitVec.ofNat 3 ff, second := true, slot := 1 - slot, phase := .fetch, cause := x.boot.cause ||| 0x1000 }
    strap := { x.strap with retried := false, loadFailed := none } }

/-- The refusal of a second slot, before Limp. -/
def slotGone (reason : Nat) (x : State) : State :=
  { x with pattern := { x.pattern with reasonSecond := BitVec.ofNat 8 reason } }

theorem refuseSlot_eq : refuseSlot reason ff s =
    if (slotDropped reason s).boot.second then limpEnter reason (slotGone reason (slotDropped reason s))
    else emit (devEv 0x0002 4 [BitVec.ofNat 8 ff, BitVec.ofNat 8 reason])
      (slotMoved reason ff s.boot.slot (slotDropped reason s)) := rfl

theorem refuseSlot_first (hfirst : s.boot.second = false) : (refuseSlot reason ff s).boot = nextSlot ff s.boot
    ∧ (refuseSlot reason ff s).pattern = { s.pattern with reasonFirst := BitVec.ofNat 8 reason }
    ∧ (refuseSlot reason ff s).strap = { s.strap with retried := false, loadFailed := none } := by
  obtain ⟨hboot, hpattern, hstrap⟩ := slotDropped_keeps s reason
  have hnot : ¬ (slotDropped reason s).boot.second = true := by simp [hboot, hfirst]
  rw [refuseSlot_eq, if_neg hnot, emit_boot, emit_pattern, emit_strap]
  generalize slotDropped reason s = x at hboot hpattern hstrap
  simp only [slotMoved, nextSlot, hboot, hpattern, hstrap, and_self]

theorem refuseSlot_second (hsecond : s.boot.second = true) :
    (∃ now, (refuseSlot reason ff s).boot = limpBoot now s.boot)
    ∧ (refuseSlot reason ff s).pattern = { s.pattern with reasonSecond := BitVec.ofNat 8 reason } := by
  obtain ⟨hboot, hpattern, -⟩ := slotDropped_keeps s reason
  have hyes : (slotDropped reason s).boot.second = true := by simp [hboot, hsecond]
  rw [refuseSlot_eq, if_pos hyes, limpEnter_boot, limpEnter_pattern]
  generalize slotDropped reason s = x at hboot hpattern
  simp only [slotGone, hboot, hpattern, and_true]
  exact ⟨_, rfl⟩

/-! ### The checks (Table 5.9, Table 8.5) -/

/-- The checks that a fetched slot passes before its signature. -/
def slotAccepted (rootOk patOk : Bool) (s : State) : Prop :=
  rootOk = true ∧ bundleFormat (slotManifest s s.boot.slot) = true ∧ rootCheck s (slotRoot s s.boot.slot) = none
    ∧ patOk = true ∧ patCheck s (rootStamp (slotRoot s s.boot.slot)) (slotPattern s s.boot.slot) = none

/-- A refusal whose Strap reason may be Root's (R208). -/
def Refused (s t : State) : Prop := ∃ (reason ff : Nat) (x : Strap), t = refuseSlot reason ff { s with strap := x }

variable (rootOk patOk : Bool)

theorem patternFetched_cases (hphase : s.boot.phase = .fetch) (hidle : s.flash.wip = false) :
    (slotAccepted rootOk patOk s ∧ patternFetched rootOk patOk s =
        { configCopy (slotPattern s s.boot.slot) s with boot := { s.boot with phase := .verify } })
      ∨ (¬ slotAccepted rootOk patOk s ∧ Refused s (patternFetched rootOk patOk s)) := by
  have hrefuse : ∀ reason ff, Refused s (refuseSlot reason ff s) := fun reason ff => ⟨reason, ff, s.strap, rfl⟩
  have hroot : ∀ r, Refused s (refuseRoot r s) := fun r =>
    ⟨0x0E, rootFailFirst r, { s.strap with rootReason := BitVec.ofNat 4 r }, rfl⟩
  unfold patternFetched slotAccepted
  rw [if_neg (by simp [hphase, hidle])]
  split
  next h => exact .inr ⟨fun ⟨ha, _⟩ => by simp [ha] at h, hroot 1⟩
  next hrootOk =>
  split
  next h => exact .inr ⟨fun ⟨_, ha, _⟩ => by simp [ha] at h, hrefuse _ _⟩
  next hformat =>
  dsimp only
  split
  next r h => exact .inr ⟨fun ⟨_, _, ha, _⟩ => by simp [ha] at h, hroot r⟩
  next hcheck =>
  split
  next h => exact .inr ⟨fun ⟨_, _, _, ha, _⟩ => by simp [ha] at h, hrefuse _ _⟩
  next hpatOk =>
  split
  next f h => exact .inr ⟨fun ⟨_, _, _, _, ha⟩ => by simp [ha] at h, hrefuse _ _⟩
  next hpat => exact .inl ⟨⟨by simpa using hrootOk, by simpa using hformat, hcheck,
      by simpa using hpatOk, hpat⟩, rfl⟩

theorem signatureVerified_cases (hphase : s.boot.phase = .verify) :
    (patVerifies (slotPattern s s.boot.slot) = true ∧ (signatureVerified s).boot = { s.boot with phase := .rootLoad }
        ∧ (signatureVerified s).pattern = s.pattern)
      ∨ (patVerifies (slotPattern s s.boot.slot) = false ∧ signatureVerified s = refuseSlot 0x09 1 s) := by
  unfold signatureVerified emitIf
  rw [if_neg (by simp [hphase])]
  dsimp only
  split
  next h => exact .inr ⟨by simpa using h, rfl⟩
  next h =>
    refine .inl ⟨by simpa using h, ?_⟩
    split <;> simp

end

/-! ### The commands -/

/-- What a refusal leaves of the boot: the other slot, or Limp. -/
theorem Refused.boot {s t : State} (h : Refused s t) :
    (s.boot.second = false ∧ ∃ ff, t.boot = nextSlot ff s.boot)
      ∨ (s.boot.second = true ∧ ∃ now, t.boot = limpBoot now s.boot) := by
  obtain ⟨reason, ff, x, rfl⟩ := h
  cases hsecond : s.boot.second with
  | false => exact .inl ⟨rfl, ff, (refuseSlot_first { s with strap := x } reason ff hsecond).1⟩
  | true => exact .inr ⟨rfl, (refuseSlot_second { s with strap := x } reason ff hsecond).1⟩

/-- The first refusal by Root that its image could not be read (Table 8.5). -/
theorem patternFetched_rootBad (patOk : Bool) (s : State) (hphase : s.boot.phase = .fetch) (hidle : s.flash.wip = false) :
    patternFetched false patOk s = refuseSlot 0x0E 3 { s with strap := { s.strap with rootReason := 1 } } := by
  unfold patternFetched
  rw [if_neg (by simp [hphase, hidle])]
  rfl

/-- Settles O7: what a fetched slot's checks and its signature lead to. -/
theorem loaderVerdicts : Obligations.LoaderVerdicts := by
  refine ⟨fun rootOk patOk s hphase hidle => ?_, fun patOk s hphase hidle hfirst => ?_, fun s hphase => ?_⟩
  · have hexec : exec (.patternFetchDone rootOk patOk) s = .next (finish s (patternFetched rootOk patOk s)) := rfl
    refine ⟨_, hexec, ?_⟩
    rw [finish_boot]
    rcases patternFetched_cases s rootOk patOk hphase hidle with ⟨haccepted, ht⟩ | ⟨hnot, hrefused⟩
    · rw [ht]
      exact ⟨⟨fun _ => haccepted, fun _ => rfl⟩, fun _ => ⟨rfl, rfl⟩,
        fun h => absurd rfl h, fun h => absurd rfl h⟩
    · rcases hrefused.boot with ⟨hfirst, ff, hboot⟩ | ⟨hsecond, now, hboot⟩
      · rw [hboot, hfirst]
        exact ⟨⟨nofun, fun ha => absurd ha hnot⟩, nofun, fun _ _ => ⟨rfl, rfl, rfl, rfl⟩, nofun⟩
      · rw [hboot, hsecond]
        exact ⟨⟨nofun, fun ha => absurd ha hnot⟩, nofun, nofun, fun _ _ => ⟨rfl, rfl, rfl⟩⟩
  · have hexec : exec (.patternFetchDone false patOk) s = .next (finish s (patternFetched false patOk s)) := rfl
    refine ⟨_, hexec, ?_⟩
    obtain ⟨hboot, hpattern, hstrap⟩ :=
      refuseSlot_first { s with strap := { s.strap with rootReason := 1 } } 0x0E 3 hfirst
    rw [finish_boot, finish_pattern, finish_strap, patternFetched_rootBad patOk s hphase hidle, hboot, hpattern, hstrap]
    exact ⟨rfl, rfl, rfl⟩
  · have hexec : exec .signatureVerified s = .next (finish s (signatureVerified s)) := rfl
    refine ⟨_, hexec, ?_⟩
    rw [finish_boot, finish_pattern]
    rcases signatureVerified_cases s hphase with ⟨hgood, hboot, hpattern⟩ | ⟨hbad, ht⟩
    · rw [hboot, hpattern, hgood]
      exact ⟨⟨fun _ => rfl, fun _ => rfl⟩, fun _ => ⟨rfl, rfl⟩, fun h => absurd rfl h, fun h => absurd rfl h⟩
    · rw [ht]
      cases hsecond : s.boot.second with
      | false =>
        obtain ⟨hboot, hpattern, -⟩ := refuseSlot_first s 0x09 1 hsecond
        rw [hboot, hpattern, hbad]
        exact ⟨⟨nofun, nofun⟩, nofun, fun _ _ => ⟨rfl, rfl, rfl, rfl⟩, nofun⟩
      | true =>
        obtain ⟨⟨now, hboot⟩, hpattern⟩ := refuseSlot_second s 0x09 1 hsecond
        rw [hboot, hpattern, hbad]
        exact ⟨⟨nofun, nofun⟩, nofun, nofun, fun _ _ => ⟨rfl, rfl⟩⟩

end Sys2Proof.Machine
end

section
/-! PROOFS. The boot's start (R55, R72, R90, R115, R565, R570, R627): the start check and the integrity hold, what a passed
check is followed by up to the fetch, and Limp after a storm of WD-B expiries. -/

namespace Sys2Proof.Machine

/-! ### The flash's poll through the end of a step -/

theorem flashServe_wip (s : State) : (flashServe s).flash.wip = s.flash.wip := by
  unfold flashServe
  dsimp only
  split
  · split
    · split <;> rfl
    · rfl
  · split
    · split <;> rfl
    · rfl
    · rfl
    · rfl

theorem finish_wip (a b : State) : (finish a b).flash.wip = b.flash.wip := by
  have hwip : (openIrq a b (flush (notice a b))).flash.wip = b.flash.wip := by simp
  unfold finish journalKick
  dsimp only
  split
  · exact (flashServe_wip _).trans hwip
  · exact hwip

/-! ### What the boot's operations carry over -/

/-- The boot, Heartwood, WD-B and the flash. -/
def bootBasis (s : State) : Boot × Heart × WdB × Flash := (s.boot, s.heart, s.wdb, s.flash)

theorem PortWork.bootBasis {a b : State} (h : PortWork a b) : bootBasis b = bootBasis a :=
  congrArg (fun x : Kept => (x.boot, x.heart, x.wdb, x.flash)) h.same

section
variable (s : State)

theorem emit_bootBasis (e : Event) : bootBasis (emit e s) = bootBasis s := (emit_work s e).bootBasis
theorem emitIf_bootBasis (c : Bool) (e : Event) : bootBasis (emitIf c e s) = bootBasis s := by
  unfold emitIf
  split
  · exact emit_bootBasis s e
  · rfl

theorem emitSap_bootBasis (e : Event) : bootBasis (emitSap e s) = bootBasis s := by
  unfold emitSap park
  split
  · exact emit_bootBasis s e
  · split
    · rfl
    · split <;> rfl

theorem freezeLevel_bootBasis : bootBasis (freezeLevel s) = bootBasis s := by
  unfold freezeLevel
  split
  · exact emitSap_bootBasis _ _
  · rfl

theorem groupTell_bootBasis (g : Fin 2) : bootBasis (groupTell g s) = bootBasis s := by
  unfold groupTell
  split
  · rfl
  · exact emit_bootBasis _ _

theorem bootBark_bootBasis : bootBasis (bootBark s) = bootBasis s := by
  unfold bootBark
  split <;> rfl

/-- The nonce that slot 1 takes, drawn anew where it was destroyed (R495). -/
def nonceDrawn (s : State) : State :=
  if s.pocket.nonce.isSome || !s.awl.rngOk then s
  else drawn { s with pocket := { s.pocket with nonce := some ((freeValue s).extractLsb' 0 128), writeCount := 0 } }

/-- The two slots, the first from `k`. -/
def slotsFilled (k : Nat) (wrap : List Byte → BitVec 256) (s : State) : State :=
  let x := placeItem 0 0 (BitVec.ofNat 256 k) s
  match x.pocket.nonce with
  | some n => placeItem 1 1 (wrap (le 16 n.toNat)) x
  | none => x

/-- The wrap of slot 1 from its nonce. -/
def wrapOf (ikm n : List Byte) : BitVec 256 := toSlot (hkdf32 n ikm (asciiBytes "LU848-WRAP"))

/-- Both slots and the public key, from the scalar `k`. -/
def slotsDerived (k : Nat) (s : State) : State :=
  let x := slotsFilled k (wrapOf (deviceIkm s)) s
  { x with pocket := { x.pocket with idPub := pubKey k } }

theorem deriveSlots_eq : deriveSlots s = if s.pocket.powered && s.pocket.pufOk then
    slotsDerived (identityScalar (deviceIkm (nonceDrawn s)) 0x100000000 0) (nonceDrawn s) else s := rfl

theorem nonceDrawn_bootBasis : bootBasis (nonceDrawn s) = bootBasis s := by
  unfold nonceDrawn
  split <;> rfl

theorem slotsFilled_bootBasis (k : Nat) (wrap : List Byte → BitVec 256) :
    bootBasis (slotsFilled k wrap s) = bootBasis s := by
  unfold slotsFilled
  dsimp only
  split <;> rfl

theorem slotsDerived_bootBasis (k : Nat) : bootBasis (slotsDerived k s) = bootBasis s := by
  have hfilled := slotsFilled_bootBasis s k (wrapOf (deviceIkm s))
  unfold slotsDerived
  dsimp only
  generalize slotsFilled k _ s = x at hfilled ⊢
  exact hfilled

theorem deriveSlots_bootBasis : bootBasis (deriveSlots s) = bootBasis s := by
  rw [deriveSlots_eq]
  generalize identityScalar _ _ _ = k
  split
  · exact (slotsDerived_bootBasis _ k).trans (nonceDrawn_bootBasis s)
  · rfl

theorem bootPuf_bootBasis (fail : Option Nat) : bootBasis (bootPuf fail s) = bootBasis s := by
  cases fail with
  | none => exact deriveSlots_bootBasis _
  | some n => exact (emit_bootBasis _ _).trans ((eraseItem_work _ _).trans (eraseItem_work _ _)).bootBasis

theorem bootNoReserve_bootBasis : bootBasis (bootNoReserve s) = bootBasis s := by
  unfold bootNoReserve
  split
  · exact emit_bootBasis s _
  · rfl

/-! ### The start check (R90, R72) -/

/-- Step 1 as it begins: the supplies are good, and the boot's time runs. -/
def bootBegun (env : BootEnv) (s : State) : State :=
  freezeLevel <| keepAlive { s with
    power := { s.power with vdd18 := true, vddio := true, rstNHigh := true }
    boot := { s.boot with t0 := s.time.now, together := {} }
    sap := { s.sap with noReserve := env.noReserve && !s.sap.running } }

theorem bootBegun_basis (env : BootEnv) : bootBasis (bootBegun env s) =
    ({ s.boot with t0 := s.time.now, together := {} }, s.heart, s.wdb, s.flash) := freezeLevel_bootBasis _

theorem bootBegun_boot (env : BootEnv) : (bootBegun env s).boot = { s.boot with t0 := s.time.now, together := {} } :=
  congrArg Prod.fst (bootBegun_basis s env)
theorem bootBegun_heart (env : BootEnv) : (bootBegun env s).heart = s.heart :=
  congrArg (fun x => x.2.1) (bootBegun_basis s env)

/-- The start check has passed, up to the flash: the fetch's phase, the check's record, and WD-B started. -/
def bootPassed (env : BootEnv) (s : State) : State :=
  wdbStart (bootSatchel (bootNoReserve (bootPuf env.pufErrors (bootBark (bootHeart
    (groupTell 1 (groupTell 0 { s with boot := { s.boot with phase := .fetch } })))))))

theorem bootStart_eq {env : BootEnv} (hmay : bootMay s = true) : bootStart env s =
    match startCheck s.heart.cells env.lateRow with
    | some f => integrityHold f.1 f.2 (bootBegun env s)
    | none => bootPoll env (bootPassed env (bootBegun env s)) := by
  have hstart : bootStart env s = if !bootMay s then s else
      match startCheck (bootBegun env s).heart.cells env.lateRow with
      | some f => integrityHold f.1 f.2 (bootBegun env s)
      | none => bootPoll env (bootPassed env (bootBegun env s)) := rfl
  rw [hstart, hmay, bootBegun_heart]
  rfl

/-- Every gate is off once a port is in Reset hold. -/
theorem portResetHold_gates (p : Fin 8) : (portCinch (portResetHold p s) p).gates = false := by
  obtain ⟨d, st, o, hcinch⟩ := outOfService_cinch s p
  simp [portResetHold, hcinch]

theorem portResetHold_onPort (p : Fin 8) : OnPort p s (portResetHold p s) := by
  unfold portResetHold
  exact (outOfService_onPort s p).trans (modCinch_onPort _ p _)

/-- The integrity hold before the ports. -/
def holdBegun (kind row : Nat) (s : State) : State :=
  { s with
    boot := { s.boot with phase := .integrityHold, cold := true }
    heart := { s.heart with failRow := row, failKind := kind, integrityOk := false }
    strap := { s.strap with
      codeRunning := false, params := false, loadData := [], loadNext := 0, holds := .replicate 8 {} }
    groups := s.groups.map fun (g : Group) => if g.gcutOpen then g else { g with gcutOpen := true, cause := 3 } }

theorem integrityHold_work (kind row : Nat) : PortWork (holdBegun kind row s) (integrityHold kind row s) :=
  .onPorts (fun k x => portResetHold_work k x) allPorts _

theorem integrityHold_gates (kind row : Nat) (p : Fin 8) : (portCinch (integrityHold kind row s) p).gates = false :=
  onPorts_each (I := fun _ => True) (Q := fun k x => (portCinch x k).gates = false) (fun _ _ _ => trivial)
    (fun k x _ => portResetHold_gates x k)
    (fun k q x hne _ hq => by rw [(portResetHold_onPort x k).cinch hne, hq]) (s := holdBegun kind row s) trivial
    (List.mem_finRange p)

theorem integrityHold_gcut (kind row : Nat) (g : Fin 2) : (integrityHold kind row s).groups[g].gcutOpen = true := by
  have hgroups : (integrityHold kind row s).groups = (holdBegun kind row s).groups :=
    onPorts_keeps (P := fun x => x.groups = (holdBegun kind row s).groups)
      (fun k x hx => (portResetHold_onPort x k).groups.trans hx) allPorts rfl
  rw [hgroups]
  simp only [holdBegun, Fin.getElem_fin, Vector.getElem_map]
  split
  next hopen => exact hopen
  next => rfl

/-! ### A passed check (R92, R115, R565) -/

/-- What a passed check has recorded, of the boot that began at `s`. -/
structure Passed (s t : State) : Prop where
  phase : t.boot.phase = .fetch
  t0 : t.boot.t0 = s.boot.t0
  evaluated : t.boot.evaluated = evalFuse s
  integrityOk : t.heart.integrityOk = true
  failKind : t.heart.failKind = 0
  running : t.wdb.running = true
  bootMode : t.wdb.bootMode = true
  inWindow : t.wdb.inWindow = false
  storm : t.wdb.storm = s.wdb.storm

/-- HWSTAT of a passed check, and EVAL_LOCK as this boot takes it. -/
def heartPassed (s : State) : State :=
  { s with
    heart := { s.heart with
      failRow := 0, failKind := 0, integrityOk := true, openRows := openRows s.heart.cells
      sparesUsed := sparesUsed s.heart.cells, voteFixed := voteFixed s.heart.cells
      pendingLock := pendingLock s.heart.cells }
    boot := { s.boot with evaluated := evalFuse s } }

theorem bootHeart_bootBasis : bootBasis (bootHeart s) = bootBasis (heartPassed s) := by
  unfold bootHeart
  exact (emitIf_bootBasis _ _ _).trans <| (emitIf_bootBasis _ _ _).trans <| emitIf_bootBasis (heartPassed s) _ _

theorem bootPassed_passed (env : BootEnv) : Passed s (bootPassed env s) := by
  have htold : bootBasis (groupTell 1 (groupTell 0 { s with boot := { s.boot with phase := .fetch } })) =
      ({ s.boot with phase := .fetch }, s.heart, s.wdb, s.flash) :=
    (groupTell_bootBasis _ 1).trans (groupTell_bootBasis _ 0)
  generalize hx : groupTell 1 _ = x at htold
  have hbefore : bootBasis (bootSatchel (bootNoReserve (bootPuf env.pufErrors (bootBark (bootHeart x))))) =
      bootBasis (heartPassed x) :=
    (bootNoReserve_bootBasis _).trans <| (bootPuf_bootBasis _ _).trans <|
      (bootBark_bootBasis _).trans (bootHeart_bootBasis x)
  obtain ⟨hboot, hheart, hwdb, -⟩ : _ ∧ _ ∧ _ ∧ _ := by simpa only [bootBasis, Prod.mk.injEq] using htold
  have heval : evalFuse x = evalFuse s := by simp only [evalFuse, hheart]
  rw [bootPassed, hx]
  generalize bootSatchel _ = y at hbefore
  obtain ⟨hboot', hheart', hwdb', -⟩ : _ ∧ _ ∧ _ ∧ _ := by
    simpa only [bootBasis, heartPassed, hboot, hwdb, heval, Prod.mk.injEq] using hbefore
  constructor <;> simp [wdbStart, hboot', hheart', hwdb']

/-! ### The flash, and Graft's part of the boot (R580, R594, R627) -/

/-- What Graft's part of the boot carries over: the boot but for its slot, Heartwood, WD-B and the flash's flags. -/
def loadBasis (s : State) : Boot × Heart × WdB × Bool × Bool :=
  ({ s.boot with slot := 0 }, s.heart, s.wdb, s.flash.wip, s.flash.ok)

theorem emit_loadBasis (e : Event) : loadBasis (emit e s) = loadBasis s := by simp [loadBasis]

theorem graftAppend_loadBasis (kind arg value : Nat) : loadBasis (graftAppend kind arg value s) = loadBasis s := by
  unfold graftAppend
  dsimp only
  split <;> simp [loadBasis, flashProgram]

theorem graftFellBack_loadBasis (cause : Nat) : loadBasis (graftFellBack cause s) = loadBasis s :=
  (emit_loadBasis _ _).trans (graftAppend_loadBasis s 0x0A cause 0)

theorem graftTrialBoot_loadBasis (left : Nat) : loadBasis (graftTrialBoot left s) = loadBasis s :=
  (emit_loadBasis _ _).trans (graftAppend_loadBasis s 6 left 0)

theorem graftRebuild_loadBasis : loadBasis (graftRebuild s) = loadBasis s := rfl

theorem graftBoot_loadBasis : loadBasis (graftBoot s).1 = loadBasis s := by
  unfold graftBoot
  split
  · exact graftTrialBoot_loadBasis s _
  · split
    · exact graftFellBack_loadBasis s 0
    · exact graftTrialBoot_loadBasis s _
  · rfl
  · rfl

theorem bootGraft_loadBasis (flashOk : Bool) :
    loadBasis (bootGraft flashOk s) = ({ s.boot with slot := 0 }, s.heart, s.wdb, s.flash.wip, flashOk) := by
  cases flashOk with
  | true => exact (graftBoot_loadBasis (graftRebuild (flashGood s))).trans (graftRebuild_loadBasis _)
  | false =>
    have hfailed : loadBasis (flashFailed 0 (graftBase s) s) = loadBasis s := emit_loadBasis s _
    obtain ⟨hboot, hheart, hwdb, -, -⟩ : _ ∧ _ ∧ _ ∧ _ ∧ _ := by
      simpa only [loadBasis, Prod.mk.injEq] using hfailed
    simp only [bootGraft, loadBasis, hboot, hheart, hwdb, Bool.false_eq_true, if_false]

theorem bootGraft_wip (flashOk : Bool) : (bootGraft flashOk s).flash.wip = s.flash.wip :=
  congrArg (fun x => x.2.2.2.1) (bootGraft_loadBasis s flashOk)
theorem bootGraft_ok (flashOk : Bool) : (bootGraft flashOk s).flash.ok = flashOk :=
  congrArg (fun x => x.2.2.2.2) (bootGraft_loadBasis s flashOk)
theorem bootGraft_phase (flashOk : Bool) : (bootGraft flashOk s).boot.phase = s.boot.phase :=
  congrArg (fun x => x.1.phase) (bootGraft_loadBasis s flashOk)
theorem bootGraft_t0 (flashOk : Bool) : (bootGraft flashOk s).boot.t0 = s.boot.t0 :=
  congrArg (fun x => x.1.t0) (bootGraft_loadBasis s flashOk)
theorem bootGraft_evaluated (flashOk : Bool) : (bootGraft flashOk s).boot.evaluated = s.boot.evaluated :=
  congrArg (fun x => x.1.evaluated) (bootGraft_loadBasis s flashOk)
theorem bootGraft_heart (flashOk : Bool) : (bootGraft flashOk s).heart = s.heart :=
  congrArg (fun x => x.2.1) (bootGraft_loadBasis s flashOk)
theorem bootGraft_wdb (flashOk : Bool) : (bootGraft flashOk s).wdb = s.wdb :=
  congrArg (fun x => x.2.2.1) (bootGraft_loadBasis s flashOk)

theorem Passed.bootGraft {s x : State} (h : Passed s x) (flashOk : Bool) : Passed s (bootGraft flashOk x) where
  phase := (bootGraft_phase x flashOk).trans h.phase
  t0 := (bootGraft_t0 x flashOk).trans h.t0
  evaluated := (bootGraft_evaluated x flashOk).trans h.evaluated
  integrityOk := by rw [bootGraft_heart, h.integrityOk]
  failKind := by rw [bootGraft_heart, h.failKind]
  running := by rw [bootGraft_wdb, h.running]
  bootMode := by rw [bootGraft_wdb, h.bootMode]
  inWindow := by rw [bootGraft_wdb, h.inWindow]
  storm := by rw [bootGraft_wdb, h.storm]

/-! ### A storm of WD-B expiries (R570) -/

theorem bootFlash_calm (flashOk : Bool) (hcalm : s.wdb.storm < 4) : bootFlash flashOk s = bootGraft flashOk s := by
  rw [bootFlash, bootStorm, if_pos (by rwa [bootGraft_wdb])]

/-- What a storm leads to: a trial boot goes on, any other one enters Limp. -/
structure Stormed (s t : State) : Prop where
  storm : t.wdb.storm = 0
  trial : t.graft.trialNow = true → t.boot.phase = s.boot.phase
  limp : t.graft.trialNow = false → t.boot.phase = .limp ∧ t.boot.limp = true ∧ t.boot.bootSlot = 3
    ∧ t.pattern.reasonFirst = 0x10 ∧ t.strap.codeRunning = false

theorem bootStorm_stormed (hstorm : 4 ≤ s.wdb.storm) : Stormed s (bootStorm s) := by
  unfold bootStorm
  rw [if_neg (by omega)]
  dsimp only
  split
  next htrial => exact ⟨rfl, fun _ => rfl, fun hnot => absurd (htrial.symm.trans hnot) (by decide)⟩
  next htrial =>
    generalize hx : emit _ _ = x
    have hgraft : x.graft.trialNow = false := by simpa [← hx] using htrial
    have hwdb : x.wdb.storm = 0 := by simp [← hx]
    have hwork := limpEnter_work { x with pattern := { x.pattern with reasonFirst := 0x10 } } 0x10
    generalize limpEnter 0x10 _ = y at hwork ⊢
    have htrial' : y.graft.trialNow = false := by rw [hwork.graft]; exact hgraft
    refine ⟨by rw [hwork.wdb]; exact hwdb, fun h => absurd (htrial'.symm.trans h) (by decide), fun _ => ?_⟩
    rw [hwork.boot, hwork.pattern, hwork.codeRunning]
    exact ⟨rfl, rfl, rfl, rfl, rfl⟩

end

/-! ### The commands -/

theorem bootPassed_of_start {env : BootEnv} {s : State} :
    Passed (bootBegun env s) (bootPassed env (bootBegun env s)) := bootPassed_passed _ env

theorem bootBegun_storm (env : BootEnv) (s : State) : (bootBegun env s).wdb.storm = s.wdb.storm :=
  congrArg (fun x => x.2.2.1.storm) (bootBegun_basis s env)

/-- The poll of a busy flash, or its answer without a storm: the fetch waits, or goes on. -/
theorem bootPoll_passed {env : BootEnv} {b x : State} (h : Passed b x) (hgo : env.flashBusy = true ∨ x.wdb.storm < 4) :
    Passed b (bootPoll env x) ∧ (bootPoll env x).flash.wip = env.flashBusy := by
  have hwip : ∀ on : Bool, Passed b { x with flash := { x.flash with wip := on } } := fun on =>
    ⟨h.phase, h.t0, h.evaluated, h.integrityOk, h.failKind, h.running, h.bootMode, h.inWindow, h.storm⟩
  unfold bootPoll
  split
  next hbusy => exact ⟨hwip true, hbusy.symm⟩
  next hidle =>
    have hcalm : x.wdb.storm < 4 := hgo.resolve_left hidle
    rw [bootFlash_calm { x with flash := { x.flash with wip := false } } _ hcalm]
    exact ⟨(hwip false).bootGraft _, (bootGraft_wip _ _).trans (by simpa using hidle)⟩

theorem bootPoll_stormed {env : BootEnv} {x : State} (hidle : env.flashBusy = false) (hstorm : 4 ≤ x.wdb.storm) :
    ∃ y, y.boot.phase = x.boot.phase ∧ Stormed y (bootPoll env x) := by
  refine ⟨bootGraft env.flashOk { x with flash := { x.flash with wip := false } }, bootGraft_phase _ _, ?_⟩
  have hpoll : bootPoll env x =
      bootStorm (bootGraft env.flashOk { x with flash := { x.flash with wip := false } }) := by
    unfold bootPoll
    rw [hidle]
    rfl
  rw [hpoll]
  exact bootStorm_stormed _ (by rwa [bootGraft_wdb])

/-- Settles O6: the start check's two ways, the poll of the flash, the storm, and a boot that may not begin. -/
theorem bootStartCheck : Obligations.BootStartCheck := by
  have hexec : ∀ env s, exec (.bootStart env) s = .next (finish s (bootStart env s)) := fun _ _ => rfl
  refine ⟨fun env s hmay hfail => ?_, fun env s hmay hpass hgo => ?_, fun env s hmay hpass hidle hstorm => ?_,
    fun rootOk patOk s hwip => ?_, fun r markOk s hwip hcalm => ?_, fun env s hmay => ?_⟩
  · obtain ⟨⟨kind, row⟩, hcheck⟩ := Option.ne_none_iff_exists'.mp hfail
    have hstart : bootStart env s = integrityHold kind row (bootBegun env s) := by rw [bootStart_eq s hmay, hcheck]
    have hwork := integrityHold_work (bootBegun env s) kind row
    have hgates := integrityHold_gates (bootBegun env s) kind row
    have hgcut := integrityHold_gcut (bootBegun env s) kind row
    refine ⟨_, hexec env s, ?_⟩
    rw [finish_boot, finish_heart, finish_strap, finish_groups, hstart, hwork.boot, hwork.heart, hwork.codeRunning, hcheck]
    refine ⟨rfl, rfl, rfl, ?_, rfl, fun p => by rw [finish_portCinch, hgates p], hgcut⟩
    simp only [holdBegun, bootBegun_boot]
  · have hpassed := bootPassed_of_start (env := env) (s := s)
    have hstart : bootStart env s = bootPoll env (bootPassed env (bootBegun env s)) := by rw [bootStart_eq s hmay, hpass]
    obtain ⟨h, hwip⟩ := bootPoll_passed hpassed (hgo.imp_right fun hlow => by
      rwa [hpassed.storm, bootBegun_storm])
    refine ⟨_, hexec env s, ?_⟩
    rw [finish_boot, finish_wip, finish_heart, finish_wdb, hstart, h.t0, h.evaluated, bootBegun_boot]
    exact ⟨h.phase, hwip, h.integrityOk, h.failKind, by simp only [evalFuse, bootBegun_heart], rfl, h.running, h.bootMode,
      h.inWindow⟩
  · have hpassed := bootPassed_of_start (env := env) (s := s)
    have hstart : bootStart env s = bootPoll env (bootPassed env (bootBegun env s)) := by rw [bootStart_eq s hmay, hpass]
    obtain ⟨y, hphase, h⟩ := bootPoll_stormed hidle (x := bootPassed env (bootBegun env s)) (by
      rwa [hpassed.storm, bootBegun_storm])
    refine ⟨_, hexec env s, ?_⟩
    rw [finish_boot, finish_wdb, finish_graft, finish_pattern, finish_strap, hstart]
    exact ⟨h.storm, fun ht => (h.trial ht).trans (hphase.trans hpassed.phase), h.limp⟩
  · have hexec' : exec (.patternFetchDone rootOk patOk) s = .next (finish s (patternFetched rootOk patOk s)) := rfl
    have hwait : patternFetched rootOk patOk s = s := by rw [patternFetched, if_pos (.inr hwip)]
    refine ⟨_, hexec', ?_⟩
    rw [finish_boot, finish_wip, hwait]
    exact ⟨rfl, rfl, hwip⟩
  · have hexec' : exec (.flashOpDone r markOk) s = .next (finish s (flashOpDone r markOk s)) := rfl
    have hdone : flashOpDone r markOk s = flashReady r s := by rw [flashOpDone, if_pos hwip]
    refine ⟨_, hexec', ?_⟩
    rw [finish_boot, finish_wip, finish_flashOk, hdone]
    unfold flashReady
    dsimp only
    split
    next hfetch =>
      rw [bootFlash_calm { s with flash := { s.flash with wip := false } } _ hcalm, bootGraft_wip, bootGraft_phase,
        bootGraft_ok]
      exact ⟨rfl, rfl, fun _ => rfl⟩
    next hnot => exact ⟨rfl, rfl, fun h => absurd h hnot⟩
  · have hstay : bootStart env s = s := by rw [bootStart, hmay]; rfl
    refine ⟨_, hexec env s, ?_⟩
    rw [finish_boot, finish_power, hstay]
    exact ⟨rfl, rfl⟩

end Sys2Proof.Machine
end

section
/-! PROOFS. A Strap frame that goes (R199 to R203): its SEQ in the header, its way over the lanes, and the receiver's own
effect on a state whose windows and lanes alone have changed. -/

namespace Sys2Proof.Machine

/-! ### The header (Table 8.2) -/

/-- SEQ of a header is the one put there, whatever TYPE, PORT and acknowledgement stand beside it. -/
theorem hdrSeq_frameHeader (ty port : Nat) (seq : BitVec 4) (ack : Option (BitVec 4)) :
    hdrSeq (frameHeader ty port seq ack) = seq := by
  have hflag : b2n ack.isSome < 2 := by cases ack.isSome <;> decide
  have hack : (ack.getD 0).toNat < 16 := (ack.getD 0).isLt
  have hseq : seq.toNat < 16 := seq.isLt
  apply BitVec.eq_of_toNat_eq
  simp only [hdrSeq, frameHeader, mkWord, List.foldl_cons, List.foldl_nil, BitVec.extractLsb'_toNat, BitVec.toNat_setWidth,
    BitVec.toNat_ofNat, Nat.shiftLeft_eq, Nat.shiftRight_eq_div_pow]
  omega

/-! ### The lanes and the windows -/

/-- A state with other windows, other lanes and another report of an oscillator stop. -/
def inTransit (c r : Window) (l : List LaneFrame) (o : Option Nat) (s : State) : State :=
  { s with
    strap := { s.strap with crownTx := c, rootTx := r, lanes := l }
    power := { s.power with refoscReport := o } }

/-- The state is `s` with a frame under way: nothing waits for room. -/
def Underway (s x : State) : Prop :=
  ∃ c r l o, x = inTransit c r l o s ∧ c.held = [] ∧ r.held = []

/-- One waiting frame goes out, as far as there is room. -/
def heldStep (up : Bool) (lost : Option StrapBody) (s : State) : State :=
  match (strapEnd up s).held with
  | [] => s
  | b :: t => if (strapEnd up s).unacked.length < 8 then
      frameOut b (decide (lost ≠ some b.1)) (setEnd up { strapEnd up s with held := t } s) else s

section
variable {s : State}

theorem heldStep_idle {up : Bool} {lost : Option StrapBody} (h : (strapEnd up s).held = []) : heldStep up lost s = s := by
  unfold heldStep
  rw [h]

theorem heldOut_idle {up : Bool} {lost : Option StrapBody} (h : (strapEnd up s).held = []) : heldOut up lost s = s :=
  List.foldl_fixed' (f := fun x (_ : Nat) => heldStep up lost x) (fun _ => heldStep_idle h) _

theorem heldOut_once {up : Bool} {lost : Option StrapBody} (h : (strapEnd up (heldStep up lost s)).held = []) :
    heldOut up lost s = heldStep up lost s := by
  have hout : heldOut up lost s = (List.range 8).foldl (fun x _ => heldStep up lost x) (heldStep up lost s) := by
    have hrange : List.range 9 = 0 :: (List.range 8).map Nat.succ := List.range_succ_eq_map
    change (List.range 9).foldl (fun x _ => heldStep up lost x) s = _
    rw [hrange, List.foldl_cons, List.foldl_map]
  rw [hout]
  exact List.foldl_fixed' (f := fun x (_ : Nat) => heldStep up lost x) (fun _ => heldStep_idle h) _

theorem ackTakeOpt_root {c r : Window} {l : List LaneFrame} {o : Option Nat} (a : Option (BitVec 4)) :
    ∃ u o', ackTakeOpt false a (inTransit c r l o s) = inTransit c { r with unacked := u } l o' s := by
  cases a with
  | none => exact ⟨r.unacked, o, rfl⟩
  | some q =>
    refine ⟨(ackSplit q r.unacked).2, ?_⟩
    unfold ackTakeOpt ackTake
    dsimp only
    split
    next h => cases h
    next =>
      split
      · exact ⟨none, rfl⟩
      · exact ⟨o, rfl⟩

variable {b : StrapBody} {seq : BitVec 4}

/-- Root's end of a frame: accepted in order, or acknowledged again (R202). -/
def rootTakes (f : SentFrame) (y : State) : State :=
  if hdrSeq f.hdr = (strapEnd true y).rxNext then
    frameEffect (hdrSeq f.hdr) f.body
      (setEnd true { strapEnd true y with rxNext := (strapEnd true y).rxNext + 1, ackDue := true } y)
  else setEnd true { strapEnd true y with ackDue := true } y

theorem frameArrives_root {f : SentFrame} (hdown : towardCrown f.body = false) :
    frameArrives f s = rootTakes f (ackTakeOpt false (hdrAck f.hdr) s) := by
  unfold frameArrives
  simp only [hdown]
  rfl

/-- The frame that Crown puts on the lanes for `b`. -/
def sentFrame (b : StrapBody) (payload : Option (List Byte)) (w : Window) : SentFrame :=
  { hdr := frameHeader (frameType b) (framePort b) w.nextSeq (ackOwed w), body := b, payload := payload }

/-- Crown's window with that frame under way. -/
def windowSent (f : SentFrame) (w : Window) : Window :=
  { w with nextSeq := w.nextSeq + 1, unacked := w.unacked ++ [f], ackDue := false }

theorem frameOut_down (hdown : towardCrown b = false) (payload : Option (List Byte)) :
    ∃ l, frameOut (b, payload) true s = frameArrives (sentFrame b payload s.strap.crownTx)
      (inTransit (windowSent (sentFrame b payload s.strap.crownTx) s.strap.crownTx) s.strap.rootTx l
        s.power.refoscReport s) := by
  refine ⟨laneInsert { toCrown := false, hdr := (sentFrame b payload s.strap.crownTx).hdr
                       chars := payload.map (frameChars (sentFrame b payload s.strap.crownTx).hdr) } s.strap.lanes, ?_⟩
  unfold frameOut
  simp only [hdown]
  rfl

/-- A frame toward Root that is the next in order takes its effect there, on a state with nothing waiting. -/
theorem frameOut_root (hdown : towardCrown b = false) (payload : Option (List Byte))
    (hheld : s.strap.crownTx.held = []) (hroot : s.strap.rootTx.held = []) (hseq : s.strap.rootTx.rxNext = seq)
    (hnext : s.strap.crownTx.nextSeq = seq) :
    ∃ x, Underway s x ∧ frameOut (b, payload) true s = frameEffect seq b x := by
  obtain ⟨l, hout⟩ := frameOut_down (s := s) hdown payload
  have hhdr : hdrSeq (sentFrame b payload s.strap.crownTx).hdr = seq := (hdrSeq_frameHeader _ _ _ _).trans hnext
  have hbody : (sentFrame b payload s.strap.crownTx).body = b := rfl
  have hwheld : (windowSent (sentFrame b payload s.strap.crownTx) s.strap.crownTx).held = [] := hheld
  generalize windowSent _ _ = w at hout hwheld
  generalize sentFrame b payload _ = f at hout hhdr hbody
  obtain ⟨u, o, hack⟩ :=
    ackTakeOpt_root (s := s) (c := w) (r := s.strap.rootTx) (l := l) (o := s.power.refoscReport) (hdrAck f.hdr)
  refine ⟨inTransit w { s.strap.rootTx with unacked := u, rxNext := seq + 1, ackDue := true } l o s,
    ⟨w, _, l, o, rfl, hwheld, hroot⟩, ?_⟩
  have hrx : (strapEnd true (inTransit w { s.strap.rootTx with unacked := u } l o s)).rxNext = seq := hseq
  rw [hout, frameArrives_root (hbody ▸ hdown), hack, rootTakes, hhdr, if_pos hrx.symm, hrx, hbody]
  rfl

/-- Crown's window with the frames that wait for room. -/
def withHeld (l : List (StrapBody × Option (List Byte))) (s : State) : State :=
  setEnd false { s.strap.crownTx with held := l } s

theorem withHeld_nil (h : s.strap.crownTx.held = []) : withHeld [] s = s := by
  rw [withHeld, ← h]
  rfl

theorem heldStep_down (p : StrapBody × Option (List Byte)) (hroom : s.strap.crownTx.unacked.length < 8) :
    heldStep false none (withHeld [p] s) = frameOut p true (withHeld [] s) := by
  have hstep : heldStep false none (withHeld [p] s) = if s.strap.crownTx.unacked.length < 8 then
      frameOut p true (withHeld [] s) else withHeld [p] s := rfl
  rw [hstep, if_pos hroom]

/-- A frame toward Root that goes: its sender's own part, then its receiver's, on a state whose windows, lanes and report
of an oscillator stop alone are others. -/
theorem frameSend_root (hdown : towardCrown b = false) (hmay : frameMay b s = true) (hidle : noneHeld (frameSent b s))
    (hroom : (frameSent b s).strap.crownTx.unacked.length < 8)
    (hseq : (frameSent b s).strap.rootTx.rxNext = seq) (hnext : (frameSent b s).strap.crownTx.nextSeq = seq)
    (heffect : ∀ x, Underway (frameSent b s) x → noneHeld (frameEffect seq b x)) :
    ∃ x, Underway (frameSent b s) x ∧ frameSend b true s = frameEffect seq b x := by
  obtain ⟨hheld, hroot⟩ := hidle
  have hsend : frameSend b true s = heldOut true none (heldOut false none (withHeld
      (holdFrame (b, strapPayload b (frameSent b s)) (frameSent b s).strap.crownTx.held) (frameSent b s))) := by
    unfold frameSend
    rw [hmay]
    simp only [hdown]
    rfl
  have hone : holdFrame (b, strapPayload b (frameSent b s)) (frameSent b s).strap.crownTx.held =
      [(b, strapPayload b (frameSent b s))] := by rw [hheld]; rfl
  obtain ⟨x, hx, hout⟩ := frameOut_root hdown (strapPayload b (frameSent b s)) hheld hroot hseq hnext
  have hstep : heldStep false none (withHeld [(b, strapPayload b (frameSent b s))] (frameSent b s)) =
      frameEffect seq b x := by
    rw [heldStep_down _ hroom, withHeld_nil hheld, hout]
  obtain ⟨hheld', hroot'⟩ := heffect x hx
  have hfirst : heldOut false none (withHeld [(b, strapPayload b (frameSent b s))] (frameSent b s)) =
      frameEffect seq b x := by
    rw [heldOut_once (by rw [hstep]; exact hheld'), hstep]
  refine ⟨x, hx, ?_⟩
  rw [hsend, hone, hfirst]
  exact heldOut_idle (up := true) hroot'

/-- The same for a frame that goes, its sender's part leaving the windows alone. -/
theorem frameSend_goes (hdown : towardCrown b = false) (hgoes : frameGoes b s)
    (hmay : frameMay b (laneBegin s) = frameMay b s)
    (hcrown : (frameSent b (laneBegin s)).strap.crownTx = s.strap.crownTx)
    (hroot : (frameSent b (laneBegin s)).strap.rootTx = s.strap.rootTx)
    (heffect : ∀ x, Underway (frameSent b (laneBegin s)) x → noneHeld (frameEffect s.strap.crownTx.nextSeq b x)) :
    ∃ x, Underway (frameSent b (laneBegin s)) x
      ∧ frameSend b true (laneBegin s) = frameEffect s.strap.crownTx.nextSeq b x := by
  obtain ⟨hsends, ⟨hheld, hrootHeld⟩, hroom, hnext, -⟩ := hgoes
  simp only [hdown] at hroom hnext
  have hseq : s.strap.rootTx.rxNext = s.strap.crownTx.nextSeq := hnext.symm
  refine frameSend_root hdown (hmay.trans hsends) ⟨?_, ?_⟩ ?_ ?_ ?_ heffect
  · rw [hcrown, hheld]
  · rw [hroot, hrootHeld]
  · rw [hcrown]
    exact hroom
  · rw [hroot, hseq]
  · rw [hcrown]

/-- A frame that its sender has not got to send does nothing. -/
theorem frameSend_idle (arrives : Bool) (h : frameMay b s = false) : frameSend b arrives s = s := by
  rw [frameSend, h]
  rfl

end

end Sys2Proof.Machine
end

section
/-! PROOFS. The Root code load (R65, R209, R210, R222): PARAMS, LOAD and FALLBACK_SET at Root, and the acknowledgement from
which a fallback shows. -/

namespace Sys2Proof.Machine

section
variable {s x : State}

/-! ### FALLBACK_SET (R222) -/

theorem setFallback_hold (seq : BitVec 4) (p : Fin 8) (off : Bool) (s : State) :
    (setFallback seq p off s).strap.holds[p] = { s.strap.holds[p] with fallbackOff := off } := modHold_same p _ _

theorem setFallback_ack (seq : BitVec 4) (p : Fin 8) (off : Bool) (s : State) :
    (setFallback seq p off s).strap.fallbackAck = s.strap.fallbackAck
      ∧ (setFallback seq p off s).strap.fallbackDue = s.strap.fallbackDue ++ [(seq, p, off)] := ⟨rfl, rfl⟩

/-! ### LOAD (R209, R210) -/

theorem loadReceive_part {off : Half} (hparams : s.strap.params = true) (hoff : off ≠ 0xFFFF) :
    loadReceive off s = { s with strap := { s.strap with
      loadData := s.strap.loadData.filter (fun g => g.1 ≠ off.toNat)
        ++ [(off.toNat, slice (rootCode (bootRoot s)) off.toNat 32)] } } := by
  rw [loadReceive, hparams, if_neg hoff]
  rfl

theorem loadReceive_end (hparams : s.strap.params = true) : loadReceive 0xFFFF s = loadEnd s := by
  rw [loadReceive, hparams]
  rfl

/-- The offsets that the load needs. -/
def loadNeed (t : Strap) : Nat := (t.loadSize + 31) / 32

/-- The ending LOAD of a load that is whole, without its entry. -/
def codeStarted (s : State) : State :=
  { s with strap := { s.strap with
      params := false, loadData := [], codeRunning := true
      rootCode := (loadPrefix s.strap.loadData (loadNeed s.strap) 0).take s.strap.loadSize
      rootVer := s.strap.loadVer, rootStamp := rootStamp (bootRoot s), codeDigest := slice (rootDigest (bootRoot s)) 0 32 } }

/-- Its entry, and the end of step 5 (R65). -/
def codeReported (s : State) : State :=
  let x := emit (devEv 0x0D04 1 (le 4 s.strap.loadVer.toNat)) (codeStarted s)
  if x.boot.phase = .rootLoad then { x with boot := { x.boot with phase := .selftest, rootReloaded := true } } else x

/-- The ending LOAD of a load with a gap: the highest offset reached is told. -/
def codeDropped (s : State) : State :=
  { s with strap := { s.strap with
      params := false, loadData := [], codeRunning := false
      loadFailed := some (if loadRun s.strap.loadData (loadNeed s.strap) 0 = 0 then 0xFFFF
        else 32 * (loadRun s.strap.loadData (loadNeed s.strap) 0 - 1)) } }

theorem loadEnd_eq (s : State) : loadEnd s =
    if loadRun s.strap.loadData (loadNeed s.strap) 0 = loadNeed s.strap then codeReported s else codeDropped s := rfl

theorem codeReported_parts (hphase : s.boot.phase = .rootLoad) : (codeReported s).strap = (codeStarted s).strap
    ∧ (codeReported s).boot = { s.boot with phase := .selftest, rootReloaded := true } := by
  have hboot : (emit (devEv 0x0D04 1 (le 4 s.strap.loadVer.toNat)) (codeStarted s)).boot = s.boot := by rw [emit_boot]; rfl
  unfold codeReported
  dsimp only
  rw [if_pos (by rw [hboot, hphase]), hboot, emit_strap]
  exact ⟨rfl, rfl⟩

theorem length_slice (l : List Byte) (off n : Nat) : (slice l off n).length = n := by
  simp only [slice, List.length_append, List.length_replicate, List.length_take]
  omega

/-- A slice of a list's own length is that list. -/
theorem slice_whole {l : List Byte} {n : Nat} (h : l.length = n) : slice l 0 n = l := by
  subst h
  simp [slice]

theorem rootDigest_slice (i : List Byte) : slice (rootDigest i) 0 32 = rootDigest i := slice_whole (length_slice _ _ _)

/-! ### PARAMS (R209, R65) -/

/-- The state without the ports' holds and the fallbacks that wait for their acknowledgement. -/
def besideHolds (s : State) : State := { s with strap := { s.strap with holds := .replicate 8 {}, fallbackDue := [] } }

/-- One port's part of PARAMS: its fallback and its hold time. -/
def paramsPort (seq : BitVec 4) (fallback : List Byte) (p : Fin 8) (s : State) : State :=
  modHold p (fun h => { h with holdCode := holdCode s p }) (setFallback seq p (fallback.getD p.val 0 == 1) s)

theorem paramsPort_besideHolds (seq : BitVec 4) (fallback : List Byte) (p : Fin 8) (s : State) :
    besideHolds (paramsPort seq fallback p s) = besideHolds s := rfl

theorem paramsPort_same (seq : BitVec 4) (fallback : List Byte) (p : Fin 8) (s : State) :
    (paramsPort seq fallback p s).strap.holds[p] =
      { s.strap.holds[p] with fallbackOff := fallback.getD p.val 0 == 1, holdCode := holdCode s p } := by
  rw [paramsPort, modHold_same, setFallback_hold]

theorem paramsPort_other (seq : BitVec 4) (fallback : List Byte) {p k : Fin 8} (h : k ≠ p) (s : State) :
    (paramsPort seq fallback p s).strap.holds[k] = s.strap.holds[k] := by
  simp [paramsPort, setFallback, modHold, Fin.val_inj, Ne.symm h]

theorem holdCode_besideHolds (s : State) (p : Fin 8) : holdCode (besideHolds s) p = holdCode s p := rfl

/-- PARAMS at every port. -/
def paramsPorts (seq : BitVec 4) (fallback : List Byte) (s : State) : State := onPorts allPorts (paramsPort seq fallback) s

theorem paramsPorts_besideHolds (seq : BitVec 4) (fallback : List Byte) (s : State) :
    besideHolds (paramsPorts seq fallback s) = besideHolds s :=
  onPorts_keeps (P := fun x => besideHolds x = besideHolds s)
    (fun k x hx => (paramsPort_besideHolds seq fallback k x).trans hx) allPorts rfl

/-- Whether a port is in hold, and the fallback it took. -/
def holdRest (h : HoldPort) : Bool × Bool × Bool := (h.inHold, h.fellBack, h.fellBackOff)

theorem paramsPorts_rest (seq : BitVec 4) (fallback : List Byte) (s : State) (p : Fin 8) :
    holdRest (paramsPorts seq fallback s).strap.holds[p] = holdRest s.strap.holds[p] := by
  refine onPorts_keeps (P := fun x : State => holdRest x.strap.holds[p] = holdRest s.strap.holds[p])
    (fun k x hx => ?_) allPorts rfl
  by_cases hk : p = k
  · subst hk
    rw [paramsPort_same]
    exact hx
  · rw [paramsPort_other seq fallback hk, hx]

theorem paramsPorts_given (seq : BitVec 4) (fallback : List Byte) (s : State) (p : Fin 8) :
    (paramsPorts seq fallback s).strap.holds[p].fallbackOff = (fallback.getD p.val 0 == 1)
      ∧ (paramsPorts seq fallback s).strap.holds[p].holdCode = holdCode s p := by
  refine onPorts_each (I := fun x => besideHolds x = besideHolds s)
    (Q := fun k x => x.strap.holds[k].fallbackOff = (fallback.getD k.val 0 == 1)
      ∧ x.strap.holds[k].holdCode = holdCode s k)
    (fun k x hx => (paramsPort_besideHolds seq fallback k x).trans hx) (fun k x hx => ?_) (fun k q x hne _ hq => ?_) rfl
    (List.mem_finRange p)
  · rw [paramsPort_same, ← holdCode_besideHolds x, hx, holdCode_besideHolds]
    exact ⟨rfl, rfl⟩
  · rw [paramsPort_other seq fallback hne]
    exact hq

/-- A matching code ends step 5 (R65). -/
theorem paramsReceive_same {seq : BitVec 4} (h : rootMatches s = true) : paramsReceive seq s =
    { paramsPorts seq (patFallback (slotPattern s s.boot.slot)) s with
      boot := { (paramsPorts seq (patFallback (slotPattern s s.boot.slot)) s).boot with phase := .selftest } } := by
  unfold paramsReceive
  rw [h]
  rfl

/-- The load begins (R209). -/
def loadBegun (code : List Byte) (s : State) : State :=
  { s with strap := { s.strap with
      params := true, loadSize := rootCodeSize code, loadVer := rootVersion code, loadData := [], loadFailed := none } }

/-- Root as PARAMS for another code find it: with code that ran, its holds completed. -/
def givenUp (s : State) : State := if s.strap.codeRunning then rootGiveUp s else s

theorem paramsReceive_other {seq : BitVec 4} (h : rootMatches s = false) : paramsReceive seq s =
    loadBegun (bootRoot s) (paramsPorts seq (patFallback (slotPattern s s.boot.slot)) (givenUp s)) := by
  unfold paramsReceive
  rw [h]
  rfl

/-! ### Root's holds before a reload (R65) -/

/-- A port's hold once Root has completed it. -/
def holdGiven (h : HoldPort) : HoldPort :=
  { h with inHold := false, timerRunning := false, fellBack := true, fellBackOff := h.fallbackOff, frozen := false }

/-- One port's part of it. -/
def giveUpPort (p : Fin 8) (s : State) : State :=
  if s.strap.holds[p].inHold then modHold p (fun h => { h with frozen := false }) (takeFallback p s) else s

theorem takeFallback_holds (p : Fin 8) (s : State) : (takeFallback p s).strap.holds =
    s.strap.holds.set p { s.strap.holds[p] with
      inHold := false, timerRunning := false, fellBack := true, fellBackOff := s.strap.holds[p].fallbackOff } := by
  rw [(takeFallback_onPort p s).holds, fallenBack, (setCode_onPort p _ 0).holds]
  simp [holdOver, modHold]

theorem giveUpPort_hold (p k : Fin 8) (s : State) : (giveUpPort p s).strap.holds[k] =
    if k = p ∧ s.strap.holds[p].inHold = true then holdGiven s.strap.holds[p] else s.strap.holds[k] := by
  unfold giveUpPort
  by_cases hin : s.strap.holds[p].inHold = true
  · by_cases hk : k = p
    · subst hk
      rw [if_pos hin, if_pos ⟨rfl, hin⟩, modHold_same, takeFallback_holds]
      simp [holdGiven]
    · rw [if_pos hin, if_neg (fun h => hk h.1)]
      simp [modHold, takeFallback_holds, Fin.val_inj, Ne.symm hk]
  · rw [if_neg hin, if_neg (fun h => hin h.2)]

theorem giveUpPort_work (p : Fin 8) (s : State) : PortWork s (giveUpPort p s) :=
  .ite ((takeFallback_work p s).trans (modHold_work p _ _)) (.refl s)

theorem giveUp_work (s : State) : PortWork s (onPorts allPorts giveUpPort s) :=
  .onPorts (fun k x => giveUpPort_work k x) allPorts s

theorem giveUp_hold {p : Fin 8} (hin : s.strap.holds[p].inHold = true) :
    (onPorts allPorts giveUpPort s).strap.holds[p] = holdGiven s.strap.holds[p] := by
  refine onPorts_each (I := fun x => x.strap.holds[p] = s.strap.holds[p] ∨ x.strap.holds[p] = holdGiven s.strap.holds[p])
    (Q := fun k x => k = p → x.strap.holds[p] = holdGiven s.strap.holds[p]) (fun k x hx => ?_) (fun k x hx hk => ?_)
    (fun k q x hne _ hq hqp => ?_) (.inl rfl) (List.mem_finRange p) rfl
  · rw [giveUpPort_hold]
    split
    next h =>
      obtain ⟨rfl, hin'⟩ := h
      rcases hx with hx | hx
      · exact .inr (by rw [hx])
      · rw [hx] at hin'
        cases hin'
    next => exact hx
  · subst hk
    rw [giveUpPort_hold]
    rcases hx with hx | hx
    · rw [if_pos ⟨rfl, by rw [hx, hin]⟩, hx]
    · have hover : ¬ x.strap.holds[k].inHold = true := by
        rw [hx]
        simp [holdGiven]
      rw [if_neg (fun h => hover h.2), hx]
  · rw [giveUpPort_hold, if_neg (fun h => hne (hqp.trans h.1)), hq hqp]

/-- Root without its code. -/
def codeStopped (s : State) : State := { s with strap := { s.strap with codeRunning := false } }

theorem codeStopped_holds (s : State) : (codeStopped s).strap.holds = s.strap.holds := rfl

theorem rootGiveUp_eq (s : State) : rootGiveUp s = codeStopped (onPorts allPorts giveUpPort s) := by
  have hport : giveUpPort = fun p s => if s.strap.holds[p].inHold then
      modHold p (fun h => { h with frozen := false }) (takeFallback p s) else s := by
    funext p s
    rfl
  unfold rootGiveUp codeStopped
  dsimp only
  rw [hport]

/-- What is left as it was when Root has given its holds up. -/
structure GivenUp (s t : State) : Prop where
  boot : t.boot = s.boot
  heart : t.heart = s.heart
  crownTx : t.strap.crownTx = s.strap.crownTx
  rootTx : t.strap.rootTx = s.strap.rootTx
  loadNext : t.strap.loadNext = s.strap.loadNext
  stopped : t.strap.codeRunning = false

theorem givenUp_keeps (s : State) : GivenUp s (givenUp s) := by
  unfold givenUp
  split
  next hruns =>
    have hwork := giveUp_work s
    rw [rootGiveUp_eq]
    generalize onPorts allPorts giveUpPort s = x at hwork ⊢
    exact ⟨hwork.boot, hwork.heart, congrArg (fun k : Kept => k.strap.crownTx) hwork.same,
      congrArg (fun k : Kept => k.strap.rootTx) hwork.same, congrArg (fun k : Kept => k.strap.loadNext) hwork.same, rfl⟩
  next hstopped => exact ⟨rfl, rfl, rfl, rfl, rfl, by simpa using hstopped⟩

theorem givenUp_hold {p : Fin 8} (hruns : s.strap.codeRunning = true) (hin : s.strap.holds[p].inHold = true) :
    (givenUp s).strap.holds[p] = holdGiven s.strap.holds[p] := by
  rw [givenUp, if_pos hruns, rootGiveUp_eq, codeStopped_holds]
  exact giveUp_hold hin

/-! ### What Root finds when a frame of Crown's reaches it -/

/-- Crown's state once a frame of the load is sent: lanes of a new command, and the least OFFSET to follow. -/
def loadSent (n : Nat) (s : State) : State := { s with strap := { s.strap with lanes := [], loadNext := n } }

/-- What the frame's receiver reads is as it was at the sender. -/
structure ReachesRoot (n : Nat) (s x : State) : Prop where
  boot : x.boot = s.boot
  heart : x.heart = s.heart
  seen : rootSeen x = rootSeen s
  code : bootRoot x = bootRoot s
  same : rootMatches x = rootMatches s
  pattern : slotPattern x x.boot.slot = slotPattern s s.boot.slot
  strap : ∃ c r l, x.strap = { s.strap with crownTx := c, rootTx := r, lanes := l, loadNext := n }
  idle : noneHeld x

theorem Underway.reaches {n : Nat} (h : Underway (loadSent n s) x) : ReachesRoot n s x := by
  obtain ⟨c, r, l, o, rfl, hc, hr⟩ := h
  exact ⟨rfl, rfl, rfl, rfl, rfl, rfl, ⟨c, r, l, rfl⟩, hc, hr⟩

theorem holdCode_congr {a b : State} (h : b.heart = a.heart) (p : Fin 8) : holdCode b p = holdCode a p := by
  have hrow : fuseRow b 0x42 = fuseRow a 0x42 := by
    unfold fuseRow evalFuse
    rw [h]
  rw [holdCode, hrow, holdCode]

variable {n : Nat} {seq : BitVec 4}

theorem params_effect (hx : ReachesRoot n s x) (hseen : rootSeen s = true) (hphase : s.boot.phase = .rootLoad) :
    frameEffect seq .params x = paramsReceive seq x := by
  rw [frameEffect, hx.seen, hseen, hx.boot, hphase]
  rfl

theorem load_effect {off : Half} (hx : ReachesRoot n s x) (hseen : rootSeen s = true) (hphase : s.boot.phase = .rootLoad) :
    frameEffect seq (.load off) x = loadReceive off x := by
  rw [frameEffect, hx.seen, hseen, hx.boot, hphase]
  rfl

theorem fallbackSet_effect {p : Fin 8} {off : Bool} (hx : ReachesRoot n s x) (hseen : rootSeen s = true) :
    frameEffect seq (.fallbackSet p off) x = setFallback seq p off x := by
  rw [frameEffect, hx.seen, hseen]
  rfl

/-! ### PARAMS sent and received -/

theorem paramsPorts_boot (seq : BitVec 4) (fb : List Byte) (y : State) : (paramsPorts seq fb y).boot = y.boot := by
  have h := congrArg State.boot (paramsPorts_besideHolds seq fb y)
  exact h

/-- The Strap without the holds and the fallbacks that wait, as PARAMS leave it. -/
theorem paramsPorts_strap (seq : BitVec 4) (fb : List Byte) (y : State) : ∃ hs due,
    (paramsPorts seq fb y).strap = { y.strap with holds := hs, fallbackDue := due } := by
  have h := congrArg State.strap (paramsPorts_besideHolds seq fb y)
  generalize hz : paramsPorts seq fb y = z at h
  refine ⟨z.strap.holds, z.strap.fallbackDue, ?_⟩
  have hback := congrArg (fun t : Strap => { t with holds := z.strap.holds, fallbackDue := z.strap.fallbackDue }) h
  exact hback

/-- PARAMS where the running code is the slot's. -/
theorem params_same {p : Fin 8} (hx : ReachesRoot n s x) (hsame : rootMatches s = true) :
    (paramsReceive seq x).boot = { s.boot with phase := .selftest }
      ∧ (paramsReceive seq x).strap.codeRunning = s.strap.codeRunning
      ∧ (paramsReceive seq x).strap.holds[p].holdCode = holdCode s p
      ∧ (paramsReceive seq x).strap.holds[p].inHold = s.strap.holds[p].inHold
      ∧ (paramsReceive seq x).strap.holds[p].fallbackOff = ((patFallback (slotPattern s s.boot.slot)).getD p.val 0 == 1)
      ∧ noneHeld (paramsReceive seq x) := by
  obtain ⟨c, r, l, hstrap⟩ := hx.strap
  obtain ⟨hoff, hcode⟩ := paramsPorts_given seq (patFallback (slotPattern x x.boot.slot)) x p
  have hrest := paramsPorts_rest seq (patFallback (slotPattern x x.boot.slot)) x p
  have hboot := paramsPorts_boot seq (patFallback (slotPattern x x.boot.slot)) x
  obtain ⟨hs, due, hkept⟩ := paramsPorts_strap seq (patFallback (slotPattern x x.boot.slot)) x
  rw [paramsReceive_same (hx.same.trans hsame)]
  generalize paramsPorts seq (patFallback (slotPattern x x.boot.slot)) x = y at *
  obtain ⟨hin, -, -⟩ : _ ∧ _ ∧ _ := by simpa only [holdRest, Prod.mk.injEq] using hrest
  refine ⟨?_, ?_, hcode.trans (holdCode_congr hx.heart p), ?_, ?_, ?_⟩
  · simp only [hboot, hx.boot]
  · simp only [hkept, hstrap]
  · exact hin.trans (by rw [hstrap])
  · rw [hoff, hx.pattern]
  · simp only [noneHeld, hkept]
    exact hx.idle

/-- The load as PARAMS for another code open it. -/
structure LoadOpened (code : List Byte) (n : Nat) (t : Strap) : Prop where
  stopped : t.codeRunning = false
  params : t.params = true
  size : t.loadSize = rootCodeSize code
  ver : t.loadVer = rootVersion code
  data : t.loadData = []
  next : t.loadNext = n

theorem loadBegun_opened {code : List Byte} {y : State} (hstopped : y.strap.codeRunning = false)
    (hnext : y.strap.loadNext = n) : LoadOpened code n (loadBegun code y).strap :=
  ⟨hstopped, rfl, rfl, rfl, rfl, hnext⟩

/-- PARAMS for another code. -/
theorem params_other {p : Fin 8} (hx : ReachesRoot n s x) (hother : rootMatches s = false) :
    (paramsReceive seq x).boot = s.boot ∧ LoadOpened (bootRoot s) n (paramsReceive seq x).strap
      ∧ (paramsReceive seq x).strap.holds[p].holdCode = holdCode s p
      ∧ holdRest (paramsReceive seq x).strap.holds[p] = holdRest (givenUp x).strap.holds[p]
      ∧ noneHeld (paramsReceive seq x) := by
  obtain ⟨c, r, l, hstrap⟩ := hx.strap
  have hgiven := givenUp_keeps x
  obtain ⟨-, hcode⟩ := paramsPorts_given seq (patFallback (slotPattern x x.boot.slot)) (givenUp x) p
  have hrest := paramsPorts_rest seq (patFallback (slotPattern x x.boot.slot)) (givenUp x) p
  have hboot := paramsPorts_boot seq (patFallback (slotPattern x x.boot.slot)) (givenUp x)
  obtain ⟨hs, due, hkept⟩ := paramsPorts_strap seq (patFallback (slotPattern x x.boot.slot)) (givenUp x)
  rw [paramsReceive_other (hx.same.trans hother), hx.code]
  generalize paramsPorts seq (patFallback (slotPattern x x.boot.slot)) (givenUp x) = y at *
  have hcodeOf : holdCode (givenUp x) p = holdCode s p := holdCode_congr (hgiven.heart.trans hx.heart) p
  have hstopped : y.strap.codeRunning = false := by rw [hkept]; exact hgiven.stopped
  have hnext : y.strap.loadNext = n := by rw [hkept]; exact hgiven.loadNext.trans (by rw [hstrap])
  refine ⟨hboot.trans (hgiven.boot.trans hx.boot), loadBegun_opened hstopped hnext, hcode.trans hcodeOf, hrest, ?_⟩
  obtain ⟨hcrown, hroot⟩ := hx.idle
  simp only [noneHeld, loadBegun, hkept, hgiven.crownTx, hgiven.rootTx, hcrown, hroot, and_self]

/-- PARAMS on their way: what they lead to at Root. -/
theorem params_sent (hgoes : frameGoes .params s) :
    ∃ x, ReachesRoot 0 s x ∧ exec .params s = .next (finish s (paramsReceive s.strap.crownTx.nextSeq x)) := by
  have ⟨hmay, _⟩ := hgoes
  obtain ⟨⟨⟨⟨hseen, hphase⟩, -⟩, -⟩, -⟩ :
      ((((rootSeen s = true ∧ s.boot.phase = .rootLoad) ∧ _) ∧ _) ∧ _) := by
    simpa only [frameMay, Bool.and_eq_true, decide_eq_true_eq] using hmay
  have heffect : ∀ x, Underway (loadSent 0 s) x → frameEffect s.strap.crownTx.nextSeq .params x =
      paramsReceive s.strap.crownTx.nextSeq x := fun x hx => params_effect hx.reaches hseen hphase
  obtain ⟨x, hx, hsend⟩ := frameSend_goes (b := .params) rfl hgoes rfl rfl rfl fun x hx => by
    have hreach := Underway.reaches (n := 0) hx
    rw [heffect x hx]
    cases hsame : rootMatches s with
    | true =>
      obtain ⟨-, -, -, -, -, hidle⟩ := params_same (seq := s.strap.crownTx.nextSeq) (p := 0) hreach hsame
      exact hidle
    | false =>
      obtain ⟨-, -, -, -, hidle⟩ := params_other (seq := s.strap.crownTx.nextSeq) (p := 0) hreach hsame
      exact hidle
  refine ⟨x, Underway.reaches hx, ?_⟩
  have hexec : exec .params s = .next (finish s (frameSend .params true (laneBegin s))) := rfl
  rw [hexec, hsend, heffect x hx]

/-! ### LOAD and FALLBACK_SET sent and received -/

theorem codeReported_windows (y : State) : (codeReported y).strap.crownTx = y.strap.crownTx
    ∧ (codeReported y).strap.rootTx = y.strap.rootTx := by
  have hkept : (emit (devEv 0x0D04 1 (le 4 y.strap.loadVer.toNat)) (codeStarted y)).strap = (codeStarted y).strap :=
    emit_strap _ _
  unfold codeReported
  dsimp only
  generalize emit _ _ = z at hkept
  split
  · simp only [hkept]
    exact ⟨rfl, rfl⟩
  · rw [hkept]
    exact ⟨rfl, rfl⟩

theorem loadReceive_idle (off : Half) (h : noneHeld x) : noneHeld (loadReceive off x) := by
  obtain ⟨hcrown, hroot⟩ := h
  unfold loadReceive
  split
  · exact ⟨hcrown, hroot⟩
  · split
    · rw [loadEnd_eq]
      split
      · obtain ⟨hcrown', hroot'⟩ := codeReported_windows x
        exact ⟨by rw [hcrown', hcrown], by rw [hroot', hroot]⟩
      · exact ⟨hcrown, hroot⟩
    · exact ⟨hcrown, hroot⟩

/-- A LOAD on its way: what it leads to at Root, which has PARAMS of this boot. -/
theorem load_sent {off : Half} (hgoes : frameGoes (.load off) s) :
    s.boot.phase = .rootLoad ∧ s.strap.params = true ∧ ∃ x, ReachesRoot (off.toNat + 1) s x
      ∧ exec (.load off) s = .next (finish s (loadReceive off x)) := by
  have ⟨hmay, _⟩ := hgoes
  obtain ⟨⟨hseen, hphase⟩, ⟨hparams, -⟩, -⟩ :
      ((rootSeen s = true ∧ s.boot.phase = .rootLoad) ∧ (s.strap.params = true ∧ _) ∧ _) := by
    simpa only [frameMay, loadMay, Bool.and_eq_true, decide_eq_true_eq] using hmay
  have heffect : ∀ x, Underway (loadSent (off.toNat + 1) s) x → frameEffect s.strap.crownTx.nextSeq (.load off) x =
      loadReceive off x := fun x hx => load_effect hx.reaches hseen hphase
  obtain ⟨x, hx, hsend⟩ := frameSend_goes (b := .load off) rfl hgoes rfl rfl rfl fun x hx => by
    rw [heffect x hx]
    exact loadReceive_idle off (Underway.reaches (n := off.toNat + 1) hx).idle
  refine ⟨hphase, hparams, x, Underway.reaches hx, ?_⟩
  have hexec : exec (.load off) s = .next (finish s (frameSend (.load off) true (laneBegin s))) := rfl
  rw [hexec, hsend, heffect x hx]

/-- A FALLBACK_SET on its way: what it leads to at Root. -/
theorem fallbackSet_sent {p : Fin 8} {off : Bool} (hgoes : frameGoes (.fallbackSet p off) s) :
    ∃ x, ReachesRoot s.strap.loadNext s x
      ∧ exec (.fallbackSet p off) s = .next (finish s (setFallback s.strap.crownTx.nextSeq p off x)) := by
  have ⟨hmay, _⟩ := hgoes
  obtain ⟨hseen, -⟩ : rootSeen s = true ∧ _ := by simpa only [frameMay, Bool.and_eq_true] using hmay
  have heffect : ∀ x, Underway (loadSent s.strap.loadNext s) x →
      frameEffect s.strap.crownTx.nextSeq (.fallbackSet p off) x = setFallback s.strap.crownTx.nextSeq p off x :=
    fun x hx => fallbackSet_effect hx.reaches hseen
  obtain ⟨x, hx, hsend⟩ := frameSend_goes (b := .fallbackSet p off) rfl hgoes rfl rfl rfl fun x hx => by
    rw [heffect x hx]
    exact (Underway.reaches (n := s.strap.loadNext) hx).idle
  refine ⟨x, Underway.reaches hx, ?_⟩
  have hexec : exec (.fallbackSet p off) s = .next (finish s (frameSend (.fallbackSet p off) true (laneBegin s))) := rfl
  rw [hexec, hsend, heffect x hx]

end

/-! ### The commands -/

/-- A frame that Crown has not got to send leaves its lanes empty, and no more. -/
theorem params_unsent {s : State} (h : frameMay .params (laneBegin s) = false) :
    exec .params s = .next (finish s (laneBegin s)) := by
  have hexec : exec .params s = .next (finish s (frameSend .params true (laneBegin s))) := rfl
  rw [hexec, frameSend_idle true h]

theorem load_unsent {s : State} {off : Half} (h : frameMay (.load off) (laneBegin s) = false) :
    exec (.load off) s = .next (finish s (laneBegin s)) := by
  have hexec : exec (.load off) s = .next (finish s (frameSend (.load off) true (laneBegin s))) := rfl
  rw [hexec, frameSend_idle true h]

theorem ackSplit_single {f : SentFrame} {q : BitVec 4} (h : hdrSeq f.hdr = q) : ackSplit q [f] = ([f], []) := by
  simp [ackSplit, h]

/-- Root's acknowledgement of the one FALLBACK_SET on its way: the fallback shows (R222). -/
theorem ackTake_fallback {y : State} {f : SentFrame} {p : Fin 8} {off : Bool} {q : BitVec 4} (hseq : hdrSeq f.hdr = q)
    (hsent : y.strap.crownTx.unacked = [f]) (hdue : y.strap.fallbackDue = [(q, p, off)]) :
    (ackTake true q y).strap = { y.strap with
      crownTx := { y.strap.crownTx with unacked := [] }, fallbackDue := []
      fallbackAck := withFallback p off y.strap.fallbackAck } := by
  have hsplit : ackSplit q (strapEnd (!true) y).unacked = ([f], []) := by
    rw [show (strapEnd (!true) y).unacked = [f] from hsent, ackSplit_single hseq]
  unfold ackTake
  simp only [hsplit]
  simp [setEnd, hdue, hseq, strapEnd]

/-- An ACK frame of Root's on the lanes. -/
def ackLaid (s : State) : State :=
  lanePut true (frameHeader 2 0 0 (some (s.strap.rootTx.rxNext - 1))) (some []) (ackSent true s)

theorem ack_exec (a : State) : exec (.ack true) a = .next (finish a (heldOut false none
    (ackTake true (a.strap.rootTx.rxNext - 1) (ackLaid (laneBegin a))))) := rfl

/-- Root's acknowledgement of a FALLBACK_SET alone on its way. -/
theorem ack_fallback {a : State} {p : Fin 8} {off : Bool} {q : BitVec 4}
    (hcrown : a.strap.crownTx = { unacked := [{ hdr := frameHeader 0xB p.val q none, body := .fallbackSet p off }] })
    (hnext : a.strap.rootTx.rxNext = q + 1) (hdue : a.strap.fallbackDue = [(q, p, off)]) :
    ∃ t, exec (.ack true) a = .next t ∧ t.strap.fallbackAck = withFallback p off a.strap.fallbackAck
      ∧ t.strap.fallbackDue = [] ∧ t.strap.crownTx.unacked = [] := by
  have hseq : a.strap.rootTx.rxNext - 1 = q := by rw [hnext, BitVec.add_sub_cancel]
  have hcrown' : (ackLaid (laneBegin a)).strap.crownTx = a.strap.crownTx := rfl
  have hdue' : (ackLaid (laneBegin a)).strap.fallbackDue = a.strap.fallbackDue := rfl
  have hack' : (ackLaid (laneBegin a)).strap.fallbackAck = a.strap.fallbackAck := rfl
  refine ⟨_, ack_exec a, ?_⟩
  rw [finish_strap, hseq]
  generalize ackLaid (laneBegin a) = y at hcrown' hdue' hack'
  have htaken := ackTake_fallback (f := { hdr := frameHeader 0xB p.val q none, body := .fallbackSet p off })
    (hdrSeq_frameHeader 0xB p.val q none) (by rw [hcrown', hcrown]) (hdue'.trans hdue)
  have hidle : (strapEnd false (ackTake true q y)).held = [] := by
    change (ackTake true q y).strap.crownTx.held = []
    rw [htaken, hcrown', hcrown]
  rw [heldOut_idle hidle, htaken, hack']
  exact ⟨rfl, rfl, rfl⟩

/-- Settles O13: PARAMS, LOAD and FALLBACK_SET where they go and where they do not, and Root's acknowledgement. -/
theorem rootCodeLoad : Obligations.RootCodeLoad := by
  refine ⟨fun p s hgoes hsame => ?_, fun s hphase => ?_, fun p s hgoes hother => ?_, fun p s hgoes hother hruns hin => ?_,
    fun off s hphase => ?_, fun off s hgoes hoff => ?_, fun off s hlow => ?_, fun s hgoes hwhole => ?_,
    fun s hgoes hgap => ?_, fun p off s hgoes => ?_, fun p off q s => ack_fallback rfl rfl rfl⟩
  · obtain ⟨x, hx, hexec⟩ := params_sent hgoes
    obtain ⟨hboot, hruns, hcode, hin, hoff, -⟩ := params_same (seq := s.strap.crownTx.nextSeq) (p := p) hx hsame
    have hrunning : s.strap.codeRunning = true := by
      obtain ⟨hrunning, -⟩ : s.strap.codeRunning = true ∧ _ := by
        simpa only [rootMatches, Bool.and_eq_true] using hsame
      exact hrunning
    refine ⟨_, hexec, ?_⟩
    rw [finish_boot, finish_strap, hboot]
    exact ⟨rfl, hruns.trans hrunning, rfl, hcode, hin, hoff⟩
  · refine ⟨_, params_unsent ?_, ?_⟩
    · have hphase' : ¬ (laneBegin s).boot.phase = .rootLoad := hphase
      simp [frameMay, hphase']
    · rw [finish_boot, finish_strap]
      exact ⟨rfl, rfl⟩
  · obtain ⟨x, hx, hexec⟩ := params_sent hgoes
    obtain ⟨hboot, hopened, hcode, -, -⟩ := params_other (seq := s.strap.crownTx.nextSeq) (p := p) hx hother
    refine ⟨_, hexec, ?_⟩
    rw [finish_boot, finish_strap]
    exact ⟨hboot, hopened.stopped, hopened.params, hopened.size, hopened.ver, hopened.data, hopened.next, hcode⟩
  · obtain ⟨x, hx, hexec⟩ := params_sent hgoes
    obtain ⟨-, -, -, hrest, -⟩ := params_other (seq := s.strap.crownTx.nextSeq) (p := p) hx hother
    obtain ⟨c, r, l, hstrap⟩ := hx.strap
    have hgiven : (givenUp x).strap.holds[p] = holdGiven s.strap.holds[p] := by
      rw [givenUp_hold (by rw [hstrap]; exact hruns) (by rw [hstrap]; exact hin), hstrap]
    rw [hgiven] at hrest
    obtain ⟨hover, hback, hoff⟩ : _ ∧ _ ∧ _ := by simpa only [holdRest, holdGiven, Prod.mk.injEq] using hrest
    refine ⟨_, hexec, ?_⟩
    rw [finish_strap]
    exact ⟨hover, hback, hoff⟩
  · refine ⟨_, load_unsent ?_, ?_⟩
    · have hphase' : ¬ (laneBegin s).boot.phase = .rootLoad := hphase
      simp [frameMay, hphase']
    · rw [finish_boot, finish_strap]
      exact ⟨rfl, rfl⟩
  · obtain ⟨-, hparams, x, hx, hexec⟩ := load_sent hgoes
    obtain ⟨c, r, l, hstrap⟩ := hx.strap
    refine ⟨_, hexec, ?_⟩
    rw [finish_strap, loadReceive_part (by rw [hstrap]; exact hparams) hoff]
    simp only [hstrap, hx.code]
    exact ⟨trivial, trivial, trivial⟩
  · refine ⟨_, load_unsent ?_, ?_⟩
    · have hlow' : ¬ (laneBegin s).strap.loadNext ≤ off.toNat := Nat.not_le.mpr hlow
      simp [frameMay, loadMay, hlow']
    · rw [finish_boot, finish_strap]
      exact ⟨rfl, rfl⟩
  · obtain ⟨hphase, hparams, x, hx, hexec⟩ := load_sent hgoes
    obtain ⟨c, r, l, hstrap⟩ := hx.strap
    have hwhole' : loadRun x.strap.loadData (loadNeed x.strap) 0 = loadNeed x.strap := by rw [hstrap]; exact hwhole
    obtain ⟨hstarted, hboot⟩ := codeReported_parts (s := x) (by rw [hx.boot]; exact hphase)
    refine ⟨_, hexec, ?_⟩
    rw [finish_strap, finish_boot, loadReceive_end (by rw [hstrap]; exact hparams), loadEnd_eq, if_pos hwhole',
      hstarted, hboot]
    simp only [codeStarted, hstrap, hx.code, rootDigest_slice, loadNeed]
    exact ⟨trivial, trivial, trivial, trivial, trivial, trivial, trivial⟩
  · obtain ⟨-, hparams, x, hx, hexec⟩ := load_sent hgoes
    obtain ⟨c, r, l, hstrap⟩ := hx.strap
    have hgap' : ¬ loadRun x.strap.loadData (loadNeed x.strap) 0 = loadNeed x.strap := by rw [hstrap]; exact hgap
    refine ⟨_, hexec, ?_⟩
    rw [finish_strap, finish_boot, loadReceive_end (by rw [hstrap]; exact hparams), loadEnd_eq, if_neg hgap']
    simp only [codeDropped, hstrap, hx.boot, loadNeed]
    exact ⟨trivial, trivial, trivial, trivial⟩
  · obtain ⟨x, hx, hexec⟩ := fallbackSet_sent hgoes
    obtain ⟨c, r, l, hstrap⟩ := hx.strap
    refine ⟨_, hexec, ?_⟩
    obtain ⟨hack, hdue⟩ := setFallback_ack s.strap.crownTx.nextSeq p off x
    rw [finish_strap, setFallback_hold, hack, hdue]
    simp only [hstrap]
    exact ⟨trivial, trivial, trivial⟩

end Sys2Proof.Machine
end

section
/-! PROOFS. The end of the Grain self-test (R68, R142 to R144, R565, R643): the failed stands, the ready state with the
registers that the Pattern's stands set, and Limp where a shared stand has no spare. -/

namespace Sys2Proof.Machine

section
variable (s : State) (fails : BitVec 16)

/-! ### The self-test (R142, R143) -/

/-- The boot, the time, the failed stands, and the Pattern but for its relocations. -/
def testBasis (s : State) : Boot × Time × BitVec 16 × Pattern :=
  (s.boot, s.time, s.grain.fault, { s.pattern with relocations := 0 })

theorem emit_testBasis (e : Event) : testBasis (emit e s) = testBasis s := by simp [testBasis]

theorem emitIf_testBasis (c : Bool) (e : Event) : testBasis (emitIf c e s) = testBasis s := by
  unfold emitIf
  split
  · exact emit_testBasis s e
  · rfl

theorem standTested_testBasis (k : Fin 16) (r : State × Bool) : testBasis (standTested fails k r).1 = testBasis r.1 := by
  unfold standTested
  dsimp only
  split
  · rfl
  · split
    · exact emit_testBasis _ _
    · split <;> rfl

theorem grainTest_testBasis :
    testBasis (grainTest fails s).1 = (s.boot, s.time, fails, { s.pattern with relocations := 0 }) := by
  unfold grainTest
  dsimp only
  generalize hx : List.foldl _ ({ s with grain := { s.grain with fault := fails } }) _ = x
  have hreported : testBasis x = (s.boot, s.time, fails, { s.pattern with relocations := 0 }) := by
    rw [← hx]
    exact List.foldlRecOn (motive := fun y => testBasis y = (s.boot, s.time, fails, { s.pattern with relocations := 0 }))
      _ _ rfl fun y hy j _ => (emitIf_testBasis y _ _).trans hy
  exact List.foldlRecOn (motive := fun r : State × Bool =>
      testBasis r.1 = (s.boot, s.time, fails, { s.pattern with relocations := 0 }))
    _ _ hreported fun r hr k _ => (standTested_testBasis fails k r).trans hr

/-- No stand fails: none moves. -/
theorem grainTest_none : grainTest 0 s = ({ s with grain := { s.grain with fault := 0 } }, true) := by
  have hstand : ∀ k r, standTested 0 k r = r := by
    intro k r
    simp [standTested]
  have hreport : ∀ x : State, ∀ j : Nat, emitIf ((0 : BitVec 16).getLsbD j) (devEv 0x0201 5 [BitVec.ofNat 8 j]) x = x := by
    intro x j
    simp [emitIf]
  unfold grainTest
  simp only [hstand, hreport, List.foldl_const]
  simp

theorem grainConfigure_keeps (img : List Byte) : (grainConfigure img s).boot = s.boot
    ∧ (grainConfigure img s).time = s.time ∧ (grainConfigure img s).pattern = s.pattern := by
  unfold grainConfigure
  dsimp only
  refine List.foldlRecOn (motive := fun x : State => x.boot = s.boot ∧ x.time = s.time ∧ x.pattern = s.pattern) _ _
    ⟨rfl, rfl, rfl⟩ fun x hx k _ => ?_
  split
  · exact hx
  · exact hx

/-- The state under test: the Pattern's identity loaded, the stands as the image names them. -/
def underTestOf (s : State) : State :=
  grainConfigure (slotPattern s s.boot.slot) (loadIdentity (slotPattern s s.boot.slot) s)

theorem grainTest_keeps : (grainTest fails s).1.boot = s.boot ∧ (grainTest fails s).1.time = s.time
    ∧ (grainTest fails s).1.grain.fault = fails ∧ (grainTest fails s).1.pattern.portMask = s.pattern.portMask := by
  have h := grainTest_testBasis s fails
  generalize (grainTest fails s).1 = x at h ⊢
  exact ⟨congrArg (fun v => v.1) h, congrArg (fun v => v.2.1) h, congrArg (fun v => v.2.2.1) h,
    congrArg (fun v => v.2.2.2.portMask) h⟩

theorem loadIdentity_boot (img : List Byte) : (loadIdentity img s).boot = s.boot := rfl
theorem loadIdentity_time (img : List Byte) : (loadIdentity img s).time = s.time := rfl
theorem loadIdentity_pattern (img : List Byte) : (loadIdentity img s).pattern.portMask = patPortMask img
    ∧ (loadIdentity img s).pattern.relocations = s.pattern.relocations := ⟨rfl, rfl⟩

theorem underTestOf_keeps : (underTestOf s).boot = s.boot ∧ (underTestOf s).time = s.time
    ∧ (underTestOf s).pattern = (loadIdentity (slotPattern s s.boot.slot) s).pattern := by
  have h := grainConfigure_keeps (loadIdentity (slotPattern s s.boot.slot) s) (slotPattern s s.boot.slot)
  rw [loadIdentity_boot, loadIdentity_time] at h
  exact h

end

/-! ### What stands once ready is reached -/

/-- Ready's own records, of a boot `b` and a Pattern `pat`. -/
structure ReadyRecords (b : Boot) (fails : BitVec 16) (pat : Pattern) (t : State) : Prop where
  boot : t.boot = b
  bootMode : t.wdb.bootMode = false
  fault : t.grain.fault = fails
  pattern : t.pattern = pat
  irq : t.host.irqStat.getLsbD 7 = true

/-- The settings of R643 at a port. -/
def defaultSettings : Word × Word × Word × Word × Word := (0x00885300, 0x0064AD00, 0x03200200, 0x00500000, 0x964B3200)

/-- The records, and the settings of R643 at each port with a port-engine stand. -/
structure ReadyPorts (b : Boot) (fails : BitVec 16) (pat : Pattern) (t : State) : Prop extends ReadyRecords b fails pat t where
  settings : ∀ p : Fin 8, pat.portMask.getLsbD p.val = true → portSettings t.ports[p] = defaultSettings

section
variable {b : Boot} {fails : BitVec 16} {pat : Pattern} {x y : State}

theorem ReadyRecords.work (h : ReadyRecords b fails pat x) (hw : PortWork x y) : ReadyRecords b fails pat y where
  boot := hw.boot.trans h.boot
  bootMode := by rw [hw.wdb, h.bootMode]
  fault := by rw [hw.grain, h.fault]
  pattern := hw.pattern.trans h.pattern
  irq := by rw [hw.irqStat, h.irq]

theorem ReadyPorts.work (h : ReadyPorts b fails pat x) (hw : PortWork x y) : ReadyPorts b fails pat y where
  toReadyRecords := h.toReadyRecords.work hw
  settings := fun p hp => (hw.settings p).trans (h.settings p hp)

/-! ### Ready's records (Table 3.5, R565) -/

/-- The boot at ready. -/
def readyBoot (now : Nat) (b : Boot) : Boot :=
  { b with phase := .ready, ready := true, cold := false, bootSlot := BitVec.ofNat 2 b.slot.val, bootTime := now - b.t0 }

theorem readyMarks_records : ReadyRecords (readyBoot x.time.now x.boot) x.grain.fault x.pattern
    (readyEvents (readyMarks (grainPresent x))) := by
  have hwork : PortWork (readyMarks (grainPresent x)) (readyEvents (readyMarks (grainPresent x))) :=
    (emit_work _ _).trans (emit_work _ _)
  have hirq : (0x80 : BitVec 12).getLsbD 7 = true := by decide
  exact ReadyRecords.work (x := readyMarks (grainPresent x)) ⟨rfl, rfl, rfl, rfl, hirq⟩ hwork

theorem classReports_work (img : List Byte) (x : State) : PortWork x (classReports img x) :=
  .foldl (fun y _ => .ite (.onPorts (fun p z => evp_work p z _ _ _) _ y) (.refl y)) _ x

/-! ### The registers at step 7 (R643) -/

theorem ReadyRecords.modPort (h : ReadyRecords b fails pat x) (p : Fin 8) (f : Port → Port) :
    ReadyRecords b fails pat (modPort p f x) := ⟨h.boot, h.bootMode, h.fault, h.pattern, h.irq⟩

variable (p : Fin 8)

theorem ccAdopt_work (s : State) : PortWork s (ccAdopt p s) := .ite (enterUnattached_work p s _) (.refl s)
theorem ccAdopt_onPort (s : State) : OnPort p s (ccAdopt p s) := .ite (enterUnattached_onPort s p _) (.refl p s)

theorem ccTimeWrite_onPort (second : Bool) (v : Word) (s : State) : OnPort p s (ccTimeWrite p second v s) :=
  (modCc_onPort s p _).trans (ccAdopt_onPort p _)

theorem ReadyRecords.ccTimeWrite (h : ReadyRecords b fails pat x) (second : Bool) (v : Word) :
    ReadyRecords b fails pat (ccTimeWrite p second v x) := (h.modPort p _).work (ccAdopt_work p _)

/-- CCTIME0 as it is written, its low byte 0; a write of CCTIME1 leaves it. -/
theorem ccTimeWrite_time0W (second : Bool) (v : Word) (s : State) : (portCc (ccTimeWrite p second v s) p).time0W =
    if second then (portCc s p).time0W else v &&& 0xFFFFFF00 := by
  have hkept : ∀ y : State, (portCc (ccAdopt p y) p).time0W = (portCc y p).time0W := fun y =>
    congrArg (fun v => v.2.2.2.2) ((ccAdopt_work p y).settings p)
  rw [Machine.ccTimeWrite, hkept, portCc_modCc]
  split <;> rfl

theorem ReadyRecords.portDefaults (h : ReadyRecords b fails pat x) : ReadyRecords b fails pat (portDefaults p x) := by
  unfold Machine.portDefaults
  exact (((((h.ccTimeWrite p false _).ccTimeWrite p true _).modPort p _).modPort p _).modPort p _).modPort p _

theorem portDefaults_onPort (s : State) : OnPort p s (portDefaults p s) := by
  unfold Machine.portDefaults
  exact (ccTimeWrite_onPort p false _ s).trans <| (ccTimeWrite_onPort p true _ _).trans <| (modCc_onPort _ p _).trans <|
    (modPd_onPort _ p _).trans <| (modMetro_onPort _ p _).trans (modCinch_onPort _ p _)

theorem portDefaults_settings (s : State) : portSettings (portDefaults p s).ports[p] = defaultSettings := by
  have hparts : ∀ y : State, portSettings y.ports[p] = ((portMetro y p).loopCfg, (portCinch y p).cfg,
      (portCinch y p).i2tCfg, (portPd y p).cfg, (portCc y p).time0W) := fun _ => rfl
  rw [hparts]
  simp [Machine.portDefaults, defaultSettings, ccTimeWrite_time0W]

/-- Every port with a port-engine stand takes the settings of R643. -/
theorem patternDefaults_ready (h : ReadyRecords b fails pat x) : ReadyPorts b fails pat (patternDefaults x) := by
  have hunset : ReadyRecords b fails pat (onPorts allPorts pgUnset { x with metro := { x.metro with calCfg := 2 } }) :=
    ReadyRecords.work (x := { x with metro := { x.metro with calCfg := 2 } }) ⟨h.boot, h.bootMode, h.fault, h.pattern, h.irq⟩
      (.onPorts (fun k y => pgUnset_work k y) allPorts _)
  unfold patternDefaults
  generalize onPorts allPorts pgUnset _ = y at hunset ⊢
  have hmask : x.pattern.portMask = pat.portMask := by rw [h.pattern]
  refine ⟨onPorts_keeps (P := ReadyRecords b fails pat) (fun k z hz => hz.portDefaults k) _ hunset, fun p hp => ?_⟩
  refine onPorts_each (I := fun _ => True) (Q := fun k z => portSettings z.ports[k] = defaultSettings)
    (fun _ _ _ => trivial) (fun k z _ => portDefaults_settings k z) (fun k q z hne _ hq => ?_) trivial ?_
  · rw [(portDefaults_onPort k z).others q hne, hq]
  · simp [hmask, hp, allPorts]

theorem patternStart_work {pat : PatternStart} (hwrites : pat.writes = []) (s : State) :
    PortWork (patternDefaults s) (patternStart pat s) := by
  unfold patternStart
  rw [hwrites]
  exact .onPorts (fun k y => (modPd_work k y _ (by rfl)).trans (pgSettle_work k _)) allPorts _

/-! ### The flash, the journal and the parked record -/

theorem ReadyPorts.emit (h : ReadyPorts b fails pat x) (e : Event) : ReadyPorts b fails pat (emit e x) :=
  h.work (emit_work x e)

theorem ReadyPorts.chainCheck (h : ReadyPorts b fails pat x) : ReadyPorts b fails pat (chainCheck x) := by
  have hpocket : ∀ k : Pocket, PortWork x { x with pocket := k } := fun _ => ⟨rfl⟩
  refine h.work ?_
  unfold Machine.chainCheck emitIf
  dsimp only
  exact .ite ((hpocket _).trans (emit_work _ _)) (hpocket _)

theorem ReadyPorts.wdbReport (h : ReadyPorts b fails pat x) : ReadyPorts b fails pat (wdbReport x) := by
  unfold Machine.wdbReport
  split
  · exact ReadyPorts.emit (x := { x with wdb := { x.wdb with entryDue := none } })
      ⟨⟨h.boot, h.bootMode, h.fault, h.pattern, h.irq⟩, h.settings⟩ _
  · exact h

theorem ReadyPorts.refoscLate (h : ReadyPorts b fails pat x) : ReadyPorts b fails pat (refoscLate x) := by
  unfold Machine.refoscLate
  split
  · exact ReadyPorts.emit (x := { x with power := { x.power with refoscReport := none } })
      ⟨⟨h.boot, h.bootMode, h.fault, h.pattern, h.irq⟩, h.settings⟩ _
  · exact h

theorem ReadyPorts.journalFound (h : ReadyPorts b fails pat x) : ReadyPorts b fails pat (journalFound x) := by
  have hring : ∀ r : Ring, ReadyPorts b fails pat { x with ring := r } := fun _ => h.work ⟨rfl⟩
  unfold Machine.journalFound
  split
  · exact h
  · split
    · exact hring _
    · exact hring _

theorem ReadyPorts.arbRetry (h : ReadyPorts b fails pat x) : ReadyPorts b fails pat (arbRetry x) := by
  have hdropped : ReadyPorts b fails pat { x with graft := { x.graft with arbWanted := none } } :=
    ⟨⟨h.boot, h.bootMode, h.fault, h.pattern, h.irq⟩, h.settings⟩
  unfold Machine.arbRetry
  split
  · unfold arbRequest
    split
    · exact hdropped.emit _
    · split
      · exact hdropped
      · split
        · exact h
        · exact ⟨⟨h.boot, h.bootMode, h.fault, h.pattern, h.irq⟩, h.settings⟩
  · exact h

theorem ReadyPorts.writeEntry (h : ReadyPorts b fails pat x) (e : Event) : ReadyPorts b fails pat (writeEntry x e) where
  boot := (writeEntry_boot x e).trans h.boot
  bootMode := by rw [writeEntry_wdb, h.bootMode]
  fault := by rw [writeEntry_grain, h.fault]
  pattern := (writeEntry_pattern x e).trans h.pattern
  irq := by
    obtain ⟨k, hhost⟩ := writeEntry_host x e
    rw [hhost, BitVec.getLsbD_or, h.irq, Bool.true_or]
  settings := fun p hp => by
    obtain ⟨c, hport⟩ := writeEntry_port x e p
    rw [hport]
    exact h.settings p hp

theorem ReadyPorts.entries {α : Type} (h : ReadyPorts b fails pat x) (f : α → Event) (l : List α) :
    ReadyPorts b fails pat (l.foldl (fun y a => Machine.writeEntry y (f a)) x) :=
  List.foldlRecOn l _ h fun _ hy a _ => hy.writeEntry (f a)

theorem ReadyPorts.parkedFlush (h : ReadyPorts b fails pat x) : ReadyPorts b fails pat (parkedFlush x) := by
  have hflush : ReadyPorts b fails pat (flush x) :=
    (ReadyPorts.work (y := { x with raised := [] }) h ⟨rfl⟩).entries id _
  unfold Machine.parkedFlush
  dsimp only
  generalize hy : List.foldl _ (flush x) _ = y
  have hparked : ReadyPorts b fails pat y := by
    rw [← hy]
    exact hflush.entries (fun e : Event × Word => if clockListed e.1.code then e.1 else
      { e.1 with data := e.1.data ++ clockMin e.2 }) _
  exact hparked.work ⟨rfl⟩

theorem parkedFlush_record (s : State) : (parkedFlush s).sap.record = [] := rfl

theorem shown_work (s : State) (v : Option Shown) : PortWork s { s with shown := v } := ⟨rfl⟩

/-- Step 7 reaches ready, with R643's settings where the Pattern states none. -/
theorem reachReady_ready {start : PatternStart} (hwrites : start.writes = []) (img : List Byte) (s : State) :
    ReadyPorts (readyBoot s.time.now s.boot) s.grain.fault s.pattern (reachReady start img s) := by
  have hif : ∀ (c : Prop) [Decidable c] {y z : State}, PortWork y z → PortWork y (if c then z else y) :=
    fun c _ _ _ h => .ite h (.refl _)
  unfold reachReady
  extract_lets marked settled thresholds reports tests events ports shown wda policy deferred reported
  have hrecords : ReadyRecords _ _ _ (classReports img marked) := (readyMarks_records (x := s)).work (classReports_work img _)
  have hsettled : ReadyPorts (readyBoot s.time.now s.boot) s.grain.fault s.pattern settled :=
    (patternDefaults_ready hrecords).work (patternStart_work hwrites _)
  have hthresholds : PortWork settled thresholds := hif _ (rootThresholds_work _)
  have hreports : PortWork thresholds reports := hif _ (.onPorts rootReports_work allPorts _)
  have htests : PortWork reports tests := (groupReady_work 0 _).trans <| (groupReady_work 1 _).trans <|
    .foldl (fun y f => fastCmpFault_work y f) _ _
  have hevents : PortWork tests events := hif _ ((PortWork.onPorts outcomeEvent_work allPorts _).trans (rearmDeferred_work _))
  have hports : PortWork events ports := .onPorts portReady_work allPorts _
  have hpolicy : PortWork ports policy := (shown_work ports _).trans (wda_work shown _)
  have hdeferred : PortWork policy deferred := hif _ ((cmpDeferred_work _).trans (droopDeferred_work _))
  have hreported : ReadyPorts (readyBoot s.time.now s.boot) s.grain.fault s.pattern reported :=
    (hsettled.work <| hthresholds.trans <| hreports.trans <| htests.trans <| hevents.trans <| hports.trans <|
      hpolicy.trans hdeferred).chainCheck.wdbReport.refoscLate
  refine ReadyPorts.parkedFlush (ReadyPorts.arbRetry ?_)
  split
  · exact hreported.journalFound
  · exact hreported

end

/-! ### The command -/

theorem finish_irqStat_closed {a : State} (hclosed : isOpen a = false) (t : State) :
    (finish a t).host.irqStat = t.host.irqStat := by
  simp [finish, openIrq, hclosed]

theorem selftestDone_eq (fails : BitVec 16) (pat : PatternStart) {s : State} (hphase : s.boot.phase = .selftest) :
    selftestDone fails pat s = if (grainTest fails (underTestOf s)).2 then
      reachReady pat (slotPattern s s.boot.slot) (grainTest fails (underTestOf s)).1
    else limpEnter 0x0F { (grainTest fails (underTestOf s)).1 with
      grain := { fault := fails }, pattern := { reasonFirst := s.pattern.reasonFirst, reasonSecond := 0x0F } } := by
  unfold selftestDone underTestOf
  rw [if_neg (by simp [hphase])]

/-- No entry is left in the parked record. -/
theorem reachReady_record (pat : PatternStart) (img : List Byte) (s : State) : (reachReady pat img s).sap.record = [] := by
  unfold reachReady
  extract_lets
  exact parkedFlush_record _

theorem readyBoot_phase (now : Nat) (b : Boot) : (readyBoot now b).phase = .ready := rfl

/-- The records and the settings, where every present stand is placed. -/
theorem selftestDone_ready {fails : BitVec 16} {pat : PatternStart} {s : State} (hphase : s.boot.phase = .selftest)
    (hwrites : pat.writes = []) (hplaced : (grainTest fails (underTestOf s)).2 = true) :
    ReadyPorts (readyBoot s.time.now s.boot) fails (grainTest fails (underTestOf s)).1.pattern (selftestDone fails pat s)
      ∧ (selftestDone fails pat s).sap.record = [] := by
  obtain ⟨hboot, htime, hfails, -⟩ := grainTest_keeps (underTestOf s) fails
  obtain ⟨hboot', htime', -⟩ := underTestOf_keeps s
  have h := reachReady_ready hwrites (slotPattern s s.boot.slot) (grainTest fails (underTestOf s)).1
  rw [hboot, hboot', htime, htime', hfails] at h
  rw [selftestDone_eq fails pat hphase, if_pos hplaced]
  exact ⟨h, reachReady_record _ _ _⟩

theorem underTest_portMask (fails : BitVec 16) (s : State) :
    (grainTest fails (underTestOf s)).1.pattern.portMask = patPortMask (slotPattern s s.boot.slot) := by
  obtain ⟨-, -, -, hmask⟩ := grainTest_keeps (underTestOf s) fails
  obtain ⟨-, -, hpattern⟩ := underTestOf_keeps s
  obtain ⟨hidentity, -⟩ := loadIdentity_pattern s (slotPattern s s.boot.slot)
  rw [hmask, hpattern, hidentity]

theorem underTest_relocations (s : State) :
    (grainTest 0 (underTestOf s)).1.pattern.relocations = s.pattern.relocations := by
  obtain ⟨-, -, hpattern⟩ := underTestOf_keeps s
  obtain ⟨-, hkept⟩ := loadIdentity_pattern s (slotPattern s s.boot.slot)
  rw [grainTest_none, hpattern, hkept]

/-- What Limp finds, where a stand that all ports share has no spare. -/
theorem selftestDone_limp {fails : BitVec 16} {pat : PatternStart} {s : State} (hphase : s.boot.phase = .selftest)
    (hfault : (grainTest fails (underTestOf s)).2 = false) :
    (∃ now, (selftestDone fails pat s).boot = limpBoot now s.boot) ∧ (selftestDone fails pat s).grain.fault = fails
      ∧ (selftestDone fails pat s).pattern.reasonSecond = 0x0F ∧ (selftestDone fails pat s).strap.codeRunning = false := by
  obtain ⟨hboot, -⟩ := grainTest_keeps (underTestOf s) fails
  obtain ⟨hboot', -⟩ := underTestOf_keeps s
  rw [selftestDone_eq fails pat hphase, if_neg (by rw [hfault]; decide), limpEnter_boot, limpEnter_grain, limpEnter_pattern,
    limpEnter_codeRunning]
  generalize (grainTest fails (underTestOf s)).1 = x at hboot
  exact ⟨⟨x.time.now, congrArg (limpBoot x.time.now) (hboot.trans hboot')⟩, rfl, rfl, rfl⟩

/-- Settles O8: ready where every stand is placed, no relocation where none fails, and Limp where a shared stand has no
spare. -/
theorem grainReady : Obligations.GrainReady := by
  have hexec : ∀ fails pat s, exec (.grainSelftestDone fails pat) s = .next (finish s (selftestDone fails pat s)) :=
    fun _ _ _ => rfl
  refine ⟨fun fails pat s hphase hwrites hplaced => ?_, fun pat s hphase hwrites => ?_, fun fails pat s hphase hfault => ?_⟩
  · have hclosed : isOpen s = false := by simp [isOpen, hphase]
    have hmask := underTest_portMask fails s
    obtain ⟨h, hrecord⟩ := selftestDone_ready (pat := pat) hphase hwrites hplaced
    refine ⟨_, hexec fails pat s, ?_⟩
    rw [finish_boot, finish_irqStat_closed hclosed, finish_wdb, finish_grain, finish_pattern, finish_sap]
    generalize selftestDone fails pat s = t at h hrecord
    rw [h.boot, h.pattern, hrecord, h.bootMode, h.fault, h.irq, hmask]
    refine ⟨rfl, rfl, rfl, rfl, rfl, rfl, rfl, rfl, rfl, rfl, fun p hp => ?_⟩
    obtain ⟨hloop, hcinch, hi2t, hpd, htime0⟩ : _ ∧ _ ∧ _ ∧ _ ∧ _ := by
      simpa only [portSettings, defaultSettings, Prod.mk.injEq] using h.settings p (by rw [hmask, hp])
    rw [finish_portMetro, finish_portCinch, finish_portCc]
    exact ⟨hloop, hcinch, hi2t, (finish_port_pd_cfg s t p).trans hpd, htime0⟩
  · have hplaced : (grainTest 0 (underTestOf s)).2 = true := by rw [grainTest_none]
    obtain ⟨h, -⟩ := selftestDone_ready (pat := pat) hphase hwrites hplaced
    refine ⟨_, hexec 0 pat s, ?_⟩
    rw [finish_boot, finish_pattern, h.boot, h.pattern, underTest_relocations]
    exact ⟨readyBoot_phase _ _, rfl⟩
  · obtain ⟨⟨now, hboot⟩, hfails, hreason, hcode⟩ := selftestDone_limp (pat := pat) hphase hfault
    refine ⟨_, hexec fails pat s, ?_⟩
    rw [finish_boot, finish_grain, finish_pattern, finish_strap, hboot]
    exact ⟨rfl, rfl, rfl, hfails, hreason, hcode⟩

end Sys2Proof.Machine
end

section
/-! PROOFS. What leaves Heartwood as it is: every operation that neither burns, nor selects a shadow, nor resets, keeps
the whole of its state. -/

namespace Sys2Proof.Machine
section
variable (s : State) (p : Fin 8)

theorem ite_heart_of {c : Prop} [Decidable c] {a b : State} {h : Heart} (ha : a.heart = h) (hb : b.heart = h) :
    (if c then a else b).heart = h := by
  split
  · exact ha
  · exact hb

/-- A case of a step that answers too: Heartwood is as it was where that of the case is. -/
theorem heart_of_pair {α : Type} {y : State × α} {a : State} {b : α} {h : Heart} (hy : (a, b) = y)
    (ha : a.heart = h) : y.1.heart = h := by
  subst hy
  exact ha

theorem heart_of_ite_pair {α : Type} {y a b : State × α} {c : Prop} [Decidable c] {h : Heart}
    (hy : (if c then a else b) = y) (ha : a = y → y.1.heart = h) (hb : b = y → y.1.heart = h) : y.1.heart = h := by
  by_cases hc : c
  · exact ha ((if_pos hc).symm.trans hy)
  · exact hb ((if_neg hc).symm.trans hy)

@[simp] theorem ite_heart {c : Prop} [Decidable c] (a b : State) :
    (if c then a else b).heart = if c then a.heart else b.heart :=
  apply_ite State.heart c a b

@[simp] theorem foldl_heart {α : Type} {f : State → α → State} (hf : ∀ x a, (f x a).heart = x.heart)
    (l : List α) : (l.foldl f s).heart = s.heart :=
  List.foldlRecOn (motive := fun x : State => x.heart = s.heart) l f rfl fun x hx a _ => (hf x a).trans hx


/-! ### Events and the Ring -/

@[simp] theorem emitIf_heart (c : Bool) (e : Event) : (emitIf c e s).heart = s.heart := by simp [emitIf]
@[simp] theorem park_heart (e : Event) : (park e s).heart = s.heart := by
  unfold park
  (repeat' split) <;> simp
@[simp] theorem emitSap_heart (e : Event) : (emitSap e s).heart = s.heart := by simp [emitSap]
@[simp] theorem dropOverwritten_heart : (dropOverwritten s).heart = s.heart := by simp [dropOverwritten]

/-! ### Shared operations -/

@[simp] theorem onPorts_heart {f : Fin 8 → State → State} (hf : ∀ q x, (f q x).heart = x.heart)
    (ps : List (Fin 8)) : (onPorts ps f s).heart = s.heart :=
  onPorts_keeps (P := fun x => x.heart = s.heart) (fun q x hx => (hf q x).trans hx) ps rfl
@[simp] theorem jobOk_heart : (jobOk s).heart = s.heart := by simp [jobOk]
@[simp] theorem jobFail_heart (detail : Nat) : (jobFail detail s).heart = s.heart := by simp [jobFail]
@[simp] theorem rootEv_heart (e : Event) : (rootEv e s).heart = s.heart := by simp [rootEv]
@[simp] theorem rootEvents_heart : (rootEvents s).heart = s.heart := by simp [rootEvents]
@[simp] theorem present_heart (t : CcTerm) : (present p t s).heart = s.heart := (present_work _ _ _).heart
@[simp] theorem pdSendOn_heart (on : Sop) (m : PdMsg) : (pdSendOn p on m s).heart = s.heart :=
  (pdSendOn_work _ _ _ _).heart
@[simp] theorem pdSend_heart (m : PdMsg) : (pdSend p m s).heart = s.heart := by simp [pdSend]
@[simp] theorem amsStart_heart (k : Byte) : (amsStart p k s).heart = s.heart := (amsStart_work _ _ _).heart
@[simp] theorem amsEnd_heart : (amsEnd p s).heart = s.heart := by simp [amsEnd]
@[simp] theorem amsSend_heart (k : Byte) (m : PdMsg) : (amsSend p k m s).heart = s.heart := by simp [amsSend]

/-! ### The flash port and the journal -/

@[simp] theorem flashNext_heart : (flashNext s).heart = s.heart := by simp [flashNext]
@[simp] theorem flashFailed_heart (op addr : Nat) : (flashFailed op addr s).heart = s.heart := by simp [flashFailed]
@[simp] theorem flashGood_heart : (flashGood s).heart = s.heart := by rfl
@[simp] theorem flashProgram_heart (addr : Nat) (bs : List Byte) : (flashProgram addr bs s).heart = s.heart := by rfl
@[simp] theorem flashEraseRange_heart (addr n : Nat) : (flashEraseRange addr n s).heart = s.heart := by rfl
@[simp] theorem journalFound_heart : (journalFound s).heart = s.heart := by
  unfold journalFound
  (repeat' split) <;> simp
@[simp] theorem journalWritten_heart : (journalWritten s).heart = s.heart := by
  unfold journalWritten
  dsimp only
  split <;> simp
@[simp] theorem journalFailed_heart (markOk : Bool) : (journalFailed markOk s).heart = s.heart := by
  simp [journalFailed]
@[simp] theorem advanceTime_heart (us : Nat) : (advanceTime us s).heart = s.heart := by
  simp [advanceTime, uptimeStep, stampStep]

/-! ### The Pocket -/

@[simp] theorem eraseItem_heart (i : Fin 20) : (eraseItem i s).heart = s.heart := (eraseItem_work _ _).heart
@[simp] theorem placeItem_heart (i : Fin 20) (k : Fin 16) (v : BitVec 256) : (placeItem i k v s).heart = s.heart :=
  by rfl
@[simp] theorem unwant_heart : (unwant p s).heart = s.heart := by rfl
@[simp] theorem unwantAll_heart : (unwantAll p s).heart = s.heart := by rfl
@[simp] theorem authClear_heart (st : AuthState) : (authClear st p s).heart = s.heart := (authClear_work _ _ _).heart
@[simp] theorem authEnd_heart : (authEnd p s).heart = s.heart := (authEnd_work _ _).heart
@[simp] theorem authStop_heart (st : AuthState) (reason : BitVec 4) : (authStop st reason p s).heart = s.heart := by
  simp [authStop]
@[simp] theorem deriveSlots_heart : (deriveSlots s).heart = s.heart := by
  unfold deriveSlots
  dsimp only
  (repeat' split) <;> simp
@[simp] theorem workDone_heart : (workDone s).heart = s.heart := by rfl
@[simp] theorem signedFail_heart (inner rsp : Nat) : (signedFail inner rsp s).heart = s.heart := by simp [signedFail]
@[simp] theorem graftResult_heart (code : Nat) : (graftResult code s).heart = s.heart := by rfl
@[simp] theorem graftVerifyFail_heart (code : Nat) : (graftVerifyFail code s).heart = s.heart := by
  simp [graftVerifyFail]
@[simp] theorem ownerFail_heart (u : AwlUse) : (ownerFail u s).heart = s.heart := by
  cases u with
  | pocket i v => exact jobFail_heart s 3
  | signed => exact (workDone_heart _).trans (signedFail_heart _ _ _)
  | graftVerify => exact (workDone_heart _).trans ((jobFail_heart _ _).trans (graftVerifyFail_heart _ _))
  | _ => rfl
@[simp] theorem awlJoin_heart (u : AwlUnit) : (awlJoin u s).heart = s.heart := by
  unfold awlJoin
  split <;> simp
@[simp] theorem awlQueue_heart (use : AwlUse) (needs output : Option (Fin 20)) :
    (awlQueue use needs output s).heart = s.heart := by simp [awlQueue]
@[simp] theorem awlNext_heart (use : AwlUse) : (awlNext use s).heart = s.heart := by
  unfold awlNext
  (repeat' split) <;> simp
@[simp] theorem headItem_heart (u : AwlUnit) (busy : Bool) : (headItem u busy s).heart = s.heart := by
  unfold headItem
  dsimp only
  (repeat' split) <;> simp
@[simp] theorem holderFail_heart (st : AuthState) (u : AwlUnit) : (holderFail st u s).heart = s.heart := by
  unfold holderFail
  (repeat' split) <;> simp
@[simp] theorem headFail_heart (st : AuthState) : (headFail st s).heart = s.heart := by
  unfold headFail
  split <;> simp
@[simp] theorem pocketClear_heart : (pocketClear s).heart = s.heart := by simp [pocketClear, awlZeroized]
@[simp] theorem zeroize_heart (cause : Nat) : (zeroize cause s).heart = s.heart := by simp [zeroize]

/-! ### Bark -/

@[simp] theorem classAction_heart (c : Nat) {k1 : State → State} (hk : ∀ x, (k1 x).heart = x.heart) :
    (classAction c k1 s).heart = s.heart := by
  unfold classAction
  split <;> simp [hk]
@[simp] theorem logAlarm_heart (b : Fin 7) : (logAlarm b s).heart = s.heart := by simp [logAlarm]
@[simp] theorem raiseAlarms_heart (bs : List (Fin 7)) : (raiseAlarms bs s).heart = s.heart := by
  unfold raiseAlarms
  split <;> simp [eraseSpares]
@[simp] theorem activeSet_heart (bs : List (Fin 7)) : (activeSet bs s).heart = s.heart := by simp [activeSet]
@[simp] theorem senseRise_heart (bs : List (Fin 7)) : (senseRise bs s).heart = s.heart := by simp [senseRise]
@[simp] theorem barkSample_heart (b : BarkIn) : (barkSample b s).heart = s.heart := by
  simp [barkSample, sampleClear, testsRecord]
@[simp] theorem bkRaise_heart (v : Word) : (bkRaise v s).heart = s.heart := by simp [bkRaise]
@[simp] theorem sensorEnWrite_heart (v : Word) : (sensorEnWrite v s).heart = s.heart := by simp [sensorEnWrite]

/-! ### The Tack and the Satchel -/

@[simp] theorem countDenial_heart (cls : Fin 8) (a : Access) (rule : Nat) :
    (countDenial cls a rule s).heart = s.heart := by simp [countDenial]
@[simp] theorem tackCheck_heart (who : Requester) (accs : List (List Access)) :
    (tackCheck who accs s).1.heart = s.heart := by
  unfold tackCheck
  split
  · rfl
  next cls _ =>
    refine List.foldlRecOn (motive := fun r : State × Option Nat × Nat => r.1.heart = s.heart) accs (tackStep cls) rfl
      fun r hr u _ => ?_
    unfold tackStep
    split <;> simp [hr]
@[simp] theorem allowed_heart (who : Requester) (units : List Access) : (allowed who units s).1.heart = s.heart := by
  simp [allowed]
@[simp] theorem tkCommit_heart (who : Requester) (next : Half) : (tkCommit who next s).heart = s.heart := by
  unfold tkCommit
  split <;> simp
@[simp] theorem tackActivate_heart : (tackActivate s).heart = s.heart := by
  unfold tackActivate
  split <;> simp
@[simp] theorem epochSatClear_heart : (epochSatClear s).heart = s.heart := by simp [epochSatClear]
@[simp] theorem satWinWrite_heart (k : Fin 8) (isB : Bool) (v : Word) : (satWinWrite k isB v s).heart = s.heart := by
  simp [satWinWrite]
@[simp] theorem disturb_heart (line : Nat) (found : Option (BitVec 256)) :
    (disturb line found s).heart = s.heart := by
  unfold disturb
  split <;> simp
@[simp] theorem satStore_heart (addr : Nat) (bs : List Byte) : (satStore addr bs s).heart = s.heart := by rfl
@[simp] theorem satAnswer_heart (data : List Byte) (err : Bool) : (satAnswer data err s).heart = s.heart := by rfl
@[simp] theorem bufferStore_heart (i : Fin 20) (bs : List Byte) : (bufferStore i bs s).heart = s.heart := by rfl
@[simp] theorem loseBuffered_heart (line : Nat) : (loseBuffered line s).heart = s.heart := by
  unfold loseBuffered
  split <;> simp
@[simp] theorem poisonLine_heart (who : Requester) (w : Fin 8) (line kind : Nat) :
    (poisonLine who w line kind s).heart = s.heart := by simp [poisonLine, integrityAlarm, eraseHolder]
@[simp] theorem poisonError_heart (who : Requester) (line : Nat) : (poisonError who line s).heart = s.heart := by
  unfold poisonError
  (repeat' split) <;> simp
@[simp] theorem satRead_heart (who : Requester) (line : Nat) (found : Option (BitVec 256)) :
    (satRead who line found s).heart = s.heart := by
  unfold satRead
  dsimp only
  (repeat' split) <;> simp
@[simp] theorem satPartial_heart (who : Requester) (addr : Nat) (bytes : List Byte) (found : Option (BitVec 256)) :
    (satPartial who addr bytes found s).heart = s.heart := by
  unfold satPartial
  dsimp only
  (repeat' split) <;> simp
@[simp] theorem satLine_heart (who : Requester) (line : Nat) (bytes : List Byte) :
    (satLine who line bytes s).heart = s.heart := by simp [satLine]

/-! ### The Sap domain -/

@[simp] theorem sapStart_heart : (sapStart s).heart = s.heart := by simp [sapStart]
@[simp] theorem sapStop_heart : (sapStop s).heart = s.heart := by simp [sapStop]
@[simp] theorem sapWake_heart (src : Nat) : (sapWake src s).heart = s.heart := by simp [sapWake]
@[simp] theorem keepAlive_heart : (keepAlive s).heart = s.heart := by rfl
@[simp] theorem levelEvent_heart (up : Bool) (lvl : Nat) : (levelEvent up lvl s).heart = s.heart := by
  simp [levelEvent]
@[simp] theorem freezeLevel_heart : (freezeLevel s).heart = s.heart := by simp [freezeLevel]
@[simp] theorem reserveLost_heart (rsvMv : Nat) : (reserveLost rsvMv s).heart = s.heart := by simp [reserveLost]
@[simp] theorem reserveReturned_heart (bridgeMs : Nat) : (reserveReturned bridgeMs s).heart = s.heart := by
  simp [reserveReturned]
@[simp] theorem bridgeZeroize_heart (bridgeMs : Nat) : (bridgeZeroize bridgeMs s).heart = s.heart := by
  simp [bridgeZeroize]
@[simp] theorem clockStep_heart (n : Nat) : (clockStep n s).heart = s.heart := by simp [clockStep]
@[simp] theorem levelStep_heart : (levelStep s).heart = s.heart := by simp [levelStep, dryEntry, dryLeave]
@[simp] theorem gaugeSample_heart (g : GaugeIn) : (gaugeSample g s).heart = s.heart := by
  simp [gaugeSample, einStep, gaugeMeasure, coldStart]
@[simp] theorem thresholdWrite_heart (which : Fin 4) (v : Word) : (thresholdWrite which v s).heart = s.heart := by
  simp [thresholdWrite]

/-! ### Comparators and pulse generators -/

@[simp] theorem countNow_heart (n : Fin 8) : (countNow n s).2.heart = s.heart := by
  simp [countNow, apply_ite Prod.snd]
@[simp] theorem captureAt_heart (code : Nat) (v : Half) (n : Fin 8) : (captureAt code v n s).heart = s.heart := by
  simp [captureAt]
@[simp] theorem capture_heart (code : Nat) (n : Fin 8) : (capture code n s).heart = s.heart := by simp [capture]
@[simp] theorem captureAll_heart (code : Nat) : (captureAll code s).heart = s.heart := by simp [captureAll]
@[simp] theorem pgStop_heart (n : Fin 8) : (pgStop n s).heart = s.heart := (pgStop_work _ _).heart
@[simp] theorem pgTrip_heart (n : Fin 8) : (pgTrip n s).heart = s.heart := by simp [pgTrip]
@[simp] theorem pgTripsNew_heart (was : Fin 8 → Bool) : (pgTripsNew was s).heart = s.heart := by simp [pgTripsNew]
@[simp] theorem cmpReport_heart (n : Fin 8) : (cmpReport n s).heart = s.heart := (cmpReport_work _ _).heart
@[simp] theorem cmpLevel_heart (n : Fin 8) : (cmpLevel n s).heart = s.heart := by
  simp [cmpLevel, cmpLatchSet, cmpWake]
@[simp] theorem cmpDeferred_heart : (cmpDeferred s).heart = s.heart := (cmpDeferred_work _).heart
@[simp] theorem pgBegin_heart (n : Fin 8) : (pgBegin n s).heart = s.heart := by simp [pgBegin, cmpPeriod]
@[simp] theorem pgRunWrite_heart (n : Fin 8) : (pgRunWrite n s).heart = s.heart := by
  unfold pgRunWrite
  dsimp only
  (repeat' split) <;> simp
@[simp] theorem pgCtlWrite_heart (n : Fin 8) (v : Word) : (pgCtlWrite n v s).heart = s.heart := by simp [pgCtlWrite]
@[simp] theorem pgPeriodEnd_heart (n : Fin 8) : (pgPeriodEnd n s).heart = s.heart := by
  unfold pgPeriodEnd
  dsimp only
  (repeat' split) <;> simp
@[simp] theorem pgWidthEnd_heart (n : Fin 8) : (pgWidthEnd n s).heart = s.heart := by simp [pgWidthEnd]
@[simp] theorem pgDisown_heart (n : Fin 8) : (pgDisown n s).heart = s.heart := (pgDisown_work _ _).heart
@[simp] theorem pgCfgWrite_heart (n : Fin 8) (v : Word) : (pgCfgWrite n v s).heart = s.heart :=
  (pgCfgWrite_work _ _ _).heart
@[simp] theorem pgTimeWrite_heart (n : Fin 8) (v : Word) : (pgTimeWrite n v s).heart = s.heart := by rfl
@[simp] theorem cmpRaw_heart (n : Fin 8) (raw : Bool) : (cmpRaw n raw s).heart = s.heart := by simp [cmpRaw]
@[simp] theorem cmpTestWrite_heart (v : Word) : (cmpTestWrite v s).heart = s.heart := by
  simp [cmpTestWrite, cmpTestStart]
@[simp] theorem pgStatRead_heart (n : Fin 8) : (pgStatRead n s).2.heart = s.heart := by simp [pgStatRead]
@[simp] theorem capRead_heart (n : Fin 8) (second : Bool) : (capRead n second s).2.heart = s.heart := by
  simp [capRead, apply_ite Prod.snd]
@[simp] theorem pgUnset_heart (n : Fin 8) : (pgUnset n s).heart = s.heart := (pgUnset_work _ _).heart
@[simp] theorem pgSettle_heart (n : Fin 8) : (pgSettle n s).heart = s.heart := (pgSettle_work _ _).heart

/-! ### Ports -/

@[simp] theorem evp_heart (code sev : Nat) (data : List Byte) : (evp p code sev data s).heart = s.heart :=
  (evp_work _ _ _ _ _).heart
@[simp] theorem vconnOff_heart : (vconnOff p s).heart = s.heart := (vconnOff_work _ _).heart
@[simp] theorem vconnTurnOn_heart : (vconnTurnOn p s).heart = s.heart := by rfl
@[simp] theorem debReport_heart (t : DebTimer) (extMs : Nat) : (debReport p t extMs s).heart = s.heart :=
  (debReport_work _ _ _ _).heart
@[simp] theorem debounceDrop_heart : (debounceDrop p s).heart = s.heart := (debounceDrop_work _ _).heart
@[simp] theorem setCcState_heart (st : CcState) : (setCcState p st s).heart = s.heart := (setCcState_work _ _ _).heart
@[simp] theorem ccEvaluate_heart : (ccEvaluate p s).heart = s.heart := (ccEvaluate_work _ _).heart
@[simp] theorem gatesLow_heart : (gatesLow p s).heart = s.heart := (gatesLow_work _ _).heart
@[simp] theorem dischargeOn_heart : (dischargeOn p s).heart = s.heart := (dischargeOn_work _ _).heart
@[simp] theorem gatesOff_heart : (gatesOff p s).heart = s.heart := (gatesOff_work _ _).heart
@[simp] theorem gatesDark_heart : (gatesDark p s).heart = s.heart := (gatesDark_work _ _).heart
@[simp] theorem setTarget_heart (mv : Nat) : (setTarget p mv s).heart = s.heart := (setTarget_work _ _ _).heart
@[simp] theorem contractOver_heart : (contractOver p s).heart = s.heart := (contractOver_work _ _).heart
@[simp] theorem setCode_heart (v : Int) : (setCode p v s).heart = s.heart := (setCode_work _ _ _).heart
@[simp] theorem gcutOpen_heart (g : Fin 2) (cause : Nat) : (gcutOpen g cause s).heart = s.heart :=
  (gcutOpen_work _ _ _).heart
@[simp] theorem gcutClose_heart (g : Fin 2) : (gcutClose g s).heart = s.heart := by simp [gcutClose]
@[simp] theorem backfeedEnd_heart (cause : Nat) : (backfeedEnd p cause s).heart = s.heart :=
  (backfeedEnd_work _ _ _).heart
@[simp] theorem portLeave_heart (cause : Nat) : (portLeave p cause s).heart = s.heart := (portLeave_work _ _ _).heart
@[simp] theorem groupAfterBackfeed_heart (g : Fin 2) : (groupAfterBackfeed g s).heart = s.heart :=
  (groupAfterBackfeed_work _ _).heart
@[simp] theorem takeOut_heart : (takeOut p s).heart = s.heart := (takeOut_work _ _).heart
@[simp] theorem enterUnattached_heart (how : UnattachedAs) : (enterUnattached p how s).heart = s.heart :=
  (enterUnattached_work _ _ _).heart
@[simp] theorem goUnattachedAs_heart (how : UnattachedAs) : (goUnattachedAs p how s).heart = s.heart :=
  (goUnattachedAs_work _ _ _).heart
@[simp] theorem goUnattached_heart : (goUnattached p s).heart = s.heart := (goUnattached_work _ _).heart
@[simp] theorem detach_heart : (detach p s).heart = s.heart := (detach_work _ _).heart
@[simp] theorem errorRecovery_heart : (errorRecovery p s).heart = s.heart := (errorRecovery_work _ _).heart
@[simp] theorem tripCount_heart (code : Nat) : (tripCount p code s).heart = s.heart := by simp [tripCount]
@[simp] theorem afterTrip_heart (code : Nat) : (afterTrip p code s).heart = s.heart := by simp [afterTrip]
@[simp] theorem inrushFail_heart (vbusMv : Nat) : (inrushFail p vbusMv s).heart = s.heart := by simp [inrushFail]
@[simp] theorem turnOn_heart : (turnOn p s).heart = s.heart := by simp [turnOn, pgOwn]
@[simp] theorem setStep_heart (st : PdStep) : (setStep p st s).heart = s.heart := (setStep_work _ _ _).heart
@[simp] theorem hushAmsEnd_heart : (hushAmsEnd p s).heart = s.heart := by simp [hushAmsEnd]
@[simp] theorem hushEnd_heart : (hushEnd p s).heart = s.heart := by
  unfold hushEnd
  split <;> simp
@[simp] theorem sendOffer_heart (own : Bool) (pdos : List Word) : (sendOffer p own pdos s).heart = s.heart :=
  (sendOffer_work _ _ _ _).heart
@[simp] theorem sendCapsAs_heart (own : Bool) : (sendCapsAs p own s).heart = s.heart := by simp [sendCapsAs]
@[simp] theorem sendCaps_heart : (sendCaps p s).heart = s.heart := (sendCaps_work _ _).heart
@[simp] theorem startSource_heart : (startSource p s).heart = s.heart := (startSource_work _ _).heart
@[simp] theorem inrushEnd_heart : (inrushEnd p s).heart = s.heart := by simp [inrushEnd]
@[simp] theorem authDrop_heart : (authDrop p s).heart = s.heart := (authDrop_work _ _).heart
@[simp] theorem authAbandon_heart : (authAbandon p s).heart = s.heart := by simp [authAbandon]
@[simp] theorem softResetWith_heart {give : Fin 8 → State → State} (hgive : ∀ q x, (give q x).heart = x.heart)
    (sent : Bool) : (softResetWith give p sent s).heart = s.heart := by
  simp [softResetWith, hgive]
@[simp] theorem softReset_heart (sent : Bool) : (softReset p sent s).heart = s.heart := by simp [softReset]
@[simp] theorem hardReset_heart (sent : Bool) (cause : Nat) : (hardReset p sent cause s).heart = s.heart := by
  simp [hardReset]
@[simp] theorem answerA1_heart (m : Option PdMsg) : (answerA1 p m s).heart = s.heart := by
  unfold answerA1
  split <;> simp
@[simp] theorem answerA2_heart (k : Nat) (m : Option PdMsg) : (answerA2 p k m s).heart = s.heart := by
  rcases m with - | m
  · exact answerA1_heart s p none
  · cases m with
    | request _ | eprRequest _ _ | prSwap | drSwap | vconnSwap | frSwap | eprModeEnter => exact pdSend_heart s p _
    | _ => exact answerA1_heart s p _
@[simp] theorem violate_heart (k : Fin 24) (on : Sop) (m : Option PdMsg) : (violate p k on m s).heart = s.heart := by
  unfold violate
  dsimp only
  split <;> simp
@[simp] theorem unexpected_heart (on : Sop) (m : PdMsg) : (unexpected p on m s).heart = s.heart := by
  simp [unexpected]

/-! ### The Awl -/

@[simp] theorem sectorClear_heart (k : Nat) : (sectorClear k s).heart = s.heart := by simp [sectorClear]
@[simp] theorem pressAllowed_heart (i : Fin 20) : (pressAllowed i s).1.heart = s.heart := by simp [pressAllowed]

theorem pressRecord_heart {i : Fin 20} {v : BitVec 256} {s t : State} (h : pressRecord i v s = some t) :
    t.heart = s.heart := by
  unfold pressRecord at h
  split at h
  · cases h
  · split at h
    · cases h
    · cases h
      simp
@[simp] theorem wcSaturate_heart : (wcSaturate s).heart = s.heart := by simp [wcSaturate]
@[simp] theorem vacate_heart (i : Fin 20) : (vacate i s).heart = s.heart := by
  unfold vacate
  split <;> simp

theorem pressOut_heart {i : Fin 20} {s t : State} (h : pressOut i s = some t) : t.heart = s.heart := by
  obtain ⟨x, hx, rfl⟩ := Option.map_eq_some_iff.mp h
  simpa using pressRecord_heart hx
@[simp] theorem takeSlot_heart (keep : List (Fin 20)) : (takeSlot keep s).1.heart = s.heart := by
  unfold takeSlot
  dsimp only
  split
  · rfl
  · split
    · split
      · simp
      · split
        · simp
        · split
          next h => simpa using pressOut_heart h
          next => split <;> simp
    · split <;> simp
@[simp] theorem pocketShort_heart (i : Fin 20) (cause : Nat) : (pocketShort i cause s).heart = s.heart := by
  simp [pocketShort]
@[simp] theorem unauthenticated_heart : (unauthenticated p s).heart = s.heart := by rfl
@[simp] theorem authAsk_heart (kind : Fin 3) (offset len : Nat) : (authAsk p kind offset len s).heart = s.heart := by
  simp [authAsk]
@[simp] theorem authBegin_heart : (authBegin p s).heart = s.heart := by simp [authBegin, authLease]
@[simp] theorem authFail_heart (reason : BitVec 4) : (authFail p reason s).heart = s.heart := by simp [authFail]
@[simp] theorem authResponse_heart (phase : Fin 3) (data : List Byte) (certs largest : Nat) (last : Bool) :
    (authResponse p phase data certs largest last s).heart = s.heart := by
  unfold authResponse
  dsimp only
  split <;> simp
@[simp] theorem authAnswer_heart (kind : Fin 3) (offset len : Nat) (digest : List Byte) :
    (authAnswer p kind offset len digest s).heart = s.heart := by
  unfold authAnswer
  (repeat' split) <;> simp
@[simp] theorem unitFail_heart (u : AwlUnit) (f : UnitFault) : (unitFail u f s).heart = s.heart := by
  unfold unitFail
  (repeat' split) <;> simp
@[simp] theorem unpressAllowed_heart (i : Fin 20) : (unpressAllowed i s).1.heart = s.heart := by simp [unpressAllowed]
@[simp] theorem recordBad_heart (i : Fin 20) : (recordBad i s).heart = s.heart := by simp [recordBad]
@[simp] theorem bringIn_heart (u : AwlUnit) (i : Fin 20) : (bringIn u i s).1.heart = s.heart := by
  unfold bringIn
  dsimp only
  (repeat' split) <;> simp
@[simp] theorem readStart_heart (u : AwlUnit) : (readStart u s).heart = s.heart := by
  unfold readStart
  split <;> simp
@[simp] theorem unitStart_heart : (unitStart s).heart = s.heart := by
  unfold unitStart
  split
  · simp only []
    (repeat' split) <;> simp
  · rfl
@[simp] theorem placeSession_heart : (placeSession p s).heart = s.heart := by
  unfold placeSession
  dsimp only
  split <;> simp
@[simp] theorem unitResult_heart (u : AwlUnit) (ok : Bool) : (unitResult u ok s).heart = s.heart := by
  unfold unitResult
  split <;> simp [authOk]
@[simp] theorem unitServed_heart (ok : Bool) : (unitServed ok s).heart = s.heart := by simp [unitServed]
@[simp] theorem unitDone_heart (ok : Bool) (us : Nat) : (unitDone ok us s).heart = s.heart := by
  unfold unitDone
  (repeat' split) <;> simp
@[simp] theorem rngFail_heart (test : Byte) : (rngFail test s).heart = s.heart := by simp [rngFail]
@[simp] theorem recordReadDone_heart : (recordReadDone s).heart = s.heart := by
  unfold recordReadDone
  split <;> simp
@[simp] theorem provisioned_heart (i : Fin 20) (v : BitVec 256) : (provisioned i v s).heart = s.heart := by
  unfold provisioned
  (repeat' split) <;> simp
@[simp] theorem recordGone_heart (i : Fin 20) : (recordGone i s).heart = s.heart := by simp [recordGone]
@[simp] theorem recordWriteDone_heart : (recordWriteDone s).heart = s.heart := by
  unfold recordWriteDone
  dsimp only
  (repeat' split) <;> simp
@[simp] theorem recordWriteFail_heart : (recordWriteFail s).heart = s.heart := by
  unfold recordWriteFail
  (repeat' split) <;> simp
@[simp] theorem recordReadFail_heart : (recordReadFail s).heart = s.heart := by
  unfold recordReadFail
  split <;> simp
@[simp] theorem wcSatWrite_heart : (wcSatWrite s).heart = s.heart := by simp [wcSatWrite]

/-! ### The burn queue -/

@[simp] theorem arbFailed_heart (v : Nat) : (arbFailed v s).heart = s.heart := by simp [arbFailed]

/-! ### PD engines -/

@[simp] theorem contractMade_heart : (contractMade p s).heart = s.heart := by simp [contractMade]
@[simp] theorem amsOver_heart : (amsOver p s).heart = s.heart := by simp [amsOver]
@[simp] theorem levelConfirmed_heart : (levelConfirmed p s).heart = s.heart := by simp [levelConfirmed]
@[simp] theorem moveLevel_heart : (moveLevel p s).heart = s.heart := by simp [moveLevel]
@[simp] theorem negotiationOver_heart : (negotiationOver p s).heart = s.heart := by simp [negotiationOver]
@[simp] theorem answerWait_heart (pol : PdPolicy) : (answerWait p pol s).heart = s.heart := by simp [answerWait]
@[simp] theorem onRequest_heart (m : PdMsg) (epr : Bool) (rdo : Word) (pol : PdPolicy) :
    (onRequest p m epr rdo pol s).heart = s.heart := by
  unfold onRequest
  dsimp only
  (repeat' split) <;> simp
@[simp] theorem roleSwapEvent_heart (kind : Nat) : (roleSwapEvent p kind s).heart = s.heart := by simp [roleSwapEvent]
@[simp] theorem onPrSwap_heart (m : PdMsg) (pol : PdPolicy) : (onPrSwap p m pol s).heart = s.heart := by
  unfold onPrSwap
  dsimp only
  (repeat' split) <;> simp
@[simp] theorem hushLeave_heart : (hushLeave p s).heart = s.heart := by simp [hushLeave]
@[simp] theorem drSwapped_heart : (drSwapped p s).heart = s.heart := by simp [drSwapped]
@[simp] theorem onDrSwap_heart (m : PdMsg) (pol : PdPolicy) : (onDrSwap p m pol s).heart = s.heart := by
  unfold onDrSwap
  dsimp only
  (repeat' split) <;> simp
@[simp] theorem onVconnSwap_heart (m : PdMsg) (pol : PdPolicy) : (onVconnSwap p m pol s).heart = s.heart := by
  unfold onVconnSwap
  dsimp only
  (repeat' split) <;> simp
@[simp] theorem eprLeave_heart : (eprLeave p s).heart = s.heart := by simp [eprLeave]
@[simp] theorem onPsRdy_heart (m : PdMsg) : (onPsRdy p m s).heart = s.heart := by
  unfold onPsRdy
  split <;> simp [backfeedStart]
@[simp] theorem authAgain_heart (pol : PdPolicy) : (authAgain p pol s).heart = s.heart := by simp [authAgain]
@[simp] theorem onAccept_heart (m : PdMsg) (pol : PdPolicy) : (onAccept p m pol s).heart = s.heart := by
  unfold onAccept
  dsimp only
  split <;> simp
@[simp] theorem onTurnedDown_heart (m : PdMsg) : (onTurnedDown p m s).heart = s.heart := by
  unfold onTurnedDown
  split <;> simp
@[simp] theorem onGoodCrc_heart (ordered : Sop) : (onGoodCrc p ordered s).heart = s.heart := by
  unfold onGoodCrc
  dsimp only
  (repeat' split) <;> simp
@[simp] theorem onEprExit_heart (m : PdMsg) : (onEprExit p m s).heart = s.heart := by simp [onEprExit]
@[simp] theorem onCable_heart (ordered : Sop) (c : CableInfo) : (onCable p ordered c s).heart = s.heart := by
  simp [onCable]
@[simp] theorem onHushAck_heart (m : PdMsg) (header vdo : Word) : (onHushAck p m header vdo s).heart = s.heart := by
  simp [onHushAck]
@[simp] theorem hushRefuse_heart (c : HushRefusal) : (hushRefuse p c s).heart = s.heart := by simp [hushRefuse]
@[simp] theorem onSoftReset_heart (pol : PdPolicy) : (onSoftReset p pol s).heart = s.heart := by simp [onSoftReset]
@[simp] theorem onSinkCaps_heart (frs : BitVec 2) (pol : PdPolicy) : (onSinkCaps p frs pol s).heart = s.heart := by
  simp [onSinkCaps]
@[simp] theorem extAnswer_heart (m : PdMsg) : (extAnswer p m s).heart = s.heart := by simp [extAnswer]
@[simp] theorem vdmAnswer_heart (m : PdMsg) {f : State → State} (hf : ∀ x, (f x).heart = x.heart) :
    (vdmAnswer p m f s).heart = s.heart := by
  simp [vdmAnswer, hf]
@[simp] theorem bistCarrierStart_heart : (bistCarrierStart p s).heart = s.heart := by rfl
@[simp] theorem onMessage_heart (m : PdMsg) (pol : PdPolicy) : (onMessage p m pol s).heart = s.heart := by
  unfold onMessage
  split <;> simp [onSourceCaps, onFrSwap, onEprEnter]
@[simp] theorem messageOrWait_heart (m : PdMsg) (pol : PdPolicy) : (messageOrWait p m pol s).heart = s.heart := by
  simp [messageOrWait]
@[simp] theorem negotiationsResume_heart : (negotiationsResume s).heart = s.heart := by simp [negotiationsResume]
@[simp] theorem pdReceive_heart (k : RxPacket) : (pdReceive p k s).heart = s.heart := by
  unfold pdReceive
  (repeat' split) <;> simp
@[simp] theorem rxDeliver_heart : (rxDeliver p s).heart = s.heart := by
  unfold rxDeliver
  split <;> simp
@[simp] theorem pdTransmit_heart : (pdTransmit p s).heart = s.heart := by
  unfold pdTransmit
  (repeat' split) <;> simp
@[simp] theorem swapAsk_heart (k : Byte) (st : PdStep) (m : PdMsg) : (swapAsk p k st m s).heart = s.heart := by
  simp [swapAsk]
@[simp] theorem ownStart_heart (o : PdOwn) : (ownStart p o s).heart = s.heart := by
  unfold ownStart
  split <;> simp [vdmAsk]
@[simp] theorem hardResetLow_heart : (hardResetLow p s).heart = s.heart := by simp [hardResetLow]
@[simp] theorem hardResetRestore_heart : (hardResetRestore p s).heart = s.heart := by simp [hardResetRestore]

/-! ### Cinch -/

@[simp] theorem holdOver_heart : (holdOver p s).heart = s.heart := (holdOver_work _ _).heart
@[simp] theorem rootDark_heart : (rootDark p s).heart = s.heart := (rootDark_work _ _).heart
@[simp] theorem takeFallback_heart : (takeFallback p s).heart = s.heart := (takeFallback_work _ _).heart
@[simp] theorem rootTrip_heart (kind value : Nat) : (rootTrip p kind value s).heart = s.heart := by simp [rootTrip]
@[simp] theorem portTrip_heart (code value : Nat) {ev : State → State} (hev : ∀ x, (ev x).heart = x.heart) :
    (portTrip p code value ev s).heart = s.heart := by
  simp [portTrip, hev]
@[simp] theorem fastTripEvent_heart (code measured : Nat) : (fastTripEvent p code measured s).heart = s.heart := by
  simp [fastTripEvent]
@[simp] theorem fastTrip_heart (k : TripKind) (measured : Nat) : (fastTrip p k measured s).heart = s.heart := by
  simp [fastTrip]
@[simp] theorem stuckOn_heart (vbusMv : Nat) : (stuckOn p vbusMv s).heart = s.heart := (stuckOn_work _ _ _).heart
@[simp] theorem rearmDone_heart (g : Fin 2) : (rearmDone g s).heart = s.heart := (rearmDone_work _ _).heart
@[simp] theorem rearm_heart (g : Fin 2) : (rearm g s).heart = s.heart := (rearm_work _ _).heart
@[simp] theorem rearmDeferred_heart : (rearmDeferred s).heart = s.heart := (rearmDeferred_work _).heart
@[simp] theorem groupReady_heart (g : Fin 2) : (groupReady g s).heart = s.heart := (groupReady_work _ _).heart
@[simp] theorem prsDark_heart (vbusMv : Nat) : (prsDark p vbusMv s).heart = s.heart := by simp [prsDark]
@[simp] theorem dischargeEnd_heart (vbusMv : Nat) : (dischargeEnd p vbusMv s).heart = s.heart := by
  simp [dischargeEnd, rootStuck]
@[simp] theorem droopEntry_heart (vinMv : Nat) : (droopEntry p vinMv s).heart = s.heart :=
  (droopEntry_work _ _ _).heart
@[simp] theorem inputDroop_heart (vinMv droopUs : Nat) : (inputDroop p vinMv droopUs s).heart = s.heart := by
  simp [inputDroop, frsSignal, shed]
@[simp] theorem droopDeferred_heart : (droopDeferred s).heart = s.heart := (droopDeferred_work s).heart
@[simp] theorem complianceEnter_heart : (complianceEnter p s).heart = s.heart := by simp [complianceEnter]
@[simp] theorem complianceExit_heart : (complianceExit p s).heart = s.heart := by simp [complianceExit]
@[simp] theorem unlatch_heart : (unlatch p s).heart = s.heart := by simp [unlatch]
@[simp] theorem forceOff_heart (on : Bool) : (forceOff p on s).heart = s.heart := by simp [forceOff]
@[simp] theorem i2tCfgWrite_heart (v : Word) : (i2tCfgWrite p v s).heart = s.heart := by rfl
@[simp] theorem droopCfgWrite_heart (v : Word) : (droopCfgWrite p v s).heart = s.heart := by simp [droopCfgWrite]
@[simp] theorem vsetLimWrite_heart (v : Word) : (vsetLimWrite p v s).heart = s.heart := by rfl
@[simp] theorem cinchCountWrite_heart (v : Word) : (cinchCountWrite p v s).heart = s.heart := by
  simp [cinchCountWrite]

/-! ### Type-C -/

@[simp] theorem attachEvent_heart : (attachEvent p s).heart = s.heart := by simp [attachEvent]
@[simp] theorem attachSrc_heart : (attachSrc p s).heart = s.heart := by simp [attachSrc]
@[simp] theorem attachSnk_heart : (attachSnk p s).heart = s.heart := by simp [attachSnk]
@[simp] theorem debugEnter_heart (source : Bool) : (debugEnter p source s).heart = s.heart := by simp [debugEnter]
@[simp] theorem tryWaitAttach_heart : (tryWaitAttach p s).heart = s.heart := by simp [tryWaitAttach]
@[simp] theorem ccComplete_heart : (ccComplete p s).heart = s.heart := by
  unfold ccComplete
  dsimp only
  split <;> simp
@[simp] theorem pdComplete_heart : (pdComplete p s).heart = s.heart := by
  unfold pdComplete
  dsimp only
  split <;> simp
@[simp] theorem debComplete_heart (t : DebTimer) : (debComplete p t s).heart = s.heart := by
  unfold debComplete
  split <;> simp [tryComplete]
@[simp] theorem debExpire_heart (t : DebTimer) : (debExpire p t s).heart = s.heart := by
  unfold debExpire
  split <;> simp
@[simp] theorem debExtendedEnd_heart (t : DebTimer) : (debExtendedEnd p t s).heart = s.heart := by
  unfold debExtendedEnd
  dsimp only
  split <;> simp
@[simp] theorem drpToggle_heart : (drpToggle p s).heart = s.heart := by simp [drpToggle]
@[simp] theorem tryTimer_heart (t : TryTimer) : (tryTimer p t s).heart = s.heart := by
  unfold tryTimer
  split <;> simp
@[simp] theorem rootDetach_heart : (rootDetach p s).heart = s.heart := by simp [rootDetach]
@[simp] theorem vbusDisconnect_heart : (vbusDisconnect p s).heart = s.heart := by simp [vbusDisconnect]
@[simp] theorem recognition_heart (cc1 cc2 : CcSeen) : (recognition p cc1 cc2 s).heart = s.heart := by
  unfold recognition
  dsimp only
  exact ite_heart_of ((rootDetach_heart _ p).trans (modCc_heart s p _))
    (ite_heart_of ((ccEvaluate_heart _ p).trans rfl) rfl)
@[simp] theorem ccEvent_heart : (ccEvent p s).heart = s.heart := by
  unfold ccEvent
  split <;> simp
@[simp] theorem vconnOc_heart : (vconnOc p s).heart = s.heart := by simp [vconnOc]
@[simp] theorem ccOvp_heart (line : Bool) : (ccOvp p line s).heart = s.heart := by simp [ccOvp]
@[simp] theorem floodSet_heart (high : Bool) (inPacket : Option Nat) :
    (floodSet p high inPacket s).heart = s.heart := by simp [floodSet]
@[simp] theorem floodClear_heart (inPacket : Bool) : (floodClear p inPacket s).heart = s.heart := by simp [floodClear]
@[simp] theorem floodPacket_heart (high : Bool) (bit : Nat) : (floodPacket p high bit s).heart = s.heart := by
  simp [floodPacket, floodEntry]
@[simp] theorem packetForward_heart (pkt : BmcPacket) (flooded : Bool) :
    (packetForward p pkt flooded s).heart = s.heart := by simp [packetForward]
@[simp] theorem packetRx_heart (pkt : BmcPacket) : (packetRx p pkt s).heart = s.heart := by
  unfold packetRx
  dsimp only
  (repeat' split) <;> simp
@[simp] theorem hushSend_heart : (hushSend p s).heart = s.heart := by simp [hushSend]
@[simp] theorem hushCtlWrite_heart (v : Word) : (hushCtlWrite p v s).heart = s.heart := by simp [hushCtlWrite]
@[simp] theorem hushAuto_heart : (hushAuto p s).heart = s.heart := by simp [hushAuto]
@[simp] theorem ccAdopt_heart : (ccAdopt p s).heart = s.heart := (ccAdopt_work _ _).heart
@[simp] theorem ccCfgWrite_heart (v : Word) : (ccCfgWrite p v s).heart = s.heart := by simp [ccCfgWrite]
@[simp] theorem ccTimeWrite_heart (second : Bool) (v : Word) : (ccTimeWrite p second v s).heart = s.heart := by
  simp [ccTimeWrite]
@[simp] theorem ccRegWrite_heart (reg : Fin 3) (v : Word) : (ccRegWrite p reg v s).heart = s.heart := by
  unfold ccRegWrite
  split <;> simp
@[simp] theorem ccStatWrite_heart (v : Word) : (ccStatWrite p v s).heart = s.heart := by rfl
@[simp] theorem floodCfgWrite_heart (v : Word) : (floodCfgWrite p v s).heart = s.heart := by simp [floodCfgWrite]
@[simp] theorem ccCountWrite_heart (v : Word) : (ccCountWrite p v s).heart = s.heart := by simp [ccCountWrite]

/-! ### Metrology -/

@[simp] theorem takeReading_heart (r : Reading) : (takeReading p r s).heart = s.heart := by
  have hcurrent : ∀ m nv, (currentOf s m nv).2.heart = s.heart := fun m nv => by
    unfold currentOf
    dsimp only
    split <;> rfl
  simp [takeReading, hcurrent]
@[simp] theorem metroFault_heart (cause channel : Nat) : (metroFault p cause channel s).heart = s.heart := by
  simp [metroFault]
@[simp] theorem metroRecover_heart : (metroRecover p s).heart = s.heart := by simp [metroRecover]
@[simp] theorem calWindow_heart (volts : Bool) (w : CalWin) : (calWindow p volts w s).heart = s.heart := by
  simp [calWindow]
@[simp] theorem calWindows_heart (r : Reading) : (calWindows p r s).heart = s.heart := by
  unfold calWindows
  (repeat' split) <;> simp
@[simp] theorem energyStep_heart : (energyStep p s).heart = s.heart := by simp [energyStep]
@[simp] theorem clStep_heart : (clStep p s).heart = s.heart := by
  unfold clStep
  dsimp only
  (repeat' split) <;> simp
@[simp] theorem confirmStep_heart : (confirmStep p s).heart = s.heart := by simp [confirmStep]
@[simp] theorem inrushStep_heart : (inrushStep p s).heart = s.heart := by simp [inrushStep]
@[simp] theorem ceilingStep_heart : (ceilingStep p s).heart = s.heart := by simp [ceilingStep]
@[simp] theorem alarmStep_heart : (alarmStep p s).heart = s.heart := by simp [alarmStep]
@[simp] theorem i2tStep_heart : (i2tStep p s).heart = s.heart := by simp [i2tStep]
@[simp] theorem crownReading_heart : (crownReading p s).heart = s.heart := by
  simp [crownReading, retarget, loopStep, moveCode]
@[simp] theorem metroReading_heart (r : Reading) : (metroReading p r s).heart = s.heart := by
  unfold metroReading
  (repeat' split) <;> simp
@[simp] theorem refCheck_heart (dev : Int) : (refCheck dev s).heart = s.heart := by simp [refCheck]
@[simp] theorem loopCfgWrite_heart (v : Word) : (loopCfgWrite p v s).heart = s.heart := by rfl
@[simp] theorem shuntCfgWrite_heart (v : Word) : (shuntCfgWrite p v s).heart = s.heart := by rfl
@[simp] theorem mstatWrite_heart (v : Word) : (mstatWrite p v s).heart = s.heart := by simp [mstatWrite]

/-! ### Seam -/

@[simp] theorem seamCtl_heart (r : Requester) (alg : BitVec 2) (claim release : Bool) :
    (seamCtl r alg claim release s).heart = s.heart := by simp [seamCtl]
@[simp] theorem seamCheck_heart (r : Requester) (compare : Option Bool) :
    (seamCheck r compare s).heart = s.heart := by rfl
@[simp] theorem seamAsk_heart (r : Requester) : (seamAsk r s).heart = s.heart := by rfl
@[simp] theorem seamFold_heart (r : Requester) (width : Fin 3) (v : Word) :
    (seamFold r width v s).heart = s.heart := by simp [seamFold]
@[simp] theorem seamRevoke_heart : (seamRevoke s).heart = s.heart := by
  unfold seamRevoke
  split <;> simp
@[simp] theorem seamDropStand_heart (k : Fin 16) : (seamDropStand k s).heart = s.heart := by rfl

/-! ### Graft's log -/

@[simp] theorem graftAppend_heart (kind arg value : Nat) : (graftAppend kind arg value s).heart = s.heart := by
  simp [graftAppend]
@[simp] theorem graftFellBack_heart (cause : Nat) : (graftFellBack cause s).heart = s.heart := by simp [graftFellBack]
@[simp] theorem gfCountWrite_heart (v : Word) : (gfCountWrite v s).heart = s.heart := by simp [gfCountWrite]

/-! ### The loader -/

@[simp] theorem limpEnter_heart (reason : Nat) : (limpEnter reason s).heart = s.heart := (limpEnter_work _ _).heart
@[simp] theorem refuseSlot_heart (reason failFirst : Nat) : (refuseSlot reason failFirst s).heart = s.heart := by
  simp [refuseSlot]
@[simp] theorem refuseRoot_heart (strapReason : Nat) : (refuseRoot strapReason s).heart = s.heart := by
  simp [refuseRoot]

/-! ### The Strap -/

@[simp] theorem setEnd_heart (toCrown : Bool) (w : Window) : (setEnd toCrown w s).heart = s.heart := by simp [setEnd]
@[simp] theorem ackSent_heart (toCrown : Bool) : (ackSent toCrown s).heart = s.heart := by simp [ackSent]
@[simp] theorem lanePut_heart (toCrown : Bool) (hdr : Half) (payload : Option (List Byte)) :
    (lanePut toCrown hdr payload s).heart = s.heart := by rfl
@[simp] theorem laneBegin_heart : (laneBegin s).heart = s.heart := by rfl
@[simp] theorem ackTake_heart (toCrown : Bool) (seq : BitVec 4) : (ackTake toCrown seq s).heart = s.heart := by
  simp [ackTake]
@[simp] theorem ackTakeOpt_heart (toCrown : Bool) (a : Option (BitVec 4)) :
    (ackTakeOpt toCrown a s).heart = s.heart := by
  unfold ackTakeOpt
  split <;> simp
@[simp] theorem offerAgain_heart : (offerAgain p s).heart = s.heart := (offerAgain_work _ _).heart
@[simp] theorem wdaPolicy_heart : (wdaPolicy p s).heart = s.heart := (wdaPolicy_work _ _).heart
@[simp] theorem rootHoldStart_heart : (rootHoldStart p s).heart = s.heart := (rootHoldStart_work _ _).heart
@[simp] theorem loadCut_heart : (loadCut s).heart = s.heart := by rfl
@[simp] theorem resyncAbandon_heart : (resyncAbandon s).heart = s.heart := by
  unfold resyncAbandon
  split
  · dsimp only
    exact onPorts_heart s (fun q x => modHold_heart x q _) allPorts
  · rfl
@[simp] theorem rootLoss_heart : (rootLoss s).heart = s.heart := by simp [rootLoss]
@[simp] theorem showHold_heart : (showHold p s).heart = s.heart := (showHold_work _ _).heart
@[simp] theorem crownLoss_heart (cause : Nat) : (crownLoss cause s).heart = s.heart := by simp [crownLoss]
@[simp] theorem wireAssert_heart : (wireAssert s).heart = s.heart := by simp [wireAssert]
@[simp] theorem outcomeEvent_heart : (outcomeEvent p s).heart = s.heart := (outcomeEvent_work _ _).heart
@[simp] theorem holdClear_heart : (holdClear p s).heart = s.heart := (holdClear_work _ _).heart
@[simp] theorem rootReports_heart : (rootReports p s).heart = s.heart := (rootReports_work _ _).heart
@[simp] theorem portResume_heart (boot : Bool) : (portResume p boot s).heart = s.heart :=
  (portResume_work _ _ _).heart
@[simp] theorem rootThresholds_heart : (rootThresholds s).heart = s.heart := (rootThresholds_work s).heart
@[simp] theorem resyncEnd_heart : (resyncEnd s).heart = s.heart := by
  have hidle : ∀ x : State,
      (onPorts allPorts (fun p s => modCc p (fun c => { c with hushStatus := .idle }) s) x).heart = x.heart :=
    fun x => onPorts_heart x (fun q y => modCc_heart y q _) _
  unfold resyncEnd
  dsimp only
  generalize hraised : rootEvents _ = raised
  have hheart : raised.heart = s.heart := by
    rw [← hraised]
    simp
  refine ite_heart_of ?_ (ite_heart_of ?_ hheart)
  · simp [hheart, hidle]
  · simp [hheart]
@[simp] theorem crownHeartbeat_heart : (crownHeartbeat s).heart = s.heart := by rfl
@[simp] theorem rootHeartbeat_heart : (rootHeartbeat s).heart = s.heart := by rfl
@[simp] theorem tickReceive_heart (gap : Bool) : (tickReceive gap s).heart = s.heart := by
  unfold tickReceive
  dsimp only
  (repeat' split) <;> simp
@[simp] theorem heartbeatCompare_heart (time : Word) : (heartbeatCompare time s).heart = s.heart := by
  simp [heartbeatCompare, catchUp]
@[simp] theorem rootBeat_heart (time : Word) (lost : Bool) : (rootBeat time lost s).heart = s.heart := by
  unfold rootBeat
  (repeat' split) <;> simp
@[simp] theorem heartbeat_heart (fromRoot : Bool) (missed : Nat) : (heartbeat fromRoot missed s).heart = s.heart := by
  unfold heartbeat
  split <;> simp [crownBeat, resyncStart]
@[simp] theorem rootGiveUp_heart : (rootGiveUp s).heart = s.heart := by simp [rootGiveUp]
@[simp] theorem setFallback_heart (seq : BitVec 4) (off : Bool) : (setFallback seq p off s).heart = s.heart := by rfl
@[simp] theorem loadReceive_heart (offset : Half) : (loadReceive offset s).heart = s.heart := by
  simp [loadReceive, loadEnd]
@[simp] theorem portRsp_heart : (portRsp s).heart = s.heart := by
  unfold portRsp
  split <;> simp
@[simp] theorem rootTripEvent_heart (kind value : Nat) : (rootTripEvent p kind value s).heart = s.heart := by
  unfold rootTripEvent
  split <;> simp
@[simp] theorem tripReceive_heart : (tripReceive p s).heart = s.heart := by
  unfold tripReceive
  split <;> simp
@[simp] theorem alarmReceive_heart : (alarmReceive s).heart = s.heart := by
  unfold alarmReceive
  split <;> simp
@[simp] theorem portCmd_heart (op : PortOp) : (portCmd p op s).heart = s.heart := by
  unfold portCmd
  (repeat' split) <;> simp
@[simp] theorem frameSent_heart (b : StrapBody) : (frameSent b s).heart = s.heart := by
  unfold frameSent
  split <;> simp [resyncSend]
@[simp] theorem frameEffect_heart (seq : BitVec 4) (b : StrapBody) : (frameEffect seq b s).heart = s.heart := by
  unfold frameEffect
  split <;> simp [resyncPort, paramsReceive]
@[simp] theorem frameArrives_heart (f : SentFrame) : (frameArrives f s).heart = s.heart := by simp [frameArrives]
@[simp] theorem frameOut_heart (b : StrapBody × Option (List Byte)) (arrives : Bool) :
    (frameOut b arrives s).heart = s.heart := by simp [frameOut]
@[simp] theorem heldOut_heart (up : Bool) (lost : Option StrapBody) : (heldOut up lost s).heart = s.heart := by
  refine foldl_heart s (fun x _ => ?_) _
  dsimp only
  split
  · rfl
  · simp
@[simp] theorem frameSend_heart (b : StrapBody) (arrives : Bool) : (frameSend b arrives s).heart = s.heart := by
  simp [frameSend]
@[simp] theorem ackFrame_heart (toCrown : Bool) : (ackFrame toCrown s).heart = s.heart := by simp [ackFrame]
@[simp] theorem beatFlush_heart (fromRoot : Bool) : (beatFlush fromRoot s).heart = s.heart := by simp [beatFlush]
@[simp] theorem looseFrame_heart (ty : Nat) : (looseFrame ty s).heart = s.heart := by simp [looseFrame]
@[simp] theorem sendAgain_heart (up : Bool) : (sendAgain up s).heart = s.heart := by simp [sendAgain]
@[simp] theorem metroSamples_heart (ports : List (Fin 8)) : (metroSamples ports s).heart = s.heart := by
  unfold metroSamples
  split
  · rfl
  · exact onPorts_heart s (fun q x => modMetro_heart x q _) ports

/-! ### Resets, supplies and watchdogs -/

@[simp] theorem tornProgram_heart (a n : Nat) : (tornProgram a n s).heart = s.heart :=
  List.foldlRecOn (motive := fun x : State => x.heart = s.heart) _ _ rfl fun _ hx _ _ => hx
@[simp] theorem tornErase_heart (a n : Nat) : (tornErase a n s).heart = s.heart :=
  List.foldlRecOn (motive := fun x : State => x.heart = s.heart) _ _ rfl fun _ hx _ _ => hx

theorem tornGraft_heart : (tornGraft s).heart = s.heart := by
  unfold tornGraft
  split
  · rw [tornProgram_heart, tornProgram_heart]
  · rw [tornProgram_heart, tornProgram_heart]
  · rw [tornErase_heart, tornErase_heart]
  · rfl

theorem tornCopy_heart : (tornCopy s).heart = s.heart := by
  cases hst : s.graft.st <;> simp only [tornCopy, hst, tornErase_heart]

theorem tornOp_heart (o : FlashOp) : (tornOp o s).heart = s.heart := by
  cases o with
  | recordWrite i =>
    unfold tornOp
    dsimp only
    split
    · exact tornProgram_heart s _ _
    · rfl
  | journal => exact ite_heart_of (tornErase_heart s _ _) (tornProgram_heart s _ _)
  | hostWrite a d => exact tornProgram_heart s _ _
  | hostErase a => exact tornErase_heart s _ _
  | graft programs => exact ite_heart_of (tornGraft_heart s) rfl
  | copy => exact tornCopy_heart s
  | _ => rfl
@[simp] theorem flashAbort_heart : (flashAbort s).heart = s.heart := by
  have hcurrent : ∀ x : State, ∀ o : Option FlashOp,
      (match o with | some o => tornOp o x | none => x).heart = x.heart := fun x o => by
    cases o
    · rfl
    · exact tornOp_heart x _
  unfold flashAbort
  exact (hcurrent _ _).trans (hcurrent _ _)
@[simp] theorem pocketDown_heart : (pocketDown s).heart = s.heart := by simp [pocketDown]
@[simp] theorem hostInterrupted_heart (kind : Nat) : (hostInterrupted kind s).heart = s.heart := by
  unfold hostInterrupted
  split <;> simp
@[simp] theorem copiesLost_heart : (copiesLost s).heart = s.heart := by simp [copiesLost]
@[simp] theorem portUnpowered_heart : (portUnpowered p s).heart = s.heart := by simp [portUnpowered]
@[simp] theorem groupTell_heart (g : Fin 2) : (groupTell g s).heart = s.heart := by simp [groupTell]
@[simp] theorem groupUp_heart (g : Fin 2) (vinMv : Nat) : (groupUp g vinMv s).heart = s.heart := by
  simp [groupUp, portPoweredUp]
@[simp] theorem refoscStop_heart : (refoscStop s).heart = s.heart := by simp [refoscStop, pgAllStop]
@[simp] theorem vcOverride_heart : (vcOverride s).heart = s.heart := by simp [vcOverride]
@[simp] theorem vcSet_heart (v : Nat) : (vcSet v s).heart = s.heart := by rfl
@[simp] theorem vcEval_heart (floor : Nat) (meas : Byte) (slack : List Int) (vdd18Mv : Nat) :
    (vcEval floor meas slack vdd18Mv s).heart = s.heart := by simp [vcEval]
@[simp] theorem vcStepUp_heart (slack : Int) (vdd18Mv : Nat) : (vcStepUp slack vdd18Mv s).heart = s.heart := by
  simp [vcStepUp]
@[simp] theorem vcctlWrite_heart (v : Word) : (vcctlWrite v s).heart = s.heart := by simp [vcctlWrite]
@[simp] theorem wdaPeriod_heart : (wdaPeriod s).heart = s.heart := by rfl
@[simp] theorem wdaArm_heart (v : Word) : (wdaArm v s).heart = s.heart := by simp [wdaArm]
@[simp] theorem wdaRestart_heart : (wdaRestart s).heart = s.heart := by simp [wdaRestart]
@[simp] theorem wdaStatWrite_heart (v : Word) : (wdaStatWrite v s).heart = s.heart := by simp [wdaStatWrite]
@[simp] theorem wdbStart_heart : (wdbStart s).heart = s.heart := by rfl
@[simp] theorem wdbStatWrite_heart (v : Word) : (wdbStatWrite v s).heart = s.heart := by simp [wdbStatWrite]
@[simp] theorem monLost_heart (isB : Bool) : (monLost isB s).heart = s.heart := by simp [monLost]

/-! ### Graft -/

@[simp] theorem graftAllowed_heart (accs : List (Bool × Nat × Nat)) : (graftAllowed accs s).1.heart = s.heart := by
  simp [graftAllowed]
@[simp] theorem graftFlash_heart (accs : List (Bool × Nat × Nat)) (op addr : Nat) (r : FlashRes) :
    (graftFlash accs op addr r s).1.heart = s.heart := by
  unfold graftFlash
  dsimp only
  (repeat' split) <;> simp
@[simp] theorem graftOpen_heart (m : List Byte) (start : Byte) (r : FlashRes) :
    (graftOpen m start r s).1.heart = s.heart := by
  generalize hy : graftOpen m start r s = y
  have hflash := graftFlash_heart s [(true, graftBase s, 256), (true, graftLogAddr s 0, 16)] 1 (graftBase s) r
  unfold graftOpen at hy
  cases hrefusal : graftOpenRefusal s m with
  | some d =>
    rw [hrefusal] at hy
    exact heart_of_pair hy rfl
  | none =>
    rw [hrefusal] at hy
    exact heart_of_ite_pair hy (heart_of_pair · hflash) (heart_of_pair · (by simp))
@[simp] theorem graftPieceFail_heart (d : Nat) : (graftPieceFail d s).1.heart = s.heart := by rfl
@[simp] theorem pieceSeam_heart (refusal : Option Nat) : (pieceSeam refusal s).heart = s.heart := by
  unfold pieceSeam
  split <;> simp
@[simp] theorem graftMaybeComplete_heart : (graftMaybeComplete s).1.heart = s.heart := by
  simp [graftMaybeComplete, apply_ite Prod.fst]
@[simp] theorem graftPieceCheck_heart (k : Nat) (crc : Word) (data : List Byte) :
    (graftPieceCheck k crc data s).1.heart = s.heart := by
  unfold graftPieceCheck
  dsimp only
  (repeat' split) <;> simp
@[simp] theorem graftPieceProgram_heart (k : Nat) (data : List Byte) (r : FlashRes) :
    (graftPieceProgram k data r s).1.heart = s.heart := by simp [graftPieceProgram, apply_ite Prod.fst]
@[simp] theorem graftDigestStore_heart (digest : List Byte) : (graftDigestStore digest s).heart = s.heart := by
  unfold graftDigestStore
  dsimp only
  split
  · split
    · cases h : pressRecord graftDigestItem (toSlot digest) (pressAllowed graftDigestItem s).1 with
      | none => simp
      | some t => simpa using pressRecord_heart h
    · simp
  · rfl
@[simp] theorem graftVerify_heart (r : FlashRes) : (graftVerify r s).1.heart = s.heart := by
  generalize hy : graftVerify r s = y
  have hflash := graftFlash_heart s
    [(false, stagingBase s, bundleSize (graftManifest s)), (true, graftBase s + 0x100, 32)] 0 (stagingBase s) r
  unfold graftVerify at hy
  refine heart_of_ite_pair hy (heart_of_pair · rfl) fun hy =>
    heart_of_ite_pair hy (heart_of_pair · ((graftVerifyFail_heart _ _).trans hflash)) fun hy => ?_
  generalize (graftFlash [(false, stagingBase s, bundleSize (graftManifest s)), (true, graftBase s + 0x100, 32)] 0
    (stagingBase s) r s).1 = x at hflash hy
  cases hcheck : graftVerifyCheck x with
  | some code =>
    simp only [hcheck] at hy
    exact heart_of_pair hy ((graftVerifyFail_heart _ _).trans hflash)
  | none =>
    simp only [hcheck] at hy
    exact heart_of_pair hy (by simp [hflash])
@[simp] theorem graftDiscard_heart (r : FlashRes) : (graftDiscard r s).1.heart = s.heart := by
  generalize hy : graftDiscard r s = y
  have hflash := graftFlash_heart s [(true, stagingBase s, 0x100000), (true, graftBase s, 0x10000)] 2 (stagingBase s) r
  unfold graftDiscard at hy
  exact heart_of_ite_pair hy (heart_of_pair · rfl) fun hy =>
    heart_of_ite_pair hy (heart_of_pair · hflash) (heart_of_pair · (by simp))
@[simp] theorem graftDigestRef_heart : (graftDigestRef s).1.heart = s.heart := by
  unfold graftDigestRef
  dsimp only
  (repeat' split) <;> simp
@[simp] theorem graftInstallFail_heart : (graftInstallFail s).heart = s.heart := by
  simp [graftInstallFail, graftState]
@[simp] theorem copyBlock_heart (src dst n : Nat) : (copyBlock src dst n s).heart = s.heart := by rfl
@[simp] theorem graftPromoteBlock_heart (r : FlashRes) : (graftPromoteBlock r s).heart = s.heart := by
  simp [graftPromoteBlock, graftSettle]

/-! ### Rein -/

@[simp] theorem reinBegin_heart : (reinBegin s).heart = s.heart := by rfl
@[simp] theorem reinPut_heart (o : ReinOut) : (reinPut o s).heart = s.heart := by rfl
@[simp] theorem reinSend_heart (ty : Nat) (bcast : Bool) (dest : Fin 8) (payload : List Byte) :
    (reinSend ty bcast dest payload s).heart = s.heart := by simp [reinSend]
@[simp] theorem reinForward_heart (ty : Nat) (h : ReinHdr) (own : Bool) (payload : List Byte) :
    (reinForward ty h own payload s).heart = s.heart := by simp [reinForward]
@[simp] theorem enumSend_heart : (enumSend s).heart = s.heart := by simp [enumSend]
@[simp] theorem enumStart_heart : (enumStart s).heart = s.heart := by simp [enumStart]
@[simp] theorem enumReceive_heart (h : ReinHdr) (e : EnumSeen) : (enumReceive h e s).heart = s.heart := by
  simp [enumReceive, enumRecord, reinOversize, reinClosed]
@[simp] theorem sweepAbandon_heart (kind src : Nat) : (sweepAbandon kind src s).heart = s.heart := by
  unfold sweepAbandon
  split <;> simp
@[simp] theorem sweepVeto_heart : (sweepVeto s).heart = s.heart := by simp [sweepVeto]
@[simp] theorem breakRecord_heart (head : Fin 8) (cause : BitVec 2) (before : Bool) (position : Nat) :
    (breakRecord head cause before position s).heart = s.heart := by simp [breakRecord]
@[simp] theorem reinSilence_heart : (reinSilence s).heart = s.heart := by simp [reinSilence]
@[simp] theorem loopbackDone_heart (ok : Bool) (devices : Nat) : (loopbackDone ok devices s).heart = s.heart := by
  simp [loopbackDone]
@[simp] theorem brkReceive_heart (head : Fin 8) (cause : BitVec 2) (before : Bool) (position : Nat) :
    (brkReceive head cause before position s).heart = s.heart := by simp [brkReceive]
@[simp] theorem sweepStart_heart : (sweepStart s).heart = s.heart := by simp [sweepStart]
@[simp] theorem modSweep_heart (f : Sweep → Sweep) : (modSweep f s).heart = s.heart := by rfl
@[simp] theorem sweepCollect_heart (addr reading : Nat) : (sweepCollect addr reading s).heart = s.heart := by rfl
@[simp] theorem sweepSample_heart (k sampleUv : Nat) : (sweepSample k sampleUv s).heart = s.heart := by
  unfold sweepSample
  dsimp only
  (repeat' split) <;> simp
@[simp] theorem sweepCommit_heart (mask : Byte) (readings : List Nat) :
    (sweepCommit mask readings s).heart = s.heart := by
  unfold sweepCommit
  split <;> simp
@[simp] theorem sweepMark_heart (k sampleUv : Nat) : (sweepMark k sampleUv s).heart = s.heart := by
  unfold sweepMark
  (repeat' split) <;> simp
@[simp] theorem markReceive_heart (k sampleUv : Nat) : (markReceive k sampleUv s).heart = s.heart := by
  simp [markReceive, marksNew]
@[simp] theorem sweepDecide_heart : (sweepDecide s).heart = s.heart := by
  unfold sweepDecide
  split <;> simp
@[simp] theorem markSend_heart (sampleUv : Nat) : (markSend sampleUv s).heart = s.heart := by
  unfold markSend
  split <;> simp
@[simp] theorem sweepAdopt_heart : (sweepAdopt s).heart = s.heart := by
  unfold sweepAdopt
  (repeat' split) <;> simp
@[simp] theorem sweepNow_heart : (sweepNow s).heart = s.heart := by simp [sweepNow]

/-! ### Registers -/

@[simp] theorem pgenRead_heart (o : Nat) : (pgenRead o s).2.heart = s.heart := by
  unfold pgenRead
  dsimp only
  (repeat' split) <;> simp
@[simp] theorem regRead_heart (addr : Nat) : (regRead addr s).2.heart = s.heart := by
  simp [regRead, apply_ite Prod.snd]
@[simp] theorem rstCauseWrite_heart (v : Word) : (rstCauseWrite v s).heart = s.heart := by simp [rstCauseWrite]
@[simp] theorem hostErrWrite_heart (v : Word) : (hostErrWrite v s).heart = s.heart := by simp [hostErrWrite]
@[simp] theorem irqStatWrite_heart (v : Word) : (irqStatWrite v s).heart = s.heart := by rfl
@[simp] theorem supStatWrite_heart (v : Word) : (supStatWrite v s).heart = s.heart := by simp [supStatWrite]
@[simp] theorem standStatWrite_heart (k : Fin 16) (v : Word) : (standStatWrite k v s).heart = s.heart := by
  simp [standStatWrite]
@[simp] theorem seamWrite_heart (who : Requester) (o : Nat) (v : Word) : (seamWrite who o v s).heart = s.heart := by
  unfold seamWrite
  (repeat' split) <;> simp
@[simp] theorem pocketWrite_heart (o : Nat) (v : Word) : (pocketWrite o v s).heart = s.heart := by
  unfold pocketWrite
  split <;> simp
@[simp] theorem awlWrite_heart (o : Nat) (v : Word) : (awlWrite o v s).heart = s.heart := by simp [awlWrite]
@[simp] theorem barkWrite_heart (o : Nat) (v : Word) : (barkWrite o v s).heart = s.heart := by
  unfold barkWrite
  (repeat' split) <;> simp
@[simp] theorem ringWrite_heart (o : Nat) (v : Word) : (ringWrite o v s).heart = s.heart := by
  unfold ringWrite
  split <;> simp
@[simp] theorem tackWrite_heart (who : Requester) (o : Nat) (v : Word) : (tackWrite who o v s).heart = s.heart := by
  simp [tackWrite, stageWrite]
@[simp] theorem sapWrite_heart (o : Nat) (v : Word) : (sapWrite o v s).heart = s.heart := by
  unfold sapWrite
  (repeat' split) <;> simp
@[simp] theorem strapWrite_heart (o : Nat) (v : Word) : (strapWrite o v s).heart = s.heart := by
  unfold strapWrite
  split <;> simp [stLossWrite, stErrWrite]
@[simp] theorem reinWrite_heart (o : Nat) (v : Word) : (reinWrite o v s).heart = s.heart := by
  unfold reinWrite
  split <;> simp [reinCfgWrite, reinStatWrite, reinErrWrite]
@[simp] theorem cmpWrite_heart (o : Nat) (v : Word) : (cmpWrite o v s).heart = s.heart := by
  simp [cmpWrite, cmpCfgWrite, cmpStatWrite, cmpClear]
@[simp] theorem pgStatWrite_heart (n : Fin 8) (v : Word) : (pgStatWrite n v s).heart = s.heart := by
  simp [pgStatWrite]
@[simp] theorem pgenWrite_heart (o : Nat) (v : Word) : (pgenWrite o v s).heart = s.heart := by
  unfold pgenWrite
  (repeat' split) <;> simp
@[simp] theorem vcoreWrite_heart (o : Nat) (v : Word) : (vcoreWrite o v s).heart = s.heart := by
  unfold vcoreWrite
  split <;> simp [vcStatWrite]
@[simp] theorem cinchWrite_heart (o : Nat) (v : Word) : (cinchWrite o v s).heart = s.heart := by
  unfold cinchWrite
  split <;> simp [grpCtlWrite, grpCfgWrite]
@[simp] theorem pdCount0Write_heart (v : Word) : (pdCount0Write p v s).heart = s.heart := by simp [pdCount0Write]
@[simp] theorem pdCount1Write_heart (v : Word) : (pdCount1Write p v s).heart = s.heart := by simp [pdCount1Write]
@[simp] theorem violStatWrite_heart (v : Word) : (violStatWrite p v s).heart = s.heart := by simp [violStatWrite]
@[simp] theorem vclassWrite_heart (k : Fin 24) (v : Word) : (vclassWrite p k v s).heart = s.heart := by
  simp [vclassWrite]
@[simp] theorem portWrite_heart (o : Nat) (v : Word) : (portWrite p o v s).heart = s.heart := by
  unfold portWrite
  split <;> simp [gateCtlWrite, cinchCfgWrite, ftCfgWrite]

/-! ### The boot -/

@[simp] theorem portResetHold_heart : (portResetHold p s).heart = s.heart := (portResetHold_work _ _).heart
@[simp] theorem bootBark_heart : (bootBark s).heart = s.heart := by simp [bootBark]
@[simp] theorem bootPuf_heart (fail : Option Nat) : (bootPuf fail s).heart = s.heart := by
  unfold bootPuf
  split <;> simp
@[simp] theorem bootNoReserve_heart : (bootNoReserve s).heart = s.heart := by simp [bootNoReserve]
@[simp] theorem bootSatchel_heart : (bootSatchel s).heart = s.heart := by rfl
@[simp] theorem bootStorm_heart : (bootStorm s).heart = s.heart := by simp [bootStorm]
@[simp] theorem bootFlash_heart (flashOk : Bool) : (bootFlash flashOk s).heart = s.heart := by
  simp [bootFlash, bootGraft_heart]
@[simp] theorem bootPoll_heart (env : BootEnv) : (bootPoll env s).heart = s.heart := by simp [bootPoll]
@[simp] theorem flashReady_heart (r : FlashRes) : (flashReady r s).heart = s.heart := by simp [flashReady]
@[simp] theorem configCopy_heart (img : List Byte) : (configCopy img s).heart = s.heart := by rfl
@[simp] theorem patternFetched_heart (rootOk patOk : Bool) : (patternFetched rootOk patOk s).heart = s.heart := by
  unfold patternFetched
  dsimp only
  (repeat' split) <;> simp
@[simp] theorem signatureVerified_heart : (signatureVerified s).heart = s.heart := by simp [signatureVerified]
@[simp] theorem loadIdentity_heart (img : List Byte) : (loadIdentity img s).heart = s.heart := by rfl
@[simp] theorem classReports_heart (img : List Byte) : (classReports img s).heart = s.heart :=
  (classReports_work _ _).heart
@[simp] theorem setPortStand_heart (k : Nat) : (setPortStand p k s).heart = s.heart := by rfl
@[simp] theorem grainConfigure_heart (img : List Byte) : (grainConfigure img s).heart = s.heart := by
  refine (foldl_heart _ (fun x k => ?_) _).trans rfl
  split <;> simp
@[simp] theorem standTested_heart (fails : BitVec 16) (k : Fin 16) (r : State × Bool) :
    (standTested fails k r).1.heart = r.1.heart := by
  unfold standTested
  dsimp only
  (repeat' split) <;> simp
@[simp] theorem grainTest_heart (fails : BitVec 16) : (grainTest fails s).1.heart = s.heart := by
  have hreport : ∀ (l : List Nat) (x : State),
      (l.foldl (fun x j => emitIf (fails.getLsbD j) (devEv 0x0201 5 [BitVec.ofNat 8 j]) x) x).heart = x.heart :=
    fun l x => foldl_heart x (fun y j => emitIf_heart y _ _) l
  have htest : ∀ (l : List (Fin 16)) (r : State × Bool),
      (l.foldl (fun r k => standTested fails k r) r).1.heart = r.1.heart :=
    fun l r => List.foldlRecOn (motive := fun x : State × Bool => x.1.heart = r.1.heart) l _ rfl
      fun x hx k _ => (standTested_heart fails k x).trans hx
  unfold grainTest
  dsimp only
  rw [htest, hreport]
@[simp] theorem grainPresent_heart : (grainPresent s).heart = s.heart := by simp [grainPresent]
@[simp] theorem patternDefaults_heart : (patternDefaults s).heart = s.heart := by simp [patternDefaults, portDefaults]
@[simp] theorem fastCmpFault_heart (f : Fin 8 × Bool) : (fastCmpFault f s).heart = s.heart :=
  (fastCmpFault_work _ _).heart
@[simp] theorem portReady_heart : (portReady p s).heart = s.heart := (portReady_work _ _).heart
@[simp] theorem chainCheck_heart : (chainCheck s).heart = s.heart := by simp [chainCheck]
@[simp] theorem parkedFlush_heart : (parkedFlush s).heart = s.heart := by simp [parkedFlush]
@[simp] theorem wdbReport_heart : (wdbReport s).heart = s.heart := by
  unfold wdbReport
  split <;> simp
@[simp] theorem refoscLate_heart : (refoscLate s).heart = s.heart := by
  unfold refoscLate
  split <;> simp
@[simp] theorem readyMarks_heart : (readyMarks s).heart = s.heart := by simp [readyMarks]
@[simp] theorem readyEvents_heart : (readyEvents s).heart = s.heart := by simp [readyEvents]
@[simp] theorem standOut_heart (k : Fin 16) : (standOut k s).heart = s.heart := by
  unfold standOut
  dsimp only
  (repeat' split) <;> simp
@[simp] theorem standHoldStart_heart : (standHoldStart p s).heart = s.heart := by simp [standHoldStart]
@[simp] theorem standStall_heart (k : Fin 16) : (standStall k s).heart = s.heart := by
  unfold standStall
  dsimp only
  (repeat' split) <;> simp
@[simp] theorem supervisorTick_heart (tokens : BitVec 16) : (supervisorTick tokens s).heart = s.heart := by
  simp [supervisorTick, standToken]
@[simp] theorem standResume_heart : (standResume p s).heart = s.heart := by simp [standResume]
@[simp] theorem standReloaded_heart (k : Fin 16) (bad : Option Nat) : (standReloaded k bad s).heart = s.heart := by
  unfold standReloaded
  dsimp only
  (repeat' split) <;> simp

/-! ### The host port -/

@[simp] theorem verdictSet_heart (v : Nat) (seq : Byte) : (verdictSet v seq s).heart = s.heart := by rfl
@[simp] theorem requestBad_heart (v : Nat) (seq : Byte) : (requestBad v seq s).heart = s.heart := by
  unfold requestBad
  split <;> simp [frameBadEntry]
@[simp] theorem requestTaken_heart (bs : List Byte) : (requestTaken bs s).heart = s.heart := by rfl
@[simp] theorem modJob_heart (f : HostJob → HostJob) : (modJob f s).heart = s.heart := by rfl
@[simp] theorem hostAnswer_heart (a : Answer) : (hostAnswer a s).heart = s.heart := by
  unfold hostAnswer
  split <;> simp
@[simp] theorem hostRespond_heart (a : Answer) : (hostRespond a s).heart = s.heart := by simp [hostRespond]
@[simp] theorem hostCompletion_heart : (hostCompletion s).heart = s.heart := by
  unfold hostCompletion
  (repeat' split) <;> simp
@[simp] theorem hostOwed_heart : (hostOwed s).heart = s.heart := by
  unfold hostOwed
  (repeat' split) <;> simp
@[simp] theorem requestMiso_heart (n : Nat) : (requestMiso n s).heart = s.heart := by rfl

/-- A request ends without its work, or its work is done in a state with the same Heartwood. -/
theorem hostAsk_cases (c : Instr) (q : HostReq) (s : State) :
    ∃ x : State, x.heart = s.heart ∧ (hostAsk c q s = x ∨ hostAsk c q s = q.act x) := by
  unfold hostAsk
  split
  · exact ⟨{ s with host := { s.host with miso := [] } }, by rfl, .inl rfl⟩
  · dsimp only
    split
    · exact ⟨_, by simp, .inl rfl⟩
    · split
      · unfold hostChecked
        dsimp only
        split
        · exact ⟨_, by simp, .inr rfl⟩
        · exact ⟨_, by simp, .inl rfl⟩
      · exact ⟨_, by simp, .inl rfl⟩
@[simp] theorem hostTack_heart (cmd : Nat) (seq : Byte) (accs : List HostAccess) :
    (hostTack cmd seq accs s).1.heart = s.heart := by
  unfold hostTack
  dsimp only
  split <;> simp

/-! ### Host commands -/

@[simp] theorem regReads_heart (as : List Nat) : (regReads as s).2.heart = s.heart := by
  refine List.foldlRecOn (motive := fun r : List Byte × State => r.2.heart = s.heart) _ _ rfl fun r hr a _ => ?_
  simpa using hr
@[simp] theorem regReadBody_heart (seq : Byte) (l : List Byte) : (regReadBody seq l s).1.heart = s.heart := by
  unfold regReadBody
  split
  · rfl
  next as _ =>
    have h := hostTack_heart s 0x02 seq (as.map (hostReg s false))
    (repeat' split) <;> simp_all
@[simp] theorem summaryBody_heart (p : List Byte) (tempCrown tempRoot : Int) :
    (summaryBody p tempCrown tempRoot s).1.heart = s.heart := by simp [summaryBody, apply_ite Prod.fst]
@[simp] theorem journalReadBody_heart (seq : Byte) (l : List Byte) : (journalReadBody seq l s).1.heart = s.heart := by
  unfold journalReadBody
  dsimp only
  split
  · rfl
  · split
    · rfl
    · generalize hr : hostTack _ _ _ _ = r
      have h : r.1.heart = s.heart := by rw [← hr]; exact hostTack_heart _ _ _ _
      split <;> exact h
@[simp] theorem flashReadCheck_heart (seq : Byte) (p : List Byte) : (flashReadCheck seq p s).1.heart = s.heart := by
  simp [flashReadCheck, apply_ite Prod.fst]
@[simp] theorem nonceGetBody_heart (p : List Byte) : (nonceGetBody p s).1.heart = s.heart := by
  simp [nonceGetBody, apply_ite Prod.fst]
@[simp] theorem resetBody_heart (seq : Byte) (p : List Byte) : (resetBody seq p s).1.heart = s.heart := by
  simp [resetBody, apply_ite Prod.fst]
@[simp] theorem flashReadTurn_heart (seq : Byte) (l : List Byte) : (flashReadTurn seq l s).heart = s.heart := by
  have h := flashReadCheck_heart s seq l
  unfold flashReadTurn
  split <;> simp_all
@[simp] theorem workWaits_heart (c : Instr) : (workWaits c s).heart = s.heart := by rfl
@[simp] theorem workEnds_heart (a : Answer) : (workEnds a s).heart = s.heart := by simp [workEnds]
@[simp] theorem flashJob_heart (cmd : Nat) (seq : Byte) (addr n : Nat) (op : FlashOp) :
    (flashJob cmd seq addr n op s).1.heart = s.heart := by
  have h := hostTack_heart s cmd seq [hostFlash true addr n]
  unfold flashJob
  split
  · rfl
  · split <;> simp_all
@[simp] theorem flashWriteStart_heart (seq : Byte) (p : List Byte) : (flashWriteStart seq p s).1.heart = s.heart := by
  simp [flashWriteStart, apply_ite Prod.fst]
@[simp] theorem flashEraseStart_heart (seq : Byte) (p : List Byte) : (flashEraseStart seq p s).1.heart = s.heart := by
  simp [flashEraseStart, apply_ite Prod.fst]
@[simp] theorem keyPress_heart (i : Fin 20) (v : BitVec 256) : (keyPress i v s).heart = s.heart := by
  unfold keyPress
  dsimp only
  split
  · simp
  · split
    next h => simpa using pressRecord_heart h
    next => simp
@[simp] theorem keyProvision_heart (ip : List Byte) : (keyProvision ip s).heart = s.heart := by
  unfold keyProvision
  split <;> simp
@[simp] theorem keyReprovision_heart (ip : List Byte) : (keyReprovision ip s).heart = s.heart := by
  simp [keyReprovision]
@[simp] theorem patternKeySet_heart (ip : List Byte) : (patternKeySet ip s).heart = s.heart := by
  have h := takeSlot_heart s []
  unfold patternKeySet
  split
  · simp
  · split
    · simp
    · split
      · simp
      · split <;> simp_all
@[simp] theorem graftRun_heart (c : Instr) (o : Option FlashRes) : (graftRun c o s).1.heart = s.heart := by
  unfold graftRun
  split <;> simp
@[simp] theorem graftEnds_heart (c : Instr) (o : Option FlashRes) : (graftEnds c o s).heart = s.heart := by
  simp [graftEnds]
@[simp] theorem graftAtFlash_heart (c : Instr) : (graftAtFlash c s).heart = s.heart := by simp [graftAtFlash]
@[simp] theorem graftTurn_heart (c : Instr) : (graftTurn c s).heart = s.heart := by simp [graftTurn]
@[simp] theorem graftPieceTurn_heart (c : Instr) (k : Nat) (crc : Word) (data : List Byte) :
    (graftPieceTurn c k crc data s).heart = s.heart := by
  have h := graftPieceCheck_heart s k crc data
  unfold graftPieceTurn
  split <;> simp_all
@[simp] theorem graftPieceStart_heart (c : Instr) (k : Nat) (crc : Word) (data : List Byte) :
    (graftPieceStart c k crc data s).heart = s.heart := by simp [graftPieceStart, graftClaim]
@[simp] theorem relaySend_heart (ty : Nat) (dest : Fin 8) (bs : List Byte) :
    (relaySend ty dest bs s).heart = s.heart := by simp [relaySend]
@[simp] theorem relayForward_heart (ty : Nat) (h : ReinHdr) (chunk : Byte) (last : Bool) (bytes : List Byte) :
    (relayForward ty h chunk last bytes s).heart = s.heart := by simp [relayForward]
@[simp] theorem relayFail_heart (dest status : Nat) : (relayFail dest status s).heart = s.heart := by simp [relayFail]
@[simp] theorem relayStart_heart (p : List Byte) : (relayStart p s).1.heart = s.heart := by
  simp [relayStart, relayRun, apply_ite Prod.fst]
@[simp] theorem relayRespond_heart (src : Fin 8) (cmd : Nat) (seq : Byte) (st : Nat) (a : Answer) :
    (relayRespond src cmd seq st a s).heart = s.heart := by simp [relayRespond]
@[simp] theorem relayFlashRead_heart (src : Fin 8) (seq : Byte) (l : List Byte) :
    (relayFlashRead src seq l s).heart = s.heart := by
  have h := flashReadCheck_heart s seq l
  unfold relayFlashRead
  split <;> simp_all
@[simp] theorem relayAnswer_heart (src : Fin 8) (answer : List Byte) :
    (relayAnswer src answer s).heart = s.heart := by simp [relayAnswer]
@[simp] theorem relayTimeout_heart : (relayTimeout s).heart = s.heart := by
  unfold relayTimeout
  split <;> simp
@[simp] theorem badChecked_heart (bs : List Byte) : (badChecked bs s).heart = s.heart := by simp [badChecked]
@[simp] theorem graftPieceDue_heart : (graftPieceDue s).heart = s.heart := by
  unfold graftPieceDue
  split <;> simp
@[simp] theorem jobDone_heart : (jobDone s).heart = s.heart := by simp [jobDone]
end
end Sys2Proof.Machine
end

section
/-! PROOFS. What burns, selects a shadow or boots, and yet leaves the cells of Heartwood as they are (R97, R109, R118,
R169). -/

namespace Sys2Proof.Machine
section
variable (s : State) (p : Fin 8)

@[simp] theorem ite_cells {c : Prop} [Decidable c] (a b : Heart) :
    (if c then a else b).cells = if c then a.cells else b.cells :=
  apply_ite Heart.cells c a b

@[simp] theorem guarded_cells {f : State → State} (hf : ∀ x, (f x).heart.cells = x.heart.cells) (who : Requester)
    (units : List Access) : (guarded who units f s).heart.cells = s.heart.cells := by
  simp [guarded, hf]

/-! ### The burn queue and the programming engine's ends -/

@[simp] theorem burnQueue_cells (b : BurnJob) : (burnQueue b s).heart.cells = s.heart.cells := by rfl
@[simp] theorem burnEnd_cells (b : BurnJob) (result row bit : Nat) :
    (burnEnd b result row bit s).heart.cells = s.heart.cells := by
  unfold burnEnd
  split <;> simp
@[simp] theorem burnRefused_cells (b : BurnJob) (code : Nat) : (burnRefused b code s).heart.cells = s.heart.cells := by
  simp [burnRefused]
@[simp] theorem burnAdvance_cells (r : RunBurn) : (burnAdvance r s).heart.cells = s.heart.cells := by
  unfold burnAdvance
  (repeat' split) <;> simp
@[simp] theorem burnRepair_cells (r : RunBurn) (row bit : Nat) :
    (burnRepair r row bit s).heart.cells = s.heart.cells := by
  unfold burnRepair
  split <;> simp
@[simp] theorem burnStart_cells (tempC : Int) (vppMv : Nat) : (burnStart tempC vppMv s).heart.cells = s.heart.cells := by
  unfold burnStart
  split
  · dsimp only
    split <;> simp
  · rfl
@[simp] theorem burnAsk_cells (kind : BurnKind) (tempC : Int) (vppMv : Nat) :
    (burnAsk kind tempC vppMv s).heart.cells = s.heart.cells := by
  unfold burnAsk
  dsimp only
  split <;> simp
@[simp] theorem evalDiscard_cells (b : BurnJob) : (evalDiscard b s).heart.cells = s.heart.cells := by
  unfold evalDiscard
  split <;> simp
@[simp] theorem hwBurnStart_cells (seq : Byte) (p : List Byte) (tempC : Int) (vppMv : Nat) :
    (hwBurnStart seq p tempC vppMv s).1.heart.cells = s.heart.cells := by
  have htack := hostTack_heart s 0x20 seq [{ units := heartAccess true (numAt p 0 1), addr := numAt p 0 1 }]
  unfold hwBurnStart
  dsimp only
  (repeat' split) <;> simp_all
@[simp] theorem hwLockStart_cells (seq : Byte) (p : List Byte) :
    (hwLockStart seq p s).1.heart.cells = s.heart.cells := by
  have htack := hostTack_heart s 0x21 seq
    [{ units := regionUnits (BitVec.ofNat 8 (numAt p 0 1) ||| BitVec.ofNat 8 (numAt p 1 1)), addr := 0 }]
  unfold hwLockStart
  dsimp only
  (repeat' split) <;> simp_all

/-! ### Shadows -/

@[simp] theorem shadowApply_cells : (shadowApply s).heart.cells = s.heart.cells := by simp [shadowApply]
@[simp] theorem shadowRemove_cells : (shadowRemove s).heart.cells = s.heart.cells := by simp [shadowRemove]
@[simp] theorem hwShSelWrite_cells (v : Word) : (hwShSelWrite v s).heart.cells = s.heart.cells := by simp [hwShSelWrite]
@[simp] theorem heartWrite_cells (o : Nat) (v : Word) : (heartWrite o v s).heart.cells = s.heart.cells := by
  unfold heartWrite
  split <;> simp

/-! ### Graft's burns of the security counter -/

@[simp] theorem arbRequest_cells (v : Nat) : (arbRequest v s).heart.cells = s.heart.cells := by simp [arbRequest]
@[simp] theorem arbRetry_cells : (arbRetry s).heart.cells = s.heart.cells := by
  unfold arbRetry
  split <;> simp
@[simp] theorem graftConfirm_cells (who : Requester) (v : Word) :
    (graftConfirm who v s).heart.cells = s.heart.cells := by
  unfold graftConfirm
  split <;> simp
@[simp] theorem graftWrite_cells (who : Requester) (o : Nat) (v : Word) :
    (graftWrite who o v s).heart.cells = s.heart.cells := by
  unfold graftWrite
  split <;> simp

/-! ### SIGNED and the Awl's units -/

@[simp] theorem innerRun_cells (inner : Nat) (ip : List Byte) : (innerRun inner ip s).heart.cells = s.heart.cells := by
  unfold innerRun
  split <;> simp
@[simp] theorem signedRun_cells (idle : Bool) (inner : Nat) (key sig ip : List Byte) :
    (signedRun idle inner key sig ip s).heart.cells = s.heart.cells := by
  unfold signedRun
  dsimp only
  (repeat' split) <;> simp
@[simp] theorem signedTurn_cells (c : Instr) (inner : Nat) (key sig ip : List Byte) :
    (signedTurn c inner key sig ip s).heart.cells = s.heart.cells := by simp [signedTurn]
@[simp] theorem signedStart_cells (c : Instr) (seq : Byte) (p : List Byte) :
    (signedStart c seq p s).1.heart.cells = s.heart.cells := by
  unfold signedStart
  dsimp only
  split
  · simp
  · split
    · rfl
    · split
      · rfl
      · next hform =>
        generalize haccs : (if numAt p 0 1 = 0x22 then [({ units := heartAccess true 0xC0, addr := 0xC0 } : HostAccess)]
          else []) = accs
        have htack := hostTack_heart s 0x29 seq accs
        split <;> simp_all
@[simp] theorem unitWork_cells (u : AwlUse) : (unitWork u s).heart.cells = s.heart.cells := by
  cases u with
  | pocket i v => exact congrArg Heart.cells (keyPress_heart _ _ _)
  | signed =>
    unfold unitWork
    cases s.host.job.bind HostJob.work with
    | none => rfl
    | some c =>
      dsimp only
      cases signedParts c with
      | none => rfl
      | some x => simp
  | graftVerify =>
    unfold unitWork
    cases s.host.job.bind HostJob.work with
    | none => rfl
    | some c => exact congrArg Heart.cells (graftAtFlash_heart s c)
  | _ => rfl
@[simp] theorem awlDone_cells (ok : Bool) (us : Nat) : (awlDone ok us s).heart.cells = s.heart.cells := by
  unfold awlDone
  split <;> simp

/-! ### The boot and the falls of Crown -/

@[simp] theorem bootHeart_cells : (bootHeart s).heart.cells = s.heart.cells := by simp [bootHeart]
@[simp] theorem integrityHold_cells (kind row : Nat) : (integrityHold kind row s).heart.cells = s.heart.cells := by
  simp [integrityHold]
@[simp] theorem bootStart_cells (env : BootEnv) : (bootStart env s).heart.cells = s.heart.cells := by
  unfold bootStart
  dsimp only
  split
  · rfl
  · split <;> simp
@[simp] theorem crownDown_cells (keepShadows : Bool) : (crownDown keepShadows s).heart.cells = s.heart.cells := by rfl
end
end Sys2Proof.Machine
end

section
/-! PROOFS. Where the cells of Heartwood rise (R97, R99, R100, R104): a pulse, and what a pulse cut short leaves; the commands
that may do either. -/

namespace Sys2Proof.Machine

/-! ### Rows and states whose cells only rise -/

/-- Every cell of the row `a` that reads 1 reads 1 in `b`. -/
def rowRises (a b : HwRow) : Prop :=
  a.data &&& ~~~b.data = 0 ∧ a.parity &&& ~~~b.parity = 0 ∧ (a.closed = true → b.closed = true)

theorem and_not_eq_zero_iff {w : Nat} (a b : BitVec w) :
    a &&& ~~~b = 0 ↔ ∀ i : Nat, a.getLsbD i = true → b.getLsbD i = true := by
  constructor
  · intro h i ha
    have hi := BitVec.lt_of_getLsbD ha
    have hbit := congrArg (BitVec.getLsbD · i) h
    simpa [ha, hi] using hbit
  · intro h
    refine BitVec.eq_of_getLsbD_eq fun i hi => ?_
    cases ha : a.getLsbD i with
    | false => simp [ha]
    | true => simp [ha, h i ha]

theorem and_not_trans {w : Nat} {a b c : BitVec w} (hab : a &&& ~~~b = 0) (hbc : b &&& ~~~c = 0) : a &&& ~~~c = 0 := by
  rw [and_not_eq_zero_iff] at *
  exact fun i ha => hbc i (hab i ha)

theorem and_not_or {w : Nat} (a m : BitVec w) : a &&& ~~~(a ||| m) = 0 :=
  (and_not_eq_zero_iff _ _).2 fun i ha => by simp [ha]

theorem rowRises_refl (r : HwRow) : rowRises r r := by simp [rowRises]

theorem rowRises_trans {a b c : HwRow} (hab : rowRises a b) (hbc : rowRises b c) : rowRises a c :=
  ⟨and_not_trans hab.1 hbc.1, and_not_trans hab.2.1 hbc.2.1, hbc.2.2 ∘ hab.2.2⟩

theorem rowRises_of_blank (r : HwRow) : rowRises {} r := by simp [rowRises]

/-- A pulse raises its own cell or leaves the row as it is. -/
theorem rowRises_pulseCell (r : HwRow) (thermo : Bool) (bit : Nat) (o : CellOutcome) :
    rowRises r (pulseCell r thermo bit o) := by
  have hdata : ∀ m weak, rowRises r { r with data := r.data ||| m, weak } := fun m weak =>
    ⟨and_not_or _ _, by simp, id⟩
  unfold pulseCell
  dsimp only
  split
  · cases o with
    | pass => exact hdata _ _
    | weak =>
      dsimp only
      split
      · exact rowRises_refl r
      · exact hdata _ _
    | blank => exact rowRises_refl r
  · split
    · split
      · exact ⟨by simp, and_not_or _ _, id⟩
      · exact rowRises_refl r
    · split
      · exact ⟨by simp, by simp, fun _ => rfl⟩
      · exact rowRises_refl r

/-- What is read at the address written: the value, or the value was the default and its entry is gone. -/
theorem mget_mput_self {α : Type} [DecidableEq α] (d : α) (m : List (Nat × α)) (a : Nat) (v : α) :
    mget d (mput d m a v) a = v ∨ v = d := by
  by_cases hv : v = d
  · exact .inr hv
  refine .inl ?_
  induction m with
  | nil => simp [mput, mget, hv]
  | cons e t ih =>
    obtain ⟨k, w⟩ := e
    unfold mput
    split
    · simp [mget]
    · split
      · simp [mget]
      · next hne => simpa [mget, Ne.symm hne] using ih

theorem rowRises_mput {cells : List (Nat × HwRow)} {row : Nat} {v : HwRow} (hv : rowRises (hwRow cells row) v) (k : Nat) :
    rowRises (hwRow cells k) (hwRow (mput {} cells row v) k) := by
  by_cases hk : k = row
  · subst hk
    rcases mget_mput_self ({} : HwRow) cells k v with h | h
    · exact (congrArg (rowRises _) h).mpr hv
    · subst h
      exact rowRises_trans hv (rowRises_of_blank _)
  · exact (congrArg (rowRises _) (mget_mput_ne hk)).mpr (rowRises_refl _)

section
variable (s : State) (p : Fin 8)

theorem cellsOnlyRise_refl : cellsOnlyRise s s := fun _ => rowRises_refl _

theorem cellsOnlyRise_trans {a b c : State} (hab : cellsOnlyRise a b) (hbc : cellsOnlyRise b c) : cellsOnlyRise a c :=
  fun row => rowRises_trans (hab row) (hbc row)

theorem cellsOnlyRise_of_cells {a b : State} (h : b.heart.cells = a.heart.cells) : cellsOnlyRise a b := by
  intro row
  rw [h]
  exact rowRises_refl _

/-- What rises from a state rises from any state with the same cells. -/
theorem cellsOnlyRise_from {a x b : State} (ha : x.heart.cells = a.heart.cells) (hx : cellsOnlyRise x b) :
    cellsOnlyRise a b :=
  cellsOnlyRise_trans (cellsOnlyRise_of_cells ha) hx

theorem cellsOnlyRise_to {a x b : State} (hx : cellsOnlyRise a x) (hb : b.heart.cells = x.heart.cells) :
    cellsOnlyRise a b :=
  cellsOnlyRise_trans hx (cellsOnlyRise_of_cells hb)

theorem cellsOnlyRise_ite {c : Prop} [Decidable c] {s a b : State} (ha : cellsOnlyRise s a) (hb : cellsOnlyRise s b) :
    cellsOnlyRise s (if c then a else b) := by
  split
  · exact ha
  · exact hb

theorem cellsOnlyRise_foldl {α : Type} {f : State → α → State} (hf : ∀ x a, cellsOnlyRise x (f x a)) (l : List α) :
    cellsOnlyRise s (l.foldl f s) :=
  List.foldlRecOn (motive := cellsOnlyRise s) l f (cellsOnlyRise_refl s) fun _ hx a _ => cellsOnlyRise_trans hx (hf _ a)

/-! ### Pulses -/

theorem pulse_rises (row : Nat) (thermo : Bool) (bit : Nat) (o : CellOutcome) :
    cellsOnlyRise s { s with heart := { s.heart with
      cells := mput {} s.heart.cells row (pulseCell (hwRow s.heart.cells row) thermo bit o) } } :=
  rowRises_mput (rowRises_pulseCell _ _ _ _)

theorem burnAbort_rises : cellsOnlyRise s (burnAbort s) := by
  unfold burnAbort
  split
  · exact cellsOnlyRise_refl s
  · split
    · exact cellsOnlyRise_refl s
    · exact cellsOnlyRise_to (pulse_rises s _ _ _ _) (congrArg Heart.cells (drawn_heart _))

theorem cellPulse_rises (o : CellOutcome) (vppMv : Nat) : cellsOnlyRise s (cellPulse o vppMv s) := by
  unfold cellPulse
  split
  · exact cellsOnlyRise_refl s
  · split
    · exact cellsOnlyRise_of_cells (by simp)
    · next c t _ =>
      dsimp only
      refine cellsOnlyRise_ite (cellsOnlyRise_of_cells (by simp))
        (cellsOnlyRise_to (pulse_rises s c.row (decide (c.row = 0xE0) || decide (c.row = 0xE1)) c.bit o) ?_)
      (repeat' split) <;> simp

/-! ### The resets -/

theorem crownReset_rises (bits : BitVec 14) (kind : Nat) (keepShadows : Bool) :
    cellsOnlyRise s (crownReset bits kind keepShadows s) := by
  unfold crownReset
  split
  · exact cellsOnlyRise_refl s
  · exact cellsOnlyRise_of_cells rfl
  · dsimp only
    have habort := burnAbort_rises (wireAssert (copiesLost (flush (hostInterrupted kind s))))
    refine cellsOnlyRise_to (cellsOnlyRise_from ?_ habort) ?_
    · simp
    · simp

theorem dieReset_rises (power : Power) (boot : Boot) : cellsOnlyRise s (dieReset power boot s) := by
  refine cellsOnlyRise_to (burnAbort_rises s) ?_
  simp [dieReset]

theorem rstNReset_rises : cellsOnlyRise s (rstNReset s) := dieReset_rises s _ _

theorem powerOn_rises (c : PorCause) : cellsOnlyRise s (powerOn c s) :=
  cellsOnlyRise_to (dieReset_rises s _ _) (congrArg Heart.cells (keepAlive_heart _))

theorem groupDown_rises (g : Fin 2) (vinMv : Nat) : cellsOnlyRise s (groupDown g vinMv s) := by
  refine cellsOnlyRise_ite (cellsOnlyRise_refl s) (cellsOnlyRise_ite (powerOn_rises s .vin) (cellsOnlyRise_of_cells ?_))
  simp

theorem vddioDown_rises : cellsOnlyRise s (vddioDown s) := by
  refine cellsOnlyRise_from ?_ (crownReset_rises _ _ _ _)
  rfl

theorem vcoreUv_rises (meas : Byte) (lasted : Bool) : cellsOnlyRise s (vcoreUv meas lasted s) := by
  unfold vcoreUv
  dsimp only
  refine cellsOnlyRise_ite (cellsOnlyRise_of_cells ?_) (cellsOnlyRise_ite ?_ (cellsOnlyRise_ite ?_ ?_))
  · simp
  · exact cellsOnlyRise_from (by simp) (crownReset_rises _ _ _ _)
  · exact cellsOnlyRise_from (by simp) (crownReset_rises _ _ _ _)
  · exact cellsOnlyRise_of_cells (by simp)

/-! ### The watchdogs -/

theorem wdaExpire_rises (cause : Nat) : cellsOnlyRise s (wdaExpire cause s) := by
  unfold wdaExpire
  dsimp only
  refine cellsOnlyRise_ite ?_ (cellsOnlyRise_of_cells ?_)
  · exact cellsOnlyRise_from (by simp) (crownReset_rises _ _ _ _)
  · simp

theorem wdaServe_rises (v : Word) : cellsOnlyRise s (wdaServe v s) := by
  unfold wdaServe
  split
  · exact cellsOnlyRise_ite (wdaExpire_rises s 3)
      (cellsOnlyRise_ite (wdaExpire_rises s 2) (cellsOnlyRise_of_cells (by simp)))
  · exact cellsOnlyRise_of_cells (by simp)
  · exact cellsOnlyRise_refl s

theorem wdaTogether_rises (cause : Nat) : cellsOnlyRise s (wdaTogether cause s) := by
  refine cellsOnlyRise_ite (cellsOnlyRise_from ?_ (crownReset_rises _ _ _ _)) (cellsOnlyRise_refl s)
  simp

theorem wdbExpire_rises (cause : Nat) : cellsOnlyRise s (wdbExpire cause s) := by
  refine cellsOnlyRise_ite (cellsOnlyRise_refl s) (cellsOnlyRise_from ?_ (crownReset_rises _ _ _ _))
  simp

theorem wdbServe_rises : cellsOnlyRise s (wdbServe s) :=
  cellsOnlyRise_ite (cellsOnlyRise_refl s) (cellsOnlyRise_ite (wdbExpire_rises s 2) (cellsOnlyRise_of_cells rfl))

theorem wdogWrite_rises (o : Nat) (v : Word) : cellsOnlyRise s (wdogWrite o v s) := by
  unfold wdogWrite
  split
  · exact cellsOnlyRise_of_cells (by simp)
  · exact wdaServe_rises s v
  · exact cellsOnlyRise_of_cells (by simp)
  · exact cellsOnlyRise_of_cells rfl
  · exact cellsOnlyRise_of_cells (by simp)
  · exact cellsOnlyRise_refl s

/-! ### Register writes and the boot's end -/

theorem regWrite_rises (who : Requester) (addr : Nat) (v : Word) : cellsOnlyRise s (regWrite who addr v s) := by
  unfold regWrite
  dsimp only
  split
  · exact cellsOnlyRise_of_cells (by simp)
  · split
    case h_2 => split <;> exact cellsOnlyRise_of_cells (by simp)
    case h_5 => exact wdogWrite_rises s _ v
    all_goals exact cellsOnlyRise_of_cells (by simp)

theorem regWrites_rises (avs : List (Nat × Word)) : cellsOnlyRise s (regWrites avs s) :=
  cellsOnlyRise_foldl s (fun x _ => regWrite_rises x _ _ _) avs

theorem guarded_rises {f : State → State} (hf : ∀ x, cellsOnlyRise x (f x)) (who : Requester) (units : List Access) :
    cellsOnlyRise s (guarded who units f s) :=
  cellsOnlyRise_ite (cellsOnlyRise_from (by simp) (hf _)) (cellsOnlyRise_of_cells (by simp))

theorem patternStart_rises (pat : PatternStart) : cellsOnlyRise s (patternStart pat s) := by
  have hwrites := cellsOnlyRise_foldl (patternDefaults s) (fun x (w : Fin 16 × Half × Word) =>
    guarded_rises x (fun y => regWrite_rises y (.stand w.1) w.2.1.toNat w.2.2) (.stand w.1)
      (regAccess true w.2.1.toNat)) pat.writes
  refine cellsOnlyRise_from ?_ (cellsOnlyRise_to hwrites ?_)
  · simp
  · exact congrArg Heart.cells (onPorts_heart _ (fun q y => by simp) _)

theorem reachReady_rises (pat : PatternStart) (img : List Byte) : cellsOnlyRise s (reachReady pat img s) := by
  unfold reachReady
  dsimp only
  have hstart := patternStart_rises (classReports img (readyEvents (readyMarks (grainPresent s)))) pat
  refine cellsOnlyRise_from ?_ (cellsOnlyRise_to hstart ?_)
  · simp
  · simp

theorem selftestDone_rises (fails : BitVec 16) (pat : PatternStart) : cellsOnlyRise s (selftestDone fails pat s) := by
  unfold selftestDone
  dsimp only
  refine cellsOnlyRise_ite (cellsOnlyRise_refl s) (cellsOnlyRise_ite ?_ (cellsOnlyRise_of_cells ?_))
  · exact cellsOnlyRise_from (by simp) (reachReady_rises _ pat _)
  · simp

/-! ### Graft and the flash port -/

theorem graftInstalled_rises : cellsOnlyRise s (graftInstalled s) := by
  refine cellsOnlyRise_ite (cellsOnlyRise_from ?_ (crownReset_rises _ _ _ _)) (cellsOnlyRise_of_cells ?_)
  · simp
  · simp

theorem graftInstallEnd_rises : cellsOnlyRise s (graftInstallEnd s) := by
  refine cellsOnlyRise_ite (cellsOnlyRise_from ?_ (graftInstalled_rises _)) (cellsOnlyRise_of_cells ?_)
  · simp
  · simp

theorem graftInstallBlock_rises (r : FlashRes) : cellsOnlyRise s (graftInstallBlock r s) := by
  unfold graftInstallBlock
  dsimp only
  refine cellsOnlyRise_ite (cellsOnlyRise_ite (cellsOnlyRise_of_cells ?_) (cellsOnlyRise_ite (cellsOnlyRise_of_cells ?_)
    (cellsOnlyRise_from ?_ (graftInstallEnd_rises _)))) (cellsOnlyRise_from ?_ (graftInstallEnd_rises _))
  all_goals simp

theorem graftCopy_rises (r : FlashRes) : cellsOnlyRise s (graftCopy r s) := by
  refine cellsOnlyRise_ite (cellsOnlyRise_refl s) ?_
  split
  · exact graftInstallBlock_rises s r
  · exact graftInstallBlock_rises s r
  · exact cellsOnlyRise_of_cells (by simp)
  · exact cellsOnlyRise_refl s

theorem graftCopyTurn_rises (r : FlashRes) : cellsOnlyRise s (graftCopyTurn r s) :=
  cellsOnlyRise_ite (graftCopy_rises s r) (cellsOnlyRise_ite (cellsOnlyRise_refl s) (cellsOnlyRise_of_cells (by simp)))

theorem graftTrialTimeout_rises : cellsOnlyRise s (graftTrialTimeout s) := by
  refine cellsOnlyRise_ite (cellsOnlyRise_from ?_ (crownReset_rises _ _ _ _))
    (cellsOnlyRise_ite (cellsOnlyRise_from ?_ (crownReset_rises _ _ _ _)) (cellsOnlyRise_refl s))
  · simp
  · simp

theorem flashTransferDone_rises (r : FlashRes) (markOk : Bool) : cellsOnlyRise s (flashTransferDone r markOk s) := by
  cases hcurrent : s.flash.current with
  | none =>
    unfold flashTransferDone
    rw [hcurrent]
    exact cellsOnlyRise_refl s
  | some o =>
    cases o with
    | copy =>
      unfold flashTransferDone
      rw [hcurrent]
      exact cellsOnlyRise_to (graftCopy_rises s r) (congrArg Heart.cells (flashNext_heart _))
    | graft programs =>
      refine cellsOnlyRise_of_cells ?_
      unfold flashTransferDone
      rw [hcurrent]
      dsimp only
      split
      · simp
      · simp
    | _ =>
      unfold flashTransferDone
      rw [hcurrent]
      cases r <;> exact cellsOnlyRise_of_cells (by simp)

theorem flashOpDone_rises (r : FlashRes) (markOk : Bool) : cellsOnlyRise s (flashOpDone r markOk s) :=
  cellsOnlyRise_ite (cellsOnlyRise_of_cells (by simp)) (flashTransferDone_rises s r markOk)

/-! ### The host port's requests -/

theorem regWriteBody_rises (seq : Byte) (p : List Byte) : cellsOnlyRise s (regWriteBody seq p s).1 := by
  unfold regWriteBody
  split
  · exact cellsOnlyRise_refl s
  · next as _ =>
    have htack := hostTack_heart s 0x03 seq (as.map (hostReg s true))
    split
    · exact cellsOnlyRise_refl s
    · split
      next hallowed =>
        rw [hallowed] at htack
        exact cellsOnlyRise_of_cells (congrArg Heart.cells htack)
      next hallowed =>
        rw [hallowed] at htack
        exact cellsOnlyRise_from (congrArg Heart.cells htack) (regWrites_rises _ _)

theorem regModifyBody_rises (seq : Byte) (p : List Byte) : cellsOnlyRise s (regModifyBody seq p s).1 := by
  have htack := hostTack_heart s 0x04 seq [hostReg s false (numAt p 0 2), hostReg s true (numAt p 0 2)]
  unfold regModifyBody
  dsimp only
  split
  · exact cellsOnlyRise_refl s
  · split
    · exact cellsOnlyRise_refl s
    · split
      next hallowed =>
        rw [hallowed] at htack
        exact cellsOnlyRise_of_cells (congrArg Heart.cells htack)
      next hallowed =>
        rw [hallowed] at htack
        exact cellsOnlyRise_from (congrArg Heart.cells ((regRead_heart _ _).trans htack)) (regWrite_rises _ _ _ _)

theorem syncBody_rises (cmd : Nat) (seq : Byte) (p : List Byte) (tempCrown tempRoot : Int) :
    cellsOnlyRise s (syncBody cmd seq p tempCrown tempRoot s).1 := by
  unfold syncBody
  split
  case h_3 => exact regWriteBody_rises s seq p
  case h_4 => exact regModifyBody_rises s seq p
  all_goals exact cellsOnlyRise_of_cells (by simp)

/-- The work of a request takes no Heartwood cell from 1 to 0. -/
def actRises (act : State → State) : Prop := ∀ s, cellsOnlyRise s (act s)

theorem syncReq_rises (cmd : Nat) (seq : Byte) (p : List Byte) (tempCrown tempRoot : Int) :
    actRises (syncReq cmd seq p tempCrown tempRoot).act := fun s =>
  cellsOnlyRise_to (syncBody_rises s cmd seq p tempCrown tempRoot) (by simp [syncReq])

theorem longReq_rises {start : State → State × Option Answer} (cmd : Nat) (seq : Byte) (p : List Byte)
    (hstart : ∀ s, (start s).1.heart.cells = s.heart.cells) : actRises (longReq cmd seq p start).act := by
  intro s
  have h := hstart s
  refine cellsOnlyRise_of_cells ?_
  unfold longReq
  dsimp only
  split <;> simp_all

theorem graftJob_cells {begin' : State → State} (hbegin : ∀ s, (begin' s).heart = s.heart) (form : Bool) (s : State) :
    (graftJob form begin' s).1.heart.cells = s.heart.cells := by
  simp [graftJob, apply_ite Prod.fst, hbegin]

theorem signedReq_rises (c : Instr) (seq inner : Byte) (key sig ip : List Byte) :
    actRises (signedReq c seq inner key sig ip).act :=
  longReq_rises _ _ _ fun s => signedStart_cells s _ _ _

theorem hostRespond_rises (a : Answer) : actRises (hostRespond a) := fun s => cellsOnlyRise_of_cells (by simp)

theorem frameAct_rises {bs : List Byte} {act : State → State} (h : frameAct bs = some act) : actRises act := by
  have hbad : ∀ form : Bool, (if form then none else some (hostRespond answerBadArg)) = some act → actRises act :=
    fun form h => by
      split at h
      · cases h
      · cases h
        exact hostRespond_rises _
  unfold frameAct at h
  dsimp only at h
  split at h
  case h_1 => exact hbad _ h
  case h_5 => exact hbad _ h
  case h_8 => exact hbad _ h
  case h_9 => exact hbad _ h
  case h_10 => exact hbad _ h
  case h_11 => exact hbad _ h
  all_goals obtain rfl := Option.some.inj h
  case h_2 => exact fun s => cellsOnlyRise_of_cells (by simp)
  case h_3 => exact longReq_rises _ _ _ (by simp)
  case h_4 => exact longReq_rises _ _ _ (by simp)
  case h_6 => exact longReq_rises _ _ _ (by simp)
  case h_7 => exact longReq_rises _ _ _ (by simp)
  case h_12 => exact longReq_rises _ _ _ (by simp)
  case h_13 => exact syncReq_rises _ _ _ _ _

theorem hostReqOf_rises {c : Instr} {q : HostReq} (h : hostReqOf c = some q) : actRises q.act := by
  unfold hostReqOf at h
  split at h
  case h_28 =>
    obtain ⟨act, hact, rfl⟩ := Option.map_eq_some_iff.1 h
    exact frameAct_rises hact
  case h_29 => cases h
  all_goals obtain rfl := Option.some.inj h
  case h_8 => exact fun s => cellsOnlyRise_of_cells (by simp [flashReadReq])
  case h_13 | h_15 | h_16 | h_17 | h_18 => exact signedReq_rises _ _ _ _ _ _
  case h_9 =>
    unfold flashWriteReq
    exact longReq_rises _ _ _ fun s => congrArg Heart.cells (flashWriteStart_heart s _ _)
  case h_10 =>
    unfold flashEraseReq
    exact longReq_rises _ _ _ fun s => congrArg Heart.cells (flashEraseStart_heart s _ _)
  case h_11 =>
    unfold hwBurnReq
    exact longReq_rises _ _ _ fun s => hwBurnStart_cells s _ _ _ _
  case h_12 =>
    unfold hwLockReq
    exact longReq_rises _ _ _ fun s => hwLockStart_cells s _ _
  case h_24 =>
    unfold reinRelayReq
    exact longReq_rises _ _ _ fun s => congrArg Heart.cells (relayStart_heart s _)
  case h_20 =>
    unfold graftPieceReq
    exact longReq_rises _ _ _ (graftJob_cells (fun s => graftPieceStart_heart s _ _ _ _) _)
  case h_19 | h_22 | h_23 => exact longReq_rises _ _ _ (graftJob_cells (fun s => graftTurn_heart s _) _)
  all_goals exact syncReq_rises _ _ _ _ _

theorem hostAsk_rises (c : Instr) {q : HostReq} (hq : actRises q.act) : cellsOnlyRise s (hostAsk c q s) := by
  obtain ⟨x, hheart, hask | hask⟩ := hostAsk_cases c q s
  · exact cellsOnlyRise_of_cells (by rw [hask, hheart])
  · rw [hask]
    exact cellsOnlyRise_from (congrArg Heart.cells hheart) (hq x)

theorem hostChecked_rises {q : HostReq} (hq : actRises q.act) : cellsOnlyRise s (hostChecked q s) := by
  refine cellsOnlyRise_ite (cellsOnlyRise_from ?_ (hq _)) (cellsOnlyRise_of_cells ?_)
  · simp
  · simp

theorem hostGranted_rises : cellsOnlyRise s (hostGranted s) := by
  unfold hostGranted
  split
  · exact cellsOnlyRise_of_cells (by simp)
  · dsimp only
    split
    next q hq =>
      refine cellsOnlyRise_from ?_ (hostChecked_rises _ (hostReqOf_rises hq))
      rfl
    next => exact cellsOnlyRise_of_cells (by simp)
    next => exact cellsOnlyRise_of_cells rfl

theorem seamGrant_rises : cellsOnlyRise s (seamGrant s) := by
  refine cellsOnlyRise_ite (cellsOnlyRise_refl s) ?_
  dsimp only
  refine cellsOnlyRise_ite ?_ (cellsOnlyRise_of_cells rfl)
  refine cellsOnlyRise_from ?_ (cellsOnlyRise_to (hostGranted_rises { s with seam := seamGrantOne s.seam }) ?_)
  · rfl
  · rfl

theorem hostRead_rises (n : Nat) : cellsOnlyRise s (hostRead n s) := by
  unfold hostRead
  dsimp only
  refine cellsOnlyRise_ite (cellsOnlyRise_of_cells rfl) (cellsOnlyRise_ite (cellsOnlyRise_of_cells rfl)
    (cellsOnlyRise_ite (cellsOnlyRise_from ?_ (crownReset_rises _ _ _ _)) (cellsOnlyRise_of_cells ?_)))
  · simp
  · simp

theorem hostTransaction_rises (mosi : List Byte) : cellsOnlyRise s (hostTransaction mosi s) := by
  unfold hostTransaction
  split
  · exact cellsOnlyRise_refl s
  · refine cellsOnlyRise_ite (hostRead_rises s _) (cellsOnlyRise_ite (cellsOnlyRise_of_cells rfl)
      (cellsOnlyRise_ite ?_ (cellsOnlyRise_of_cells rfl)))
    split
    next act hact => exact hostAsk_rises s _ (frameAct_rises hact)
    next =>
      refine cellsOnlyRise_ite (cellsOnlyRise_refl s) ?_
      dsimp only
      split
      · exact cellsOnlyRise_of_cells (by simp)
      · exact cellsOnlyRise_ite (cellsOnlyRise_of_cells (by simp)) (cellsOnlyRise_of_cells (by simp))

theorem relayExecute_rises (src : Fin 8) (frame : List Byte) : cellsOnlyRise s (relayExecute src frame s) := by
  unfold relayExecute
  dsimp only
  refine cellsOnlyRise_ite (cellsOnlyRise_of_cells ?_) ?_
  · simp
  · split
    · exact cellsOnlyRise_of_cells (by simp)
    · refine cellsOnlyRise_from ?_ (cellsOnlyRise_to (syncBody_rises _ _ _ _ _ _)
        (congrArg Heart.cells (relayRespond_heart _ _ _ _ _ _)))
      simp

theorem relayServe_rises (src : Fin 8) (frame : List Byte) : cellsOnlyRise s (relayServe src frame s) := by
  unfold relayServe
  dsimp only
  refine cellsOnlyRise_ite (cellsOnlyRise_of_cells ?_) ?_
  · simp
  · have hexec := cellsOnlyRise_from (a := s) rfl (relayExecute_rises (modRein (fun r =>
      { r with relayTaken := some (frameSeq frame, frameCheck frame) }) s) src frame)
    exact cellsOnlyRise_ite (cellsOnlyRise_trans hexec (crownReset_rises _ _ _ _)) hexec
end
end Sys2Proof.Machine
end

section
/-! PROOFS. No step takes a Heartwood cell from 1 to 0. -/

namespace Sys2Proof.Machine

/-! ### Every command -/

section
variable {s b t : State}

theorem heart_of_complete {a : State} (h : complete a b = .next t) : t.heart = b.heart := by
  obtain rfl : finish a b = t := by simpa [complete] using h
  exact finish_heart a b

theorem rise_of_complete (h : complete s b = .next t) (hrises : cellsOnlyRise s b) : cellsOnlyRise s t :=
  cellsOnlyRise_to hrises (congrArg Heart.cells (heart_of_complete h))

theorem rise_of_kept (h : complete s b = .next t) (hcells : b.heart.cells = s.heart.cells) : cellsOnlyRise s t :=
  rise_of_complete h (cellsOnlyRise_of_cells hcells)

theorem rise_of_request {c : Instr} {q : HostReq} (h : complete s (hostAsk c q s) = .next t)
    (hq : hostReqOf c = some q) : cellsOnlyRise s t :=
  rise_of_complete h (hostAsk_rises s c (hostReqOf_rises hq))

theorem relayReq_rises {hdr : ReinHdr} {chunk : Byte} {last : Bool} {bytes : List Byte}
    (h : exec (.relayReq hdr chunk last bytes) s = .next t) : cellsOnlyRise s t := by
  refine rise_of_complete h ?_
  dsimp only
  refine cellsOnlyRise_ite ?_ (cellsOnlyRise_of_cells ?_)
  · split
    · refine cellsOnlyRise_from ?_ (relayServe_rises _ _ _)
      simp
    · exact cellsOnlyRise_of_cells (by simp)
  · simp

theorem exec_rises {i : Instr} (h : exec i s = .next t) : cellsOnlyRise s t := by
  cases i with
  | powerOnReset c => exact rise_of_complete h (powerOn_rises s c)
  | rstNAssert lowNs => exact rise_of_complete h (cellsOnlyRise_ite (rstNReset_rises s) (cellsOnlyRise_refl s))
  | grainSelftestDone fails pat => exact rise_of_complete h (selftestDone_rises s fails pat)
  | groupUnpowered g vinMv => exact rise_of_complete h (groupDown_rises s g vinMv)
  | vddioUv => exact rise_of_complete h (vddioDown_rises s)
  | vcoreUv meas lasted => exact rise_of_complete h (vcoreUv_rises s meas lasted)
  | registerWrite who addr v =>
    exact rise_of_complete h (guarded_rises s (fun x => regWrite_rises x who addr.toNat v) _ _)
  | wdaService who v => exact rise_of_complete h (guarded_rises s (fun x => wdaServe_rises x v) _ _)
  | wdbService => exact rise_of_complete h (wdbServe_rises s)
  | wdBExpired early => exact rise_of_complete h (wdbExpire_rises s _)
  | wdAExpired => exact rise_of_complete h (cellsOnlyRise_ite (wdaExpire_rises s 1) (wdaTogether_rises s 1))
  | wdClockMonitorTrip isB =>
    exact rise_of_complete h (cellsOnlyRise_ite (wdbExpire_rises s 4)
      (cellsOnlyRise_ite (wdaExpire_rises s 4) (wdaTogether_rises s 4)))
  | seamGrant => exact rise_of_complete h (seamGrant_rises s)
  | graftCopyBlock r => exact rise_of_complete h (graftCopyTurn_rises s r)
  | graftTrialTimeout => exact rise_of_complete h (graftTrialTimeout_rises s)
  | flashOpDone r markOk => exact rise_of_complete h (flashOpDone_rises s r markOk)
  | hwCellPulse o vppMv => exact rise_of_complete h (cellPulse_rises s o vppMv)
  | hostRead n => exact rise_of_complete h (hostRead_rises s n)
  | hostFrameBad mosi => exact rise_of_complete h (hostTransaction_rises s mosi)
  | resetTimeout =>
    refine rise_of_complete h (cellsOnlyRise_ite (crownReset_rises s _ _ _) (cellsOnlyRise_ite ?_ (cellsOnlyRise_refl s)))
    refine cellsOnlyRise_from ?_ (crownReset_rises _ _ _ _)
    rfl
  | relayReq hdr chunk last bytes => exact relayReq_rises h
  | ident | regRead | regWrite | regModify | summary | ringRead | journalRead | flashRead | flashWrite | flashErase | hwBurn
  | hwLock | hwEvalLock | nonceGet | signed | keyProvision | keyReprovision | patternKeySet | graftOpen | graftPiece
  | graftState | graftVerify | graftDiscard | reinRelay | reset | captureRead | awlwaitRead =>
    exact rise_of_request h rfl
  | strapFrameBad | crownStrapLoss | crownResetWireRelease | hushRequest | srcTransitionExpire | senderResponseTimeout
  | swapTimeout | sourceCapTimer | journalSearch | hardResetTimer =>
    refine rise_of_kept h ?_
    (repeat' split) <;> simp
  | goodcrcTimeout | relayRsp =>
    refine rise_of_kept h ?_
    dsimp only
    (repeat' split) <;> simp
  | _ => exact rise_of_kept h (by simp)
end

/-- Settles O60: only a pulse changes a cell, and it raises its own cell or none. -/
theorem fuseCellsOnlyRise : Obligations.FuseCellsOnlyRise := by
  unfold Obligations.FuseCellsOnlyRise
  intro s t h
  unfold step at h
  split at h
  · cases h
    exact cellsOnlyRise_refl _
  · refine cellsOnlyRise_from ?_ (exec_rises h)
    rfl
end Sys2Proof.Machine
end

section
/-! PROOFS. The programming engine (R97 to R100, R106, R109, Table 4.5): the start of a burn, a pulse and what follows it,
and the shadows. -/

namespace Sys2Proof.Machine

/-! ### The result word -/

theorem field_burnResWord {result row bit : Nat} (hresult : result < 16) (hrow : row < 256) :
    field (burnResWord result row bit) 19 16 = result := by
  have hbit := Nat.mod_lt bit (show 0 < 64 by decide)
  simp only [field, burnResWord, mkWord, List.foldl_cons, List.foldl_nil, BitVec.toNat_ofNat, Nat.shiftLeft_eq,
    Nat.shiftRight_eq_div_pow]
  omega

theorem burnRow_lt (b : BurnJob) : burnRow b < 256 := by
  unfold burnRow
  split
  case h_1 row _ _ _ _ _ => exact row.isLt
  all_goals decide

theorem burnRefusal_lt {s : State} {b : BurnJob} {tempC : Int} {vppMv code : Nat}
    (h : burnRefusal s b tempC vppMv = some code) : code < 16 := by
  unfold burnRefusal at h
  dsimp only at h
  (repeat' split at h) <;> simp at h <;> omega

section
variable (s : State)

/-! ### The end of a burn -/

@[simp] theorem burnEnd_running (b : BurnJob) (result row bit : Nat) :
    (burnEnd b result row bit s).heart.running = none := by
  unfold burnEnd
  split <;> simp [apply_ite Heart.running]

@[simp] theorem burnEnd_waiting (b : BurnJob) (result row bit : Nat) :
    (burnEnd b result row bit s).heart.waiting = s.heart.waiting := by
  unfold burnEnd
  split <;> simp [apply_ite Heart.waiting]

@[simp] theorem burnEnd_burnRes (b : BurnJob) (result row bit : Nat) :
    (burnEnd b result row bit s).heart.burnRes = burnResWord result row bit := by
  unfold burnEnd
  split <;> simp [apply_ite Heart.burnRes]

@[simp] theorem burnAdvance_waiting (r : RunBurn) : (burnAdvance r s).heart.waiting = s.heart.waiting := by
  unfold burnAdvance
  (repeat' split) <;> simp

theorem burnAdvance_of_todo {r : RunBurn} (h : r.todo ≠ []) :
    burnAdvance r s = { s with heart := { s.heart with running := some r } } := by
  unfold burnAdvance
  split
  · rfl
  next htodo => exact absurd htodo h

/-! ### The start of a burn -/

/-- The engine free, with the burns that wait. -/
def burnsWait (waiting : List BurnJob) (s : State) : State :=
  { s with heart := { s.heart with running := none, waiting } }

theorem burnStart_refused {b : BurnJob} {tempC : Int} {vppMv code : Nat} (rest : List BurnJob)
    (h : burnRefusal s b tempC vppMv = some code) :
    burnStart tempC vppMv (burnsWait (b :: rest) s) = burnRefused b code (burnsWait rest s) := by
  have h' : burnRefusal (burnsWait rest s) b tempC vppMv = some code := h
  unfold burnStart
  dsimp only [burnsWait] at h' ⊢
  rw [h']

theorem burnStart_idle {s : State} {tempC : Int} {vppMv : Nat}
    (hidle : s.heart.running.isSome = true ∨ s.heart.waiting = []) : burnStart tempC vppMv s = s := by
  unfold burnStart
  split
  next hrun hwait => simp [hrun, hwait] at hidle
  next => rfl

theorem burnStart_allowed {b : BurnJob} {tempC : Int} {vppMv : Nat} (rest : List BurnJob)
    (h : burnRefusal s b tempC vppMv = none) :
    burnStart tempC vppMv (burnsWait (b :: rest) s) =
      burnAdvance { job := b, todo := (burnCells s b).2, target := (burnCells s b).1 } (burnsWait rest s) := by
  have h' : burnRefusal (burnsWait rest s) b tempC vppMv = none := h
  have hcells : burnCells (burnsWait rest s) b = burnCells s b := rfl
  unfold burnStart
  dsimp only [burnsWait] at h' hcells ⊢
  rw [h', ← hcells]

/-! ### A pulse -/

/-- The engine with a burn in progress. -/
def burnRuns (r : RunBurn) (s : State) : State := { s with heart := { s.heart with running := some r } }

/-- The row after the pulse. -/
def pulsedRow (c : HwCell) (o : CellOutcome) (s : State) : HwRow :=
  pulseCell (hwRow s.heart.cells c.row) (decide (c.row = 0xE0) || decide (c.row = 0xE1)) c.bit o

variable {r : RunBurn} {c : HwCell} {rest : List HwCell} {o : CellOutcome} {vppMv : Nat}

/-- The cells after a pulse with VPP in range: whatever comes next, the pulsed cell's row has changed and no other. -/
theorem cellPulse_cells (htodo : r.todo = c :: rest) (hlow : 6300 ≤ vppMv) (hhigh : vppMv ≤ 6700) :
    (cellPulse o vppMv (burnRuns r s)).heart.cells = mput {} s.heart.cells c.row (pulsedRow c o s) := by
  unfold cellPulse
  dsimp only [burnRuns]
  rw [htodo]
  dsimp only
  split <;>
  · rw [if_neg (by simp [hlow, hhigh])]
    (repeat' split) <;> simp [pulsedRow]

/-- A pulse that leaves the cell unread, of a burn that may try again. -/
theorem cellPulse_again (htodo : r.todo = c :: rest) (hlow : 6300 ≤ vppMv) (hhigh : vppMv ≤ 6700)
    (hunread : cellReads (pulsedRow c o s) c.bit = false) (hfails : r.fails < 3) :
    (cellPulse o vppMv (burnRuns r s)).heart.running = some { r with fails := r.fails + 1 } := by
  unfold pulsedRow at hunread
  unfold cellPulse
  dsimp only [burnRuns]
  rw [htodo]
  dsimp only
  split <;>
  · rw [if_neg (by simp [hlow, hhigh]), if_neg (ne_true_of_eq_false hunread), if_pos hfails]

theorem cellPulse_vpp (htodo : r.todo = c :: rest) {row : Byte} {pulse : Nat} {close host : Bool} {mask : BitVec 64}
    (hjob : r.job = { kind := .row row true pulse close mask, host }) (hvpp : vppMv < 6300 ∨ 6700 < vppMv) :
    cellPulse o vppMv (burnRuns r s) = burnEnd r.job 6 row.toNat (c.bit % 64) (burnRuns r s) := by
  unfold cellPulse
  dsimp only [burnRuns]
  rw [htodo, hjob]
  dsimp only
  rw [if_pos (by simpa using hvpp)]
  rfl

/-- A weak or blank outcome leaves a cell that reads 0 as one that reads 0, in any row but the thermometer rows. -/
theorem cellReads_pulsedRow_of_not_pass (hbit : c.bit < 64) (hrow0 : c.row ≠ 0xE0) (hrow1 : c.row ≠ 0xE1)
    (hzero : (hwRow s.heart.cells c.row).data.getLsbD c.bit = false) (ho : o ≠ .pass) :
    cellReads (pulsedRow c o s) c.bit = false := by
  rw [BitVec.getLsbD_eq_getElem hbit] at hzero
  cases o with
  | pass => exact absurd rfl ho
  | weak =>
    simp only [cellReads, pulsedRow, pulseCell, hbit, hrow0, hrow1]
    simp [hbit, hzero]
    exact fun h _ => h
  | blank => simp [cellReads, pulsedRow, pulseCell, hbit, hzero]

/-! ### Shadows -/

variable {v : Word}

/-- The state with the selected row of HWSHSEL. -/
def shadowSel (v : Word) (s : State) : State := { s with heart := { s.heart with shSel := v.extractLsb' 0 8 } }

theorem field_low (v : Word) : field v 7 0 = (v.extractLsb' 0 8).toNat := by
  simp [field, BitVec.extractLsb'_toNat]

theorem extract_or_high (v m : Word) (hm : m.extractLsb' 0 8 = 0) : (v ||| m).extractLsb' 0 8 = v.extractLsb' 0 8 := by
  rw [BitVec.extractLsb'_or, hm]
  simp

theorem hwShSelWrite_apply (h : flag v 30 = false) :
    hwShSelWrite (v ||| 0x80000000) s = shadowApply (shadowSel v s) := by
  have hremove : flag (v ||| 0x80000000) 30 = false := by simpa [flag] using h
  have happly : flag (v ||| 0x80000000) 31 = true := by simp [flag]
  unfold hwShSelWrite
  rw [extract_or_high v 0x80000000 (by decide), if_neg (ne_true_of_eq_false hremove), if_pos happly]
  rfl

theorem hwShSelWrite_remove : hwShSelWrite (v ||| 0x40000000) s = shadowRemove (shadowSel v s) := by
  have hremove : flag (v ||| 0x40000000) 30 = true := by simp [flag]
  unfold hwShSelWrite
  rw [extract_or_high v 0x40000000 (by decide), if_pos hremove]
  rfl

/-- The other shadows than that of `row`. -/
def shadowsBut (row : Nat) (s : State) : List (Nat × BitVec 64) := s.heart.shadows.filter (·.1 ≠ row)

theorem shadowApply_of_room {row : Nat} (hrow : s.heart.shSel.toNat = row) (hlow : 0x40 ≤ row) (hhigh : row ≤ 0xBF)
    (heval : shadowsOff s = false) (hroom : (shadowsBut row s).length < 16) :
    (shadowApply s).heart.shadows =
        shadowsBut row s ++ [(row, BitVec.ofNat 64 (s.heart.shLo.toNat + s.heart.shHi.toNat * 2 ^ 32))]
      ∧ (shadowApply s).heart.shFull = false := by
  subst hrow
  unfold shadowApply
  rw [if_neg (by omega), if_neg (ne_true_of_eq_false heval), if_neg (fun h => absurd h.2 (Nat.not_le.2 hroom))]
  exact ⟨rfl, rfl⟩

theorem shadowApply_full {row : Nat} (hrow : s.heart.shSel.toNat = row) (hlow : 0x40 ≤ row) (hhigh : row ≤ 0xBF)
    (heval : shadowsOff s = false) (hother : shadowsBut row s = s.heart.shadows) (hfull : 16 ≤ s.heart.shadows.length) :
    (shadowApply s).heart.shadows = s.heart.shadows ∧ (shadowApply s).heart.shFull = true := by
  subst hrow
  have hlength := congrArg List.length hother
  unfold shadowApply
  rw [if_neg (by omega), if_neg (ne_true_of_eq_false heval), if_pos ⟨hlength, hlength ▸ hfull⟩]
  exact ⟨rfl, rfl⟩

theorem shadowRemove_shadows {row : Nat} (hrow : s.heart.shSel.toNat = row) :
    (shadowRemove s).heart.shadows = shadowsBut row s := by
  subst hrow
  unfold shadowRemove
  dsimp only
  split
  next hlength => exact (List.filter_eq_self.2 (List.length_filter_eq_length_iff.1 hlength)).symm
  next => rfl

end

theorem exec_hwBurnStart_ready {tempC : Int} {vppMv : Nat} {s : State} (hready : isReady s = true) :
    exec (.hwBurnStart tempC vppMv) s = .next (finish s (burnStart tempC vppMv s)) := by
  have hexec : exec (.hwBurnStart tempC vppMv) s =
      complete s (if isReady s then burnStart tempC vppMv s else s) := rfl
  rw [hexec, if_pos hready]
  rfl

theorem exec_hwBurnStart_idle {tempC : Int} {vppMv : Nat} {s : State}
    (hidle : isReady s = false ∨ s.heart.running.isSome = true ∨ s.heart.waiting = []) :
    exec (.hwBurnStart tempC vppMv) s = .next (finish s s) := by
  have hexec : exec (.hwBurnStart tempC vppMv) s =
      complete s (if isReady s then burnStart tempC vppMv s else s) := rfl
  rw [hexec]
  split
  next hready =>
    rw [burnStart_idle (hidle.resolve_left (by simp [hready]))]
    rfl
  next => rfl

theorem exec_hwShadowApply {who : Requester} {v : Word} {s : State} (hmay : maySet who 0x1820 s)
    (hflag : flag v 30 = false) :
    exec (.hwShadowApply who v) s = .next (finish s (shadowApply (shadowSel v s))) := by
  have hexec : exec (.hwShadowApply who v) s =
      complete s (guarded who (regAccess true 0x1820) (hwShSelWrite (v ||| 0x80000000)) s) := rfl
  rw [hexec, guarded_allowed s hmay, hwShSelWrite_apply s hflag]
  rfl

theorem exec_hwShadowRemove {who : Requester} {v : Word} {s : State} (hmay : maySet who 0x1820 s) :
    exec (.hwShadowRemove who v) s = .next (finish s (shadowRemove (shadowSel v s))) := by
  have hexec : exec (.hwShadowRemove who v) s =
      complete s (guarded who (regAccess true 0x1820) (hwShSelWrite (v ||| 0x40000000)) s) := rfl
  rw [hexec, guarded_allowed s hmay, hwShSelWrite_remove]
  rfl

/-- Settles O54: a start is the refusal's end or the first cells, a pulse with VPP in range is the pulsed row and what comes
next, and an APPLY or REMOVE is one on the selected row. -/
theorem heartwoodEngine : Obligations.HeartwoodEngine := by
  unfold Obligations.HeartwoodEngine
  refine ⟨fun tc vpp b rest s hready => ?_, fun tc vpp s hidle => ?_, fun o vpp r c rest s hlow hhigh => ?_,
    fun o vpp r c rest s hfails hrow0 hrow1 hbit hzero hlow hhigh ho => ?_,
    fun o vpp r row pulse close host mask c rest s hvpp => ?_, fun o vpp s hnone => ?_,
    fun who v s hmay hflag hlow hhigh heval hroom => ?_, fun who v s hmay hflag hlow hhigh heval hnone hfull => ?_,
    fun who v s hmay => ?_⟩
  · refine ⟨_, exec_hwBurnStart_ready (s := burnsWait (b :: rest) s) hready, ?_⟩
    rw [finish_heart]
    cases hrefusal : burnRefusal s b tc vpp with
    | some code =>
      rw [burnStart_refused s rest hrefusal]
      refine ⟨by simp [burnRefused, burnsWait], by simp [burnsWait], fun _ => ⟨by simp [burnRefused], ?_⟩,
        fun h => by cases h⟩
      simp [burnRefused, field_burnResWord (burnRefusal_lt hrefusal) (burnRow_lt b)]
    | none =>
      rw [burnStart_allowed s rest hrefusal]
      refine ⟨by simp [burnsWait], by simp [burnsWait], (fun h => by cases h), fun _ htodo => ?_⟩
      rw [burnAdvance_of_todo _ htodo]
      exact ⟨rfl, rfl⟩
  · exact ⟨_, exec_hwBurnStart_idle hidle, finish_heart _ _⟩
  · exact ⟨_, rfl, (congrArg Heart.cells (finish_heart _ _)).trans (cellPulse_cells s rfl hlow hhigh)⟩
  · refine ⟨_, rfl, (congrArg Heart.running (finish_heart _ _)).trans
      (cellPulse_again s (r := { r with todo := c :: rest }) rfl hlow hhigh ?_ hfails)⟩
    exact cellReads_pulsedRow_of_not_pass s hbit hrow0 hrow1 hzero ho
  · refine ⟨_, rfl, ?_⟩
    rw [finish_heart]
    have h := cellPulse_vpp s (o := o)
      (r := { r with job := { kind := .row row true pulse close mask, host := host }, todo := c :: rest }) rfl rfl hvpp
    unfold burnRuns at h
    rw [h]
    exact ⟨by simp, by simp, by rw [burnEnd_burnRes, field_burnResWord (by decide) row.isLt]⟩
  · refine ⟨_, rfl, ?_⟩
    rw [finish_heart]
    unfold cellPulse
    rw [hnone]
  · refine ⟨_, exec_hwShadowApply hmay hflag, ?_⟩
    rw [finish_heart]
    obtain ⟨hshadows, hfull⟩ := shadowApply_of_room (shadowSel v s) (field_low v).symm hlow hhigh heval hroom
    exact ⟨hshadows, shadowApply_cells _, hfull⟩
  · refine ⟨_, exec_hwShadowApply hmay hflag, ?_⟩
    rw [finish_heart]
    refine shadowApply_full (shadowSel v s) (field_low v).symm hlow hhigh heval (List.filter_eq_self.2 fun x hx => ?_) hfull
    simpa using List.any_eq_false.1 hnone x hx
  · refine ⟨_, exec_hwShadowRemove hmay, ?_⟩
    rw [finish_heart]
    exact ⟨shadowRemove_shadows (shadowSel v s) (field_low v).symm, shadowRemove_cells _⟩

end Sys2Proof.Machine
end

section
/-! PROOFS. SIGNED's KEY_PROVISION (R169 to R171, R507, R508) on a device whose Tack rules let the Awl press nothing. -/

namespace Sys2Proof.Machine

/-! ### A KEY_PROVISION whose press the Tack denies -/

/-- The public key of the private key 1: the base point. -/
def baseKey : List Byte := be 32 p256gx ++ be 32 p256gy

/-- The value to be provisioned, and the inner payload that asks for it as item 2. -/
def zeroValue : List Byte := List.replicate 32 0
def provisionPayload : List Byte := [2, 0, 0, 0] ++ zeroValue

/-- A ready device whose first owner key is `baseKey`, with an empty nonce outstanding and the Pocket able to press, and
under Tack rules that match no access, so that R536 denies every one. -/
def pressDenied : State :=
  { State.reset with
    boot := { State.reset.boot with phase := .ready }
    heart := { State.reset.heart with
      shadows := (List.range 4).map fun i => (0xC1 + i, BitVec.ofNat 64 (numAt (sha256 baseKey) (8 * i) 8)) }
    host := { State.reset.host with nonce := some [] }
    pocket := { State.reset.pocket with powered := true, pufOk := true, items := .replicate 20 { slot := some 1 } }
    sap := { State.reset.sap with level := 1 }
    tack := { State.reset.tack with rules := .replicate 32 { a := 0, b := 0 } } }

/-- The signature with the private key 1 and the ephemeral scalar 1: r is the base point's x. -/
def provisionSig : List Byte :=
  be 32 p256gx ++ be 32 ((ofBe (signedDigest pressDenied [] 0x50 provisionPayload) + p256gx) % p256n)

/-- The write count that a command leaves. -/
def writeCountAfter (i : Instr) (s : State) : Option Nat :=
  match exec i s with
  | .next t => some t.pocket.writeCount
  | _ => none

set_option maxRecDepth 100000 in
theorem pressDenied_accepts :
    accepts 0x29 1 (signedPayload 0x50 baseKey provisionSig provisionPayload) pressDenied := by
  unfold accepts
  decide +kernel

theorem pressDenied_signatureGood : signatureGood 0x50 baseKey provisionSig provisionPayload pressDenied := by
  unfold signatureGood
  decide +kernel

theorem pressDenied_pocket : awlIdle pressDenied = true ∧ wrapReady pressDenied = true ∧ keyRefusal pressDenied = none
    ∧ pressDenied.flash.ok = true ∧ pressDenied.pocket.wcSat = false ∧ pressDenied.pocket.writeCount = 0 := by
  decide +kernel

set_option maxRecDepth 100000 in
theorem pressDenied_writeCountAfter :
    writeCountAfter (.keyProvision 1 baseKey provisionSig 2 zeroValue) pressDenied = some 0 := by
  decide +kernel

/-- Refutes O51: the Tack's rules may deny the Awl the press of a KEY_PROVISION (R536), which then leaves the write
count. -/
theorem not_signedCommands : ¬ Obligations.SignedCommands := by
  unfold Obligations.SignedCommands
  rintro ⟨-, -, -, -, -, -, hprovision, -⟩
  obtain ⟨hidle, hwrap, hrefusal, hflash, hsat, hzero⟩ := pressDenied_pocket
  obtain ⟨t, hexec, -, hcount, -⟩ := hprovision 1 baseKey provisionSig 2 zeroValue pressDenied pressDenied_accepts
    (by decide) (by decide) (by decide) pressDenied_signatureGood hidle hwrap (by decide) (by decide) hrefusal hflash hsat
    (by rw [hzero]; decide)
  have hafter := pressDenied_writeCountAfter
  rw [writeCountAfter, hexec, Option.some.injEq, hcount, hzero] at hafter
  exact absurd hafter (by decide)

end Sys2Proof.Machine
end

section
/-! PROOFS. The Strap's ticks and heartbeats (R204 to R206, R215, R216, R223, R645): what a TICK moves, what each end's
heartbeat carries, and what its arrival brings at the other end. -/

namespace Sys2Proof.Machine

/-! ### The passing of time -/

/-- From `a` to `b` at most UPTIME and the events that wait change. -/
structure SecondsOnly (a b : State) : Prop where
  strap : b.strap = a.strap
  power : b.power = a.power
  boot : b.boot = a.boot
  now : b.time.now = a.time.now
  stamp : b.time.stamp = a.time.stamp

theorem SecondsOnly.trans {a b c : State} (h : SecondsOnly a b) (g : SecondsOnly b c) : SecondsOnly a c :=
  ⟨g.strap.trans h.strap, g.power.trans h.power, g.boot.trans h.boot, g.now.trans h.now, g.stamp.trans h.stamp⟩

section
variable (s : State) (us : Nat)

theorem emit_seconds (e : Event) : SecondsOnly s (emit e s) := by constructor <;> simp

theorem uptimeStep_seconds : SecondsOnly s (uptimeStep s) := by
  unfold uptimeStep
  dsimp only
  split <;> constructor <;> simp

/-- The two counts of Crown moved on, before the seconds of UPTIME. -/
def countsMoved : State :=
  { s with time := { s.time with
      stamp := BitVec.ofNat 32 (s.time.stamp.toNat + us), now := s.time.now + us
      uptimeUs := (s.time.uptimeUs + us) % 1000000 } }

theorem stampStep_seconds :
    SecondsOnly { s with time := { s.time with stamp := BitVec.ofNat 32 (s.time.stamp.toNat + us) } } (stampStep us s) := by
  unfold stampStep
  dsimp only
  split
  · exact emit_seconds _ _
  · exact ⟨rfl, rfl, rfl, rfl, rfl⟩

theorem advanceTime_seconds : SecondsOnly (countsMoved s us) (advanceTime us s) := by
  obtain ⟨hstrap, hpower, hboot, hnow, hstamp⟩ := stampStep_seconds s us
  refine List.foldlRecOn (motive := SecondsOnly (countsMoved s us)) _ _ ?_ fun x hx _ _ => hx.trans (uptimeStep_seconds x)
  exact ⟨hstrap, hpower, hboot, congrArg (· + us) hnow, hstamp⟩

end

/-! ### A TICK at Crown (R204, R205, R645) -/

/-- The Strap after a heartbeat of Crown's. -/
def crownBeaten (t : Strap) : Strap :=
  { t with
    hbTicks := some 0, crownTx := { t.crownTx with ackDue := false }
    crownHb := t.crownHb ++ [{ time := t.lastTime, lost := t.crownLost, code := t.codeRunning, ack := ackOwed t.crownTx }]
    lanes := laneInsert (onLane false (frameHeader 1 0 0 (ackOwed t.crownTx))
      (le 4 t.lastTime.toNat ++ le 2 (b2n t.crownLost + 2 * b2n t.codeRunning))) t.lanes }

/-- The Strap after a TICK: a heartbeat at the first one, after a gap and after every 20th. -/
def afterTick (gap : Bool) (t : Strap) : Strap :=
  if t.hbTicks.all (fun n => gap || decide (19 ≤ n)) then crownBeaten { t with ticksSince := t.ticksSince + 1 }
  else { t with ticksSince := t.ticksSince + 1, hbTicks := t.hbTicks.map (· + 1) }

section
variable (s : State) (gap : Bool)

/-- The first TICK of a restarted oscillator shows that it runs. -/
def oscillatorSeen : State :=
  if s.power.refoscRestart then { s with power := { s.power with refoscRestart := false, refoscRunning := true } } else s

/-- Crown's timer cells at a TICK. -/
def tickTimed : State := if ticksCount s then advanceTime 1 s else s

/-- Crown's count of TICKs, and the heartbeat that may be due. -/
def tickBeat : State :=
  let x := { s with strap := { s.strap with ticksSince := s.strap.ticksSince + 1 } }
  match x.strap.hbTicks with
  | none => crownHeartbeat x
  | some n =>
    if gap || decide (19 ≤ n) then crownHeartbeat x
    else { x with strap := { x.strap with hbTicks := some (n + 1) } }

theorem tickReceive_eq : tickReceive gap s =
    if !crownRuns (oscillatorSeen s) || !(oscillatorSeen s).power.refoscRunning then oscillatorSeen s
    else tickBeat (tickTimed (oscillatorSeen s)) gap := rfl

theorem tickBeat_eq : tickBeat s gap = { s with strap := afterTick gap s.strap } := by
  unfold tickBeat afterTick
  dsimp only
  split
  next h => rw [h]; rfl
  next n h =>
    rw [h, Option.all_some]
    split <;> rfl

theorem oscillatorSeen_power (h : s.power.refoscRunning = true ∨ s.power.refoscRestart = true) :
    (oscillatorSeen s).power = { s.power with refoscRunning := true, refoscRestart := false } := by
  unfold oscillatorSeen
  split
  next => rfl
  next hno =>
    have hstill : s.power.refoscRestart = false := Bool.eq_false_iff.mpr hno
    have hruns : s.power.refoscRunning = true := h.resolve_right hno
    rw [← hruns, ← hstill]

theorem oscillatorSeen_strap : (oscillatorSeen s).strap = s.strap := by unfold oscillatorSeen; split <;> rfl
theorem oscillatorSeen_time : (oscillatorSeen s).time = s.time := by unfold oscillatorSeen; split <;> rfl
theorem oscillatorSeen_boot : (oscillatorSeen s).boot = s.boot := by unfold oscillatorSeen; split <;> rfl

theorem tickTimed_keeps : (tickTimed s).strap = s.strap ∧ (tickTimed s).power = s.power := by
  unfold tickTimed
  split
  · exact ⟨(advanceTime_seconds s 1).strap, (advanceTime_seconds s 1).power⟩
  · exact ⟨rfl, rfl⟩

variable {s}

theorem crownRuns_boot {a b : State} (h : b.boot = a.boot) : crownRuns b = crownRuns a := by
  unfold crownRuns
  rw [h]

/-- A TICK that Crown takes: while it runs, and Root's oscillator runs or shows now that it does. -/
theorem tickReceive_runs (hcrown : crownRuns s = true) (hosc : s.power.refoscRunning = true ∨ s.power.refoscRestart = true) :
    tickReceive gap s = tickBeat (tickTimed (oscillatorSeen s)) gap := by
  have hruns : (oscillatorSeen s).power.refoscRunning = true := by rw [oscillatorSeen_power s hosc]
  have hgo : (!crownRuns (oscillatorSeen s) || !(oscillatorSeen s).power.refoscRunning) = false := by
    rw [crownRuns_boot (oscillatorSeen_boot s), hcrown, hruns]
    rfl
  rw [tickReceive_eq, hgo, if_neg Bool.false_ne_true]

theorem tickReceive_shows (hcrown : crownRuns s = true)
    (hosc : s.power.refoscRunning = true ∨ s.power.refoscRestart = true) :
    (tickReceive gap s).power = { s.power with refoscRunning := true, refoscRestart := false }
      ∧ (tickReceive gap s).strap = afterTick gap s.strap := by
  obtain ⟨hstrap, hpower⟩ := tickTimed_keeps (oscillatorSeen s)
  rw [tickReceive_runs gap hcrown hosc, tickBeat_eq]
  exact ⟨hpower.trans (oscillatorSeen_power s hosc), congrArg (afterTick gap) (hstrap.trans (oscillatorSeen_strap s))⟩

/-- While the link is neither lost nor in a RESYNC a TICK moves the timer cells on by 1 µs (R204). -/
theorem tickReceive_counts (hcrown : crownRuns s = true) (hosc : s.power.refoscRunning = true)
    (hstill : s.power.refoscRestart = false) (hlink : s.strap.link = .up ∨ s.strap.link = .notYetUp) :
    (tickReceive gap s).time.now = s.time.now + 1 ∧ (tickReceive gap s).time.stamp = s.time.stamp + 1 := by
  have hsame : oscillatorSeen s = s := if_neg (by rw [hstill]; exact Bool.false_ne_true)
  have hcounts : ticksCount s = true := by
    unfold ticksCount
    rw [hcrown, hosc]
    rcases hlink with h | h <;> rw [h] <;> rfl
  obtain ⟨-, -, -, hnow, hstamp⟩ := advanceTime_seconds s 1
  rw [tickReceive_runs gap hcrown (.inl hosc), tickBeat_eq, hsame, tickTimed, if_pos hcounts]
  refine ⟨hnow, hstamp.trans ?_⟩
  exact BitVec.eq_of_toNat_eq (by simp [countsMoved])

/-- A loss freezes the timer cells (R122). -/
theorem tickReceive_frozen (hlink : s.strap.link = .lost ∨ s.strap.link = .resync) :
    (tickReceive gap s).time = s.time := by
  have hfrozen : ticksCount (oscillatorSeen s) = false := by
    unfold ticksCount
    rw [oscillatorSeen_strap]
    rcases hlink with h | h <;> rw [h] <;> exact Bool.and_false _
  have htimed : tickTimed (oscillatorSeen s) = oscillatorSeen s :=
    if_neg (by rw [hfrozen]; exact Bool.false_ne_true)
  rw [tickReceive_eq, htimed, tickBeat_eq]
  split
  · exact oscillatorSeen_time s
  · exact oscillatorSeen_time s

/-- Without Root's oscillator there is no TICK. -/
theorem tickReceive_stopped (hosc : s.power.refoscRunning = false) (hstill : s.power.refoscRestart = false) :
    tickReceive gap s = s := by
  have hsame : oscillatorSeen s = s := if_neg (by rw [hstill]; exact Bool.false_ne_true)
  rw [tickReceive_eq, hsame, hosc]
  exact if_pos (Bool.or_true _)

end

/-! ### A heartbeat's acknowledgement, and what waited for it (R202) -/

section
variable {s : State}

theorem beatFlush_idle {fromRoot : Bool} (h : (strapEnd (!fromRoot) s).held = []) : beatFlush fromRoot s = s := by
  unfold beatFlush
  split
  · exact heldOut_idle h
  · rfl

theorem beatFlush_lost {fromRoot : Bool} (h : s.strap.link ≠ .up) : beatFlush fromRoot s = s := by
  have hlost : rootSeen s = false := by simp [rootSeen, strapUp, h]
  rw [beatFlush, hlost, if_neg Bool.false_ne_true]

/-! ### A heartbeat of Root's at Crown (R206, R214, R216) -/

/-- Crown takes a heartbeat of Root's from those on their way, `missed` older ones lost, with the acknowledgement in it. -/
structure RootBeatTaken (missed : Nat) (s x : State) : Prop where
  boot : x.boot = s.boot
  time : x.time = s.time
  link : x.strap.link = s.strap.link
  held : x.strap.crownTx.held = s.strap.crownTx.held
  beats : x.strap.rootHb = s.strap.rootHb.drop (missed + 1)
  compares : x.strap.compareNext = s.strap.compareNext
  last : x.strap.lastTime = s.strap.lastTime
  ticks : x.strap.ticksSince = s.strap.ticksSince
  slips : x.strap.slips = s.strap.slips
  losses : x.strap.lossCount = s.strap.lossCount

theorem ackTakeOpt_crown (missed : Nat) (a : Option (BitVec 4)) : RootBeatTaken missed s
    (ackTakeOpt true a { laneBegin s with strap := { (laneBegin s).strap with
      rootHb := s.strap.rootHb.drop (missed + 1) } }) := by
  cases a <;> constructor <;> dsimp only [ackTakeOpt, ackTake, setEnd, strapEnd, laneBegin] <;> rfl

theorem heartbeat_root {missed : Nat} {b : Beat} (h : (s.strap.rootHb.drop missed).head? = some b) :
    ∃ x, RootBeatTaken missed s x ∧ heartbeat true missed (laneBegin s) = rootBeat b.time b.lost x := by
  obtain ⟨t, hdrop⟩ := List.head?_eq_some_iff.mp h
  have htail : t = s.strap.rootHb.drop (missed + 1) := by rw [← List.tail_drop, hdrop, List.tail_cons]
  have hbegun : (laneBegin s).strap.rootHb.drop missed = b :: t := hdrop
  refine ⟨_, ackTakeOpt_crown missed b.ack, ?_⟩
  unfold heartbeat
  rw [if_pos rfl, hbegun, htail]
  rfl

/-- The TICKs that Crown has missed since Root's last heartbeat (R206). -/
def missedTicks (time : Word) (s : State) : Nat := (time - s.strap.lastTime).toNat - s.strap.ticksSince

/-- The missed TICKs added, and one slip counted if there are any. -/
def slipsMade (time : Word) (s : State) : State :=
  if missedTicks time s = 0 then s
  else emit (devEv 0x0D05 2 [BitVec.ofNat 8 (satTo 8 (missedTicks time s))])
    (advanceTime (missedTicks time s) { s with strap := { s.strap with slips := bump 16 s.strap.slips } })

/-- The Strap with Root's TIME taken. -/
def timeTaken (time : Word) (t : Strap) : Strap := { t with compareNext := true, lastTime := time, ticksSince := 0 }

theorem heartbeatCompare_eq (time : Word) : heartbeatCompare time s =
    let x := if s.strap.compareNext then slipsMade time s else catchUp time s
    { x with strap := timeTaken time x.strap } := rfl

theorem slipsMade_shows (time : Word) : (slipsMade time s).strap = { s.strap with
        slips := if (time - s.strap.lastTime).toNat ≤ s.strap.ticksSince then s.strap.slips else bump 16 s.strap.slips }
      ∧ (slipsMade time s).time.now = s.time.now + missedTicks time s := by
  unfold slipsMade
  by_cases hle : (time - s.strap.lastTime).toNat ≤ s.strap.ticksSince
  · have hnone : missedTicks time s = 0 := Nat.sub_eq_zero_of_le hle
    rw [if_pos hnone, if_pos hle, hnone]
    exact ⟨rfl, rfl⟩
  · have hsome : missedTicks time s ≠ 0 := Nat.sub_ne_zero_of_lt (Nat.lt_of_not_le hle)
    rw [if_neg hsome, if_neg hle]
    have hmoved := advanceTime_seconds { s with strap := { s.strap with slips := bump 16 s.strap.slips } } (missedTicks time s)
    rw [emit_strap, emit_time, hmoved.strap, hmoved.now]
    exact ⟨rfl, rfl⟩

/-- The comparison of R206, at the second heartbeat and later. -/
theorem heartbeatCompare_slips (time : Word) (h : s.strap.compareNext = true) :
    (heartbeatCompare time s).strap = timeTaken time { s.strap with
        slips := if (time - s.strap.lastTime).toNat ≤ s.strap.ticksSince then s.strap.slips else bump 16 s.strap.slips }
      ∧ (heartbeatCompare time s).time.now = s.time.now + missedTicks time s := by
  rw [heartbeatCompare_eq, if_pos h]
  exact ⟨congrArg (timeTaken time) (slipsMade_shows time).1, (slipsMade_shows time).2⟩

theorem catchUp_shows (time : Word) : (catchUp time s).strap = s.strap ∧ (catchUp time s).time.now = s.time.now
    ∧ (catchUp time s).time.stamp = time := by
  have hmoved := advanceTime_seconds s (time - s.time.stamp).toNat
  refine ⟨hmoved.strap, rfl, hmoved.stamp.trans ?_⟩
  change BitVec.ofNat 32 (s.time.stamp.toNat + (time - s.time.stamp).toNat) = time
  rw [BitVec.ofNat_add, BitVec.ofNat_toNat, BitVec.ofNat_toNat, BitVec.setWidth_eq, BitVec.setWidth_eq, BitVec.add_comm,
    BitVec.sub_add_cancel]

/-- The first heartbeat of Root's after the link came up: Root's count is taken over, and nothing is compared. -/
theorem heartbeatCompare_first (time : Word) (h : s.strap.compareNext = false) :
    (heartbeatCompare time s).strap = timeTaken time s.strap ∧ (heartbeatCompare time s).time.now = s.time.now
      ∧ (heartbeatCompare time s).time.stamp = time := by
  obtain ⟨hstrap, hnow, hstamp⟩ := catchUp_shows (s := s) time
  rw [heartbeatCompare_eq, h, if_neg Bool.false_ne_true]
  exact ⟨congrArg (timeTaken time) hstrap, hnow, hstamp⟩

theorem rootBeat_up {time : Word} {lost : Bool} (hcrown : crownRuns s = true) (hup : s.strap.link = .up) :
    rootBeat time lost s = if lost then crownLoss 1 s else heartbeatCompare time s := by
  unfold rootBeat
  rw [hcrown, hup]
  rfl

theorem heartbeatCompare_crownTx (time : Word) : (heartbeatCompare time s).strap.crownTx = s.strap.crownTx := by
  cases h : s.strap.compareNext with
  | false => rw [(heartbeatCompare_first time h).1]; rfl
  | true => rw [(heartbeatCompare_slips time h).1]; rfl

/-- A heartbeat of Root's without LOST, while the link is up and no frame waits. -/
theorem execHeartbeat_compares {missed : Nat} {b : Beat} (hhead : (s.strap.rootHb.drop missed).head? = some b)
    (hkeeps : b.lost = false) (hcrown : crownRuns s = true) (hup : s.strap.link = .up)
    (hidle : s.strap.crownTx.held = []) : ∃ x, RootBeatTaken missed s x
      ∧ execHeartbeat true missed s = complete s (heartbeatCompare b.time x) := by
  obtain ⟨x, hx, hbeat⟩ := heartbeat_root hhead
  have hheld : (strapEnd (!true) (heartbeatCompare b.time x)).held = [] := by
    change (heartbeatCompare b.time x).strap.crownTx.held = []
    rw [heartbeatCompare_crownTx, hx.held, hidle]
  rw [rootBeat_up ((crownRuns_boot hx.boot).trans hcrown) (hx.link.trans hup), hkeeps, if_neg Bool.false_ne_true] at hbeat
  exact ⟨x, hx, by rw [execHeartbeat, hbeat, beatFlush_idle hheld]⟩

/-- A loss as Crown records it (R216). -/
def lossMarked (cause : Nat) (s : State) : State :=
  { s with strap := { s.strap with
      link := .lost, crownLost := true, crownResync := false, compareNext := false, lossCount := bump 8 s.strap.lossCount
      lastCause := BitVec.ofNat 3 cause, wireLoss := false
      lossStart := if s.strap.rootLost then s.strap.lossStart else s.strap.rootTime.toNat } }

/-- The loss told to the host. -/
def lossTold (cause : Nat) (s : State) : State :=
  let x := emit (devEv 0x0D01 5 [BitVec.ofNat 8 cause]) s
  if isOpen x then irq 3 x else x

theorem crownLoss_eq (cause : Nat) : crownLoss cause s =
    let x := onPorts allPorts showHold (lossTold cause (lossMarked cause (loadCut (resyncAbandon s))))
    { x with shown := some (shownNow x) } := rfl

theorem lossTold_strap (cause : Nat) : (lossTold cause s).strap = s.strap := by
  unfold lossTold
  dsimp only
  split <;> simp

/-- A loss that Crown declares while the link is up. -/
theorem crownLoss_up (cause : Nat) (hup : s.strap.link = .up) : (crownLoss cause s).strap.link = .lost
    ∧ (crownLoss cause s).strap.crownLost = true ∧ (crownLoss cause s).strap.lastCause = BitVec.ofNat 3 cause
    ∧ (crownLoss cause s).strap.lossCount = bump 8 s.strap.lossCount := by
  have hcut : resyncAbandon s = s := by rw [resyncAbandon, hup, if_neg (by decide)]
  have hports : strapCore (crownLoss cause s).strap = strapCore (lossMarked cause (loadCut s)).strap := by
    have hhold := (PortWork.onPorts showHold_work allPorts (lossTold cause (lossMarked cause (loadCut s)))).strap
    rw [lossTold_strap] at hhold
    rw [crownLoss_eq, hcut]
    dsimp only
    rw [hhold]
  generalize (crownLoss cause s).strap = t at hports ⊢
  exact ⟨congrArg Strap.link hports, congrArg Strap.crownLost hports, congrArg Strap.lastCause hports,
    congrArg Strap.lossCount hports⟩

/-- A heartbeat of Root's with LOST, while the link is up. -/
theorem execHeartbeat_loses {missed : Nat} {b : Beat} (hhead : (s.strap.rootHb.drop missed).head? = some b)
    (hlost : b.lost = true) (hcrown : crownRuns s = true) (hup : s.strap.link = .up) : ∃ x, RootBeatTaken missed s x
      ∧ execHeartbeat true missed s = complete s (crownLoss 1 x) := by
  obtain ⟨x, hx, hbeat⟩ := heartbeat_root hhead
  have hlink : x.strap.link = .up := hx.link.trans hup
  have hdown : (crownLoss 1 x).strap.link ≠ .up := by
    rw [(crownLoss_up 1 hlink).1]
    exact LinkState.noConfusion
  rw [rootBeat_up ((crownRuns_boot hx.boot).trans hcrown) hlink, hlost, if_pos rfl] at hbeat
  exact ⟨x, hx, by rw [execHeartbeat, hbeat, beatFlush_lost hdown]⟩

end

/-! ### A heartbeat of Crown's at Root (R223) -/

section
variable {s : State}

/-- Root takes the first heartbeat of Crown's on its way, with the acknowledgement in it. -/
structure CrownBeatTaken (s x : State) : Prop where
  link : x.strap.link = s.strap.link
  lost : x.strap.rootLost = s.strap.rootLost
  wire : x.strap.wire = s.strap.wire
  beats : x.strap.crownHb = s.strap.crownHb.drop 1
  good : x.strap.goodHb = s.strap.goodHb

/-- Root with a heartbeat of Crown's taken from those on their way. -/
def crownTaken (s : State) : State := { s with strap := { s.strap with crownHb := s.strap.crownHb.drop 1 } }

theorem ackTakeOpt_crownTaken (a : Option (BitVec 4)) :
    CrownBeatTaken s (ackTakeOpt false a (crownTaken (laneBegin s))) := by
  obtain ⟨u, o, hack⟩ := ackTakeOpt_root (s := crownTaken s) (c := s.strap.crownTx) (r := s.strap.rootTx) (l := [])
    (o := s.power.refoscReport) a
  have hroot : ackTakeOpt false a (crownTaken (laneBegin s)) =
      inTransit s.strap.crownTx { s.strap.rootTx with unacked := u } [] o (crownTaken s) := hack
  rw [hroot]
  constructor <;> dsimp only [inTransit, crownTaken]

theorem heartbeat_crown {b : Beat} (h : s.strap.crownHb.head? = some b) :
    ∃ x, CrownBeatTaken s x ∧ heartbeat false 0 (laneBegin s) = crownBeat x := by
  obtain ⟨t, hlist⟩ := List.head?_eq_some_iff.mp h
  have htail : t = s.strap.crownHb.drop 1 := by rw [hlist, List.drop_one, List.tail_cons]
  have hbegun : (laneBegin s).strap.crownHb.drop 0 = b :: t := hlist
  refine ⟨_, ackTakeOpt_crownTaken b.ack, ?_⟩
  unfold heartbeat
  rw [if_neg Bool.false_ne_true, hbegun, htail]
  rfl

theorem heartbeat_none {missed : Nat} (h : (s.strap.crownHb.drop missed).isEmpty = true) : heartbeat false missed s = s := by
  unfold heartbeat
  rw [if_neg Bool.false_ne_true, List.isEmpty_iff.mp h]

/-- Root with one more valid heartbeat in a row. -/
def beatCounted (s : State) : State := { s with strap := { s.strap with goodHb := s.strap.goodHb + 1 } }

theorem crownBeat_lost (hroot : s.strap.rootLost = true) (hwire : s.strap.wire = false) (hlost : s.strap.link = .lost) :
    crownBeat s = if 3 ≤ s.strap.goodHb + 1 then resyncStart (beatCounted s) else beatCounted s := by
  unfold crownBeat
  rw [hroot, hwire, hlost]
  rfl

theorem resyncStart_lost (hlost : s.strap.link = .lost) : (resyncStart s).strap = { s.strap with
    link := .resync, goodHb := 0, crownTx := {}, rootTx := {}, fallbackDue := [], resyncNext := 0, crownResync := true } := by
  unfold resyncStart
  rw [hlost, if_neg (by decide)]

/-- A valid heartbeat of Crown's during a loss; the third in a row starts the RESYNC exchange. -/
theorem execHeartbeat_counts {b : Beat} (hhead : s.strap.crownHb.head? = some b) (hroot : s.strap.rootLost = true)
    (hwire : s.strap.wire = false) (hlost : s.strap.link = .lost) : ∃ x, CrownBeatTaken s x
      ∧ execHeartbeat false 0 s =
        complete s (if 3 ≤ s.strap.goodHb + 1 then resyncStart (beatCounted x) else beatCounted x) := by
  obtain ⟨x, hx, hbeat⟩ := heartbeat_crown hhead
  have hlink : x.strap.link = .lost := hx.link.trans hlost
  rw [crownBeat_lost (hx.lost.trans hroot) (hx.wire.trans hwire) hlink, hx.good] at hbeat
  have hdown : (if 3 ≤ s.strap.goodHb + 1 then resyncStart (beatCounted x) else beatCounted x).strap.link ≠ .up := by
    split
    · rw [resyncStart_lost (s := beatCounted x) hlink]
      exact LinkState.noConfusion
    · exact fun hup => LinkState.noConfusion (hlink.symm.trans hup)
  exact ⟨x, hx, by rw [execHeartbeat, hbeat, beatFlush_lost hdown]⟩

end

/-! ### The statement -/

theorem rootHeartbeat_eq (s : State) : (rootHeartbeat (laneBegin s)).strap = { s.strap with
    rootTime := s.strap.rootTime + 20, rootTx := { s.strap.rootTx with ackDue := false }
    rootHb := s.strap.rootHb ++ [{ time := s.strap.rootTime + 20, lost := s.strap.rootLost
                                   code := s.strap.codeRunning, ack := ackOwed s.strap.rootTx }]
    lanes := [onLane true (frameHeader 1 0 0 (ackOwed s.strap.rootTx))
      (le 4 (s.strap.rootTime + 20).toNat ++ le 2 (b2n s.strap.rootLost + 2 * b2n s.strap.codeRunning))] } := rfl

/-- Settles O11: a TICK leaves the Strap as `afterTick` says, and a heartbeat that arrives is taken with its acknowledgement
before its receiver compares counts, declares the loss, or counts it toward the RESYNC exchange. -/
theorem strapTicksAndHeartbeats : Obligations.StrapTicksAndHeartbeats := by
  unfold Obligations.StrapTicksAndHeartbeats
  refine ⟨?_, ?_, ?_, ?_, ?_, ?_, ?_, ?_, ?_, ?_⟩
  · intro gap s hcrown hosc hstill hlink
    refine ⟨_, rfl, ?_⟩
    rw [finish_time]
    exact tickReceive_counts gap (s := laneBegin s) hcrown hosc hstill hlink
  · intro gap s hcrown hlink
    refine ⟨_, rfl, ?_⟩
    rw [finish_time]
    exact tickReceive_frozen gap (s := laneBegin s) hlink
  · intro gap s hcrown hosc
    obtain ⟨hpower, hstrap⟩ := tickReceive_shows gap (s := laneBegin s) hcrown hosc
    refine ⟨_, rfl, ?_⟩
    rw [finish_power, finish_strap, hpower, hstrap]
    exact ⟨rfl, rfl, rfl⟩
  · intro s hosc
    refine ⟨_, rfl, ?_⟩
    rw [finish_strap, if_pos hosc]
    exact rootHeartbeat_eq s
  · intro gap s hosc hstill
    refine ⟨⟨_, rfl, ?_⟩, _, rfl, ?_⟩
    · rw [finish_strap, finish_time, tickReceive_stopped gap (s := laneBegin s) hosc hstill]
      exact ⟨rfl, rfl⟩
    · rw [finish_strap, hosc, if_neg Bool.false_ne_true]
      rfl
  · intro missed s b hhead hkeeps hcrown hup hidle hcompare
    have hlink : s.strap.link = .up := of_decide_eq_true hup
    obtain ⟨x, hx, hexec⟩ := execHeartbeat_compares hhead hkeeps hcrown hlink hidle.1
    obtain ⟨hstrap, hnow⟩ := heartbeatCompare_slips b.time (hx.compares.trans hcompare)
    refine ⟨_, hexec, ?_⟩
    rw [finish_strap, finish_time, hstrap, hnow, missedTicks, hx.last, hx.ticks, hx.slips, hx.time]
    exact ⟨rfl, rfl, hx.link.trans hlink, hx.beats, rfl, rfl⟩
  · intro missed s b hhead hkeeps hcrown hup hidle hcompare
    obtain ⟨x, hx, hexec⟩ := execHeartbeat_compares hhead hkeeps hcrown (of_decide_eq_true hup) hidle.1
    obtain ⟨hstrap, hnow, hstamp⟩ := heartbeatCompare_first b.time (hx.compares.trans hcompare)
    refine ⟨_, hexec, ?_⟩
    rw [finish_strap, finish_time, hstrap, hnow, hstamp, hx.time]
    exact ⟨rfl, rfl, hx.slips, rfl⟩
  · intro missed s b hhead hlost hcrown hup
    obtain ⟨x, hx, hexec⟩ := execHeartbeat_loses hhead hlost hcrown (of_decide_eq_true hup)
    obtain ⟨hlink, htold, hcause, hlosses⟩ := crownLoss_up 1 (hx.link.trans (of_decide_eq_true hup))
    refine ⟨_, hexec, ?_⟩
    rw [finish_strap, ← hx.losses]
    exact ⟨hlink, htold, hcause, hlosses⟩
  · intro s b hhead hroot hwire hlost
    obtain ⟨x, hx, hexec⟩ := execHeartbeat_counts hhead hroot hwire hlost
    have hlink : x.strap.link = .lost := hx.link.trans hlost
    refine ⟨_, hexec, ?_⟩
    rw [finish_strap]
    refine ⟨?_, fun hfew => ?_, fun hthird => ?_⟩
    · split
      · rw [resyncStart_lost (s := beatCounted x) hlink]
        exact hx.beats
      · exact hx.beats
    · rw [if_neg (by omega)]
      exact ⟨hlink, congrArg (· + 1) hx.good⟩
    · rw [if_pos (by omega), resyncStart_lost (s := beatCounted x) hlink]
      exact ⟨rfl, rfl, rfl, rfl⟩
  · intro missed s hnone hidle
    have hgone : heartbeat false missed (laneBegin s) = laneBegin s := heartbeat_none hnone
    refine ⟨_, rfl, ?_⟩
    rw [finish_strap, hgone, beatFlush_idle (fromRoot := false) (s := laneBegin s) hidle.2]
    rfl

end Sys2Proof.Machine
end

section
/-! PROOFS. What the work of a port, its PD engine, its leases and what it drives leaves alone: the Grain, the time and the
Satchel. -/

namespace Sys2Proof.Machine

/-- From `a` to `b` the Grain, the time and the Satchel stay: what the work of a port, its engine and its leases leaves. -/
@[simp] abbrev Aside (a b : State) : Prop := b.grain = a.grain ∧ b.time = a.time ∧ b.satchel = a.satchel

theorem Aside.after {a b c : State} (h : Aside b c) (g : Aside a b) : Aside a c := by
  obtain ⟨hgrain, htime, hsatchel⟩ := h
  obtain ⟨ggrain, gtime, gsatchel⟩ := g
  exact ⟨hgrain.trans ggrain, htime.trans gtime, hsatchel.trans gsatchel⟩

section
variable (s : State) (p : Fin 8)

@[simp] theorem ite_grain {c : Prop} [Decidable c] (a b : State) :
    (if c then a else b).grain = if c then a.grain else b.grain := apply_ite State.grain c a b
@[simp] theorem ite_time {c : Prop} [Decidable c] (a b : State) :
    (if c then a else b).time = if c then a.time else b.time := apply_ite State.time c a b
@[simp] theorem ite_satchel {c : Prop} [Decidable c] (a b : State) :
    (if c then a else b).satchel = if c then a.satchel else b.satchel := apply_ite State.satchel c a b

/-! ### Operations in turn -/

@[simp] theorem foldl_aside {α : Type} {f : State → α → State} (hf : ∀ x y, Aside x (f x y)) (l : List α) :
    Aside s (l.foldl f s) :=
  List.foldlRecOn (motive := Aside s) l f ⟨rfl, rfl, rfl⟩ fun _ hx y _ => (hf _ y).after hx

@[simp] theorem onPorts_aside {f : Fin 8 → State → State} (hf : ∀ q x, Aside x (f q x)) (ps : List (Fin 8)) :
    Aside s (onPorts ps f s) :=
  onPorts_keeps (P := Aside s) (fun q _ hx => (hf q _).after hx) ps ⟨rfl, rfl, rfl⟩

/-! ### Events and messages -/

@[simp] theorem rootEv_aside (e : Event) : Aside s (rootEv e s) := by simp [rootEv]
@[simp] theorem evp_aside (code sev : Nat) (data : List Byte) : Aside s (evp p code sev data s) := by simp [evp]

@[simp] theorem present_aside (t : CcTerm) : Aside s (present p t s) := by simp [present]
@[simp] theorem pdSendOn_aside (on : Sop) (m : PdMsg) : Aside s (pdSendOn p on m s) := by simp [pdSendOn]
@[simp] theorem pdSend_aside (m : PdMsg) : Aside s (pdSend p m s) := by simp [pdSend]
@[simp] theorem amsStart_aside (k : Byte) : Aside s (amsStart p k s) := by simp [amsStart]
@[simp] theorem amsEnd_aside : Aside s (amsEnd p s) := by simp [amsEnd]
@[simp] theorem amsSend_aside (k : Byte) (m : PdMsg) : Aside s (amsSend p k m s) := by simp [amsSend]

/-! ### Leases and the queue of the Awl -/

@[simp] theorem eraseItem_aside (i : Fin 20) : Aside s (eraseItem i s) := by
  unfold eraseItem
  split <;> exact ⟨rfl, rfl, rfl⟩
@[simp] theorem unwant_aside : Aside s (unwant p s) := ⟨rfl, rfl, rfl⟩
@[simp] theorem unwantAll_aside : Aside s (unwantAll p s) := ⟨rfl, rfl, rfl⟩
@[simp] theorem authClear_aside (st : AuthState) : Aside s (authClear st p s) := by simp [authClear]
@[simp] theorem authEnd_aside : Aside s (authEnd p s) := by simp [authEnd]
@[simp] theorem authStop_aside (st : AuthState) (reason : BitVec 4) : Aside s (authStop st reason p s) := by
  simp [authStop]
@[simp] theorem awlJoin_aside (u : AwlUnit) : Aside s (awlJoin u s) := by
  unfold awlJoin
  split <;> simp
@[simp] theorem awlQueue_aside (use : AwlUse) (needs output : Option (Fin 20)) :
    Aside s (awlQueue use needs output s) := by simp [awlQueue]
@[simp] theorem eraseHolder_aside (h : Nat) : Aside s (eraseHolder h s) := by simp [eraseHolder]
@[simp] theorem integrityAlarm_aside (holder : Nat) : Aside s (integrityAlarm holder s) := by simp [integrityAlarm]
@[simp] theorem loseBuffered_aside (line : Nat) : Aside s (loseBuffered line s) := by
  unfold loseBuffered
  split <;> simp

/-! ### The Sap domain, comparators and pulse generators -/

@[simp] theorem emitSap_aside (e : Event) : Aside s (emitSap e s) := by
  unfold emitSap park
  (repeat' split) <;> simp
@[simp] theorem sapWake_aside (src : Nat) : Aside s (sapWake src s) := by simp [sapWake]
@[simp] theorem countNow_aside (n : Fin 8) : Aside s (countNow n s).2 := by
  simp [countNow, apply_ite Prod.snd]
@[simp] theorem captureAt_aside (code : Nat) (v : Half) (n : Fin 8) : Aside s (captureAt code v n s) := by
  simp [captureAt]
@[simp] theorem capture_aside (code : Nat) (n : Fin 8) : Aside s (capture code n s) := by simp [capture]
@[simp] theorem captureAll_aside (code : Nat) : Aside s (captureAll code s) := by simp [captureAll]
@[simp] theorem pgStop_aside (n : Fin 8) : Aside s (pgStop n s) := by simp [pgStop]
@[simp] theorem pgTrip_aside (n : Fin 8) : Aside s (pgTrip n s) := by simp [pgTrip]
@[simp] theorem cmpReport_aside (n : Fin 8) : Aside s (cmpReport n s) := by simp [cmpReport]
@[simp] theorem cmpLevel_aside (n : Fin 8) : Aside s (cmpLevel n s) := by
  simp [cmpLevel, cmpLatchSet, cmpWake]
@[simp] theorem pgBegin_aside (n : Fin 8) : Aside s (pgBegin n s) := by simp [pgBegin, cmpPeriod]
@[simp] theorem pgDisown_aside (n : Fin 8) : Aside s (pgDisown n s) := by simp [pgDisown]

/-! ### The CC lines, the power path and the group -/

@[simp] theorem vconnOff_aside : Aside s (vconnOff p s) := by simp [vconnOff]
@[simp] theorem vconnTurnOn_aside : Aside s (vconnTurnOn p s) := ⟨rfl, rfl, rfl⟩
@[simp] theorem debReport_aside (t : DebTimer) (extMs : Nat) : Aside s (debReport p t extMs s) := by simp [debReport]
@[simp] theorem debounceDrop_aside : Aside s (debounceDrop p s) := by
  rcases debounceDrop_cases s p with h | ⟨t, ms, h⟩ <;> simp [h]
@[simp] theorem setCcState_aside (st : CcState) : Aside s (setCcState p st s) := by simp [setCcState]
@[simp] theorem gatesLow_aside : Aside s (gatesLow p s) := by simp [gatesLow]
@[simp] theorem dischargeOn_aside : Aside s (dischargeOn p s) := by simp [dischargeOn]
@[simp] theorem gatesOff_aside : Aside s (gatesOff p s) := by simp [gatesOff]
@[simp] theorem gatesDark_aside : Aside s (gatesDark p s) := by simp [gatesDark]
@[simp] theorem setTarget_aside (mv : Nat) : Aside s (setTarget p mv s) := by simp [setTarget]
@[simp] theorem contractOver_aside : Aside s (contractOver p s) := by simp [contractOver]
@[simp] theorem setCode_aside (v : Int) : Aside s (setCode p v s) := by simp [setCode]
@[simp] theorem pdEnd_aside : Aside s (pdEnd p s) := by simp [pdEnd]
@[simp] theorem clearLevels_aside : Aside s (clearLevels p s) := by simp [clearLevels]
@[simp] theorem gcutOpen_aside (g : Fin 2) (cause : Nat) : Aside s (gcutOpen g cause s) := by simp [gcutOpen]
@[simp] theorem backfeedEnd_aside (cause : Nat) : Aside s (backfeedEnd p cause s) := by simp [backfeedEnd]
@[simp] theorem portLeave_aside (cause : Nat) : Aside s (portLeave p cause s) := by simp [portLeave]
@[simp] theorem outOfService_aside : Aside s (outOfService p s) := by simp [outOfService, ovpOver]
@[simp] theorem groupHoldOut_aside : Aside s (groupHoldOut p s) := by simp [groupHoldOut]
@[simp] theorem groupAfterBackfeed_aside (g : Fin 2) : Aside s (groupAfterBackfeed g s) :=
  groupAfterBackfeed_keeps (P := Aside s) (fun k x hx => (groupHoldOut_aside x k).after hx) g ⟨rfl, rfl, rfl⟩
@[simp] theorem takeOut_aside : Aside s (takeOut p s) := by simp [takeOut]
@[simp] theorem errorRecovery_aside : Aside s (errorRecovery p s) := by simp [errorRecovery]
@[simp] theorem tripCount_aside (code : Nat) : Aside s (tripCount p code s) := by simp [tripCount]
@[simp] theorem afterTrip_aside (code : Nat) : Aside s (afterTrip p code s) := by simp [afterTrip]
@[simp] theorem inrushFail_aside (vbusMv : Nat) : Aside s (inrushFail p vbusMv s) := by simp [inrushFail]
@[simp] theorem turnOn_aside : Aside s (turnOn p s) := by simp [turnOn, pgOwn]

/-! ### The PD engine: offers, resets and violations -/

@[simp] theorem setStep_aside (st : PdStep) : Aside s (setStep p st s) := by simp [setStep]
@[simp] theorem hushAmsEnd_aside : Aside s (hushAmsEnd p s) := by simp [hushAmsEnd]
@[simp] theorem hushEnd_aside : Aside s (hushEnd p s) := by
  unfold hushEnd
  split <;> simp
@[simp] theorem sendOffer_aside (own : Bool) (pdos : List Word) : Aside s (sendOffer p own pdos s) := by simp [sendOffer]
@[simp] theorem sendCapsAs_aside (own : Bool) : Aside s (sendCapsAs p own s) := by simp [sendCapsAs]
@[simp] theorem sendCaps_aside : Aside s (sendCaps p s) := by simp [sendCaps]
@[simp] theorem authDrop_aside : Aside s (authDrop p s) := by simp [authDrop]
@[simp] theorem authAbandon_aside : Aside s (authAbandon p s) := by simp [authAbandon]
@[simp] theorem softResetWith_aside {give : Fin 8 → State → State} (hgive : ∀ q x, Aside x (give q x))
    (sent : Bool) : Aside s (softResetWith give p sent s) := by
  simp [softResetWith, hgive]
@[simp] theorem softReset_aside (sent : Bool) : Aside s (softReset p sent s) := by simp [softReset]
@[simp] theorem hardReset_aside (sent : Bool) (cause : Nat) : Aside s (hardReset p sent cause s) := by
  simp [hardReset]
@[simp] theorem answerA1_aside (m : Option PdMsg) : Aside s (answerA1 p m s) := by
  unfold answerA1
  split <;> simp
@[simp] theorem answerA2_aside (k : Nat) (m : Option PdMsg) : Aside s (answerA2 p k m s) := by
  rcases m with - | m
  · exact answerA1_aside s p none
  · cases m with
    | request _ | eprRequest _ _ | prSwap | drSwap | vconnSwap | frSwap | eprModeEnter => exact pdSend_aside s p _
    | _ => exact answerA1_aside s p _
@[simp] theorem violate_aside (k : Fin 24) (on : Sop) (m : Option PdMsg) : Aside s (violate p k on m s) := by
  unfold violate
  dsimp only
  split <;> simp
@[simp] theorem unexpected_aside (on : Sop) (m : PdMsg) : Aside s (unexpected p on m s) := by
  simp [unexpected]

/-! ### Authentication -/

@[simp] theorem pocketShort_aside (i : Fin 20) (cause : Nat) : Aside s (pocketShort i cause s) := by
  simp [pocketShort]
@[simp] theorem unauthenticated_aside : Aside s (unauthenticated p s) := ⟨rfl, rfl, rfl⟩
@[simp] theorem authAsk_aside (kind : Fin 3) (offset len : Nat) : Aside s (authAsk p kind offset len s) := by
  simp [authAsk]
@[simp] theorem authBegin_aside : Aside s (authBegin p s) := by simp [authBegin, authLease]
@[simp] theorem authFail_aside (reason : BitVec 4) : Aside s (authFail p reason s) := by simp [authFail]
@[simp] theorem authResponse_aside (phase : Fin 3) (data : List Byte) (certs largest : Nat) (last : Bool) :
    Aside s (authResponse p phase data certs largest last s) := by
  unfold authResponse
  dsimp only
  split <;> simp
@[simp] theorem authAnswer_aside (kind : Fin 3) (offset len : Nat) (digest : List Byte) :
    Aside s (authAnswer p kind offset len digest s) := by
  unfold authAnswer
  (repeat' split) <;> simp

/-! ### The PD engine: messages -/

@[simp] theorem contractMade_aside : Aside s (contractMade p s) := by simp [contractMade]
@[simp] theorem amsOver_aside : Aside s (amsOver p s) := by simp [amsOver]
@[simp] theorem negotiationOver_aside : Aside s (negotiationOver p s) := by simp [negotiationOver]
@[simp] theorem answerWait_aside (pol : PdPolicy) : Aside s (answerWait p pol s) := by simp [answerWait]
@[simp] theorem onRequest_aside (m : PdMsg) (epr : Bool) (rdo : Word) (pol : PdPolicy) :
    Aside s (onRequest p m epr rdo pol s) := by
  unfold onRequest
  dsimp only
  (repeat' split) <;> simp
@[simp] theorem roleSwapEvent_aside (kind : Nat) : Aside s (roleSwapEvent p kind s) := by simp [roleSwapEvent]
@[simp] theorem onPrSwap_aside (m : PdMsg) (pol : PdPolicy) : Aside s (onPrSwap p m pol s) := by
  unfold onPrSwap
  dsimp only
  (repeat' split) <;> simp
@[simp] theorem hushLeave_aside : Aside s (hushLeave p s) := by simp [hushLeave]
@[simp] theorem drSwapped_aside : Aside s (drSwapped p s) := by simp [drSwapped]
@[simp] theorem onDrSwap_aside (m : PdMsg) (pol : PdPolicy) : Aside s (onDrSwap p m pol s) := by
  unfold onDrSwap
  dsimp only
  (repeat' split) <;> simp
@[simp] theorem onVconnSwap_aside (m : PdMsg) (pol : PdPolicy) : Aside s (onVconnSwap p m pol s) := by
  unfold onVconnSwap
  dsimp only
  (repeat' split) <;> simp
@[simp] theorem eprLeave_aside : Aside s (eprLeave p s) := by simp [eprLeave]
@[simp] theorem onPsRdy_aside (m : PdMsg) : Aside s (onPsRdy p m s) := by
  unfold onPsRdy
  split <;> simp [backfeedStart]
@[simp] theorem authAgain_aside (pol : PdPolicy) : Aside s (authAgain p pol s) := by simp [authAgain]
@[simp] theorem onAccept_aside (m : PdMsg) (pol : PdPolicy) : Aside s (onAccept p m pol s) := by
  unfold onAccept
  dsimp only
  split <;> simp
@[simp] theorem onTurnedDown_aside (m : PdMsg) : Aside s (onTurnedDown p m s) := by
  unfold onTurnedDown
  split <;> simp
@[simp] theorem onGoodCrc_aside (ordered : Sop) : Aside s (onGoodCrc p ordered s) := by
  unfold onGoodCrc
  dsimp only
  (repeat' split) <;> simp
@[simp] theorem onEprExit_aside (m : PdMsg) : Aside s (onEprExit p m s) := by simp [onEprExit]
@[simp] theorem onHushAck_aside (m : PdMsg) (header vdo : Word) : Aside s (onHushAck p m header vdo s) := by
  simp [onHushAck]
@[simp] theorem hushRefuse_aside (c : HushRefusal) : Aside s (hushRefuse p c s) := by simp [hushRefuse]
@[simp] theorem onSoftReset_aside (pol : PdPolicy) : Aside s (onSoftReset p pol s) := by simp [onSoftReset]
@[simp] theorem onSinkCaps_aside (frs : BitVec 2) (pol : PdPolicy) : Aside s (onSinkCaps p frs pol s) := by
  simp [onSinkCaps]
@[simp] theorem extAnswer_aside (m : PdMsg) : Aside s (extAnswer p m s) := by simp [extAnswer]
@[simp] theorem vdmAnswer_aside (m : PdMsg) {f : State → State} (hf : ∀ x, Aside x (f x)) :
    Aside s (vdmAnswer p m f s) := by
  simp [vdmAnswer, hf]
@[simp] theorem bistCarrierStart_aside : Aside s (bistCarrierStart p s) := ⟨rfl, rfl, rfl⟩
@[simp] theorem onMessage_aside (m : PdMsg) (pol : PdPolicy) : Aside s (onMessage p m pol s) := by
  unfold onMessage
  split <;> simp [onSourceCaps, onFrSwap, onEprEnter]
@[simp] theorem negotiationsResume_aside : Aside s (negotiationsResume s) := by simp [negotiationsResume]

/-! ### Root alone -/

@[simp] theorem holdOver_aside : Aside s (holdOver p s) := by simp [holdOver]
@[simp] theorem rootDark_aside : Aside s (rootDark p s) := by simp [rootDark]
@[simp] theorem takeFallback_aside : Aside s (takeFallback p s) := by simp [takeFallback]
@[simp] theorem rootHoldStart_aside : Aside s (rootHoldStart p s) := by simp [rootHoldStart]
@[simp] theorem showHold_aside : Aside s (showHold p s) := by simp [showHold]
@[simp] theorem holdClear_aside : Aside s (holdClear p s) := by simp [holdClear]

end

end Sys2Proof.Machine
end

section
/-! PROOFS. The supervisor's token round (R126, R130, R131) and the reload of a stalled stand (R127, R531): a round gives each
stand its turn, and a turn works on its own stand. -/

namespace Sys2Proof.Machine

section
variable (s : State) (j k : Fin 16)

/-! ### One stand updated -/

@[simp] theorem modStand_same (f : Stand → Stand) : (modStand k f s).grain.stands[k] = f s.grain.stands[k] := by
  simp [modStand]

theorem modStand_other (h : k ≠ j) (f : Stand → Stand) : (modStand j f s).grain.stands[k] = s.grain.stands[k] := by
  have hval : ¬ j.val = k.val := fun he => h (Fin.ext he.symm)
  simp [modStand, hval]

@[simp] theorem modStand_fault (f : Stand → Stand) : (modStand k f s).grain.fault = s.grain.fault := rfl

/-- From `a` to `b` stand `k` and the time stay, and no failed stand of GRSTAT.FAULT is forgotten. -/
structure StandKept (k : Fin 16) (a b : State) : Prop where
  stand : b.grain.stands[k] = a.grain.stands[k]
  time : b.time = a.time
  fault : ∀ i, a.grain.fault.getLsbD i = true → b.grain.fault.getLsbD i = true

namespace StandKept
variable {k : Fin 16} {a b c : State}

theorem refl (a : State) : StandKept k a a := ⟨rfl, rfl, fun _ h => h⟩

theorem trans (h : StandKept k a b) (g : StandKept k b c) : StandKept k a c :=
  ⟨g.stand.trans h.stand, g.time.trans h.time, fun i hi => g.fault i (h.fault i hi)⟩

theorem of_grain (hgrain : b.grain = a.grain) (htime : b.time = a.time) : StandKept k a b :=
  ⟨by rw [hgrain], htime, by rw [hgrain]; exact fun _ h => h⟩

end StandKept

theorem modStand_kept (h : k ≠ j) (f : Stand → Stand) : StandKept k s (modStand j f s) :=
  ⟨modStand_other s j k h f, rfl, fun _ hi => hi⟩

/-! ### A stall and what it leads to (R127, R130, R131) -/

@[simp] theorem standHoldStart_aside (p : Fin 8) : Aside s (standHoldStart p s) := by simp [standHoldStart]

/-- GRSTAT.FAULT with one more failed physical stand. -/
def withFault (phys : Nat) (s : State) : State :=
  { s with grain := { s.grain with fault := s.grain.fault ||| BitVec.ofNat 16 (1 <<< phys) } }

/-- A stand that stays down, before its port or the supervisor follows. -/
def standDown : State :=
  withFault s.grain.stands[k].phys (modStand k (fun t => { t with out := true, live := false }) s)

theorem standOut_down : (standOut k s).grain.stands = (standDown s k).grain.stands
    ∧ (standOut k s).grain.fault = (standDown s k).grain.fault ∧ (standOut k s).time = s.time := by
  unfold standOut
  dsimp only
  split
  · split <;> simp [setPortStand, standDown, withFault]
  · exact ⟨rfl, rfl, rfl⟩

theorem faultBit {phys : Nat} (h : phys < 16) : (BitVec.ofNat 16 (1 <<< phys)).getLsbD (phys % 16) = true := by
  simp [Nat.mod_eq_of_lt h, Nat.testBit_shiftLeft, BitVec.getLsbD_ofNat, h, -BitVec.getLsbD_eq_getElem]

theorem standDown_stands : (standDown s k).grain.stands =
    (modStand k (fun t => { t with out := true, live := false }) s).grain.stands := rfl

theorem standDown_stand : (standDown s k).grain.stands[k] = { s.grain.stands[k] with out := true, live := false } := by
  rw [standDown_stands, modStand_same]

theorem standDown_fault (h : s.grain.stands[k].phys < 16) :
    (standDown s k).grain.fault.getLsbD (s.grain.stands[k].phys % 16) = true := by
  have hbit := faultBit h
  unfold standDown withFault
  rw [BitVec.getLsbD_or, hbit, Bool.or_true]

theorem standOut_kept (h : k ≠ j) : StandKept k s (standOut j s) := by
  obtain ⟨hstands, hfault, htime⟩ := standOut_down s j
  refine ⟨?_, htime, fun i hi => ?_⟩
  · rw [hstands, standDown_stands, modStand_other s j k h]
  · rw [hfault, standDown, withFault, BitVec.getLsbD_or, modStand_fault, hi, Bool.true_or]

/-- The stalls of a stand that R130 counts once it stalls now. -/
def stallTimes : List Nat := recent s 10000000 s.grain.stands[k].stalls ++ [s.time.now]

/-- The declaration of a stall, before the reload or the end of its stand. -/
def stallDeclared : State :=
  let x := modStand k (fun t => { t with stalls := stallTimes s k, missed := 0, live := false }) s
  emit (devEv 0x0203 5 [BitVec.ofNat 8 k.val, BitVec.ofNat 8 (satTo 8 (stallTimes s k).length)])
    { x with grain := { x.grain with stallCount := bump 8 x.grain.stallCount } }

/-- The reload of a stalled stand begins: its claims on Seam end, and its port is in hold. -/
def reloadBegun : State :=
  let x := seamDropStand k (modStand k (fun t => { t with reloading := true }) s)
  match standPort x.grain.stands[k] with
  | some p => standHoldStart p x
  | none => x

theorem standStall_eq : standStall k s =
    if 3 ≤ (stallTimes s k).length then standOut k (stallDeclared s k) else reloadBegun (stallDeclared s k) k := rfl

theorem stallDeclared_grain : (stallDeclared s k).grain.stands =
      (modStand k (fun t => { t with stalls := stallTimes s k, missed := 0, live := false }) s).grain.stands
    ∧ (stallDeclared s k).grain.fault = s.grain.fault ∧ (stallDeclared s k).time = s.time := by
  simp [stallDeclared]

theorem stallDeclared_stand : (stallDeclared s k).grain.stands[k] =
    { s.grain.stands[k] with stalls := stallTimes s k, missed := 0, live := false } := by
  rw [(stallDeclared_grain s k).1, modStand_same]

theorem stallDeclared_kept (h : k ≠ j) : StandKept k s (stallDeclared s j) := by
  obtain ⟨hstands, hfault, htime⟩ := stallDeclared_grain s j
  exact ⟨by rw [hstands, modStand_other s j k h], htime, by rw [hfault]; exact fun _ hi => hi⟩

theorem reloadBegun_grain : (reloadBegun s k).grain = (modStand k (fun t => { t with reloading := true }) s).grain
    ∧ (reloadBegun s k).time = s.time := by
  unfold reloadBegun
  dsimp only
  split <;> simp [seamDropStand]

theorem reloadBegun_kept (h : k ≠ j) : StandKept k s (reloadBegun s j) := by
  obtain ⟨hgrain, htime⟩ := reloadBegun_grain s j
  exact (modStand_kept s j k h _).trans (.of_grain hgrain htime)

theorem standStall_kept (h : k ≠ j) : StandKept k s (standStall j s) := by
  rw [standStall_eq]
  split
  · exact (stallDeclared_kept s j k h).trans (standOut_kept _ j k h)
  · exact (stallDeclared_kept s j k h).trans (reloadBegun_kept _ j k h)

/-- What a stand is after the declaration of a stall, of the stalls that count with it: out at the third (R130), and
otherwise reloaded (R127). -/
def afterStall (times : List Nat) (t : Stand) : Stand :=
  if 3 ≤ times.length then { t with stalls := times, missed := 0, live := false, out := true }
  else { t with stalls := times, missed := 0, live := false, reloading := true }

theorem standOut_stand : (standOut k s).grain.stands[k] = { s.grain.stands[k] with out := true, live := false } := by
  rw [(standOut_down s k).1, standDown_stand]

theorem reloadBegun_stand : (reloadBegun s k).grain.stands[k] = { s.grain.stands[k] with reloading := true } := by
  rw [(reloadBegun_grain s k).1, modStand_same]

theorem standStall_stand : (standStall k s).grain.stands[k] = afterStall (stallTimes s k) s.grain.stands[k] := by
  rw [standStall_eq, afterStall]
  split
  · rw [standOut_stand, stallDeclared_stand]
  · rw [reloadBegun_stand, stallDeclared_stand]

theorem standStall_fault (hout : 3 ≤ (stallTimes s k).length) (h : s.grain.stands[k].phys < 16) :
    (standStall k s).grain.fault.getLsbD (s.grain.stands[k].phys % 16) = true := by
  have hphys : (stallDeclared s k).grain.stands[k].phys = s.grain.stands[k].phys := by rw [stallDeclared_stand]
  rw [standStall_eq, if_pos hout, (standOut_down _ k).2.1, ← hphys]
  exact standDown_fault _ k (hphys ▸ h)

/-! ### A token round (R126) -/

/-- The supervisor's own stand has stalled (R131). -/
def supervisorStalled : State := { s with grain := { s.grain with supStopped := true, supStalled := true } }

theorem supervisorStalled_kept : StandKept k s (supervisorStalled s) := ⟨rfl, rfl, fun _ h => h⟩

/-- A token that has not come. -/
def tokenMissed : State := modStand k (fun t => { t with missed := t.missed + 1, live := false }) s

/-- The turn of a stand that gives tokens. -/
def tokenTurn (got : Bool) (k : Fin 16) (s : State) : State :=
  if got then modStand k (fun t => { t with missed := 0, live := true }) s
  else if s.grain.stands[k].missed + 1 < 2 then tokenMissed s k
  else if s.grain.stands[k].role = 2 then
    modStand k (fun t => { t with missed := 0 }) (supervisorStalled (tokenMissed s k))
  else standStall k (tokenMissed s k)

theorem standToken_eq (got : Bool) : standToken got k s =
    if !presentStand s k || s.grain.stands[k].out || s.grain.stands[k].reloading then s else tokenTurn got k s := rfl

theorem tokenTurn_kept (got : Bool) (h : k ≠ j) : StandKept k s (tokenTurn got j s) := by
  have hmissed : StandKept k s (tokenMissed s j) := modStand_kept s j k h _
  unfold tokenTurn
  split
  · exact modStand_kept s j k h _
  · split
    · exact hmissed
    · split
      · exact hmissed.trans <| (supervisorStalled_kept _ k).trans (modStand_kept _ j k h _)
      · exact hmissed.trans (standStall_kept _ j k h)

theorem standToken_kept (got : Bool) (h : k ≠ j) : StandKept k s (standToken got j s) := by
  rw [standToken_eq]
  split
  · exact .refl s
  · exact tokenTurn_kept s j k got h

/-- In a round each stand has its turn once: what comes before and after its turn keeps it. -/
theorem foldl_turn {f : State → Fin 16 → State} (hother : ∀ x j, k ≠ j → StandKept k x (f x j)) :
    ∃ x, StandKept k s x ∧ StandKept k (f x k) ((List.finRange 16).foldl f s) := by
  obtain ⟨l, r, hl⟩ := List.append_of_mem (List.mem_finRange k)
  have hnodup : (l ++ k :: r).Nodup := hl ▸ List.nodup_finRange 16
  have hpart : ∀ (m : List (Fin 16)) (y : State), k ∉ m → StandKept k y (m.foldl f y) := fun m y hm =>
    List.foldlRecOn m f (.refl y) fun z hz j hj => hz.trans (hother z j fun he => hm (he ▸ hj))
  obtain ⟨-, hr, hdisjoint⟩ := List.nodup_append.mp hnodup
  refine ⟨l.foldl f s, hpart l s fun hk => hdisjoint k hk k List.mem_cons_self rfl, ?_⟩
  rw [hl, List.foldl_append, List.foldl_cons]
  exact hpart r _ (List.nodup_cons.mp hr).1

variable {s k}

/-- The supervisor's round at a stand: its own turn, in a state that differs from `s` by other stands. -/
theorem supervisorTick_turn (tokens : BitVec 16) (hready : isReady s = true) (hruns : timersRun s = true)
    (hserves : s.grain.supStalled = false) : ∃ x, StandKept k s x
      ∧ StandKept k (standToken (tokens.getLsbD k.val) k x) (supervisorTick tokens s) := by
  have hgo : (!isReady s || !timersRun s || s.grain.supStalled) = false := by rw [hready, hruns, hserves]; rfl
  rw [supervisorTick, hgo, if_neg Bool.false_ne_true]
  exact foldl_turn (f := fun x j => standToken (tokens.getLsbD j.val) j x) s k fun x j h => standToken_kept x j k _ h

/-- The stand gives tokens: present, in service and not being reloaded. -/
def standServes (s : State) (k : Fin 16) : Prop :=
  presentStand s k = true ∧ s.grain.stands[k].out = false ∧ s.grain.stands[k].reloading = false

theorem standServes_kept {x : State} (h : StandKept k s x) (hs : standServes s k) : standServes x k := by
  unfold standServes presentStand at hs ⊢
  rwa [h.stand]

theorem standToken_serves (hs : standServes s k) (got : Bool) : standToken got k s = tokenTurn got k s := by
  obtain ⟨hpresent, hin, hloaded⟩ := hs
  have hgo : (!presentStand s k || s.grain.stands[k].out || s.grain.stands[k].reloading) = false := by
    rw [hpresent, hin, hloaded]
    rfl
  rw [standToken_eq, hgo, if_neg Bool.false_ne_true]

theorem tokenMissed_stand : (tokenMissed s k).grain.stands[k] =
    { s.grain.stands[k] with missed := s.grain.stands[k].missed + 1, live := false } := modStand_same s k _

theorem stallTimes_tokenMissed : stallTimes (tokenMissed s k) k = stallTimes s k := by
  rw [stallTimes, tokenMissed_stand]
  rfl

theorem stallTimes_kept {x : State} (h : StandKept k s x) : stallTimes x k = stallTimes s k := by
  unfold stallTimes recent passed
  rw [h.stand, h.time]

theorem stallTimes_length : (stallTimes s k).length = (recent s 10000000 s.grain.stands[k].stalls).length + 1 := by
  rw [stallTimes, List.length_append, List.length_singleton]

/-- What a stand is after its token round, of the stalls that count with one that is declared now (R126, R131). -/
def afterToken (got : Bool) (times : List Nat) (t : Stand) : Stand :=
  if got then { t with missed := 0, live := true }
  else if t.missed + 1 < 2 then { t with missed := t.missed + 1, live := false }
  else if t.role = 2 then { t with missed := 0, live := false }
  else afterStall times { t with missed := t.missed + 1, live := false }

section
variable (times : List Nat) (t : Stand)

theorem afterToken_live : (afterToken false times t).live = false := by
  rw [afterToken, if_neg Bool.false_ne_true, afterStall]
  split
  · rfl
  · split
    · rfl
    · split <;> rfl

theorem afterToken_first (h : t.missed = 0) : afterToken false times t = { t with missed := 1, live := false } := by
  simp [afterToken, h]

theorem afterToken_stall (hmissed : 1 ≤ t.missed) (hrole : t.role ≠ 2) :
    afterToken false times t = afterStall times { t with missed := t.missed + 1, live := false } := by
  have hsecond : ¬ t.missed + 1 < 2 := by omega
  rw [afterToken, if_neg Bool.false_ne_true, if_neg hsecond, if_neg hrole]

end

theorem standToken_stand (hs : standServes s k) (got : Bool) :
    (standToken got k s).grain.stands[k] = afterToken got (stallTimes s k) s.grain.stands[k] := by
  rw [standToken_serves hs, tokenTurn, afterToken]
  split
  · exact modStand_same s k _
  · split
    · exact tokenMissed_stand
    · split
      · rw [modStand_same, (supervisorStalled_kept _ k).stand, tokenMissed_stand]
      · rw [standStall_stand, stallTimes_tokenMissed, tokenMissed_stand]

section
variable {tokens : BitVec 16} (hready : isReady s = true) (hruns : timersRun s = true)
  (hcollects : s.grain.supStalled = false) (hs : standServes s k)
include hready hruns hcollects hs

theorem supervisorTick_stand : (supervisorTick tokens s).grain.stands[k] =
    afterToken (tokens.getLsbD k.val) (stallTimes s k) s.grain.stands[k] := by
  obtain ⟨x, hx, hafter⟩ := supervisorTick_turn tokens hready hruns hcollects
  rw [hafter.stand, standToken_stand (standServes_kept hx hs), stallTimes_kept hx, hx.stand]

/-- A stand that stays down has its physical stand in GRSTAT.FAULT (R130). -/
theorem supervisorTick_fault (hlost : tokens.getLsbD k.val = false) (hmissed : 1 ≤ s.grain.stands[k].missed)
    (hrole : s.grain.stands[k].role ≠ 2) (hout : 3 ≤ (stallTimes s k).length) (hphys : s.grain.stands[k].phys < 16) :
    (supervisorTick tokens s).grain.fault.getLsbD (s.grain.stands[k].phys % 16) = true := by
  obtain ⟨x, hx, hafter⟩ := supervisorTick_turn tokens hready hruns hcollects
  have htoken : standToken (tokens.getLsbD k.val) k x = standStall k (tokenMissed x k) := by
    rw [standToken_serves (standServes_kept hx hs), hlost, tokenTurn, if_neg Bool.false_ne_true, hx.stand,
      if_neg (by omega), if_neg hrole]
  have hsame : (tokenMissed x k).grain.stands[k].phys = s.grain.stands[k].phys := by rw [tokenMissed_stand, hx.stand]
  refine hafter.fault _ ?_
  rw [htoken, ← hsame]
  exact standStall_fault _ k (by rwa [stallTimes_tokenMissed, stallTimes_kept hx]) (hsame ▸ hphys)

end

end

/-! ### A reload that ends (R127, R531) -/

section
variable {s : State} {k : Fin 16}

theorem standResume_grain (p : Fin 8) : (standResume p s).grain = s.grain := by
  unfold standResume
  dsimp only
  split
  · exact ((modHold_work p s _).trans <| (modHold_work p _ _).trans (portResume_work p _ false)).grain
  · rfl

/-- A reload that completes: only the stand itself changes in the Grain. -/
theorem standReloaded_ok (hloading : s.grain.stands[k].reloading = true) (hline : reloadLine k none s = none) :
    (standReloaded k none s).grain =
      (modStand k (fun t => { t with reloading := false, reloads := bump 7 t.reloads }) s).grain := by
  unfold standReloaded
  rw [hloading, hline]
  dsimp only
  rw [Bool.not_true, if_neg Bool.false_ne_true]
  split
  · rw [standResume_grain, emit_grain]
  · rw [(negotiationsResume_aside _).1, emit_grain]

/-- The line of a stand's copy whose tag failed is poisoned, and the Grain waits for the reload's end (R531). -/
theorem poisonLine_grain (who : Requester) (w : Fin 8) (line kind : Nat) :
    (poisonLine who w line kind s).grain = s.grain
      ∧ (poisonLine who w line kind s).satchel.poisoned.contains line = true := by
  have hline : (if s.satchel.poisoned.contains line then s.satchel.poisoned else line :: s.satchel.poisoned).contains
      line = true := by
    split
    next h => exact h
    next => simp
  unfold poisonLine
  dsimp only
  refine ⟨?_, ?_⟩
  · split <;> simp
  · split <;> simpa using hline

/-- Line `line` of the copy of stand `k` has failed: the stand stays out, and the supervisor is stopped. -/
def reloadStopped (k : Fin 16) (line : Nat) (s : State) : State :=
  let x := modStand k (fun t => { t with reloading := false, out := true }) s
  emit (devEv 0x0205 6 (BitVec.ofNat 8 k.val :: le 2 line)) { x with grain := { x.grain with supStopped := true } }

theorem reloadStopped_grain (line : Nat) : (reloadStopped k line s).grain.stands =
      (modStand k (fun t => { t with reloading := false, out := true }) s).grain.stands
    ∧ (reloadStopped k line s).grain.supStopped = true ∧ (reloadStopped k line s).satchel = s.satchel := by
  simp [reloadStopped]

theorem standReloaded_stopped {line : Nat} (hloading : s.grain.stands[k].reloading = true) (hline : line / 256 = k.val) :
    ∃ x, x.grain = s.grain ∧ x.satchel.poisoned.contains line = true
      ∧ standReloaded k (some line) s = reloadStopped k line x := by
  have hbad : reloadLine k (some line) s = some line := if_pos hline
  refine ⟨if s.satchel.poisoned.contains line then s else poisonLine .loader 0 line 0 s, ?_, ?_, ?_⟩
  · split
    · rfl
    · exact (poisonLine_grain _ _ _ _).1
  · split
    next h => exact h
    next => exact (poisonLine_grain _ _ _ _).2
  · unfold standReloaded
    rw [hloading, hbad]
    rfl

end

/-- Settles O9: a stand's own turn decides what it is after a round, and the end of a reload changes that stand alone. -/
theorem supervisorTokens : Obligations.SupervisorTokens := by
  unfold Obligations.SupervisorTokens
  refine ⟨?_, ?_, ?_⟩
  · intro tokens k s hready hruns hcollects hpresent hin hloaded
    have hs : standServes s k := ⟨hpresent, hin, hloaded⟩
    have hstand := supervisorTick_stand (tokens := tokens) hready hruns hcollects hs
    have hlen := stallTimes_length (s := s) (k := k)
    refine ⟨_, rfl, ?_⟩
    rw [finish_grain, hstand]
    refine ⟨fun hgot => ?_, fun hlost => ?_, fun hlost hfirst => ?_, fun hlost hsecond hrole hfew => ?_,
      fun hlost hsecond hrole hmany => ?_⟩
    · rw [hgot]
      rfl
    · rw [hlost]
      exact afterToken_live _ _
    · rw [hlost]
      exact afterToken_first _ _ hfirst
    · rw [hlost, afterToken_stall _ _ hsecond hrole, afterStall, if_neg (by omega)]
      exact ⟨rfl, rfl⟩
    · refine (Nat.lt_or_ge s.grain.stands[k].phys 16).imp (fun hphys => ?_) id
      have hout : 3 ≤ (stallTimes s k).length := by omega
      rw [supervisorTick_fault hready hruns hcollects hs hlost hsecond hrole hout hphys, hlost,
        afterToken_stall _ _ hsecond hrole, afterStall, if_pos hout]
      exact ⟨rfl, rfl⟩
  · intro k s hloading hline
    refine ⟨_, rfl, ?_⟩
    rw [finish_grain, standReloaded_ok hloading hline]
    exact ⟨modStand_same s k _, rfl⟩
  · intro k line s hloading hline
    obtain ⟨x, hgrain, hpoisoned, hstop⟩ := standReloaded_stopped hloading hline
    refine ⟨_, rfl, ?_⟩
    obtain ⟨hstands, hstopped, hsatchel⟩ := reloadStopped_grain (k := k) (s := x) line
    rw [finish_grain, finish_satchel, hstop, hstands, hsatchel, modStand_same, hgrain]
    exact ⟨rfl, hstopped, hpoisoned⟩

end Sys2Proof.Machine
end

section
/-! PROOFS. The end of every step: what it raised is written, the alarms that stand are latched, and the interrupts of its
changes stand (R175, R176, Table 6.12). -/

namespace Sys2Proof.Machine

/-- Every command ends with `finish`, from the state it began in. -/
theorem exec_finishes (i : Instr) (s : State) : ∃ b, exec i s = .next (finish s b) := by
  cases i <;> exact ⟨_, rfl⟩

/-- A step idles on an empty queue, or ends with `finish` from the state without its command. -/
theorem step_cases {s t : State} (h : step s = .next t) :
    t = s ∨ ∃ q b, t = finish { s with pending := q } b := by
  unfold step at h
  split at h
  · exact .inl (by cases h; rfl)
  next c q _ =>
    obtain ⟨b, hb⟩ := exec_finishes c { s with pending := q }
    exact .inr ⟨q, b, by cases hb.symm.trans h; rfl⟩

/-- No bit of a word is missing from what the word was written into. -/
theorem and_not_or_or {w : Nat} (x y z : BitVec w) : x &&& ~~~(y ||| x ||| z) = 0 := by
  ext i hi
  cases h : x[i] <;> simp [h]

section
variable (a b : State)

/-! ### What the end of a step writes of the host port -/

theorem notice_host_of_open (h : isOpen b = true) : (notice a b).host = { b.host with
    irqStat := b.host.irqStat ||| noticeBits a b, devAlarmsLatched := b.host.devAlarmsLatched ||| devAlarms b } := by
  rw [notice, if_pos h]

/-- The entries add interrupts, and touch neither the alarms nor their latch. -/
theorem flush_host (s : State) : ∃ k, (flush s).host = { s.host with irqStat := s.host.irqStat ||| k } :=
  entries_host { s with raised := [] } (sortEvents s.raised)

theorem openIrq_devAlarmsLatched (s : State) :
    (openIrq a b s).host.devAlarmsLatched = s.host.devAlarmsLatched := by
  unfold openIrq; split <;> rfl

theorem finish_devAlarmsLatched (h : isOpen b = true) :
    (finish a b).host.devAlarmsLatched = b.host.devAlarmsLatched ||| devAlarms b := by
  obtain ⟨k, hk⟩ := flush_host (notice a b)
  rw [finish, journalKick_host, openIrq_devAlarmsLatched, hk, notice_host_of_open a b h]

theorem finish_irqStat (ha : isOpen a = true) (hb : isOpen b = true) :
    ∃ k, (finish a b).host.irqStat = b.host.irqStat ||| noticeBits a b ||| k := by
  obtain ⟨k, hk⟩ := flush_host (notice a b)
  rw [finish, journalKick_host, openIrq, if_pos ha, hk, notice_host_of_open a b hb]
  exact ⟨k, rfl⟩

/-! ### What it leaves of the conditions that are watched -/

theorem finish_isOpen : isOpen (finish a b) = isOpen b := by simp only [isOpen, finish_boot]

theorem finish_seenUp (g : Fin 2) : seenUp (finish a b) g = seenUp b g := by
  simp only [seenUp, finish_shown, finish_power]

theorem finish_gcutSeenOff (g : Fin 2) : gcutSeenOff (finish a b) g = gcutSeenOff b g := by
  simp only [gcutSeenOff, seenGroup, finish_seenUp, finish_shown, finish_groups]

theorem finish_devAlarms : devAlarms (finish a b) = devAlarms b := by
  simp only [devAlarms, finish_host_devAlarms, finish_strap, finish_satchel, finish_seenUp, finish_gcutSeenOff, finish_sap]

/-- Crown sees a port as the command left it, apart from LAST_EVENT. -/
theorem finish_seenPort (p : Fin 8) : ∃ c, seenPort (finish a b) p = withLast c (seenPort b p) := by
  obtain ⟨c, hc⟩ := finish_port a b p
  refine ⟨c, ?_⟩
  rw [seenPort, seenPort, finish_shown, hc]
  cases b.shown <;> rfl

theorem finish_noticeBits (x : State) : noticeBits x (finish a b) = noticeBits x b := by
  have hport : ∀ p, (seenPort (finish a b) p).cc.state = (seenPort b p).cc.state
      ∧ rolesOf (seenPort (finish a b) p) = rolesOf (seenPort b p)
      ∧ (seenPort (finish a b) p).cinch.st = (seenPort b p).cinch.st := fun p => by
    obtain ⟨c, hc⟩ := finish_seenPort a b p
    rw [hc]
    exact ⟨rfl, rfl, rfl⟩
  simp only [noticeBits, hport, finish_devAlarms, finish_bark, finish_rein, finish_graft, finish_sap]

theorem noticeBits_self (s : State) : noticeBits s s = 0 := by
  simp [noticeBits, b2n]

/-! ### The two halves of the invariant -/

theorem settled_finish : settled (finish a b) := by
  refine ⟨finish_raised a b, fun hopen => ?_⟩
  rw [finish_isOpen] at hopen
  rw [finish_devAlarms, finish_devAlarmsLatched a b hopen]
  simpa using and_not_or_or (devAlarms b) b.host.devAlarmsLatched 0

theorem irqsStand_finish (ha : isOpen a = true) (hb : isOpen b = true) : irqsStand a (finish a b) := by
  obtain ⟨k, hk⟩ := finish_irqStat a b ha hb
  rw [irqsStand, finish_noticeBits, hk]
  exact and_not_or_or _ _ _

end

/-- Settles O59: each command ends with `finish`, which writes what was raised, latches the alarms that stand and sets the
interrupts of the changes; an idle step changes nothing. -/
theorem stepsSettleAlarmsAndIrqs : Obligations.StepsSettleAlarmsAndIrqs := by
  refine ⟨fun s t hs h => ?_, fun s t h hopen hopen' => ?_⟩
  · obtain rfl | ⟨q, b, rfl⟩ := step_cases h
    · exact hs
    · exact settled_finish _ b
  · obtain rfl | ⟨q, b, rfl⟩ := step_cases h
    · simp [irqsStand, noticeBits_self]
    · rw [finish_isOpen] at hopen'
      exact irqsStand_finish { s with pending := q } b hopen hopen'

end Sys2Proof.Machine
end

section
/-! PROOFS. The host port's slot: what a refused request leaves, what a read takes, how a completion reaches the buffer, and
how RESET resets Crown (R152 to R158, R168). -/

namespace Sys2Proof.Machine

/-! ### The checks of a frame (Table 6.4) -/

/-- The first two checks give their verdict before the others: FORMAT or BUSY. -/
theorem frameVerdict_of_early {s : State} {bs : List Byte} {v : Nat} (h : frameEarly s bs = some v) :
    frameVerdict s bs = v ∧ (v = 2 ∨ v = 4) := by
  unfold frameEarly at h
  unfold frameVerdict
  dsimp only at h ⊢
  split at h
  next hform =>
    cases h
    exact ⟨if_pos hform, .inr rfl⟩
  next hform =>
    split at h
    next hbusy =>
      cases h
      rw [if_neg hform, if_pos hbusy]
      exact ⟨rfl, .inl rfl⟩
    next => cases h

/-- The verdicts of Table 6.4 are 1 to 7. -/
theorem frameVerdict_le (s : State) (bs : List Byte) : frameVerdict s bs ≤ 7 := by
  unfold frameVerdict
  dsimp only
  (repeat' split) <;> decide

/-! ### A refused request (R153) -/

section
variable (v : Nat) (seq : Byte) (s : State)

theorem frameBadEntry_host : ∃ e, (frameBadEntry v seq s).host = { s.host with badEntryAt := e } := by
  unfold frameBadEntry
  split
  · exact ⟨_, emit_host _ _⟩
  · exact ⟨s.host.badEntryAt, rfl⟩

theorem frameBadEntry_seam : (frameBadEntry v seq s).seam = s.seam := by
  unfold frameBadEntry
  split
  · exact emit_seam _ _
  · rfl

/-- A refused request sets VERDICT and VERDICT_SEQ, counts BUSY and CRC, marks FORMAT, and leaves the slot and the buffer. -/
theorem requestBad_host : ∃ e, (requestBad v seq s).host = { s.host with
    verdict := BitVec.ofNat 8 v, verdictSeq := seq
    busyCount := if v = 2 then bump 12 s.host.busyCount else s.host.busyCount
    crcErrs := if v = 3 then bump 16 s.host.crcErrs else s.host.crcErrs
    formatSeen := s.host.formatSeen || decide (v = 4), badEntryAt := e } := by
  unfold requestBad
  dsimp only
  split
  case h_1 => exact ⟨s.host.badEntryAt, by simp [verdictSet]⟩
  case h_2 => exact ⟨s.host.badEntryAt, by simp [verdictSet]⟩
  all_goals
    obtain ⟨e, he⟩ := frameBadEntry_host _ seq _
    rw [he]
    exact ⟨e, by simp_all [verdictSet]⟩

theorem requestBad_seam : (requestBad v seq s).seam = s.seam := by
  unfold requestBad
  dsimp only
  split
  case h_1 => rfl
  case h_2 => rfl
  all_goals exact frameBadEntry_seam _ _ _

end

/-- What a request that is refused does: the compare of its CRC, where it comes to that check, then its verdict. -/
def requestRefused (bs : List Byte) (s : State) : State :=
  requestBad (frameVerdict s bs) (frameSeq bs)
    (if (frameEarly s bs).isSome then s else seamCheck .host (some (decide (frameVerdict s bs ≠ 3))) s)

theorem requestRefused_early {s : State} {bs : List Byte} {v : Nat} (h : frameEarly s bs = some v) :
    requestRefused bs s = requestBad v (frameSeq bs) s := by
  rw [requestRefused, h, (frameVerdict_of_early h).1]
  rfl

theorem requestRefused_late {s : State} {bs : List Byte} (h : frameEarly s bs = none) :
    requestRefused bs s = requestBad (frameVerdict s bs) (frameSeq bs)
      (seamCheck .host (some (decide (frameVerdict s bs ≠ 3))) s) := by
  rw [requestRefused, h]
  rfl

theorem requestRefused_host (bs : List Byte) (s : State) : ∃ e, (requestRefused bs s).host = { s.host with
    verdict := BitVec.ofNat 8 (frameVerdict s bs), verdictSeq := frameSeq bs
    busyCount := if frameVerdict s bs = 2 then bump 12 s.host.busyCount else s.host.busyCount
    crcErrs := if frameVerdict s bs = 3 then bump 16 s.host.crcErrs else s.host.crcErrs
    formatSeen := s.host.formatSeen || decide (frameVerdict s bs = 4), badEntryAt := e } := by
  cases hearly : frameEarly s bs with
  | some v =>
    rw [requestRefused_early hearly, (frameVerdict_of_early hearly).1]
    exact requestBad_host v (frameSeq bs) s
  | none =>
    rw [requestRefused_late hearly]
    exact requestBad_host _ _ (seamCheck .host _ s)

/-- A compare of Seam marks its outcome, and counts a mismatch (R192). -/
theorem seamUse_compare (r : Requester) (good : Bool) (m : Seam) :
    (seamUse r (some good) m).isMatch = good ∧ (seamUse r (some good) m).mismatch = !good
      ∧ (seamUse r (some good) m).mismatches = if good then m.mismatches else bump 16 m.mismatches := by
  cases good <;> exact ⟨rfl, rfl, rfl⟩

/-- A CRC that fails is Seam's mismatch (R194); no other refusal is. -/
theorem requestRefused_seam (bs : List Byte) (s : State) :
    (requestRefused bs s).seam.mismatches
        = (if frameVerdict s bs = 3 then bump 16 s.seam.mismatches else s.seam.mismatches)
      ∧ (frameVerdict s bs = 3 → (requestRefused bs s).seam.mismatch = true ∧ (requestRefused bs s).seam.isMatch = false) := by
  cases hearly : frameEarly s bs with
  | some v =>
    obtain ⟨hv, hcase⟩ := frameVerdict_of_early hearly
    have hcrc : frameVerdict s bs ≠ 3 := by omega
    rw [requestRefused_early hearly, requestBad_seam, if_neg hcrc]
    exact ⟨rfl, fun h => absurd h hcrc⟩
  | none =>
    obtain ⟨hmatch, hmismatch, hcount⟩ := seamUse_compare .host (decide (frameVerdict s bs ≠ 3)) s.seam
    rw [requestRefused_late hearly, requestBad_seam, seamCheck]
    refine ⟨hcount.trans ?_, fun h => ⟨hmismatch.trans (by simp [h]), hmatch.trans (by simp [h])⟩⟩
    by_cases h : frameVerdict s bs = 3 <;> simp [h]

/-- With Seam granted, a request that fails a check is refused. -/
theorem hostChecked_refused {q : HostReq} {s : State} (hbad : frameVerdict s q.frame ≠ 1)
    (hlate : frameEarly s q.frame = none) : hostChecked q s = requestRefused q.frame s := by
  rw [requestRefused_late hlate, hostChecked, if_neg hbad]

theorem badChecked_refused {bs : List Byte} {s : State} (hbad : frameVerdict s bs ≠ 1)
    (hlate : frameEarly s bs = none) : badChecked bs s = requestRefused bs s := by
  rw [requestRefused_late hlate, badChecked, if_neg hbad]

/-- A request of a command that fails a check, and does not have to wait for Seam. -/
theorem hostAsk_refused {c : Instr} {q : HostReq} {s : State} (hopen : isOpen s = true)
    (hbad : frameVerdict s q.frame ≠ 1) (hnow : (frameEarly s q.frame).isSome = true ∨ seamFree .host s = true) :
    hostAsk c q s = requestRefused q.frame (requestMiso q.frame.length s) := by
  have hbad' : frameVerdict (requestMiso q.frame.length s) q.frame ≠ 1 := hbad
  have hshut : ¬ (!isOpen s) = true := by simp [hopen]
  rw [hostAsk, if_neg hshut]
  dsimp only
  split
  next v hearly => exact (requestRefused_early hearly).symm
  next hlate =>
    have hearly : frameEarly s q.frame = none := hlate
    have hfree : seamFree .host s = true := hnow.resolve_left (by simp [hearly])
    rw [if_pos (show seamFree .host (requestMiso q.frame.length s) = true from hfree)]
    exact hostChecked_refused hbad' hlate

/-- The same of a transaction that no command's row describes. -/
theorem hostTransaction_refused {bs : List Byte} {s : State} (hopen : isOpen s = true) (hbad : frameVerdict s bs ≠ 1)
    (hnow : (frameEarly s bs).isSome = true ∨ seamFree .host s = true) :
    hostTransaction (0x5A :: bs) s = requestRefused bs (requestMiso bs.length s) := by
  have hbad' : frameVerdict (requestMiso bs.length s) bs ≠ 1 := hbad
  have hshut : ¬ (!isOpen s) = true := by simp [hopen]
  rw [hostTransaction, if_neg (by decide), if_neg hshut, if_pos rfl]
  split
  next act hact => exact hostAsk_refused (q := { frame := bs, act }) hopen hbad hnow
  next hnone =>
    rw [if_neg hbad]
    dsimp only
    split
    next v hearly => exact (requestRefused_early hearly).symm
    next hlate =>
      have hearly : frameEarly s bs = none := hlate
      have hfree : seamFree .host s = true := hnow.resolve_left (by simp [hearly])
      rw [if_pos (show seamFree .host (requestMiso bs.length s) = true from hfree)]
      exact badChecked_refused hbad' hlate

theorem hostFrameBad_refused (bs : List Byte) (s : State) (hopen : isOpen s = true) (hbad : frameVerdict s bs ≠ 1)
    (hnow : (frameEarly s bs).isSome = true ∨ seamFree .host s = true) :
    ∃ t, exec (.hostFrameBad (0x5A :: bs)) s = .next t
      ∧ t.host.miso = statusByte s :: List.replicate bs.length 0
      ∧ t.host.verdict = BitVec.ofNat 8 (frameVerdict s bs) ∧ t.host.verdictSeq = frameSeq bs
      ∧ t.host.takenSeq = s.host.takenSeq ∧ t.host.buf = s.host.buf ∧ t.host.job = s.host.job
      ∧ t.host.rspReady = s.host.rspReady
      ∧ t.host.busyCount = (if frameVerdict s bs = 2 then bump 12 s.host.busyCount else s.host.busyCount)
      ∧ t.host.crcErrs = (if frameVerdict s bs = 3 then bump 16 s.host.crcErrs else s.host.crcErrs)
      ∧ t.seam.mismatches = (if frameVerdict s bs = 3 then bump 16 s.seam.mismatches else s.seam.mismatches)
      ∧ (frameVerdict s bs = 3 → t.seam.mismatch = true ∧ t.seam.isMatch = false)
      ∧ t.host.formatSeen = (s.host.formatSeen || decide (frameVerdict s bs = 4)) := by
  refine ⟨_, congrArg (complete s) (hostTransaction_refused hopen hbad hnow), ?_⟩
  obtain ⟨hcount, hmark⟩ := requestRefused_seam bs (requestMiso bs.length s)
  obtain ⟨e, hhost⟩ := requestRefused_host bs (requestMiso bs.length s)
  rw [finish_host_miso, finish_host_verdict, finish_host_verdictSeq, finish_host_takenSeq, finish_host_buf,
    finish_host_job, finish_host_rspReady, finish_host_busyCount, finish_host_crcErrs, finish_host_formatSeen, finish_seam,
    hhost]
  exact ⟨rfl, rfl, rfl, rfl, rfl, rfl, rfl, rfl, rfl, hcount, hmark, rfl⟩

/-- Bytes that are neither a request nor a read are answered STATUS and free bytes. -/
theorem hostFrameBad_other (b : Byte) (bs : List Byte) (s : State) (hopen : isOpen s = true) (hreq : b ≠ 0x5A)
    (hread : b ≠ 0xA5) : ∃ t, exec (.hostFrameBad (b :: bs)) s = .next t
      ∧ t.host.miso.head? = some (statusByte s) ∧ t.host.miso.length = bs.length + 1
      ∧ t.host.verdict = s.host.verdict ∧ t.host.buf = s.host.buf ∧ t.host.job = s.host.job
      ∧ t.host.rspReady = s.host.rspReady ∧ t.seam = s.seam := by
  have hexec : exec (.hostFrameBad (b :: bs)) s = complete s (hostTransaction (b :: bs) s) := rfl
  have hshut : ¬ (!isOpen s) = true := by simp [hopen]
  rw [hexec, hostTransaction, if_neg hread, if_neg hshut, if_neg hreq]
  refine ⟨_, rfl, ?_⟩
  simp

theorem ident_refused (seq : Byte) (s : State) (hopen : isOpen s = true)
    (hbad : frameVerdict s (hostFrame 0x01 seq []) ≠ 1)
    (hnow : (frameEarly s (hostFrame 0x01 seq [])).isSome = true ∨ seamFree .host s = true) :
    ∃ t, exec (.ident seq) s = .next t
      ∧ t.host.buf = s.host.buf ∧ t.host.job = s.host.job ∧ t.host.takenSeq = s.host.takenSeq ∧ t.host.verdict ≠ 1 := by
  have hask : hostAsk (.ident seq) (identReq seq) s =
      requestRefused (hostFrame 0x01 seq []) (requestMiso (hostFrame 0x01 seq []).length s) :=
    hostAsk_refused hopen hbad hnow
  refine ⟨_, congrArg (complete s) hask, ?_⟩
  obtain ⟨e, hhost⟩ := requestRefused_host (hostFrame 0x01 seq []) (requestMiso (hostFrame 0x01 seq []).length s)
  have hle := frameVerdict_le s (hostFrame 0x01 seq [])
  rw [finish_host_buf, finish_host_job, finish_host_takenSeq, finish_host_verdict, hhost]
  refine ⟨rfl, rfl, rfl, fun h => hbad ?_⟩
  have hv : (BitVec.ofNat 8 (frameVerdict s (hostFrame 0x01 seq []))).toNat = 1 := congrArg BitVec.toNat h
  rwa [BitVec.toNat_ofNat, Nat.mod_eq_of_lt (by omega)] at hv

/-! ### Reads (R152, R158, R168) -/

/-- A read of fewer bytes than a list has. -/
theorem slice_front {l : List Byte} {n : Nat} (h : n ≤ l.length) : slice l 0 n = l.take n := by
  simp [slice, Nat.min_eq_left h]

/-- A read past the end of a list begins with the list. -/
theorem take_slice {l : List Byte} {n : Nat} (h : l.length ≤ n) : (slice l 0 n).take l.length = l := by
  simp [slice, List.take_of_length_le h]

/-- The host port after a read that reaches the last CRC byte: a completed job has left the slot. -/
def wholeRead (n : Nat) (s : State) : State :=
  let r := { s with host := { s.host with miso := slice (readBytes s) 0 n, rspReady := false } }
  if r.host.jobDone then { r with host := { r.host with job := none, jobDone := false } } else r

theorem wholeRead_slot (n : Nat) (s : State) : (wholeRead n s).host.rspReady = false
    ∧ (wholeRead n s).host.job = (if s.host.jobDone then none else s.host.job) ∧ (wholeRead n s).host.jobDone = false := by
  cases hdone : s.host.jobDone <;> simp [wholeRead, hdone]

/-- It leaves the boot, the buffer and what RESET has armed. -/
theorem wholeRead_kept (n : Nat) (s : State) : (wholeRead n s).boot = s.boot ∧ (wholeRead n s).host.buf = s.host.buf
    ∧ (wholeRead n s).host.resetArmed = s.host.resetArmed ∧ (wholeRead n s).host.miso = slice (readBytes s) 0 n := by
  unfold wholeRead
  dsimp only
  split <;> exact ⟨rfl, rfl, rfl, rfl⟩

theorem hostRead_closed {s : State} (n : Nat) (h : isOpen s = false) :
    hostRead n s = { s with host := { s.host with miso := [] } } := by
  simp [hostRead, h]

theorem hostRead_part {n : Nat} {s : State} (hopen : isOpen s = true) (hn : n < (readBytes s).length) :
    hostRead n s = { s with host := { s.host with miso := slice (readBytes s) 0 n } } := by
  simp [hostRead, hopen, hn]

/-- A whole read of RESET's OK resets Crown besides. -/
theorem hostRead_whole {n : Nat} {s : State} (hopen : isOpen s = true) (hn : (readBytes s).length ≤ n) :
    hostRead n s =
      if s.host.resetArmed && decide (s.host.buf.rsp = 0x01) && decide (s.host.buf.cmd = 0x3F) then
        crownReset 0x100 0 true (wholeRead n s)
      else wholeRead n s := by
  obtain ⟨-, hbuf, harmed, -⟩ := wholeRead_kept n s
  have hshut : ¬ (!isOpen s) = true := by simp [hopen]
  rw [hostRead, if_neg hshut, ← hbuf, ← harmed]
  dsimp only
  rw [if_neg (Nat.not_lt.mpr hn)]
  rfl

theorem hostRead_partly (n : Nat) (s : State) (hopen : isOpen s = true) (hn : n < (readBytes s).length) :
    ∃ t, exec (.hostRead n) s = .next t
      ∧ t.host.miso = (readBytes s).take n ∧ t.host.rspReady = s.host.rspReady ∧ t.host.job = s.host.job := by
  refine ⟨_, congrArg (complete s) (hostRead_part hopen hn), ?_⟩
  rw [finish_host_miso, finish_host_rspReady, finish_host_job]
  exact ⟨slice_front (Nat.le_of_lt hn), rfl, rfl⟩

theorem hostRead_ends (n : Nat) (s : State) (hopen : isOpen s = true) (hn : (readBytes s).length ≤ n)
    (harmed : s.host.resetArmed = false) : ∃ t, exec (.hostRead n) s = .next t
      ∧ t.host.miso.take (readBytes s).length = readBytes s ∧ t.host.rspReady = false
      ∧ t.host.job = (if s.host.jobDone then none else s.host.job) ∧ t.host.jobDone = false := by
  have hread : hostRead n s = wholeRead n s := by
    rw [hostRead_whole hopen hn, harmed]
    rfl
  refine ⟨_, congrArg (complete s) hread, ?_⟩
  obtain ⟨-, -, -, hmiso⟩ := wholeRead_kept n s
  rw [finish_host_miso, finish_host_rspReady, finish_host_job, finish_host_jobDone, hmiso, take_slice hn]
  exact ⟨rfl, wholeRead_slot n s⟩

theorem hostRead_shut (n : Nat) (s : State) (hshut : isOpen s = false) : ∃ t, exec (.hostRead n) s = .next t
      ∧ t.host.miso = [] ∧ t.host.rspReady = s.host.rspReady ∧ t.host.job = s.host.job := by
  refine ⟨_, congrArg (complete s) (hostRead_closed n hshut), ?_⟩
  rw [finish_host_miso, finish_host_rspReady, finish_host_job]
  exact ⟨rfl, rfl, rfl⟩

/-! ### The reset that RESET asks for (R66, R168) -/

theorem isOpen_of_ready {s : State} (h : isReady s = true) : isOpen s = true := by
  have hphase : s.boot.phase = .ready := by simpa [isReady] using h
  rw [isOpen, hphase]

/-- A Crown reset of the host's: RSTCAUSE has its bit, and no RESET is armed any more. -/
theorem hostReset_finish {a s : State} (hruns : crownRuns s = true) :
    (finish a (crownReset 0x100 0 true s)).boot.phase = .crownReset
      ∧ (finish a (crownReset 0x100 0 true s)).boot.cause.getLsbD 8 = true
      ∧ (finish a (crownReset 0x100 0 true s)).host.resetArmed = false := by
  have hreset := resetFrom s 0x100 0 true hruns
  rw [finish_boot, finish_host_resetArmed, hreset.phase, hreset.cause, crownReset_running s _ _ _ hruns]
  exact ⟨rfl, by simp, rfl⟩

theorem hostRead_resets (n : Nat) (s : State) (hready : isReady s = true) (hn : (readBytes s).length ≤ n)
    (harmed : s.host.resetArmed = true) (hrsp : s.host.buf.rsp = 0x01) (hcmd : s.host.buf.cmd = 0x3F) :
    ∃ t, exec (.hostRead n) s = .next t
      ∧ t.boot.phase = .crownReset ∧ t.boot.cause.getLsbD 8 = true ∧ t.host.resetArmed = false := by
  have hopen := isOpen_of_ready hready
  have hread : hostRead n s = crownReset 0x100 0 true (wholeRead n s) := by
    rw [hostRead_whole hopen hn, harmed, hrsp, hcmd]
    rfl
  have hruns : crownRuns (wholeRead n s) = true :=
    (crownRuns_boot (wholeRead_kept n s).1).trans (crownRuns_of_open hopen)
  exact ⟨_, congrArg (complete s) hread, hostReset_finish hruns⟩

theorem resetTimeout_resets (s : State) (harmed : s.host.resetArmed = true) (hjob : s.host.job = none)
    (hready : isReady s = true) : ∃ t, exec .resetTimeout s = .next t
      ∧ t.boot.phase = .crownReset ∧ t.boot.cause.getLsbD 8 = true ∧ t.host.resetArmed = false := by
  have hexec : exec .resetTimeout s = complete s (crownReset 0x100 0 true s) := by
    simp [exec, execResetTimeout, harmed, hjob]
  exact ⟨_, hexec, hostReset_finish (crownRuns_of_open (isOpen_of_ready hready))⟩

theorem resetTimeout_keeps (s : State) (harmed : s.host.resetArmed = false) (halone : s.boot.together.host = false) :
    ∃ t, exec .resetTimeout s = .next t ∧ t.boot = s.boot := by
  have hexec : exec .resetTimeout s = complete s s := by
    simp [exec, execResetTimeout, harmed, halone]
  exact ⟨_, hexec, finish_boot s s⟩

/-! ### RESET and the nonce (R168, R170) -/

theorem hostRespond_resetArmed (a : Answer) (s : State) :
    (hostRespond a s).host.resetArmed = s.host.resetArmed := by
  unfold hostRespond
  split
  · unfold hostAnswer
    split
    · rfl
    · split <;> rfl
  · rfl

theorem hostRespond_boot (a : Answer) (s : State) : (hostRespond a s).boot = s.boot := by
  obtain ⟨h, m, hform, -⟩ := hostRespond_form a s
  rw [hform]

/-- RESET with its magic is armed, and has its entry. -/
theorem resetBody_magic (seq : Byte) (s : State) : resetBody seq [0x52, 0x53, 0x54, 0x21] s =
    (emit (devEv 0x0103 3 [seq]) { s with host := { s.host with resetArmed := true } }, ⟨0x01, []⟩) :=
  if_neg (not_not_intro rfl)

theorem reset_arms (seq : Byte) (s : State) (h : accepts 0x3F seq [0x52, 0x53, 0x54, 0x21] s) :
    ∃ t, exec (.reset seq [0x52, 0x53, 0x54, 0x21]) s = .next t
      ∧ answers 0x01 [] seq t ∧ t.host.resetArmed = true ∧ t.boot = s.boot := by
  have hbody := resetBody_magic seq (taking 0x3F seq [0x52, 0x53, 0x54, 0x21] s)
  obtain ⟨hexec, hans⟩ := sync_answers (c := .reset seq [0x52, 0x53, 0x54, 0x21]) (tc := 0) (tr := 0) rfl h hbody
    (by rw [emit_seam]) (by rw [emit_host]) (by decide)
  refine ⟨_, hexec, hans, ?_, ?_⟩
  · rw [finish_host_resetArmed, hostRespond_resetArmed, emit_host]
  · rw [finish_boot, hostRespond_boot, emit_boot]
    rfl

theorem reset_badMagic (seq : Byte) (magic : List Byte) (s : State) (h : accepts 0x3F seq magic s)
    (hmagic : magic ≠ [0x52, 0x53, 0x54, 0x21]) : ∃ t, exec (.reset seq magic) s = .next t
      ∧ answers 0x10 [] seq t ∧ t.host.resetArmed = s.host.resetArmed := by
  have hbody : syncBody 0x3F seq magic 0 0 (taking 0x3F seq magic s) = (taking 0x3F seq magic s, ⟨0x10, []⟩) :=
    if_pos hmagic
  obtain ⟨hexec, hans⟩ := sync_answers (c := .reset seq magic) rfl h hbody rfl rfl (by decide)
  refine ⟨_, hexec, hans, ?_⟩
  rw [finish_host_resetArmed, hostRespond_resetArmed]
  rfl

theorem nonceExpire_destroys (s : State) : ∃ t, exec .nonceExpire s = .next t ∧ t.host.nonce = none ∧ t.pocket = s.pocket :=
  ⟨_, rfl, finish_host_nonce _ _, finish_pocket _ _⟩

/-! ### Completions (R157) -/

theorem graftPieceDue_idle {s : State} (h : s.host.job.bind HostJob.work = none) : graftPieceDue s = s := by
  rw [graftPieceDue, h]

/-- With Seam free and ACCEPTED sent, the completion replaces it in the buffer. -/
theorem hostCompletion_free {s : State} {j : HostJob} {r : Byte × List Byte} (hjob : s.host.job = some j)
    (hres : j.result = some r) (hans : j.answer = none) (hdone : s.host.jobDone = false)
    (hfree : seamFree .host s = true) :
    hostCompletion s = { s with
      seam := seamUse .host none s.seam
      host := { s.host with
        buf := rspOf j ⟨r.1, r.2⟩, rspReady := true, jobDone := true, job := some { j with due := false }
        last := lastOf s j.cmd j.seq j.station ⟨r.1, r.2⟩ } } := by
  simp [hostCompletion, hjob, hres, hans, hdone, hfree, seamCheck, lastOf]

theorem jobDone_completes (s : State) (j : HostJob) (hjob : s.host.job = some j) (r : Byte × List Byte)
    (hres : j.result = some r) (hans : j.answer = none) (hwork : j.work = none) (hdone : s.host.jobDone = false)
    (hfree : seamFree .host s = true) : ∃ t, exec .jobDone s = .next t
      ∧ t.host.buf = { cmd := j.cmd, rsp := r.1, seq := j.seq, payload := r.2, station := j.station }
      ∧ t.host.last.cmd = j.cmd ∧ t.host.last.seq = j.seq ∧ t.host.last.rsp = r.1
      ∧ t.host.rspReady = true ∧ t.host.jobDone = true := by
  have hdue : jobDone s = hostCompletion s := by
    rw [jobDone, graftPieceDue_idle (by simp [hjob, hwork])]
  refine ⟨_, congrArg (complete s) (hdue.trans (hostCompletion_free hjob hres hans hdone hfree)), ?_⟩
  rw [finish_host_buf, finish_host_last, finish_host_rspReady, finish_host_jobDone]
  exact ⟨rfl, rfl, rfl, rfl, rfl, rfl⟩

theorem jobDone_empty (s : State) (hjob : s.host.job = none) : ∃ t, exec .jobDone s = .next t
      ∧ t.host.buf = s.host.buf ∧ t.host.rspReady = s.host.rspReady := by
  have hdone : jobDone s = s := by
    rw [jobDone, graftPieceDue_idle (by rw [hjob]; rfl), hostCompletion, hjob]
  refine ⟨_, congrArg (complete s) hdone, ?_⟩
  rw [finish_host_buf, finish_host_rspReady]
  exact ⟨rfl, rfl⟩

/-- Settles O47: each clause is what its command's own rule says. -/
theorem hostSlotAndFrames : Obligations.HostSlotAndFrames :=
  ⟨hostFrameBad_refused, hostFrameBad_other, ident_refused, hostRead_partly, hostRead_ends, hostRead_shut,
    hostRead_resets, jobDone_completes, jobDone_empty, nonceExpire_destroys, reset_arms, reset_badMagic,
    resetTimeout_resets, resetTimeout_keeps⟩

end Sys2Proof.Machine
end

section
/-! PROOFS. How the host port and Graft wait for Seam's lease, and what its grant does (R180 to R185, R192, R194): a claim
joins the order, a grant leads to the check that waited, and the check ends with the lease free. -/

namespace Sys2Proof.Machine

/-! ### The lease and its order (R181 to R183) -/

theorem seamUse_holder (r : Requester) (compare : Option Bool) (m : Seam) : (seamUse r compare m).holder = none := by
  obtain - | ok := compare
  · rfl
  · cases ok <;> rfl

theorem seamUse_waiting (r : Requester) (compare : Option Bool) (m : Seam) :
    (seamUse r compare m).waiting = m.waiting := by
  obtain - | ok := compare
  · rfl
  · cases ok <;> rfl

theorem seamFree_of_unclaimed {r : Requester} {s : State} (hholder : s.seam.holder = none) (hwait : s.seam.waiting = []) :
    seamFree r s = true := by
  simp [seamFree, hholder, hwait]

theorem seamFree_of_holder {r : Requester} {s : State} (hholder : s.seam.holder = some r) : seamFree r s = true := by
  simp [seamFree, hholder]

theorem seamFree_of_claimed {r : Requester} {s : State} (hholder : s.seam.holder = none) (hwait : s.seam.waiting ≠ []) :
    seamFree r s = false := by
  simp [seamFree, hholder, hwait]

/-- A requester that has to wait does not hold the lease. -/
theorem holder_of_busy {r : Requester} {s : State} (hbusy : seamFree r s = false) : s.seam.holder ≠ some r :=
  fun h => by simp [seamFree_of_holder h] at hbusy

/-- A new claim joins the end of the order and clears its revoked mark (R181, R184). -/
theorem seamClaimOp_new {r : Requester} {m : Seam} (hholder : m.holder ≠ some r)
    (hwait : (m.waiting.any fun c => decide (c.1 = r)) = false) :
    seamClaimOp r 0 m = { m with waiting := m.waiting ++ [(r, 0)], revoked := m.revoked.filter (· ≠ r) } := by
  have hnew : ¬ (decide (m.holder = some r) || m.waiting.any fun c => decide (c.1 = r)) = true := by
    simp only [hwait, decide_eq_false hholder, Bool.or_false, Bool.false_eq_true, not_false_eq_true]
  rw [seamClaimOp, if_neg (by decide), if_neg hnew]

/-- A claim that has to wait stands in the order, and leaves the lease where it is. -/
theorem seamAsk_waits {r : Requester} {s : State} (hbusy : seamFree r s = false) :
    (seamAsk r s).seam.holder = s.seam.holder ∧ (seamAsk r s).seam.run = s.seam.run
      ∧ ((seamAsk r s).seam.waiting.any fun c => decide (c.1 = r)) = true := by
  cases hwait : s.seam.waiting.any fun c => decide (c.1 = r) with
  | false =>
    rw [seamAsk, seamClaimOp_new (holder_of_busy hbusy) hwait]
    exact ⟨rfl, rfl, by simp⟩
  | true =>
    have hstands : seamClaimOp r 0 s.seam = s.seam := by
      simp only [seamClaimOp, hwait, Bool.or_true, if_true, ite_self]
    rw [seamAsk, hstands]
    exact ⟨rfl, rfl, hwait⟩

/-- The state in which the oldest claim has its grant. -/
def granted (s : State) : State := { s with seam := seamGrantOne s.seam }

/-- A grant clears the computation, and leaves the outcome of the last compare (R182). -/
theorem seamGrantOne_oldest {r : Requester} {a : BitVec 2} {l : List (Requester × BitVec 2)} {m : Seam}
    (hholder : m.holder = none) (hwait : m.waiting = (r, a) :: l) :
    seamGrantOne m = { m with holder := some r, holderAlg := a, run := crcInit a, foldDone := false, dataSeen := false,
                              invalid := false, resultValid := false, waiting := l } := by
  rw [seamGrantOne, hholder, hwait]

/-- The host port's check is made with its grant, and has ended the lease (R185). -/
theorem seamGrant_host {a : BitVec 2} {l : List (Requester × BitVec 2)} {s x : State} (hholder : s.seam.holder = none)
    (hwait : s.seam.waiting = (.host, a) :: l) (hwork : hostGranted (granted s) = x) (hended : x.seam.holder = none) :
    seamGrant s = x := by
  have hgrant : (granted s).seam.holder = some .host := by rw [granted, seamGrantOne_oldest hholder hwait]
  have hrelease : seamReleaseOp .host x.seam = x.seam := by
    rw [seamReleaseOp, if_neg (by rw [hended]; decide)]
  have hfree : ¬ s.seam.holder.isSome = true := by rw [hholder]; decide
  have hchecked : seamGrant s = { hostGranted (granted s) with seam := seamReleaseOp .host (hostGranted (granted s)).seam } :=
    (if_neg hfree).trans (if_pos hgrant)
  rw [hchecked, hwork, hrelease]

/-! ### What the host port does with its grant -/

/-- The request that waited is taken up. -/
def askedUp (s : State) : State := { s with host := { s.host with asked := none } }

theorem hostGranted_request {c : Instr} {q : HostReq} {s : State} (hasked : s.host.asked = some c)
    (hreq : hostReqOf c = some q) : hostGranted s = hostChecked q (askedUp s) := by
  rw [hostGranted, hasked]
  dsimp only
  rw [hreq]
  rfl

theorem hostGranted_owed {s : State} (hasked : s.host.asked = none) : hostGranted s = hostOwed s := by
  rw [hostGranted, hasked]

/-- A transaction that waited and fails a check is refused, whatever its bytes would ask for. -/
theorem hostGranted_refused {bs : List Byte} {s : State} (hasked : s.host.asked = some (.hostFrameBad (0x5A :: bs)))
    (hbad : frameVerdict (askedUp s) bs ≠ 1) (hlate : frameEarly (askedUp s) bs = none) :
    hostGranted s = requestRefused bs (askedUp s) := by
  cases hact : frameAct bs with
  | some act =>
    have hreq : hostReqOf (.hostFrameBad (0x5A :: bs)) = some { frame := bs, act } := by
      simp [hostReqOf, hact]
    rw [hostGranted_request hasked hreq, hostChecked_refused hbad hlate]
  | none =>
    have hreq : hostReqOf (.hostFrameBad (0x5A :: bs)) = none := by simp [hostReqOf, hact]
    rw [hostGranted, hasked]
    dsimp only
    rw [hreq]
    exact badChecked_refused hbad hlate

/-- A correct request is taken, and its command does its work. -/
theorem hostChecked_taken {q : HostReq} {s : State} (hv : frameVerdict s q.frame = 1) :
    hostChecked q s = q.act (requestTaken q.frame (seamCheck .host (some true) s)) := by
  simp [hostChecked, hv]

theorem requestTaken_job (cmd : Nat) (seq : Byte) (p : List Byte) (s : State) :
    (requestTaken (hostFrame cmd seq p) s).host.job = some (takenJob cmd seq p) := by
  simp [requestTaken, takenJob, hostFrame_seq]

/-- The state in which the command of a granted request does its work. -/
def grantTaken (q : HostReq) (s : State) : State :=
  requestTaken q.frame (seamCheck .host (some true) (askedUp (granted s)))

/-- The taking ends the check's lease: Seam shows the match, and the claims behind it wait on. -/
theorem grantTaken_seam {a : BitVec 2} {l : List (Requester × BitVec 2)} {s : State} (q : HostReq)
    (hholder : s.seam.holder = none) (hwait : s.seam.waiting = (.host, a) :: l) :
    (grantTaken q s).seam.holder = none ∧ (grantTaken q s).seam.waiting = l
      ∧ (grantTaken q s).seam.isMatch = true ∧ (grantTaken q s).seam.mismatch = false := by
  have hseam : (grantTaken q s).seam = seamUse .host (some true) (seamGrantOne s.seam) := rfl
  obtain ⟨hmatch, hmismatch, -⟩ := seamUse_compare .host true (seamGrantOne s.seam)
  rw [hseam, seamUse_holder, seamUse_waiting, hmatch, hmismatch, seamGrantOne_oldest hholder hwait]
  exact ⟨rfl, rfl, rfl, rfl⟩

/-- With the grant, a correct request that waited is executed. -/
theorem hostGranted_executes {c : Instr} {q : HostReq} {s : State} (hasked : s.host.asked = some c)
    (hreq : hostReqOf c = some q) (hv : frameVerdict (askedUp s) q.frame = 1) :
    hostGranted (granted s) = q.act (grantTaken q s) := by
  have hasked' : (granted s).host.asked = some c := hasked
  have hv' : frameVerdict (askedUp (granted s)) q.frame = 1 := hv
  rw [hostGranted_request hasked' hreq, hostChecked_taken hv', grantTaken]

/-! ### Requests that wait -/

theorem hostAsk_waits {c : Instr} {q : HostReq} {s : State} (hopen : isOpen s = true) (hv : frameVerdict s q.frame = 1)
    (hbusy : seamFree .host s = false) :
    hostAsk c q s = seamAsk .host { s with host := { s.host with
      miso := statusByte s :: List.replicate q.frame.length 0, asked := some c } } := by
  have hearly : frameEarly (requestMiso q.frame.length s) q.frame = none := frameEarly_none_of_taken hv
  have hbusy' : ¬ seamFree .host (requestMiso q.frame.length s) = true := by
    rw [show seamFree .host (requestMiso q.frame.length s) = false from hbusy]
    decide
  rw [hostAsk, if_neg (by simp [hopen])]
  dsimp only
  rw [hearly]
  dsimp only
  rw [if_neg hbusy']
  rfl

theorem ident_waits (seq : Byte) (s : State) (hopen : isOpen s = true) (hbusy : seamFree .host s = false)
    (hv : frameVerdict s (hostFrame 0x01 seq []) = 1) : ∃ t, exec (.ident seq) s = .next t
      ∧ t.host.asked = some (.ident seq) ∧ t.seam.holder = s.seam.holder ∧ t.seam.run = s.seam.run
      ∧ (t.seam.waiting.any fun c => decide (c.1 = .host)) = true
      ∧ t.host.job = s.host.job ∧ t.host.buf = s.host.buf ∧ t.host.verdict = s.host.verdict
          ∧ t.host.rspReady = s.host.rspReady := by
  refine ⟨_, congrArg (complete s) (hostAsk_waits (c := .ident seq) (q := identReq seq) hopen hv hbusy), ?_⟩
  rw [finish_seam, finish_host_asked, finish_host_job, finish_host_buf, finish_host_verdict, finish_host_rspReady]
  obtain ⟨hholder, hrun, hwait⟩ := seamAsk_waits (r := .host) (s := { s with host := { s.host with
    miso := statusByte s :: List.replicate (identReq seq).frame.length 0, asked := some (.ident seq) } }) hbusy
  exact ⟨rfl, hholder, hrun, hwait, rfl, rfl, rfl, rfl⟩

/-- A request that waits holds the slot. -/
theorem ident_busy (seq : Byte) (s : State) (hopen : isOpen s = true) (_ : s.host.asked.isSome = true)
    (hearly : frameEarly s (hostFrame 0x01 seq []) = some 2) : ∃ t, exec (.ident seq) s = .next t
      ∧ t.host.busyCount = bump 12 s.host.busyCount ∧ t.host.asked = s.host.asked
      ∧ t.host.buf = s.host.buf ∧ t.seam = s.seam := by
  have hbad : frameVerdict s (hostFrame 0x01 seq []) ≠ 1 := by
    rw [(frameVerdict_of_early hearly).1]
    decide
  have hask : hostAsk (.ident seq) (identReq seq) s = requestBad 2 (frameSeq (hostFrame 0x01 seq []))
      (requestMiso (hostFrame 0x01 seq []).length s) :=
    (hostAsk_refused hopen hbad (.inl (by rw [show (identReq seq).frame = hostFrame 0x01 seq [] from rfl, hearly]; rfl))).trans
      (requestRefused_early hearly)
  refine ⟨_, congrArg (complete s) hask, ?_⟩
  obtain ⟨e, hhost⟩ := requestBad_host 2 (frameSeq (hostFrame 0x01 seq [])) (requestMiso (hostFrame 0x01 seq []).length s)
  rw [finish_host_busyCount, finish_host_asked, finish_host_buf, finish_seam, hhost, requestBad_seam]
  exact ⟨rfl, rfl, rfl, rfl⟩

/-! ### Requests that have waited -/

theorem seamGrant_ident (seq : Byte) (a : BitVec 2) (s : State) (_ : isOpen s = true) (hholder : s.seam.holder = none)
    (hwait : s.seam.waiting = [(.host, a)]) (hasked : s.host.asked = some (.ident seq))
    (hv : frameVerdict { s with host := { s.host with asked := none } } (hostFrame 0x01 seq []) = 1) :
    ∃ t, exec .seamGrant s = .next t
      ∧ answers 0x01 (deviceId s ++ [0x01, 0x00, BitVec.ofNat 8 (b2n Config.variantG1)] ++ List.replicate 13 0) seq t
      ∧ t.host.asked = none ∧ t.seam.holder = none ∧ t.seam.waiting = [] ∧ t.seam.isMatch = true
          ∧ t.seam.mismatch = false := by
  obtain ⟨hheld, hbehind, hmatch, hmismatch⟩ := grantTaken_seam (identReq seq) hholder hwait
  have hjob : (grantTaken (identReq seq) s).host.job = some (takenJob 0x01 seq []) := requestTaken_job _ _ _ _
  have hfree := seamFree_of_unclaimed (r := .host) hheld hbehind
  have hwork := hostGranted_executes (q := identReq seq) hasked rfl hv
  have hanswer := hostRespond_free (a := identBody (grantTaken (identReq seq) s)) hfree hjob (show (0x01 : Byte) ≠ 2 by decide)
  have hact : (identReq seq).act (grantTaken (identReq seq) s) =
    hostRespond (identBody (grantTaken (identReq seq) s)) (grantTaken (identReq seq) s) := rfl
  refine ⟨_, congrArg (complete s) (seamGrant_host hholder hwait (hwork.trans (hact.trans hanswer)) rfl), ?_⟩
  rw [answers_finish, finish_host_asked, finish_seam]
  exact ⟨⟨rfl, rfl, rfl, rfl, rfl⟩, rfl, rfl, hbehind, hmatch, hmismatch⟩

theorem seamGrant_badFrame (bs : List Byte) (a : BitVec 2) (s : State) (_ : isOpen s = true)
    (hholder : s.seam.holder = none) (hwait : s.seam.waiting = [(.host, a)])
    (hasked : s.host.asked = some (.hostFrameBad (0x5A :: bs)))
    (hv : frameVerdict { s with host := { s.host with asked := none } } bs = 3) : ∃ t, exec .seamGrant s = .next t
      ∧ t.host.verdict = 3 ∧ t.host.crcErrs = bump 16 s.host.crcErrs ∧ t.seam.mismatches = bump 16 s.seam.mismatches
      ∧ t.seam.mismatch = true ∧ t.host.asked = none ∧ t.seam.holder = none ∧ t.host.buf = s.host.buf := by
  have hv' : frameVerdict (askedUp (granted s)) bs = 3 := hv
  have hlate : frameEarly (askedUp (granted s)) bs = none := by
    cases hearly : frameEarly (askedUp (granted s)) bs with
    | none => rfl
    | some v =>
      obtain ⟨hverdict, hcase⟩ := frameVerdict_of_early hearly
      omega
  have hasked' : (granted s).host.asked = some (.hostFrameBad (0x5A :: bs)) := hasked
  have hwork := hostGranted_refused hasked' (by omega) hlate
  have hended : (requestRefused bs (askedUp (granted s))).seam.holder = none := by
    rw [requestRefused_late hlate, requestBad_seam]
    exact seamUse_holder _ _ _
  refine ⟨_, congrArg (complete s) (seamGrant_host hholder hwait hwork hended), ?_⟩
  obtain ⟨hcount, hmark⟩ := requestRefused_seam bs (askedUp (granted s))
  obtain ⟨e, hhost⟩ := requestRefused_host bs (askedUp (granted s))
  have hbefore : (askedUp (granted s)).seam.mismatches = s.seam.mismatches := by
    change (seamGrantOne s.seam).mismatches = _
    rw [seamGrantOne_oldest hholder hwait]
  rw [finish_seam, finish_host_verdict, finish_host_crcErrs, finish_host_asked, finish_host_buf, hhost, hcount, hended,
    (hmark hv').1, hv', hbefore]
  exact ⟨rfl, rfl, rfl, rfl, rfl, rfl, rfl⟩

/-! ### Completions and responses that wait, and then have their turn -/

theorem hostCompletion_waits {s : State} {j : HostJob} {r : Byte × List Byte} (hjob : s.host.job = some j)
    (hres : j.result = some r) (hdone : s.host.jobDone = false) (hbusy : seamFree .host s = false) :
    hostCompletion s = seamAsk .host { s with host := { s.host with job := some { j with due := true } } } := by
  simp [hostCompletion, hjob, hres, hdone, hbusy, modJob]

theorem jobDone_waits (s : State) (j : HostJob) (hjob : s.host.job = some j) (r : Byte × List Byte)
    (hres : j.result = some r) (hwork : j.work = none) (hdone : s.host.jobDone = false)
    (hbusy : seamFree .host s = false) : ∃ t, exec .jobDone s = .next t
      ∧ t.host.buf = s.host.buf ∧ t.host.jobDone = false ∧ t.host.job = some { j with due := true }
      ∧ ((t.seam.waiting.any fun c => decide (c.1 = .host)) = true) := by
  have hdue : jobDone s = hostCompletion s := by
    rw [jobDone, graftPieceDue_idle (by simp [hjob, hwork])]
  refine ⟨_, congrArg (complete s) (hdue.trans (hostCompletion_waits hjob hres hdone hbusy)), ?_⟩
  rw [finish_host_buf, finish_host_jobDone, finish_host_job, finish_seam]
  obtain ⟨-, -, hwait⟩ := seamAsk_waits (r := .host)
    (s := { s with host := { s.host with job := some { j with due := true } } }) hbusy
  exact ⟨rfl, hdone, rfl, hwait⟩

theorem seamGrant_completion (a : BitVec 2) (s : State) (j : HostJob) (hjob : s.host.job = some j)
    (r : Byte × List Byte) (hres : j.result = some r) (hans : j.answer = none) (hdue : j.due = true)
    (hdone : s.host.jobDone = false) (hasked : s.host.asked = none) (hholder : s.seam.holder = none)
    (hwait : s.seam.waiting = [(.host, a)]) : ∃ t, exec .seamGrant s = .next t
      ∧ t.host.buf = { cmd := j.cmd, rsp := r.1, seq := j.seq, payload := r.2, station := j.station }
          ∧ t.host.jobDone = true
      ∧ t.seam.holder = none := by
  have hgrant : (granted s).seam.holder = some .host := by rw [granted, seamGrantOne_oldest hholder hwait]
  have hjob' : (granted s).host.job = some j := hjob
  have howed : hostOwed (granted s) = hostCompletion (granted s) := by
    rw [hostOwed, hjob']
    dsimp only
    rw [hans]
    exact if_pos hdue
  have hwork := (hostGranted_owed (s := granted s) hasked).trans
    (howed.trans (hostCompletion_free hjob' hres hans hdone (seamFree_of_holder hgrant)))
  refine ⟨_, congrArg (complete s) (seamGrant_host hholder hwait hwork rfl), ?_⟩
  rw [finish_host_buf, finish_host_jobDone, finish_seam]
  exact ⟨rfl, rfl, rfl⟩

/-- A final response in the buffer ends its command (R155). -/
theorem hostAnswer_final {a : Answer} {j : HostJob} {s : State} (hjob : s.host.job = some j) (hrsp : a.rsp ≠ 0x02) :
    hostAnswer a s = { s with host := { s.host with
      buf := rspOf j a, rspReady := true, job := none, last := lastOf s j.cmd j.seq j.station a } } := by
  rw [hostAnswer, hjob]
  exact if_neg hrsp

theorem seamGrant_response (a : BitVec 2) (s : State) (j : HostJob) (hjob : s.host.job = some j) (x : Byte × List Byte)
    (hans : j.answer = some x) (hrsp : x.1 ≠ 0x02) (hdue : j.due = false) (hasked : s.host.asked = none)
    (hholder : s.seam.holder = none) (hwait : s.seam.waiting = [(.host, a)]) :
    ∃ t, exec .seamGrant s = .next t ∧ answers x.1 x.2 j.seq t ∧ t.seam.holder = none := by
  have hjob' : (granted s).host.job = some j := hjob
  have howed : hostOwed (granted s) = hostAnswer ⟨x.1, x.2⟩ (seamCheck .host none (granted s)) := by
    rw [hostOwed, hjob']
    dsimp only
    rw [hans]
    exact if_neg (by rw [hdue]; decide)
  have hwork := (hostGranted_owed (s := granted s) hasked).trans
    (howed.trans (hostAnswer_final (a := ⟨x.1, x.2⟩) (s := seamCheck .host none (granted s)) hjob hrsp))
  refine ⟨_, congrArg (complete s) (seamGrant_host hholder hwait hwork rfl), ?_⟩
  rw [answers_finish, finish_seam]
  exact ⟨⟨rfl, rfl, rfl, rfl, rfl⟩, rfl⟩

/-! ### Graft's check of a piece (R192) -/

/-- A piece whose check has to wait leaves its job with the command as its work. -/
theorem graftPieceStart_waits {c : Instr} {k : Nat} {crc : Word} {d : List Byte} {s : State}
    (hneeds : pieceNeedsSeam s k = true) (hbusy : seamFree .graft s = false) :
    graftPieceStart c k crc d s = seamAsk .graft (workWaits c s) := by
  simp [graftPieceStart, hneeds, hbusy]

theorem hostAccept_waits {s : State} (hbusy : seamFree .host s = false) :
    hostAccept s = seamAsk .host (modJob (fun j => { j with answer := some (0x02, []) }) s) := by
  rw [hostAccept, hostRespond, if_neg (by rw [hbusy]; decide)]
  rfl

/-- Behind a stand's claim, a piece that has been taken leaves Graft's claim and the host port's in the order. -/
theorem graftPiece_queues {c : Instr} {k : Nat} {crc : Word} {d : List Byte} {n : Fin 16} {b : BitVec 2} {u : State}
    (hholder : u.seam.holder = none) (hwait : u.seam.waiting = [(.stand n, b)]) (hneeds : pieceNeedsSeam u k = true) :
    ∃ m, hostAccept (graftPieceStart c k crc d u) = { u with
        seam := m
        host := { u.host with job := u.host.job.map fun j => { j with work := some c, answer := some (0x02, []) } } }
      ∧ m.holder = none ∧ m.waiting = [(.stand n, b), (.graft, 0), (.host, 0)] := by
  have hgraft : seamFree .graft u = false := seamFree_of_claimed hholder (by simp [hwait])
  have hclaim : seamClaimOp .graft 0 u.seam =
      { u.seam with waiting := [(.stand n, b), (.graft, 0)], revoked := u.seam.revoked.filter (· ≠ .graft) } := by
    rw [seamClaimOp_new (by simp [hholder]) (by simp [hwait]), hwait]
    rfl
  have hhost : seamFree .host (seamAsk .graft (workWaits c u)) = false :=
    seamFree_of_claimed ((congrArg Seam.holder hclaim).trans hholder) (by
      rw [show (seamAsk .graft (workWaits c u)).seam.waiting = _ from congrArg Seam.waiting hclaim]
      simp)
  rw [graftPieceStart_waits hneeds hgraft, hostAccept_waits hhost]
  refine ⟨seamClaimOp .host 0 (seamClaimOp .graft 0 u.seam), ?_, ?_⟩
  · simp [seamAsk, modJob, workWaits, Function.comp_def]
  · rw [hclaim, seamClaimOp_new (by simp [hholder]) (by simp)]
    exact ⟨hholder, rfl⟩

/-- A long job that is not refused answers ACCEPTED behind what it begins with. -/
theorem longReq_begins {cmd : Nat} {seq : Byte} {p : List Byte} {start : State → State × Option Answer} {s x : State}
    (h : start s = (x, none)) : (longReq cmd seq p start).act s = hostAccept x := by
  rw [longReq]
  dsimp only
  rw [h]

theorem graftJob_begins {form : Bool} {begin' : State → State} {s : State} (hform : form = true)
    (hok : s.flash.ok = true) : graftJob form begin' s = (begin' s, none) := by
  simp [graftJob, hform, hok]

theorem seamGrant_graftPiece (seq : Byte) (k : Half) (crc : Word) (d : List Byte) (r : FlashRes) (a b : BitVec 2)
    (n : Fin 16) (s : State) (_ : isOpen s = true) (hholder : s.seam.holder = none)
    (hwait : s.seam.waiting = [(.host, a), (.stand n, b)]) (hasked : s.host.asked = some (.graftPiece seq k crc d r))
    (hv : frameVerdict { s with host := { s.host with asked := none } } (hostFrame 0x31 seq (piecePayload k crc d)) = 1)
    (hlen : d.length = 512) (hok : s.flash.ok = true) (hneeds : pieceNeedsSeam s k.toNat = true) :
    ∃ t, exec .seamGrant s = .next t
      ∧ t.host.asked = none ∧ t.host.job.bind HostJob.work = some (.graftPiece seq k crc d r)
      ∧ t.seam.holder = none ∧ t.seam.waiting = [(.stand n, b), (.graft, 0), (.host, 0)]
      ∧ t.graft = s.graft ∧ t.flash.mem = s.flash.mem := by
  obtain ⟨hheld, hbehind, -, -⟩ := grantTaken_seam (graftPieceReq seq k crc d r) hholder hwait
  have hjob : (grantTaken (graftPieceReq seq k crc d r) s).host.job = some (takenJob 0x31 seq (piecePayload k crc d)) :=
    requestTaken_job _ _ _ _
  have hstart := graftJob_begins (begin' := graftPieceStart (.graftPiece seq k crc d r) k.toNat crc d)
    (decide_eq_true hlen) (show (grantTaken (graftPieceReq seq k crc d r) s).flash.ok = true from hok)
  have hwork := hostGranted_executes (q := graftPieceReq seq k crc d r) hasked rfl hv
  obtain ⟨m, hqueued, hend, horder⟩ := graftPiece_queues (c := .graftPiece seq k crc d r) (crc := crc) (d := d) hheld hbehind
    (show pieceNeedsSeam (grantTaken (graftPieceReq seq k crc d r) s) k.toNat = true from hneeds)
  refine ⟨_, congrArg (complete s)
    (seamGrant_host hholder hwait (hwork.trans ((longReq_begins hstart).trans hqueued)) hend), ?_⟩
  rw [finish_host_asked, finish_host_job, finish_seam, finish_graft, finish_mem]
  refine ⟨rfl, ?_, hend, horder, rfl, rfl⟩
  dsimp only
  rw [hjob]
  rfl

/-- A piece whose CRC differs from Seam's: the mismatch counts, and so does the failed piece (R192, R586). -/
def pieceMismatched (s : State) : State :=
  { s with
    seam := seamUse .graft (some false) s.seam
    graft := { s.graft with pieceFails := bump 16 s.graft.pieceFails } }

theorem graftPieceCheck_mismatch {k : Nat} {crc : Word} {d : List Byte} {s : State}
    (h : graftPieceRefusal s k crc (slice d 0 512) = some 6) :
    graftPieceCheck k crc d s = (pieceMismatched s, some (answerFail 6)) := by
  rw [graftPieceCheck, h]
  rfl

theorem graftPieceTurn_refused {c : Instr} {k : Nat} {crc : Word} {d : List Byte} {s x : State} {a : Answer}
    (h : graftPieceCheck k crc d s = (x, some a)) : graftPieceTurn c k crc d s = workEnds a x := by
  rw [graftPieceTurn, h]

/-- The end of a long job's work gives it its completion. -/
theorem workEnds_completed {rsp : Byte} {payload : List Byte} {j : HostJob} {s : State} (hjob : s.host.job = some j)
    (hlong : j.long = true) (hres : j.result = none) : completed rsp payload (workEnds ⟨rsp, payload⟩ s) := by
  have hdone : completed rsp payload (jobResult rsp payload s) := jobResult_some hjob hlong hres
  simpa [completed, workEnds, workDone, Function.comp_def] using hdone

theorem seamClaimOp_kept (r : Requester) (alg : BitVec 2) (m : Seam) : (seamClaimOp r alg m).holder = m.holder
    ∧ (seamClaimOp r alg m).mismatch = m.mismatch ∧ (seamClaimOp r alg m).mismatches = m.mismatches := by
  unfold seamClaimOp
  split
  · exact ⟨rfl, rfl, rfl⟩
  · split <;> exact ⟨rfl, rfl, rfl⟩

/-- A completion, sent or still waiting, leaves what the job's work has left, and takes no lease. -/
theorem hostCompletion_kept {s : State} (hholder : s.seam.holder = none) :
    (hostCompletion s).seam.holder = none ∧ (hostCompletion s).seam.mismatch = s.seam.mismatch
      ∧ (hostCompletion s).seam.mismatches = s.seam.mismatches ∧ (hostCompletion s).graft = s.graft
      ∧ (hostCompletion s).host.job.map HostJob.result = s.host.job.map HostJob.result := by
  have hclaim := seamClaimOp_kept .host 0 s.seam
  rw [hholder] at hclaim
  obtain ⟨hheld, hmismatch, hcount⟩ := hclaim
  unfold hostCompletion
  split
  next => exact ⟨hholder, rfl, rfl, rfl, rfl⟩
  next j hjob =>
    dsimp only
    split
    next => exact ⟨hholder, rfl, rfl, rfl, rfl⟩
    next r hres =>
      split
      · exact ⟨hholder, rfl, rfl, rfl, rfl⟩
      · split
        · exact ⟨hheld, hmismatch, hcount, rfl, by simp [seamAsk, modJob, Function.comp_def]⟩
        · exact ⟨rfl, rfl, rfl, rfl, by rw [hjob]; rfl⟩

/-- With the lease, a piece that waited is checked, and its CRC's mismatch ends its work. -/
theorem graftPieceDue_mismatch {seq : Byte} {k : Half} {crc : Word} {d : List Byte} {r : FlashRes} {j : HostJob} {s : State}
    (hjob : s.host.job = some j) (hwork : j.work = some (.graftPiece seq k crc d r))
    (hheld : s.seam.holder = some .graft) (hbad : graftPieceRefusal s k.toNat crc (slice d 0 512) = some 6) :
    graftPieceDue s = workEnds (answerFail 6) (pieceMismatched s) := by
  have hpiece : s.host.job.bind HostJob.work = some (.graftPiece seq k crc d r) := by rw [hjob]; exact hwork
  rw [graftPieceDue, hpiece]
  dsimp only
  rw [if_pos (by simp [hheld]), graftPieceTurn_refused (graftPieceCheck_mismatch hbad)]

theorem jobDone_mismatch {seq : Byte} {k : Half} {crc : Word} {d : List Byte} {r : FlashRes} {j : HostJob} {s : State}
    (hjob : s.host.job = some j) (hwork : j.work = some (.graftPiece seq k crc d r)) (hlong : j.long = true)
    (hres : j.result = none) (hheld : s.seam.holder = some .graft)
    (hbad : graftPieceRefusal s k.toNat crc (slice d 0 512) = some 6) : ∃ t, exec .jobDone s = .next t
      ∧ completed 0x04 (le 4 6) t ∧ t.seam.holder = none ∧ t.seam.mismatch = true
      ∧ t.seam.mismatches = bump 16 s.seam.mismatches
          ∧ t.graft = { s.graft with pieceFails := bump 16 s.graft.pieceFails } := by
  refine ⟨_, rfl, ?_⟩
  rw [completed_finish, finish_seam, finish_graft, jobDone, graftPieceDue_mismatch hjob hwork hheld hbad]
  have hseam : (workEnds (answerFail 6) (pieceMismatched s)).seam = seamUse .graft (some false) s.seam :=
    jobResult_seam (pieceMismatched s) _ _
  have hgraft : (workEnds (answerFail 6) (pieceMismatched s)).graft =
      { s.graft with pieceFails := bump 16 s.graft.pieceFails } := jobResult_graft (pieceMismatched s) _ _
  have hdone : completed 0x04 (le 4 6) (workEnds (answerFail 6) (pieceMismatched s)) :=
    workEnds_completed (s := pieceMismatched s) hjob hlong hres
  obtain ⟨hheld', hmismatch, hcount, hgraft', hresult⟩ :=
    hostCompletion_kept (s := workEnds (answerFail 6) (pieceMismatched s)) (by rw [hseam, seamUse_holder])
  rw [completed, hresult, hheld', hmismatch, hcount, hgraft', hseam, hgraft]
  exact ⟨hdone, rfl, rfl, rfl, rfl⟩

theorem jobDone_pieceFails (seq : Byte) (k : Half) (crc : Word) (d : List Byte) (r : FlashRes) (j : HostJob) (s : State)
    (hlong : j.long = true) (hbad : graftPieceRefusal s k.toNat crc (slice d 0 512) = some 6) :
    ∃ t, exec .jobDone { s with
        seam := { s.seam with holder := some .graft }
        host := { s.host with job := some { j with work := some (.graftPiece seq k crc d r), result := none } } } = .next t
      ∧ completed 0x04 (le 4 6) t ∧ t.seam.holder = none ∧ t.seam.mismatch = true
      ∧ t.seam.mismatches = bump 16 s.seam.mismatches
          ∧ t.graft = { s.graft with pieceFails := bump 16 s.graft.pieceFails } :=
  jobDone_mismatch rfl rfl hlong rfl rfl hbad

/-- Settles O52: a claim joins the order, and its grant leads to the check or the response that waited. -/
theorem seamWaits : Obligations.SeamWaits :=
  ⟨ident_waits, ident_busy, seamGrant_ident, seamGrant_badFrame, jobDone_waits, seamGrant_completion, seamGrant_response,
    seamGrant_graftPiece, jobDone_pieceFails⟩

end Sys2Proof.Machine
end

section
/-! PROOFS. Seam for its own requesters (chapter 07): the order of claims, the grant, the release and the revocation of the
lease (R180 to R184), and what the holder's writes do to the computation (R186 to R193). -/

namespace Sys2Proof.Machine

/-! ### Claims and releases (R180, R181, R183) -/

/-- A write that would leave Seam as it is leaves it so whoever makes it; the host's has no effect in any case (R180). -/
theorem requesterWrite_idle {who : Requester} {s x : State} (hidle : x = s) : (if who = .host then s else x) = s := by
  rw [hidle, ite_self]

/-- A served requester's claim, when it neither claims nor holds, stores its ALG and joins the end of the order. -/
theorem seamCtl_claim_joins {who : Requester} {alg : BitVec 2} {s : State} (hserved : seamServes who s = true)
    (halg : alg ≠ 3) (hholder : s.seam.holder ≠ some who)
    (hwait : (s.seam.waiting.any fun c => decide (c.1 = who)) = false) :
    seamCtl who alg true false s = { s with seam := { s.seam with
      alg := alg, waiting := s.seam.waiting ++ [(who, alg)], revoked := s.seam.revoked.filter (· ≠ who) } } := by
  have hclaims : seamClaims who alg s.seam = true := by
    simp only [seamClaims, hwait, decide_eq_true halg, decide_eq_true hholder, Bool.and_self, Bool.not_false]
  have hnew : ¬ (decide (s.seam.holder = some who) || s.seam.waiting.any fun c => decide (c.1 = who)) = true := by
    simp only [hwait, decide_eq_false hholder, Bool.or_false, Bool.false_eq_true, not_false_eq_true]
  simp only [seamCtl, hserved, hclaims, seamClaimOp, if_neg halg, if_neg hnew, if_true, Bool.and_self, Bool.true_or,
    Bool.false_eq_true, if_false]

/-- A claim with an invalid ALG, and a claim of the holder, are no claims. -/
theorem seamCtl_claim_refused {who : Requester} {alg : BitVec 2} {s : State} (hno : alg = 3 ∨ s.seam.holder = some who) :
    seamCtl who alg true false s = s := by
  have hclaims : seamClaims who alg s.seam = false := by
    obtain halg | hheld := hno
    · simp [seamClaims, halg]
    · simp [seamClaims, hheld]
  have hrefused : seamClaimOp who alg s.seam = s.seam := by
    obtain halg | hheld := hno
    · rw [seamClaimOp, if_pos halg]
    · simp [seamClaimOp, hheld]
  simp [seamCtl, hclaims, hrefused]

/-- The state after the holder's release: the lease is free and the running value is gone. -/
def leaseFreed (s : State) : State := { s with seam := { s.seam with holder := none, run := 0, resultValid := false } }

theorem seamCtl_release {who : Requester} {s : State} (hserved : seamServes who s = true)
    (hheld : s.seam.holder = some who) : seamCtl who s.seam.alg false true s = leaseFreed s := by
  simp [seamCtl, hserved, hheld, seamReleaseOp, leaseFreed]

theorem seamServes_leaseFreed (who : Requester) (s : State) : seamServes who (leaseFreed s) = seamServes who s := by
  cases who <;> rfl

/-- The end of a command leaves whom Seam serves. -/
theorem seamServes_finish (who : Requester) (a b : State) : seamServes who (finish a b) = seamServes who b := by
  cases who <;> simp [seamServes, isOpen, isReady]

theorem seamClaim_joins (who : Requester) (alg : BitVec 2) (s : State) (hhost : who ≠ .host)
    (hserved : seamServes who s = true) (halg : alg ≠ 3) (hholder : s.seam.holder ≠ some who)
    (hwait : s.seam.waiting.any (fun c => c.1 = who) = false) : ∃ t, exec (.seamClaim who alg false) s = .next t
      ∧ t.seam = { s.seam with
          alg := alg, waiting := s.seam.waiting ++ [(who, alg)], revoked := s.seam.revoked.filter (· ≠ who) } :=
  ⟨_, congrArg (complete s) ((if_neg hhost).trans (seamCtl_claim_joins hserved halg hholder hwait)), finish_seam _ _⟩

theorem seamClaim_refused (who : Requester) (alg : BitVec 2) (s : State) (hno : alg = 3 ∨ s.seam.holder = some who) :
    ∃ t, exec (.seamClaim who alg false) s = .next t
      ∧ t.seam.waiting = s.seam.waiting ∧ t.seam.holder = s.seam.holder ∧ t.seam.run = s.seam.run := by
  refine ⟨_, congrArg (complete s) (requesterWrite_idle (seamCtl_claim_refused hno)), ?_⟩
  rw [finish_seam]
  exact ⟨rfl, rfl, rfl⟩

theorem seamClaim_host (alg : BitVec 2) (rel : Bool) (s : State) : ∃ t, exec (.seamClaim .host alg rel) s = .next t
    ∧ t.seam = s.seam :=
  ⟨_, congrArg (complete s) (if_pos rfl), finish_seam _ _⟩

/-! ### The grant and the revocation (R182, R184) -/

/-- While somebody holds the lease, no claim is granted. -/
theorem seamGrant_held {s : State} (hheld : s.seam.holder.isSome = true) : seamGrant s = s := if_pos hheld

/-- The grant to a requester other than the host port is no more than the grant. -/
theorem seamGrant_requester {r : Requester} {a : BitVec 2} {l : List (Requester × BitVec 2)} {s : State} (hhost : r ≠ .host)
    (hholder : s.seam.holder = none) (hwait : s.seam.waiting = (r, a) :: l) : seamGrant s = granted s := by
  have hfree : ¬ s.seam.holder.isSome = true := by rw [hholder]; decide
  have hother : ¬ (granted s).seam.holder = some .host := by
    rw [granted, seamGrantOne_oldest hholder hwait]
    exact fun h => hhost (Option.some.inj h)
  exact (if_neg hfree).trans (if_neg hother)

/-- A host port with neither a request nor a response that waits releases with its grant. -/
theorem seamGrant_hostIdle {a : BitVec 2} {l : List (Requester × BitVec 2)} {s : State} (hholder : s.seam.holder = none)
    (hwait : s.seam.waiting = (.host, a) :: l) (hasked : s.host.asked = none) (hjob : s.host.job = none) :
    seamGrant s = { s with seam := seamReleaseOp .host (seamGrantOne s.seam) } := by
  have hfree : ¬ s.seam.holder.isSome = true := by rw [hholder]; decide
  have hgrant : (granted s).seam.holder = some .host := by rw [granted, seamGrantOne_oldest hholder hwait]
  have hnothing : hostGranted (granted s) = granted s := by
    have hjob' : (granted s).host.job = none := hjob
    rw [hostGranted_owed (s := granted s) hasked, hostOwed, hjob']
  calc seamGrant s
      = { hostGranted (granted s) with seam := seamReleaseOp .host (hostGranted (granted s)).seam } :=
        (if_neg hfree).trans (if_pos hgrant)
    _ = { s with seam := seamReleaseOp .host (seamGrantOne s.seam) } := by rw [hnothing]; rfl

theorem seamGrant_oldest (r : Requester) (a : BitVec 2) (rest : List (Requester × BitVec 2)) (s : State) (hhost : r ≠ .host)
    (hholder : s.seam.holder = none) (hwait : s.seam.waiting = (r, a) :: rest) : ∃ t, exec .seamGrant s = .next t
      ∧ t.seam.isMatch = s.seam.isMatch ∧ t.seam.mismatch = s.seam.mismatch ∧ t.host.job = s.host.job
      ∧ t.seam.holder = some r ∧ t.seam.holderAlg = a ∧ t.seam.run = crcInit a ∧ t.seam.waiting = rest
      ∧ t.seam.foldDone = false ∧ t.seam.dataSeen = false ∧ t.seam.invalid = false ∧ t.seam.resultValid = false := by
  refine ⟨_, congrArg (complete s) (seamGrant_requester hhost hholder hwait), ?_⟩
  rw [finish_seam, finish_host_job, granted, seamGrantOne_oldest hholder hwait]
  exact ⟨rfl, rfl, rfl, rfl, rfl, rfl, rfl, rfl, rfl, rfl, rfl⟩

theorem seamGrant_released (a : BitVec 2) (rest : List (Requester × BitVec 2)) (s : State) (hholder : s.seam.holder = none)
    (hwait : s.seam.waiting = (.host, a) :: rest) (hasked : s.host.asked = none) (hjob : s.host.job = none) :
    ∃ t, exec .seamGrant s = .next t ∧ t.seam.holder = none ∧ t.seam.waiting = rest := by
  refine ⟨_, congrArg (complete s) (seamGrant_hostIdle hholder hwait hasked hjob), ?_⟩
  rw [finish_seam, seamGrantOne_oldest hholder hwait, seamReleaseOp, if_pos rfl]
  exact ⟨rfl, rfl⟩

theorem seamGrant_keeps (s : State) (hheld : s.seam.holder.isSome = true) :
    ∃ t, exec .seamGrant s = .next t ∧ t.seam = s.seam :=
  ⟨_, congrArg (complete s) (seamGrant_held hheld), finish_seam _ _⟩

/-- A holder other than the host port loses the lease and its running value, is marked, and is counted. -/
theorem seamRevoke_seam {r : Requester} {s : State} (hhost : r ≠ .host) (hheld : s.seam.holder = some r) :
    (seamRevoke s).seam = { s.seam with
      holder := none, run := 0, resultValid := false, invalid := true, revoked := s.seam.revoked.filter (· ≠ r) ++ [r],
      revocations := bump 12 s.seam.revocations } := by
  unfold seamRevoke
  split
  case h_1 hnone => simp [hheld] at hnone
  case h_2 hisHost => exact absurd (Option.some.inj (hheld.symm.trans hisHost)) hhost
  case h_3 r' _ hr' =>
    obtain rfl : r = r' := Option.some.inj (hheld.symm.trans hr')
    exact emit_seam _ _

theorem seamRevoke_idle {s : State} (hidle : s.seam.holder = none ∨ s.seam.holder = some .host) : seamRevoke s = s := by
  obtain hnone | hhost := hidle
  · rw [seamRevoke, hnone]
  · rw [seamRevoke, hhost]

theorem seamLeaseRevoked_ends (r : Requester) (s : State) (hhost : r ≠ .host) (hheld : s.seam.holder = some r) :
    ∃ t, exec .seamLeaseRevoked s = .next t
      ∧ t.seam.holder = none ∧ t.seam.run = 0 ∧ t.seam.resultValid = false ∧ t.seam.invalid = true
          ∧ r ∈ t.seam.revoked
      ∧ t.seam.waiting = s.seam.waiting ∧ t.seam.revocations = bump 12 s.seam.revocations := by
  refine ⟨_, rfl, ?_⟩
  rw [finish_seam, seamRevoke_seam hhost hheld]
  exact ⟨rfl, rfl, rfl, rfl, List.mem_concat_self, rfl, rfl⟩

theorem seamLeaseRevoked_keeps (s : State) (hidle : s.seam.holder = none ∨ s.seam.holder = some .host) :
    ∃ t, exec .seamLeaseRevoked s = .next t ∧ t.seam = s.seam :=
  ⟨_, congrArg (complete s) (seamRevoke_idle hidle), finish_seam _ _⟩

/-- Settles O42: the claim that joins and those that do not, the grants, and the revocation. -/
theorem seamLease : Obligations.SeamLease :=
  ⟨seamClaim_joins, seamClaim_refused, seamClaim_host, seamGrant_oldest, seamGrant_released, seamGrant_keeps,
    seamLeaseRevoked_ends, seamLeaseRevoked_keeps⟩

/-- Settles O43: with nobody waiting, the claim after the release is the oldest, and its grant starts anew. -/
theorem seamReleaseDiscards : Obligations.SeamReleaseDiscards := by
  intro who alg s hhost hserved halg hheld hwait
  have hfreed : (finish s (leaseFreed s)).seam = (leaseFreed s).seam := finish_seam _ _
  have hserved' : seamServes who (finish s (leaseFreed s)) = true := by
    rw [seamServes_finish, seamServes_leaseFreed, hserved]
  refine ⟨finish s (leaseFreed s), congrArg (complete s) ((if_neg hhost).trans (seamCtl_release hserved hheld)), ?_⟩
  obtain ⟨u, hclaim, hu⟩ := seamClaim_joins who alg (finish s (leaseFreed s)) hhost hserved' halg
    (by simp [leaseFreed]) (by simp [leaseFreed, hwait])
  obtain ⟨v, hgrant, -, -, -, hholder, -, hrun, -, hfold, hdata, hinvalid, hresult⟩ :=
    seamGrant_oldest who alg [] u hhost (by simp [hu, leaseFreed]) (by simp [hu, leaseFreed, hwait])
  rw [hfreed]
  refine ⟨rfl, rfl, rfl, ?_⟩
  exact ⟨u, hclaim, v, hgrant, hholder, hrun, hfold, hdata, hresult, hinvalid⟩

/-! ### The writes of the holder (R186 to R193) -/

theorem seamDataWrite_feeds (who : Requester) (w : Fin 3) (v : Word) (s : State) (hhost : who ≠ .host)
    (hheld : s.seam.holder = some who) : ∃ t, exec (.seamDataWrite who w v) s = .next t
      ∧ t.seam = { s.seam with
          run := (le (2 ^ w.val) v.toNat).foldl (crcFeed s.seam.holderAlg) s.seam.run
          dataSeen := true, resultValid := true } :=
  ⟨_, congrArg (complete s) (if_neg hhost), (finish_seam _ _).trans (if_pos hheld)⟩

theorem seamDataWrite_other (who : Requester) (w : Fin 3) (v : Word) (s : State) (hother : s.seam.holder ≠ some who) :
    ∃ t, exec (.seamDataWrite who w v) s = .next t ∧ t.seam = s.seam := by
  have hidle : seamData8 who w v s.seam = s.seam := if_neg hother
  exact ⟨_, congrArg (complete s) (requesterWrite_idle (by rw [hidle])), finish_seam _ _⟩

/-- A fold before the first data feeds its bytes. -/
theorem seamFold_early {who : Requester} {w : Fin 3} {v : Word} {s : State} (hheld : s.seam.holder = some who)
    (hdata : s.seam.dataSeen = false) : (seamFold who w v s).seam = { s.seam with
      run := (le (2 ^ w.val) v.toNat).foldl (crcFeed s.seam.holderAlg) s.seam.run, foldDone := true, resultValid := true } := by
  rw [seamFold, if_pos hheld, hdata]
  rfl

/-- A fold after the first data feeds nothing and marks the computation (R189). -/
theorem seamFold_late {who : Requester} {w : Fin 3} {v : Word} {s : State} (hheld : s.seam.holder = some who)
    (hdata : s.seam.dataSeen = true) : (seamFold who w v s).seam = { s.seam with invalid := true } := by
  rw [seamFold, if_pos hheld, if_pos hdata, emit_seam]

theorem seamFoldWrite_feeds (who : Requester) (w : Fin 3) (v : Word) (s : State) (hhost : who ≠ .host)
    (hheld : s.seam.holder = some who) : ∃ t, exec (.seamFoldWrite who w v) s = .next t
      ∧ (s.seam.dataSeen = false → t.seam = { s.seam with
          run := (le (2 ^ w.val) v.toNat).foldl (crcFeed s.seam.holderAlg) s.seam.run, foldDone := true, resultValid := true })
      ∧ (s.seam.dataSeen = true → t.seam = { s.seam with invalid := true }) := by
  refine ⟨_, congrArg (complete s) (if_neg hhost), ?_⟩
  rw [finish_seam]
  exact ⟨seamFold_early hheld, seamFold_late hheld⟩

theorem seamFoldWrite_other (who : Requester) (w : Fin 3) (v : Word) (s : State) (hother : s.seam.holder ≠ some who) :
    ∃ t, exec (.seamFoldWrite who w v) s = .next t ∧ t.seam = s.seam :=
  ⟨_, congrArg (complete s) (requesterWrite_idle (if_neg hother)), finish_seam _ _⟩

/-- A compare agrees where EXPECT is the check value of a computation that is not INVALID. -/
theorem seamAgrees_iff {m : Seam} {x : Word} :
    seamAgrees m x = true ↔ crcFinal m.holderAlg m.run = x ∧ m.invalid = false := by
  simp [seamAgrees]

/-- The holder's compare sets MATCH where it agrees. -/
theorem seamCompareOp_agrees {r : Requester} {x : Word} {m : Seam} (hlive : r ∉ m.revoked) (hheld : m.holder = some r)
    (hagrees : seamAgrees m x = true) : seamCompareOp r x m = { m with isMatch := true, mismatch := false } := by
  simp [seamCompareOp, hlive, hheld, hagrees]

/-- The holder's compare sets MISMATCH, raises its interrupt and is counted where it does not agree (R192). -/
theorem seamCompareOp_differs {r : Requester} {x : Word} {m : Seam} (hlive : r ∉ m.revoked) (hheld : m.holder = some r)
    (hdiffers : ¬ seamAgrees m x = true) : seamCompareOp r x m = { m with
      isMatch := false, mismatch := true, irqs := m.irqs ++ [(r, m.invalid)], mismatches := bump 16 m.mismatches } := by
  simp [seamCompareOp, hlive, hheld, hdiffers]

theorem seamCompareOp_other {r : Requester} {x : Word} {m : Seam} (hlive : r ∉ m.revoked) (hother : m.holder ≠ some r) :
    seamCompareOp r x m = m := by
  simp [seamCompareOp, hlive, hother]

theorem seamCompare_holder (who : Requester) (x : Word) (s : State) (hhost : who ≠ .host)
    (hheld : s.seam.holder = some who) (hlive : who ∉ s.seam.revoked) : ∃ t, exec (.seamCompare who x) s = .next t
      ∧ t.seam.run = s.seam.run ∧ t.seam.holder = s.seam.holder
      ∧ (crcFinal s.seam.holderAlg s.seam.run = x → s.seam.invalid = false →
          t.seam = { s.seam with isMatch := true, mismatch := false })
      ∧ ((crcFinal s.seam.holderAlg s.seam.run ≠ x ∨ s.seam.invalid = true) → t.seam.mismatch = true
          ∧ t.seam.isMatch = false
          ∧ t.seam.mismatches = bump 16 s.seam.mismatches) := by
  refine ⟨_, congrArg (complete s) (if_neg hhost), ?_⟩
  rw [finish_seam]
  dsimp only
  by_cases hagrees : seamAgrees s.seam x = true
  · obtain ⟨hvalue, hvalid⟩ := seamAgrees_iff.mp hagrees
    rw [seamCompareOp_agrees hlive hheld hagrees]
    exact ⟨rfl, rfl, fun _ _ => rfl, fun h => absurd h (by simp [hvalue, hvalid])⟩
  · rw [seamCompareOp_differs hlive hheld hagrees]
    exact ⟨rfl, rfl, fun hvalue hvalid => absurd (seamAgrees_iff.mpr ⟨hvalue, hvalid⟩) hagrees, fun _ => ⟨rfl, rfl, rfl⟩⟩

theorem seamCompare_other (who : Requester) (x : Word) (s : State) (hother : s.seam.holder ≠ some who)
    (hlive : who ∉ s.seam.revoked) : ∃ t, exec (.seamCompare who x) s = .next t ∧ t.seam = s.seam :=
  ⟨_, congrArg (complete s) (requesterWrite_idle (by rw [seamCompareOp_other hlive hother])), finish_seam _ _⟩

/-- Settles O44: each write of the holder, and that of a requester without the lease. -/
theorem seamComputation : Obligations.SeamComputation :=
  ⟨seamDataWrite_feeds, seamDataWrite_other, seamFoldWrite_feeds, seamFoldWrite_other, seamCompare_holder,
    seamCompare_other⟩

end Sys2Proof.Machine
end

section
/-! PROOFS. A RESYNC frame that acknowledges a FALLBACK_SET besides (R202, R222), and a Wait to a partner whose Request
answers an own offer under a contract (R279, R281). -/

namespace Sys2Proof.Machine

/-! ### The states -/

/-- A ready device with its Pattern at every port and the link up. -/
def readyLinked : State :=
  { State.reset with
    boot := { State.reset.boot with phase := .ready }
    strap := { State.reset.strap with link := .up, codeRunning := true }
    pattern := { State.reset.pattern with portMask := 0xFF } }

/-- In the exchange, at port 0, with Root's acknowledgement of Crown's FALLBACK_SET for port 1 still owed. -/
def resyncOwesAck : State :=
  { readyLinked with
    strap := { readyLinked.strap with
      link := .resync, fallbackDue := [(0, 1, true)], rootTx := { rxNext := 1, ackDue := true }
      crownTx := { unacked := [{ hdr := frameHeader 0xB 1 0 none, body := .fallbackSet 1 true }] } } }

/-- A source with a contract that has sent an offer of its own, 5 V and 3 A. -/
def offeredAgain : State :=
  { readyLinked with ports := .replicate 8 {
      cc := { state := .attachedSrc }
      pd := { source := true, explicit := true, ams := amsNegotiation, step := .srcCaps, caps := [0x0001912C] } } }

/-- A policy that holds the budget. -/
def budgetHeld : PdPolicy :=
  { holdBudget := true, acceptSwap := false, frsAccept := false, sinkPick := none, restartAuth := false
    reducedOffer := [], rev2 := false }

/-- Its partner's Request for the one PDO of the offer, first in Root's queue. -/
def offeredRequest : State := rxFirst 0 (goodRx (.request 0x10000000) budgetHeld) offeredAgain

/-! ### What the commands leave -/

/-- A value of the state that a command leaves. -/
def valueAfter {α : Type} (i : Instr) (s : State) (value : State → α) : Option α :=
  match exec i s with
  | .next t => some (value t)
  | _ => none

theorem resyncOwesAck_goes : frameGoes (.resync (.port 0)) resyncOwesAck := by
  unfold frameGoes noneHeld
  decide +kernel

/-- The acknowledgement in the header of port 0's RESYNC shows the fallback of port 1. -/
theorem resyncOwesAck_shows :
    valueAfter (.resync (.port 0)) resyncOwesAck (fun t => t.strap.fallbackAck) = some 0x02 := by
  decide +kernel

/-- Refutes O16: Root's RESYNC frame of port 0 carries an acknowledgement too, from which a FALLBACK_SET of port 1 shows
in STFALLBK (R222), so that more than port 0's bit moves. -/
theorem not_strapReports : ¬ Obligations.StrapReports := by
  unfold Obligations.StrapReports
  rintro ⟨-, -, hresync, -⟩
  obtain ⟨t, hexec, -, hshows, -⟩ := hresync 0 resyncOwesAck resyncOwesAck_goes
  have hafter := resyncOwesAck_shows
  rw [valueAfter, hexec, Option.some.injEq, hshows] at hafter
  exact absurd hafter (by decide +kernel)

theorem offeredRequest_goes : frameGoes (.pdRx 0) offeredRequest := by
  unfold frameGoes noneHeld
  decide +kernel

theorem offeredAgain_acts : standActs offeredAgain 0 = true ∧ isAttached (portCc offeredAgain 0).state = true
    ∧ (portPd offeredAgain 0).bistTest = false ∧ sharedStalled offeredAgain = false := by
  decide +kernel

theorem offeredAgain_engine : (portPd offeredAgain 0).source = true ∧ (portPd offeredAgain 0).caps ≠ []
    ∧ (portPd offeredAgain 0).step = .srcCaps ∧ (portPd offeredAgain 0).waits < 5
    ∧ judge (portPd offeredAgain 0) false 0x10000000 = none := by
  decide +kernel

/-- The Wait ends the negotiation that the own offer began, and the engine is back at its contract. -/
theorem offeredRequest_ready :
    valueAfter (.pdRx 0) offeredRequest (fun t => (portPd t 0).step) = some .ready := by
  decide +kernel

/-- Refutes O20: a Wait to the Request that answers an own offer under a contract ends that negotiation (R279), and the
engine goes from the offer it has made back to ready. -/
theorem not_pdMessages : ¬ Obligations.PdMessages := by
  unfold Obligations.PdMessages
  rintro ⟨-, -, hrequest, -⟩
  obtain ⟨hacts, hattached, htest, hshared⟩ := offeredAgain_acts
  obtain ⟨hsource, hcaps, hstep, hwaits, hjudge⟩ := offeredAgain_engine
  obtain ⟨t, hexec, -, hwait, -⟩ := hrequest 0 0x10000000 budgetHeld offeredAgain offeredRequest_goes hacts hattached htest
    hshared hsource hcaps (.inl hstep)
  obtain ⟨-, -, hkept⟩ := hwait hjudge rfl hwaits
  have hafter := offeredRequest_ready
  rw [valueAfter, offeredRequest, hexec, Option.some.injEq, hkept, hstep] at hafter
  exact absurd hafter (by decide)

end Sys2Proof.Machine
end

section
/-! PROOFS. The expiry of a hold timer (R220): the fallback as a source, a sink and a dark port find it. -/

namespace Sys2Proof.Machine

section
variable (p : Fin 8) (s : State)

/-! ### The port as the fallback finds it -/

@[simp] theorem portCc_fallenBack (off : Bool) (k : Fin 8) : portCc (fallenBack p off s) k = portCc s k :=
  portCc_setCode p _ k 0

/-- Only Pn_VSET moves before the gates and the lines do. -/
@[simp] theorem portCinch_fallenBack (off : Bool) :
    portCinch (fallenBack p off s) p = { portCinch s p with vset := 0 } := portCinch_setCode p _ 0

theorem fallenBack_rpLevel (off : Bool) :
    (fallenBack p off s).strap.holds[p].rpLevel = s.strap.holds[p].rpLevel := by
  rw [fallenBack, (setCode_onPort p _ 0).holds, modHold_same, holdOver, modHold_same]

/-- The hold of a port that has taken its fallback. -/
theorem takeFallback_holdAt : (takeFallback p s).strap.holds[p] = { s.strap.holds[p] with
    inHold := false, timerRunning := false, fellBack := true, fellBackOff := s.strap.holds[p].fallbackOff } := by
  simp [takeFallback_holds]

/-! ### Fallback 0x00 -/

/-- The contract over, at 5 V, with Rp at the current that Root held (R220). -/
def fallbackFive (p : Fin 8) (s : State) : State :=
  present p (.rp s.strap.holds[p].rpLevel)
    (modCinch p (fun c => { c with contractMv := 5000, oldMv := max c.oldMv c.contractMv }) s)

theorem takeFallback_five (hoff : s.strap.holds[p].fallbackOff = false) (hsource : (portPd s p).source = true) :
    takeFallback p s =
      if rootSeen (fallbackFive p (fallenBack p false s)) then
        modCinch p (fun c => { c with st := .fallback5v }) (fallbackFive p (fallenBack p false s))
      else fallbackFive p (fallenBack p false s) := by
  simp only [takeFallback, hoff, hsource, Bool.false_eq_true, if_false, if_true]
  rfl

theorem takeFallback_stays (hoff : s.strap.holds[p].fallbackOff = false) (hsink : (portPd s p).source = false) :
    takeFallback p s = fallenBack p false s := by
  simp only [takeFallback, hoff, hsink, Bool.false_eq_true, if_false]
  rfl

theorem fallbackFive_term : (portCc (fallbackFive p (fallenBack p false s)) p).term =
    if portPowered s p then .rp s.strap.holds[p].rpLevel else .opened := by
  have hpow : portPowered (modCinch p (fun c => { c with contractMv := 5000, oldMv := max c.oldMv c.contractMv })
      (fallenBack p false s)) p = portPowered s p := (setCode_onPort p _ 0).powered p
  rw [fallbackFive, portCc_present, hpow, fallenBack_rpLevel]

theorem fallbackFive_cinch : portCinch (fallbackFive p (fallenBack p false s)) p = { portCinch s p with
    vset := 0, contractMv := 5000, oldMv := max (portCinch s p).oldMv (portCinch s p).contractMv } := by
  rw [fallbackFive, portCinch_present, portCinch_modCinch, portCinch_fallenBack]

/-- A source that falls back to vSafe5V keeps its gates. -/
theorem takeFallback_source (hoff : s.strap.holds[p].fallbackOff = false) (hsource : (portPd s p).source = true) :
    (portCc (takeFallback p s) p).term = (if portPowered s p then .rp s.strap.holds[p].rpLevel else .opened)
      ∧ (portCinch (takeFallback p s) p).vset = 0 ∧ (portCinch (takeFallback p s) p).contractMv = 5000
      ∧ (portCinch (takeFallback p s) p).gates = (portCinch s p).gates := by
  rw [takeFallback_five p s hoff hsource]
  split
  · rw [portCc_modCinch, portCinch_modCinch, fallbackFive_term, fallbackFive_cinch]
    exact ⟨rfl, rfl, rfl, rfl⟩
  · rw [fallbackFive_term, fallbackFive_cinch]
    exact ⟨rfl, rfl, rfl, rfl⟩

/-! ### Fallback 0x01 -/

theorem fallbackDark_term : (portCc (fallbackDark p s) p).term = .opened := by
  simp [fallbackDark]

theorem takeFallback_opens (hoff : s.strap.holds[p].fallbackOff = true) :
    (portCc (takeFallback p s) p).term = .opened := by
  rw [takeFallback_off p s hoff]
  split
  · rw [portCc_modCinch, fallbackDark_term]
  · exact fallbackDark_term p _

/-! ### The command -/

variable {p s}

theorem holdExpire_takes (hin : s.strap.holds[p].inHold = true) (htimer : s.strap.holds[p].timerRunning = true)
    (hfrozen : s.strap.holds[p].frozen = false) : exec (.holdExpire p) s = .next (finish s (takeFallback p s)) := by
  have hexec : exec (.holdExpire p) s = .next (finish s (
      if s.strap.holds[p].inHold && s.strap.holds[p].timerRunning && !s.strap.holds[p].frozen then takeFallback p s
      else s)) := rfl
  rw [hexec, hin, htimer, hfrozen]
  rfl

theorem holdExpire_idle (htimer : s.strap.holds[p].timerRunning = false) :
    exec (.holdExpire p) s = .next (finish s s) := by
  have hexec : exec (.holdExpire p) s = .next (finish s (
      if s.strap.holds[p].inHold && s.strap.holds[p].timerRunning && !s.strap.holds[p].frozen then takeFallback p s
      else s)) := rfl
  rw [hexec, htimer, Bool.and_false, Bool.false_and, if_neg Bool.false_ne_true]

end

/-- Settles O15: the fallback that the running timer's expiry brings, and none without one. -/
theorem holdExpiryFallback : Obligations.HoldExpiryFallback := by
  refine ⟨fun p s hin htimer hfrozen hoff hsource => ?_, fun p s hin htimer hfrozen hoff hsink => ?_,
    fun p s hin htimer hfrozen hoff => ?_, fun p s htimer => ?_⟩
  · obtain ⟨hterm, hvset, hmv, hgates⟩ := takeFallback_source p s hoff hsource
    refine ⟨_, holdExpire_takes hin htimer hfrozen, ?_⟩
    rw [finish_portCinch, finish_portCc, finish_strap, takeFallback_holdAt, hoff]
    exact ⟨hvset, hmv, hterm, hgates, rfl⟩
  · have hstays := takeFallback_stays p s hoff hsink
    refine ⟨_, holdExpire_takes hin htimer hfrozen, ?_⟩
    rw [finish_portCinch, finish_portCc, finish_strap, takeFallback_holdAt, hoff, hstays, portCc_fallenBack,
      portCinch_fallenBack]
    exact ⟨rfl, rfl, rfl, rfl, rfl⟩
  · obtain ⟨hgates, hdsch⟩ := takeFallback_dark p s hoff
    refine ⟨_, holdExpire_takes hin htimer hfrozen, ?_⟩
    rw [finish_portCinch, finish_portCc, finish_strap, takeFallback_holdAt, hoff]
    exact ⟨hgates, hdsch, takeFallback_opens p s hoff, rfl⟩
  · refine ⟨_, holdExpire_idle htimer, ?_⟩
    exact ⟨finish_strap _ _, finish_portCinch _ _ p⟩

end Sys2Proof.Machine
end

section
/-! PROOFS. The declaration of a Strap loss at Root and at Crown, and the Crown-reset wire (R198, R213, R216 to R218, R227). -/

namespace Sys2Proof.Machine

/-! ### A port's hold at Root's declaration (R218) -/

/-- Nothing has happened to the hold since the last restore, and its time is not zero. -/
structure HoldUntouched (h : HoldPort) : Prop where
  stand : h.standHold = false
  time : h.holdCode ≠ 0
  outcome : h.outcome = none
  fellBack : h.fellBack = false
  tripped : h.tripped = false
  detached : h.detached = false
  hardReset : h.hardReset = false

/-- The hold that starts at a port, by what Root sees of the port and whether its loaded code runs. -/
def holdStarted (code : Bool) (q : Port) (h : HoldPort) : HoldPort :=
  { h with
    inHold := rootAttached q.cc && code, timerRunning := rootAttached q.cc && code, frozen := false
    rpLevel := rpLevel q.cc, hadContract := rootAttached q.cc && q.pd.explicit, wasAttached := rootAttached q.cc
    wasSource := q.pd.source, outcome := none }

theorem HoldUntouched.started {code : Bool} {q : Port} {h : HoldPort} (hu : HoldUntouched h) :
    HoldUntouched (holdStarted code q h) :=
  ⟨hu.stand, hu.time, rfl, hu.fellBack, hu.tripped, hu.detached, hu.hardReset⟩

section
variable (s : State) (p : Fin 8)

theorem rootHoldStart_starts (hu : HoldUntouched s.strap.holds[p]) :
    rootHoldStart p s = modHold p (holdStarted s.strap.codeRunning s.ports[p]) s := by
  obtain ⟨hstand, htime, houtcome, hfell, htrip, hdetached, hreset⟩ := hu
  simp only [rootHoldStart, hstand, houtcome, hfell, htrip, hdetached, hreset, modHold_same, htime, Bool.false_eq_true,
    if_false, Option.isNone_none, if_true, Bool.not_false, Bool.and_true, decide_false, Bool.and_false]
  simp only [modHold, holdStarted, hstand, hfell, htrip, hdetached, hreset]
  rfl

/-- A state with the port and the hold of `p` as they stood. -/
def portKept (a b : State) (p : Fin 8) : Prop := b.ports[p] = a.ports[p] ∧ b.strap.holds[p] = a.strap.holds[p]

/-- The hold that starts at another port leaves this one. -/
theorem rootHoldStart_other {k : Fin 8} (hk : p ≠ k) : portKept s (rootHoldStart k s) p := by
  have hval : k.val ≠ p.val := fun h => hk (Fin.ext h.symm)
  have hmod : ∀ f : HoldPort → HoldPort, (modHold k f s).strap.holds[p] = s.strap.holds[p] := fun f => by
    simp [modHold, Vector.getElem_set_ne, hval]
  have hfall : ∀ x : State, portKept x (takeFallback k x) p := fun x =>
    ⟨((takeFallback_onPort k x).others p hk).trans ((setCode_onPort k _ 0).others p hk), by
      simp [takeFallback_holds, Vector.getElem_set_ne, hval]⟩
  unfold rootHoldStart
  dsimp only
  refine iteInduction (motive := (portKept s · p)) (fun _ => ⟨rfl, rfl⟩) fun _ => ?_
  refine iteInduction (motive := (portKept s · p)) (fun _ => ?_) fun _ => ⟨rfl, hmod _⟩
  obtain ⟨hports, hholds⟩ := hfall (modHold k _ s)
  exact ⟨hports, hholds.trans (hmod _)⟩

end

section
variable {s : State} {p : Fin 8}

/-- While Root goes through the ports: the port is as it was and its hold still untouched. -/
structure HoldWaits (s : State) (p : Fin 8) (x : State) : Prop where
  port : x.ports[p] = s.ports[p]
  code : x.strap.codeRunning = s.strap.codeRunning
  hold : HoldUntouched x.strap.holds[p]

/-- Once Root has gone through the port: its hold runs by what Root saw there. -/
structure HoldBegun (s : State) (p : Fin 8) (x : State) : Prop where
  port : x.ports[p] = s.ports[p]
  hold : ∃ h, x.strap.holds[p] = holdStarted s.strap.codeRunning s.ports[p] h

theorem HoldWaits.begins {x : State} (hx : HoldWaits s p x) :
    HoldWaits s p (rootHoldStart p x) ∧ HoldBegun s p (rootHoldStart p x) := by
  obtain ⟨hport, hcode, hhold⟩ := hx
  rw [rootHoldStart_starts x p hhold]
  refine ⟨⟨hport, hcode, ?_⟩, hport, x.strap.holds[p], ?_⟩ <;> rw [modHold_same]
  · exact hhold.started
  · rw [hport, hcode]

/-- Root has gone through the ports: the hold of an untouched port has started, and the port is as it was. -/
theorem rootHolds_start (hu : HoldUntouched s.strap.holds[p]) :
    HoldBegun s p (onPorts allPorts rootHoldStart s) := by
  refine onPorts_each (I := HoldWaits s p) (Q := fun k x => k = p → HoldBegun s p x) (fun k x hx => ?_)
    (fun k x hx hk => hk ▸ (hk.symm ▸ hx : HoldWaits s k x).begins.2) (fun k q x hne _ hq hqp => ?_)
    ⟨rfl, rfl, hu⟩ (List.mem_finRange p) rfl
  · by_cases hk : p = k
    · exact hk ▸ hx.begins.1
    · obtain ⟨hport, hhold⟩ := rootHoldStart_other x p hk
      exact ⟨hport.trans hx.port, (rootHoldStart_work k x).codeRunning.trans hx.code, hhold ▸ hx.hold⟩
  · obtain ⟨hport, hhold⟩ := rootHoldStart_other x p (fun h => hne (hqp.trans h))
    obtain ⟨hwas, h, hbegun⟩ := hq hqp
    exact ⟨hport.trans hwas, h, hhold.trans hbegun⟩

/-! ### Root's declaration (R213) -/

/-- Root's own mark of a loss, before the holds. -/
def rootMarked (s : State) : State :=
  { loadCut s with strap := { (loadCut s).strap with
      rootLost := true, goodHb := 0
      lossStart := if s.strap.crownLost then s.strap.lossStart else s.strap.rootTime.toNat } }

theorem rootLoss_eq (s : State) : rootLoss s = if (resyncAbandon s).strap.rootLost then loadCut (resyncAbandon s)
    else onPorts allPorts rootHoldStart (rootMarked (resyncAbandon s)) := rfl

theorem resyncAbandon_idle (h : s.strap.link ≠ .resync) : resyncAbandon s = s := if_neg h

/-- A port's hold after an abandoned exchange: its timer resumes and its outcome is forgotten. -/
def exchangeLeft (h : HoldPort) : HoldPort := { h with outcome := none, frozen := false, timerRunning := h.inHold }

theorem exchangeLeft_onPorts (s : State) : ∃ hs, onPorts allPorts (fun k => modHold k exchangeLeft) s =
    { s with strap := { s.strap with holds := hs } } :=
  onPorts_keeps (P := fun x => ∃ hs, x = { s with strap := { s.strap with holds := hs } })
    (fun k _ ⟨hs, hx⟩ => ⟨hs.set k (exchangeLeft hs[k]), by rw [hx]; rfl⟩) _ ⟨s.strap.holds, rfl⟩

/-- An abandoned exchange leaves all but the holds, the link and the count of good heartbeats. -/
theorem resyncAbandon_eq (s : State) : ∃ hs, resyncAbandon s = { s with strap := { s.strap with
    holds := hs
    link := if s.strap.link = .resync then .lost else s.strap.link
    goodHb := if s.strap.link = .resync then 0 else s.strap.goodHb } } := by
  by_cases hlink : s.strap.link = .resync
  · have habandoned : resyncAbandon s = { onPorts allPorts (fun k => modHold k exchangeLeft) s with
        strap := { (onPorts allPorts (fun k => modHold k exchangeLeft) s).strap with link := .lost, goodHb := 0 } } :=
      if_pos hlink
    obtain ⟨hs, hx⟩ := exchangeLeft_onPorts s
    exact ⟨hs, by rw [habandoned, hx, if_pos hlink, if_pos hlink]⟩
  · exact ⟨s.strap.holds, by rw [resyncAbandon_idle hlink, if_neg hlink, if_neg hlink]⟩

/-- What a declaration of Root's leaves of the Strap as Crown and the wire have it. -/
structure RootDeclared (s t : State) : Prop where
  rootLost : t.strap.rootLost = true
  wire : t.strap.wire = s.strap.wire
  crownLost : t.strap.crownLost = s.strap.crownLost
  losses : t.strap.lossCount = s.strap.lossCount
  cause : t.strap.lastCause = s.strap.lastCause
  ticks : t.strap.hbTicks = s.strap.hbTicks
  good : s.strap.goodHb = 0 → t.strap.goodHb = 0

theorem rootLoss_declares (s : State) : RootDeclared s (rootLoss s) := by
  obtain ⟨hs, habandoned⟩ := resyncAbandon_eq s
  have hstrap := congrArg State.strap habandoned
  rw [rootLoss_eq]
  generalize resyncAbandon s = x at hstrap ⊢
  split
  next hlost => exact ⟨hlost, by simp [loadCut, hstrap], by simp [loadCut, hstrap], by simp [loadCut, hstrap],
    by simp [loadCut, hstrap], by simp [loadCut, hstrap], fun hgood => by simp [loadCut, hstrap, hgood]⟩
  next =>
    have hcore := (PortWork.onPorts (fun k x => rootHoldStart_work k x) allPorts (rootMarked x)).strap
    generalize onPorts allPorts rootHoldStart (rootMarked x) = t at hcore
    have hmarked : (rootMarked x).strap.rootLost = true := rfl
    refine ⟨(congrArg Strap.rootLost hcore).trans hmarked, (congrArg Strap.wire hcore).trans ?_,
      (congrArg Strap.crownLost hcore).trans ?_, (congrArg Strap.lossCount hcore).trans ?_,
      (congrArg Strap.lastCause hcore).trans ?_, (congrArg Strap.hbTicks hcore).trans ?_,
      fun _ => congrArg Strap.goodHb hcore⟩
    all_goals simp [strapCore, rootMarked, loadCut, hstrap]

/-- Root's declaration while the link is up (R213, R218). -/
theorem rootLoss_up (hup : s.strap.link = .up) (hlost : s.strap.rootLost = false) :
    rootLoss s = onPorts allPorts rootHoldStart (rootMarked s) := by
  have hidle : resyncAbandon s = s := resyncAbandon_idle (by rw [hup]; exact LinkState.noConfusion)
  rw [rootLoss_eq, hidle, hlost, if_neg Bool.false_ne_true]

theorem rootLoss_strap (hup : s.strap.link = .up) (hlost : s.strap.rootLost = false) :
    (rootLoss s).strap.rootLost = true ∧ (rootLoss s).strap.link = .up ∧ (rootLoss s).strap.params = false := by
  have hcore := (PortWork.onPorts (fun k x => rootHoldStart_work k x) allPorts (rootMarked s)).strap
  rw [rootLoss_up hup hlost]
  generalize onPorts allPorts rootHoldStart (rootMarked s) = t at hcore
  exact ⟨congrArg Strap.rootLost hcore, (congrArg Strap.link hcore).trans hup, congrArg Strap.params hcore⟩

theorem rootStrapLoss_holds (hup : s.strap.link = .up) (hlost : s.strap.rootLost = false)
    (hu : HoldUntouched s.strap.holds[p]) : ∃ t, exec .rootStrapLoss s = .next t
      ∧ t.strap.rootLost = true ∧ t.strap.link = .up ∧ t.strap.params = false
      ∧ t.strap.holds[p].inHold = (rootAttached (portCc s p) && s.strap.codeRunning)
      ∧ t.strap.holds[p].timerRunning = (rootAttached (portCc s p) && s.strap.codeRunning)
      ∧ t.strap.holds[p].hadContract = (rootAttached (portCc s p) && (portPd s p).explicit)
      ∧ t.strap.holds[p].rpLevel = rpLevel (portCc s p)
      ∧ t.strap.holds[p].outcome = none ∧ portCinch t p = portCinch s p ∧ portCc t p = portCc s p := by
  have hdeclared : s.strap.link ≠ .notYetUp := by rw [hup]; exact LinkState.noConfusion
  obtain ⟨hroot, hlink, hparams⟩ := rootLoss_strap hup hlost
  obtain ⟨hports, h, hhold⟩ := rootHolds_start (s := rootMarked s) (p := p) hu
  rw [← rootLoss_up hup hlost] at hports hhold
  have hports' : (rootLoss s).ports[p] = s.ports[p] := hports
  refine ⟨_, congrArg (complete s) (if_neg hdeclared), ?_⟩
  rw [finish_strap, finish_portCinch, finish_portCc, hhold]
  exact ⟨hroot, hlink, hparams, rfl, rfl, rfl, rfl, rfl, congrArg Port.cinch hports', congrArg Port.cc hports'⟩

/-! ### Crown's declaration (R216, R217) -/

theorem resyncAbandon_ports (s : State) : (resyncAbandon s).ports = s.ports := by
  obtain ⟨hs, habandoned⟩ := resyncAbandon_eq s
  rw [habandoned]

theorem resyncAbandon_basis (s : State) : (resyncAbandon s).power = s.power ∧ (resyncAbandon s).boot = s.boot := by
  obtain ⟨hs, habandoned⟩ := resyncAbandon_eq s
  rw [habandoned]
  exact ⟨rfl, rfl⟩

theorem showHold_onPort (p : Fin 8) (s : State) : OnPort p s (showHold p s) :=
  .ite ((modPd_onPort s p _).trans <| (setCcState_onPort _ p _).trans (modCinch_onPort _ p _)) (modPd_onPort s p _)

/-- What Crown shows of a port in a loss, by what stood there before. -/
def shownInHold (explicit gates : Bool) (p : Fin 8) (s : State) : Prop :=
  (portPd s p).txq = [] ∧ (explicit = true → (portCc s p).state = .rootHold ∧ (portCinch s p).st = .holdKept
    ∧ (portCinch s p).gates = gates)

theorem showHold_engine (p : Fin 8) (s : State) : (portPd (showHold p s) p).explicit = (portPd s p).explicit
    ∧ (portCinch (showHold p s) p).gates = (portCinch s p).gates := by
  unfold showHold
  split <;> simp

theorem showHold_shows (p : Fin 8) (s : State) :
    shownInHold (portPd s p).explicit (portCinch s p).gates p (showHold p s) := by
  unfold showHold shownInHold
  split
  next hexplicit => simp
  next hexplicit => simp [hexplicit]

theorem showHolds_show (s : State) (p : Fin 8) :
    shownInHold (portPd s p).explicit (portCinch s p).gates p (onPorts allPorts showHold s) := by
  refine onPorts_each
    (I := fun x => (portPd x p).explicit = (portPd s p).explicit ∧ (portCinch x p).gates = (portCinch s p).gates)
    (Q := fun k x => k = p → shownInHold (portPd s p).explicit (portCinch s p).gates p x)
    (fun k x ⟨hexplicit, hgates⟩ => ?_) (fun k x ⟨hexplicit, hgates⟩ hk => ?_) (fun k q x hne _ hq hqp => ?_)
    ⟨rfl, rfl⟩ (List.mem_finRange p) rfl
  · by_cases hk : p = k
    · subst hk
      obtain ⟨hexplicit', hgates'⟩ := showHold_engine p x
      exact ⟨hexplicit'.trans hexplicit, hgates'.trans hgates⟩
    · rw [(showHold_onPort k x).pd hk, (showHold_onPort k x).cinch hk]
      exact ⟨hexplicit, hgates⟩
  · subst hk
    rw [← hexplicit, ← hgates]
    exact showHold_shows k x
  · have hk : p ≠ k := fun h => hne (hqp.trans h)
    have hon := showHold_onPort k x
    rw [shownInHold, hon.pd hk, hon.cc hk, hon.cinch hk]
    exact hq hqp

/-- Crown's books at a loss, told to the host, before the ports are shown in hold. -/
def crownBooks (cause : Nat) (s : State) : State := lossTold cause (lossMarked cause (loadCut (resyncAbandon s)))

theorem crownBooks_keeps (cause : Nat) (s : State) : (crownBooks cause s).ports = s.ports
    ∧ (crownBooks cause s).power = s.power ∧ (crownBooks cause s).boot = s.boot := by
  have hports : (lossMarked cause (loadCut (resyncAbandon s))).ports = s.ports := resyncAbandon_ports s
  obtain ⟨hpower, hboot⟩ : (lossMarked cause (loadCut (resyncAbandon s))).power = s.power
      ∧ (lossMarked cause (loadCut (resyncAbandon s))).boot = s.boot := resyncAbandon_basis s
  rw [crownBooks]
  generalize lossMarked cause _ = x at hports hpower hboot
  unfold lossTold
  dsimp only
  split <;> simp [irq, hports, hpower, hboot]

theorem crownBooks_strap (cause : Nat) (s : State) : (crownBooks cause s).strap.link = .lost
    ∧ (crownBooks cause s).strap.crownLost = true ∧ (crownBooks cause s).strap.lastCause = BitVec.ofNat 3 cause
    ∧ (crownBooks cause s).strap.lossCount = bump 8 s.strap.lossCount := by
  obtain ⟨hs, habandoned⟩ := resyncAbandon_eq s
  rw [crownBooks, lossTold_strap, habandoned]
  exact ⟨rfl, rfl, rfl, rfl⟩

theorem lossTold_irq (cause : Nat) (x : State) (hopen : isOpen x = true) :
    (lossTold cause x).host.irqStat.getLsbD 3 = true := by
  have hstill : isOpen (emit (devEv 0x0D01 5 [BitVec.ofNat 8 cause]) x) = true := by
    simpa only [isOpen, emit_boot] using hopen
  unfold lossTold
  dsimp only
  rw [if_pos hstill]
  simp [irq]

/-- Crown's declaration: its books, and every port shown. -/
theorem crownLoss_books (cause : Nat) (s : State) : crownLoss cause s =
    { onPorts allPorts showHold (crownBooks cause s) with
      shown := some (shownNow (onPorts allPorts showHold (crownBooks cause s))) } := crownLoss_eq cause

theorem crownLoss_declares (cause : Nat) (s : State) (p : Fin 8) :
    (crownLoss cause s).strap.link = .lost ∧ (crownLoss cause s).strap.crownLost = true
      ∧ (crownLoss cause s).strap.lastCause = BitVec.ofNat 3 cause
      ∧ (crownLoss cause s).strap.lossCount = bump 8 s.strap.lossCount ∧ (crownLoss cause s).power = s.power
      ∧ (crownLoss cause s).boot = s.boot
      ∧ (isOpen s = true → (crownLoss cause s).host.irqStat.getLsbD 3 = true)
      ∧ shownInHold (portPd s p).explicit (portCinch s p).gates p (crownLoss cause s) := by
  obtain ⟨hports, hpower, hboot⟩ := crownBooks_keeps cause s
  obtain ⟨hlink, hlost, hcause, hlosses⟩ := crownBooks_strap cause s
  have hwork := PortWork.onPorts showHold_work allPorts (crownBooks cause s)
  have hshown := showHolds_show (crownBooks cause s) p
  have hmarked : (lossMarked cause (loadCut (resyncAbandon s))).boot = s.boot := (resyncAbandon_basis s).2
  have hopens : isOpen s = true → (crownBooks cause s).host.irqStat.getLsbD 3 = true := fun hopen =>
    lossTold_irq cause _ (by simpa only [isOpen, hmarked] using hopen)
  have hpd : portPd (crownBooks cause s) p = portPd s p := by rw [portPd, hports, portPd]
  have hcinch : portCinch (crownBooks cause s) p = portCinch s p := by rw [portCinch, hports, portCinch]
  rw [hpd, hcinch] at hshown
  rw [crownLoss_books]
  generalize onPorts allPorts showHold (crownBooks cause s) = x at hwork hshown
  exact ⟨(congrArg Strap.link hwork.strap).trans hlink, (congrArg Strap.crownLost hwork.strap).trans hlost,
    (congrArg Strap.lastCause hwork.strap).trans hcause, (congrArg Strap.lossCount hwork.strap).trans hlosses,
    hwork.power.trans hpower, hwork.boot.trans hboot, fun hopen => by rw [hwork.irqStat]; exact hopens hopen, hshown⟩

/-- Crown's own declaration, by its timer or by a heartbeat with LOST: from the state without the heartbeats taken. -/
theorem crownStrapLoss_exec {byHb : Bool} (hruns : crownRuns s = true) (hpart : (strapUp s || s.strap.crownResync) = true)
    (hbeat : byHb = true → s.strap.rootHb.any (fun b => b.lost) = true) : ∃ beats, exec (.crownStrapLoss byHb) s =
      .next (finish s (crownLoss (if byHb then 1 else 2) { s with strap := { s.strap with rootHb := beats } })) := by
  have hgo : (!crownRuns s || !(strapUp s || s.strap.crownResync)) = false := by rw [hruns, hpart]; rfl
  cases byHb with
  | false =>
    refine ⟨s.strap.rootHb, congrArg (complete s) ?_⟩
    rw [hgo]
    rfl
  | true =>
    obtain ⟨b, hb, hlost⟩ := List.any_eq_true.mp (hbeat rfl)
    cases hdrop : s.strap.rootHb.dropWhile fun b => !b.lost with
    | nil =>
      have hkept := List.dropWhile_eq_nil_iff.mp hdrop b hb
      simp [hlost] at hkept
    | cons _ t =>
      refine ⟨t, congrArg (complete s) ?_⟩
      rw [hgo, hdrop]
      rfl

theorem crownStrapLoss_declares {byHb : Bool} (hruns : crownRuns s = true)
    (hpart : (strapUp s || s.strap.crownResync) = true)
    (hbeat : byHb = true → s.strap.rootHb.any (fun b => b.lost) = true) : ∃ t, exec (.crownStrapLoss byHb) s = .next t
      ∧ t.strap.link = .lost ∧ t.strap.crownLost = true ∧ t.strap.lastCause = (if byHb then 1 else 2)
      ∧ t.strap.lossCount = bump 8 s.strap.lossCount ∧ t.power = s.power ∧ t.shown.isSome = true
      ∧ (isOpen s = true → t.host.irqStat.getLsbD 3 = true)
      ∧ ∀ p : Fin 8, (portPd t p).txq = []
          ∧ ((portPd s p).explicit = true → (portCc t p).state = .rootHold ∧ (portCinch t p).st = .holdKept
              ∧ (portCinch t p).gates = (portCinch s p).gates) := by
  obtain ⟨beats, hexec⟩ := crownStrapLoss_exec hruns hpart hbeat
  obtain ⟨cause, hcause⟩ : ∃ cause, cause = if byHb then 1 else 2 := ⟨_, rfl⟩
  have hcode : BitVec.ofNat 3 cause = (if byHb then 1 else 2 : BitVec 3) := by rw [hcause]; cases byHb <;> rfl
  rw [← hcause] at hexec
  have hdeclares := crownLoss_declares cause { s with strap := { s.strap with rootHb := beats } }
  have hshown : (crownLoss cause { s with strap := { s.strap with rootHb := beats } }).shown.isSome = true := rfl
  generalize crownLoss cause _ = x at hexec hdeclares hshown
  obtain ⟨hlink, hlost, hlast, hlosses, hpower, hboot, hirq, -⟩ := hdeclares 0
  refine ⟨_, hexec, ?_⟩
  rw [finish_strap, finish_power, finish_shown]
  refine ⟨hlink, hlost, hlast.trans hcode, hlosses, hpower, hshown, fun hopen => ?_, fun p => ?_⟩
  · have hopen' : isOpen x = true := by simpa only [isOpen, hboot] using hopen
    obtain ⟨k, hk⟩ := finish_irqStat s x hopen hopen'
    simp [hk, hirq hopen]
  · obtain ⟨-, -, -, -, -, -, -, htxq, hheld⟩ := hdeclares p
    obtain ⟨c, hpd⟩ := finish_portPd s x p
    rw [hpd, finish_portCc, finish_portCinch]
    exact ⟨htxq, hheld⟩

theorem crownStrapLoss_idle (hnone : s.strap.rootHb.any (fun b => b.lost) = false) :
    ∃ t, exec (.crownStrapLoss true) s = .next t ∧ t.strap = s.strap := by
  have hdrop : (s.strap.rootHb.dropWhile fun b => !b.lost) = [] :=
    List.dropWhile_eq_nil_iff.mpr fun b hb => by simpa using List.any_eq_false.mp hnone b hb
  refine ⟨_, rfl, ?_⟩
  rw [finish_strap, hdrop]
  split <;> rfl

/-! ### The wire (R198, R227) -/

/-- The wire's assertion before Root takes the loss. -/
def wirePulled (s : State) : State :=
  { s with
    power := { s.power with refoscRestart := !s.power.refoscRunning }
    strap := { s.strap with wire := true, goodHb := 0, hbTicks := none, compareNext := false } }

theorem wireAssert_eq (s : State) : wireAssert s =
    if s.strap.crownLost then
      { rootLoss (wirePulled s) with strap := { (rootLoss (wirePulled s)).strap with link := .lost, crownResync := false } }
    else
      { rootLoss (wirePulled s) with strap := { (rootLoss (wirePulled s)).strap with
          link := .lost, crownLost := true, crownResync := false, wireLoss := true, lossCount := bump 8 s.strap.lossCount
          lastCause := 4, lossStart := if s.strap.rootLost then s.strap.lossStart else s.strap.rootTime.toNat } } := rfl

theorem wireAssert_declares (s : State) : ∃ t, exec .crownResetWireAssert s = .next t
      ∧ t.strap.wire = true ∧ t.strap.link = .lost ∧ t.strap.rootLost = true ∧ t.strap.crownLost = true
      ∧ t.power = { s.power with refoscRestart := !s.power.refoscRunning }
      ∧ t.strap.hbTicks = none ∧ t.strap.goodHb = 0
      ∧ (s.strap.crownLost = false →
          t.strap.lastCause = 4 ∧ t.strap.lossCount = bump 8 s.strap.lossCount ∧ t.strap.wireLoss = true)
      ∧ (s.strap.crownLost = true → t.strap.lastCause = s.strap.lastCause ∧ t.strap.lossCount = s.strap.lossCount) := by
  have hbasis := wireAssert_resetBasis s
  simp only [resetBasis, Prod.mk.injEq] at hbasis
  obtain ⟨-, hpower, -, hwire⟩ := hbasis
  obtain ⟨hroot, -, hcrown, hlosses, hcause, hticks, hgood⟩ := rootLoss_declares (wirePulled s)
  refine ⟨_, rfl, ?_⟩
  rw [finish_power, finish_strap]
  rw [wireAssert_eq] at hwire hpower ⊢
  cases hlost : s.strap.crownLost with
  | true =>
    rw [hlost, if_pos rfl] at hwire hpower
    rw [if_pos rfl]
    exact ⟨hwire, rfl, hroot, hcrown.trans hlost, hpower, hticks, hgood rfl, fun h => Bool.noConfusion h,
      fun _ => ⟨hcause, hlosses⟩⟩
  | false =>
    rw [hlost, if_neg Bool.false_ne_true] at hwire hpower
    rw [if_neg Bool.false_ne_true]
    exact ⟨hwire, rfl, hroot, rfl, hpower, hticks, hgood rfl, fun _ => ⟨rfl, rfl, rfl⟩, fun h => Bool.noConfusion h⟩

theorem crownResetWireRelease_frees (hphase : s.boot.phase = .rootLoad ∨ s.boot.phase = .selftest
      ∨ s.boot.phase = .ready ∨ s.boot.phase = .limp) :
    ∃ t, exec .crownResetWireRelease s = .next t ∧ t.strap = { s.strap with wire := false } := by
  refine ⟨_, rfl, ?_⟩
  rw [finish_strap]
  rcases hphase with h | h | h | h <;> rw [h]

theorem crownResetWireRelease_keeps (hphase : s.boot.phase = .resetHold ∨ s.boot.phase = .crownReset
      ∨ s.boot.phase = .fetch) : ∃ t, exec .crownResetWireRelease s = .next t ∧ t.strap = s.strap := by
  refine ⟨_, rfl, ?_⟩
  rw [finish_strap]
  rcases hphase with h | h | h <;> rw [h]

end

/-- Settles O14: Root's declaration, Crown's, and the Crown-reset wire. -/
theorem strapLossDeclared : Obligations.StrapLossDeclared :=
  ⟨fun _ _ hup hlost hstand htime houtcome hfell htrip hdetached hreset =>
      rootStrapLoss_holds hup hlost ⟨hstand, htime, houtcome, hfell, htrip, hdetached, hreset⟩,
    fun s hnot => ⟨_, congrArg (complete s) (if_pos hnot), finish_strap s s⟩, fun _ _ => crownStrapLoss_declares,
    fun _ => crownStrapLoss_idle, wireAssert_declares, fun _ => crownResetWireRelease_frees,
    fun _ => crownResetWireRelease_keeps⟩

end Sys2Proof.Machine
end

section
/-! PROOFS. VCONN and CC faults, the end of ErrorRecovery, configuration writes and Root's recognition (R221, R232, R244 to R248). -/

namespace Sys2Proof.Machine

/-- A field read under a mask that covers it. -/
theorem field_and_cover (w m : Word) {hi lo : Nat} (h : field m hi lo = 2 ^ (hi + 1 - lo) - 1) :
    field (w &&& m) hi lo = field w hi lo := by
  simp only [field] at h ⊢
  rw [BitVec.toNat_and, Nat.shiftRight_and_distrib, Nat.and_mod_two_pow, h, Nat.and_two_pow_sub_one_eq_mod, Nat.mod_mod]

section
variable (s : State) (p : Fin 8)

theorem portCc_rootEv (e : Event) (k : Fin 8) : portCc (rootEv e s) k = portCc s k := (rootEv_offPorts s e).cc k

/-- A Hard Reset is a matter of the engine and leaves the lines. -/
theorem portCc_hardReset (sent : Bool) (cause : Nat) (k : Fin 8) : portCc (hardReset p sent cause s) k = portCc s k := by
  unfold hardReset
  dsimp only
  split <;> simp

/-! ### VCONN overcurrent (R245) -/

/-- The switch off by an overcurrent, its line discharging. -/
def vconnTripped (p : Fin 8) (s : State) : Prop :=
  (portCc s p).vconnOn = false ∧ (portCc s p).vconnOc = true ∧ (portCc s p).vconnLatched = true
    ∧ (portCc s p).ccDischarge = true

theorem vconnOc_trips (hon : (portCc s p).vconnOn = true) : vconnTripped p (vconnOc p s) := by
  unfold vconnOc
  dsimp only
  rw [hon, Bool.not_true, if_neg Bool.false_ne_true]
  split <;> simp [vconnTripped, portCc_hardReset, portCc_rootEv, vconnOff, hon]

/-! ### CC over-voltage (R221, R247) -/

/-- Both lines opened by an over-voltage, before the port acts on it. -/
def ovpOpened (p : Fin 8) (line : Bool) (s : State) : State :=
  rootEv (portEv p 0x2006 5 [BitVec.ofNat 8 (b2n line), stateByte (portCc s p).state])
    (modCc p (fun c => { c with ccOvp := true, ovpTrip := true }) (present p .opened (vconnOff p s)))

theorem ovpOpened_cc (line : Bool) : ∃ d, portCc (ovpOpened p line s) p = { portCc s p with
    vconnOn := false, ccDischarge := d, term := .opened, ccOvp := true, ovpTrip := true } := by
  obtain ⟨on, d, hoff⟩ := vconnOff_cc s p
  have hon : on = false := by simpa [hoff] using vconnOff_off p s
  exact ⟨d, by simp [ovpOpened, portCc_rootEv, hoff, hon]⟩

theorem ovpOpened_onPort (line : Bool) : OnPort p s (ovpOpened p line s) :=
  (vconnOff_onPort s p).trans <| (present_onPort _ p _).trans <| (modCc_onPort _ p _).trans <|
    .ofOff (rootEv_offPorts _ _)

theorem ccOvp_alone (line : Bool) (halone : rootAlone s p = true) :
    ccOvp p line s = rootTrip p 0 0 (ovpOpened p line s) := by
  have halone' : rootAlone (ovpOpened p line s) p = true := by
    rw [rootAlone, (ovpOpened_onPort s p line).reach, (ovpOpened_onPort s p line).holds]
    exact halone
  exact if_pos halone'

theorem ccOvp_stand (line : Bool) (hstand : rootAlone s p = false) :
    ccOvp p line s = errorRecovery p (ovpOpened p line s) := by
  have hstand' : ¬ rootAlone (ovpOpened p line s) p = true := by
    rw [rootAlone, (ovpOpened_onPort s p line).reach, (ovpOpened_onPort s p line).holds]
    exact Bool.eq_false_iff.mp hstand
  exact if_neg hstand'

/-- While the group's cut-off is closed the port alone goes to ErrorRecovery. -/
theorem errorRecovery_alone (hin : (portCc s p).state ≠ .outOfService) (hcut : s.groups[groupOf p].gcutOpen = false) :
    errorRecovery p s = present p .opened (setCcState p .errorRecovery (portLeave p 1 (gatesOff p s))) := by
  have hon : OnPort p s (present p .opened (setCcState p .errorRecovery (portLeave p 1 (gatesOff p s)))) :=
    (gatesOff_onPort s p).trans <| (portLeave_onPort _ p 1).trans <| (setCcState_onPort _ p _).trans (present_onPort _ p _)
  unfold errorRecovery
  rw [if_neg hin, groupAfterBackfeed, hon.groups, hcut, Bool.false_and, Bool.false_and, if_neg Bool.false_ne_true]

theorem errorRecovery_opens (hin : (portCc s p).state ≠ .outOfService) (hcut : s.groups[groupOf p].gcutOpen = false) :
    (portCc (errorRecovery p s) p).state = .errorRecovery ∧ (portCc (errorRecovery p s) p).term = .opened
      ∧ (portCc (errorRecovery p s) p).ccOvp = (portCc s p).ccOvp ∧ (portCc (errorRecovery p s) p).vconnOn = false
      ∧ (portCinch (errorRecovery p s) p).gates = false := by
  obtain ⟨on, d, n, hcc⟩ := portLeave_cc (gatesOff p s) p 1
  obtain ⟨st, o, hcinch⟩ := portLeave_cinch (gatesOff p s) p 1
  have hvconn := portLeave_vconn p (gatesOff p s) 1
  have hgates := gatesOff_gates s p
  rw [errorRecovery_alone s p hin hcut]
  refine ⟨by simp, by simp, by simp [hcc], by simpa using hvconn, by simpa [hcinch] using hgates⟩

theorem ccOvp_recovers (line : Bool) (hstand : rootAlone s p = false) (hin : (portCc s p).state ≠ .outOfService)
    (hcut : s.groups[groupOf p].gcutOpen = false) :
    (portCc (ccOvp p line s) p).state = .errorRecovery ∧ (portCc (ccOvp p line s) p).term = .opened
      ∧ (portCc (ccOvp p line s) p).ccOvp = true ∧ (portCc (ccOvp p line s) p).vconnOn = false
      ∧ (portCinch (ccOvp p line s) p).gates = false := by
  obtain ⟨d, hcc⟩ := ovpOpened_cc s p line
  rw [ccOvp_stand s p line hstand]
  obtain ⟨hstate, hterm, hovp, hvconn, hgates⟩ := errorRecovery_opens (ovpOpened p line s) p (by rw [hcc]; exact hin)
    (by rw [(ovpOpened_onPort s p line).groups]; exact hcut)
  exact ⟨hstate, hterm, hovp.trans (by rw [hcc]), hvconn, hgates⟩

theorem rootTrip_trips (kind value : Nat) : (rootTrip p kind value s).strap.holds[p].tripped = true
    ∧ (rootTrip p kind value s).strap.holds[p].inHold = false ∧ (portCinch (rootTrip p kind value s) p).gates = false
    ∧ (portCinch (rootTrip p kind value s) p).dsch = portPowered s p
    ∧ portCc (rootTrip p kind value s) p = portCc s p := by
  have hports : (rootTrip p kind value s).ports = (rootDark p s).ports := rfl
  refine ⟨?_, ?_, ?_, ?_, ?_⟩
  · rw [rootTrip, modHold_same]
  · rw [rootTrip, modHold_same, holdOver, modHold_same]
  · rw [portCinch, hports, ← portCinch]
    simp [rootDark]
  · rw [portCinch, hports, ← portCinch]
    simp [rootDark]
  · rw [portCc, hports, ← portCc]
    simp [rootDark]

theorem ccOvp_trips (line : Bool) (halone : rootAlone s p = true) : ∃ t, exec (.ccOvpTrip p line) s = .next t
      ∧ t.strap.holds[p].tripped = true ∧ t.strap.holds[p].inHold = false ∧ (portCinch t p).gates = false
      ∧ (portCinch t p).dsch = portPowered s p ∧ (portCc t p).term = .opened := by
  obtain ⟨d, hcc⟩ := ovpOpened_cc s p line
  obtain ⟨htripped, hhold, hgates, hdsch, hlines⟩ := rootTrip_trips (ovpOpened p line s) p 0 0
  refine ⟨_, congrArg (complete s) (ccOvp_alone s p line halone), ?_⟩
  rw [finish_strap, finish_portCinch, finish_portCc, hlines, hcc]
  exact ⟨htripped, hhold, hgates, hdsch.trans ((ovpOpened_onPort s p line).powered p), rfl⟩

/-! ### The end of ErrorRecovery (R248) -/

theorem ccNext_unattached {c : CcPort} (hun : isUnattached c.state = true) : ccNext c ≠ .errorRecovery := by
  unfold ccNext
  cases hstate : c.state <;> rw [hstate] at hun
  case unattachedSrc => dsimp only; split <;> exact CcState.noConfusion
  case unattachedSnk => dsimp only; split <;> exact CcState.noConfusion
  all_goals cases hun

theorem enterUnattached_leavesRecovery (how : UnattachedAs) : (portCc (enterUnattached p how s) p).state ≠ .errorRecovery
    ∧ (portCc (enterUnattached p how s) p).ovpTrip = (portCc s p).ovpTrip := by
  obtain ⟨d, e, n, r, hlines⟩ := ccEvaluate_sameLines (modCc p (unattachedCc how) s) p
  rw [enterUnattached_eq]
  constructor
  · rw [ccEvaluate_state, portCc_modCc]
    refine ccNext_unattached ?_
    rw [unattachedCc_state]
    split <;> rfl
  · rw [hlines, portCc_modCc]
    rfl

theorem goUnattached_leavesRecovery : (portCc (goUnattached p s) p).state ≠ .errorRecovery
    ∧ (portCc (goUnattached p s) p).ovpTrip = false := by
  obtain ⟨hstate, hovp⟩ := enterUnattached_leavesRecovery (ovpOver p s) p .src
  unfold goUnattached goUnattachedAs
  dsimp only
  split_ifs
  · simp
  · simp
  · simp [enterLimp]
  · exact ⟨hstate, hovp.trans (by simp)⟩

/-! ### Configuration writes (R232, R234) -/

theorem ccAdopt_attached (h : isUnattached (portCc s p).state = false) : ccAdopt p s = s := by
  rw [ccAdopt, h, Bool.false_and, Bool.false_and, if_neg Bool.false_ne_true]

theorem enterUnattached_time0 (how : UnattachedAs) :
    (portCc (enterUnattached p how s) p).time0 = (portCc s p).time0W
      ∧ (portCc (enterUnattached p how s) p).time0W = (portCc s p).time0W := by
  obtain ⟨d, e, n, r, hlines⟩ := ccEvaluate_sameLines (modCc p (unattachedCc how) s) p
  rw [enterUnattached_eq, hlines, portCc_modCc]
  exact ⟨rfl, rfl⟩

theorem ccAdopt_time0W : (portCc (ccAdopt p s) p).time0W = (portCc s p).time0W := by
  unfold ccAdopt
  split
  · exact (enterUnattached_time0 s p _).2
  · rfl

/-- An Unattached port takes the written times at once. -/
theorem ccAdopt_time0 (hun : isUnattached (portCc s p).state = true) (hacts : standActs s p = true) :
    (portCc (ccAdopt p s) p).time0 = (portCc s p).time0W := by
  unfold ccAdopt
  rw [hun, hacts]
  split
  · exact (enterUnattached_time0 s p _).1
  next hnone =>
    simp only [ccPending, Bool.and_self, Bool.true_and, Bool.or_eq_true, decide_eq_true_eq, not_or, not_not] at hnone
    exact hnone.1.2

/-- The state with CCTIME0 as written. -/
def time0Written (p : Fin 8) (v : Word) (s : State) : State := modCc p (fun c => { c with time0W := v &&& 0xFFFFFF00 }) s

theorem ccTimeWrite_time0 (v : Word) : (portCc (ccTimeWrite p false v s) p).time0W = v &&& 0xFFFFFF00
    ∧ (isUnattached (portCc s p).state = false → (portCc (ccTimeWrite p false v s) p).time0 = (portCc s p).time0)
    ∧ (isUnattached (portCc s p).state = true → standActs s p = true →
        (portCc (ccTimeWrite p false v s) p).time0 = v &&& 0xFFFFFF00) := by
  have hwrite : ccTimeWrite p false v s = ccAdopt p (time0Written p v s) := rfl
  have hcc : portCc (time0Written p v s) p = { portCc s p with time0W := v &&& 0xFFFFFF00 } := portCc_modCc s p _
  have hacts : standActs (time0Written p v s) p = standActs s p := by
    rw [standActs, standActs, hcc]
    rfl
  rw [hwrite]
  refine ⟨by rw [ccAdopt_time0W, hcc], fun hatt => ?_, fun hun hstand => ?_⟩
  · rw [ccAdopt_attached _ p (by rw [hcc]; exact hatt), hcc]
  · rw [ccAdopt_time0 _ p (by rw [hcc]; exact hun) (hacts.trans hstand), hcc]

theorem ccConfigWrite_time0 (who : Requester) (v : Word) (hmay : maySet who (0x8104 + 0x400 * p.val) s) :
    ∃ t, exec (.ccConfigWrite who p 1 v) s = .next t ∧ (portCc t p).time0W = v &&& 0xFFFFFF00
      ∧ (isUnattached (portCc s p).state = false → (portCc t p).time0 = (portCc s p).time0)
      ∧ (isUnattached (portCc s p).state = true → standActs s p = true → (portCc t p).time0 = v &&& 0xFFFFFF00) := by
  have haddr : 0x8104 + 0x400 * p.val = 0x8100 + 0x400 * p.val + 4 * (1 : Fin 3).val := by
    show _ = _ + 4 * 1
    omega
  rw [haddr] at hmay
  refine ⟨_, congrArg (complete s) (guarded_allowed s hmay), ?_⟩
  rw [finish_portCc]
  exact ccTimeWrite_time0 s p v

/-- CCCFG as a write leaves it: the reserved value of ROLE keeps the ROLE that stood (R232). -/
def cfgWritten (v was : Word) : Word :=
  if field (v &&& 0x00000EF0) 5 4 = 3 then (v &&& 0x00000EF0 &&& ~~~(0x30 : Word)) ||| (was &&& 0x30) else v &&& 0x00000EF0

theorem cfgWritten_cases (v was : Word) :
    (field v 5 4 = 3 → cfgWritten v was = (v &&& 0x00000EC0) ||| (was &&& 0x30))
      ∧ (field v 5 4 ≠ 3 → cfgWritten v was = v &&& 0x00000EF0) := by
  have hmask : v &&& 0x00000EF0 &&& ~~~(0x30 : Word) = v &&& 0x00000EC0 := by
    rw [BitVec.and_assoc]
    rfl
  rw [cfgWritten, field_and_cover v 0x00000EF0 (by decide), hmask]
  exact ⟨fun h => if_pos h, fun h => if_neg h⟩

theorem ccConfigWrite_cfg (who : Requester) (v : Word) (hmay : maySet who (0x8100 + 0x400 * p.val) s)
    (hatt : isUnattached (portCc s p).state = false) : ∃ t, exec (.ccConfigWrite who p 0 v) s = .next t
      ∧ (field v 5 4 = 3 → portCc t p = { portCc s p with
          cfgW := (v &&& 0x00000EC0) ||| ((portCc s p).cfgW &&& 0x30) })
      ∧ (field v 5 4 ≠ 3 → portCc t p = { portCc s p with cfgW := v &&& 0x00000EF0 }) := by
  have hwrite : ccCfgWrite p v s = modCc p (fun c => { c with cfgW := cfgWritten v c.cfgW }) s :=
    ccAdopt_attached _ p (by rw [portCc_modCc]; exact hatt)
  obtain ⟨hreserved, hplain⟩ := cfgWritten_cases v (portCc s p).cfgW
  refine ⟨_, congrArg (complete s) ((guarded_allowed s hmay).trans hwrite), ?_⟩
  rw [finish_portCc, portCc_modCc]
  exact ⟨fun h => by rw [hreserved h], fun h => by rw [hplain h]⟩

/-! ### Root's recognition (R200, R221, R244) -/

/-- The lines as Root recognises them, with what it reports. -/
def recognised (p : Fin 8) (cc1 cc2 : CcSeen) (s : State) : State :=
  modCc p (fun c => { c with
    rootCc1 := cc1, rootCc2 := cc2
    ccDischarge := c.ccDischarge && !belowDischarge c (if c.orient then cc1 else cc2)
    events := if portReach s p then c.events ++ [ccReport c cc1 cc2] else [] }) s

theorem recognition_unwatched (cc1 cc2 : CcSeen) (hlimp : s.boot.phase ≠ .limp) (hwatch : rootWatches s p = false) :
    recognition p cc1 cc2 s = recognised p cc1 cc2 s := by
  have hwatch' : rootWatches (recognised p cc1 cc2 s) p = false := hwatch
  have hlimp' : (recognised p cc1 cc2 s).boot.phase ≠ .limp := hlimp
  unfold recognition
  dsimp only
  rw [← recognised, hwatch', Bool.false_and, Bool.false_and, if_neg Bool.false_ne_true, if_neg hlimp']

theorem recognition_watched (cc1 cc2 : CcSeen) (hwatch : rootWatches s p = true)
    (hsource : s.strap.holds[p].wasSource = true) (hgone : (if (portCc s p).orient then cc2 else cc1) ≠ .rd) :
    recognition p cc1 cc2 s = rootDetach p (recognised p cc1 cc2 s) := by
  have hwatch' : rootWatches (recognised p cc1 cc2 s) p = true := hwatch
  have hsource' : (recognised p cc1 cc2 s).strap.holds[p].wasSource = true := hsource
  have horient : (portCc (recognised p cc1 cc2 s) p).orient = (portCc s p).orient := by rw [recognised, portCc_modCc]
  unfold recognition
  dsimp only
  rw [← recognised, hwatch', hsource', horient, decide_eq_true hgone]
  rfl

theorem rootDetach_detaches : (rootDetach p s).strap.holds[p].detached = true
    ∧ (rootDetach p s).strap.holds[p].inHold = false ∧ (portCinch (rootDetach p s) p).gates = false := by
  have hcinch : portCinch (rootDetach p s) p = portCinch (rootDark p s) p := rfl
  refine ⟨?_, ?_, ?_⟩
  · rw [rootDetach, modHold_same]
  · rw [rootDetach, modHold_same, holdOver, modHold_same]
  · simp [hcinch, rootDark]

end

/-- Settles O18: VCONN and CC faults, the end of ErrorRecovery, configuration writes and recognition. -/
theorem vconnAndCcFaults : Obligations.VconnAndCcFaults := by
  refine ⟨fun p s hon => ?_, fun p line s hstand hin hcut => ?_, fun p line s => ccOvp_trips s p line,
    fun p ccLow s hruns hrec hlow => ?_, fun p s hovp => ?_, fun who p v s => ccConfigWrite_time0 s p who v,
    fun who p v s => ccConfigWrite_cfg s p who v, fun p cc1 cc2 s hlimp hwatch => ?_,
    fun p cc1 cc2 s hwatch hsource hgone => ?_⟩
  · refine ⟨_, rfl, ?_⟩
    rw [finish_portCc]
    exact vconnOc_trips s p hon
  · refine ⟨_, rfl, ?_⟩
    rw [finish_portCc, finish_portCinch]
    exact ccOvp_recovers s p line hstand hin hcut
  · obtain ⟨hstate, hovp⟩ := goUnattached_leavesRecovery s p
    have hends : (portCc s p).state = .errorRecovery ∧ ccRuns s p ∧ (!(portCc s p).ovpTrip ∨ ccLow) :=
      ⟨hrec, hruns, hlow.imp_left fun h => by rw [h]; rfl⟩
    refine ⟨_, congrArg (complete s) (if_pos hends), ?_⟩
    rw [finish_portCc]
    exact ⟨hstate, hovp, goUnattachedAs_unserviceable .src⟩
  · have hstays : ¬ ((portCc s p).state = .errorRecovery ∧ ccRuns s p ∧ (!(portCc s p).ovpTrip ∨ false)) := by simp [hovp]
    exact ⟨_, congrArg (complete s) (if_neg hstays), finish_portCc s s p⟩
  · refine ⟨_, congrArg (complete s) (recognition_unwatched s p cc1 cc2 hlimp hwatch), ?_⟩
    rw [finish_portCc, recognised, portCc_modCc]
  · refine ⟨_, congrArg (complete s) (recognition_watched s p cc1 cc2 hwatch hsource hgone), ?_⟩
    rw [finish_strap, finish_portCinch]
    exact rootDetach_detaches _ p

end Sys2Proof.Machine
end

section
/-! PROOFS. The flood detector, packets at Root and Hush requests (R219, R250 to R256, R262 to R267). -/

namespace Sys2Proof.Machine

section
variable {s : State} {p : Fin 8}

/-! ### The flood flag (R253, R255) -/

theorem floodSet_sets {high : Bool} (bit : Option Nat) (hon : bandOn (portCc s p) high = true)
    (hnow : (portCc s p).floodNow = false) : portCc (floodSet p high bit s) p = { portCc s p with
      floodNow := true, floodHigh := high
      floodIdle := if bit.isSome then (portCc s p).floodIdle else bump 10 (portCc s p).floodIdle
      pktFlood := (portCc s p).pktFlood <|> bit.map fun b => (high, b)
      debounce := (portCc s p).debounce.map fun d => { d with firstFlood := d.firstFlood <|> some s.time.now } } := by
  rw [floodSet, hon, hnow, Bool.not_true, Bool.or_self, if_neg Bool.false_ne_true, portCc_modCc]

theorem floodSet_off {high : Bool} (bit : Option Nat) (hoff : bandOn (portCc s p) high = false) :
    floodSet p high bit s = s := by
  rw [floodSet, hoff, Bool.not_false, Bool.true_or, if_pos rfl]

theorem floodClear_clears (inPacket : Bool) (hnow : (portCc s p).floodNow = true) :
    portCc (floodClear p inPacket s) p = { portCc s p with
      floodNow := false, lastFlood := some s.time.now
      pktFlood := if inPacket then (portCc s p).pktFlood <|> some ((portCc s p).floodHigh, 0) else (portCc s p).pktFlood } := by
  rw [floodClear, hnow, Bool.not_true, if_neg Bool.false_ne_true, portCc_modCc]

/-! ### A packet at Root (R219, R250, R251, R255, R256) -/

/-- A FLOOD entry touches its own times alone. -/
theorem floodEntry_port (high : Bool) (bit : Nat) : portPd (floodEntry p high bit s) p = portPd s p
    ∧ (portCc (floodEntry p high bit s) p).floodPkts = (portCc s p).floodPkts := by
  unfold floodEntry
  dsimp only
  split <;> simp

theorem floodPacket_counts (high : Bool) (bit : Nat) : portPd (floodPacket p high bit s) p = portPd s p
    ∧ (portCc (floodPacket p high bit s) p).floodPkts = bump 12 (portCc s p).floodPkts := by
  obtain ⟨hpd, hcount⟩ := floodEntry_port (s := modCc p (fun c => { c with
    floodPkts := bump 12 c.floodPkts
    floodTimes := recent s 1000000 c.floodTimes ++ (if (bump 12 c.floodPkts).n = c.floodPkts.n then [] else [s.time.now]) }) s)
    (p := p) high bit
  rw [portPd_modCc] at hpd
  rw [portCc_modCc] at hcount
  unfold floodPacket
  dsimp only
  split <;> simp [hpd, hcount]

/-- The packet's CRC counted, before its flood flag. -/
def crcCounted (p : Fin 8) (pkt : BmcPacket) (s : State) : State :=
  if pkt.crcOk then s else modPd p (fun q => { q with crcErrs := bump 12 q.crcErrs }) s

/-- The packet counted, flooded or not, before it is forwarded. -/
def packetCounted (p : Fin 8) (pkt : BmcPacket) (s : State) : State :=
  modCc p (fun c => { c with pktFlood := none }) <| match packetFlood (portCc s p) with
    | some b => floodPacket p b.1 b.2 (crcCounted p pkt s)
    | none => crcCounted p pkt s

theorem packetRx_on (pkt : BmcPacket) (hon : bmcOn s p = true) : packetRx p pkt s =
    modPd p (fun q => { q with line := if goodCrcFor s p pkt then some { sop := pkt.sop, msg := .goodCrc } else none })
      (packetForward p pkt (packetFlood (portCc s p)).isSome (packetCounted p pkt s)) := by
  rw [packetRx, hon, Bool.not_true, if_neg Bool.false_ne_true]
  rfl

theorem packetRx_off (pkt : BmcPacket) (hoff : bmcOn s p = false) : packetRx p pkt s = s := by
  rw [packetRx, hoff, Bool.not_false, if_pos rfl]

theorem packetRx_line (pkt : BmcPacket) (hon : bmcOn s p = true) (hnone : goodCrcFor s p pkt = false) :
    (portPd (packetRx p pkt s) p).line = none := by
  simp [packetRx_on pkt hon, hnone]

theorem packetForward_cc (pkt : BmcPacket) (flooded : Bool) :
    portCc (packetForward p pkt flooded s) p = portCc s p := by
  unfold packetForward
  split <;> simp

theorem packetForward_badCrc {pkt : BmcPacket} (flooded : Bool) (hbad : pkt.crcOk = false) :
    packetForward p pkt flooded s = s := by
  rw [packetForward, hbad, Bool.and_false, Bool.false_and, if_neg Bool.false_ne_true]

theorem packetCounted_pd (pkt : BmcPacket) : portPd (packetCounted p pkt s) p = portPd (crcCounted p pkt s) p := by
  unfold packetCounted
  rw [portPd_modCc]
  split
  · exact (floodPacket_counts _ _).1
  · rfl

theorem packetRx_badCrc {pkt : BmcPacket} (hon : bmcOn s p = true) (hbad : pkt.crcOk = false) :
    (portPd (packetRx p pkt s) p).crcErrs = bump 12 (portPd s p).crcErrs
      ∧ (portPd (packetRx p pkt s) p).rxq = (portPd s p).rxq ∧ (portPd (packetRx p pkt s) p).line = none := by
  have hcounted : portPd (crcCounted p pkt s) p = { portPd s p with crcErrs := bump 12 (portPd s p).crcErrs } := by
    simp [crcCounted, hbad]
  refine ⟨?_, ?_, packetRx_line pkt hon (by simp [goodCrcFor, hbad])⟩
  all_goals rw [packetRx_on pkt hon, portPd_modPd, packetForward_badCrc _ hbad, packetCounted_pd, hcounted]

theorem packetRx_flooded (pkt : BmcPacket) (hon : bmcOn s p = true) (hflood : (packetFlood (portCc s p)).isSome = true) :
    (portCc (packetRx p pkt s) p).floodPkts = bump 12 (portCc s p).floodPkts
      ∧ (portCc (packetRx p pkt s) p).pktFlood = none ∧ (portPd (packetRx p pkt s) p).line = none := by
  obtain ⟨b, hb⟩ := Option.isSome_iff_exists.mp hflood
  have hcrc : portCc (crcCounted p pkt s) p = portCc s p := by
    unfold crcCounted
    split <;> simp
  have hcounted : portCc (packetRx p pkt s) p =
      { portCc (floodPacket p b.1 b.2 (crcCounted p pkt s)) p with pktFlood := none } := by
    simp [packetRx_on pkt hon, packetForward_cc, packetCounted, hb]
  rw [hcounted]
  refine ⟨(floodPacket_counts b.1 b.2).2.trans (by rw [hcrc]), rfl, packetRx_line pkt hon (by simp [goodCrcFor, hb])⟩

/-- A good packet that is not flooded is answered and forwarded, and nothing else changes. -/
theorem packetRx_good {pkt : BmcPacket} (hon : bmcOn s p = true) (hcrc : pkt.crcOk = true)
    (hflood : packetFlood (portCc s p) = none) (hready : isReady s = true) (hstand : rootAlone s p = false)
    (hmsg : pkt.msg ≠ .goodCrc) : portCc (packetRx p pkt s) p = portCc s p
      ∧ (packetRx p pkt s).raised = s.raised
      ∧ portPd (packetRx p pkt s) p = { portPd s p with
          line := some { sop := pkt.sop, msg := .goodCrc }
          rxq := (portPd s p).rxq
            ++ [{ flooded := false, sop := pkt.sop, flaw := pkt.flaw, msg := pkt.msg, pol := pkt.pol }] } := by
  have hanswer : goodCrcFor s p pkt = true := by simp [goodCrcFor, hready, hcrc, hflood, hstand, hmsg]
  have hreach : portReach s p = true := by
    simp only [rootAlone, Bool.or_eq_false_iff, Bool.not_eq_false'] at hstand
    exact hstand.1
  have hunmarked : (portCc s p).pktFlood = none := by
    cases hmark : (portCc s p).pktFlood with
    | none => rfl
    | some b => simp [packetFlood, hmark] at hflood
  have hcounted : packetCounted p pkt s = modCc p (fun c => { c with pktFlood := none }) s := by
    rw [packetCounted, hflood, crcCounted, if_pos hcrc]
  have hgoes : (isReady (modCc p (fun c => { c with pktFlood := none }) s) && pkt.crcOk
      && portReach (modCc p (fun c => { c with pktFlood := none }) s) p) = true := by
    rw [hcrc, Bool.and_true]
    exact Bool.and_eq_true_iff.mpr ⟨hready, hreach⟩
  rw [packetRx_on pkt hon, hanswer, hcounted, hflood, packetForward, if_pos hgoes]
  refine ⟨?_, by simp, by simp⟩
  simp only [portCc_modPd, portCc_modCc]
  rw [← hunmarked]

theorem bmcOn_off (h : s.power.refoscRunning = false ∨ (portCc s p).state = .debugAcc
    ∨ isUnattached (portCc s p).state = true ∨ (portCc s p).ovpTrip = true ∨ (portCc s p).term = .opened) :
    bmcOn s p = false := by
  rcases h with h | h | h | h | h
  · simp [bmcOn, h]
  · simp [bmcOn, h, isAttached]
  · cases hstate : (portCc s p).state <;> simp_all [bmcOn, isAttached, isUnattached]
  · simp [bmcOn, h]
  · simp [bmcOn, h]

/-! ### Hush (R262, R264, R266, R267) -/

theorem amsStart_engine (k : Byte) : (portPd (amsStart p k s) p).ams = k
    ∧ (portPd (amsStart p k s) p).txq = (portPd s p).txq
    ∧ (portCc (amsStart p k s) p).hushStatus = (portCc s p).hushStatus
    ∧ strapUp (amsStart p k s) = strapUp s ∧ (amsStart p k s).pattern = s.pattern := by
  unfold amsStart
  dsimp only
  split
  · refine ⟨by simp, by simp, by simp, rfl, rfl⟩
  · refine ⟨by simp, by simp, by simp, rfl, rfl⟩

theorem strapUp_of_standActs (h : standActs s p = true) : strapUp s = true := by
  simp only [standActs, portReach, rootSeen, Bool.and_eq_true] at h
  exact h.1.2.1.1

theorem pdSend_up (m : PdMsg) (hup : strapUp s = true) :
    (portPd (pdSend p m s) p).ams = (portPd s p).ams
      ∧ (portPd (pdSend p m s) p).txq = (portPd s p).txq ++ [{ sop := .sop, msg := m }]
      ∧ portCc (pdSend p m s) p = portCc s p := by
  rw [pdSend, pdSendOn, if_pos hup]
  simp

/-- Where a request that may be sent leaves the port, with HUSHCTL as it stands. -/
theorem hushSend_allowed (hidle : hushBusy (portCc s p) = false) (hmay : hushAllowed s p = true) :
    (portCc (hushSend p s) p).hushStatus = .pending ∧ (portPd (hushSend p s) p).ams = amsHush
      ∧ (portPd (hushSend p s) p).txq = (portPd s p).txq ++ [TxMsg.mk .sop (.hushReq (hushHeader s 0)
          (hushVdo ((portCc s p).hushReg.extractLsb' 16 8) (hushWindow (portCc s p))))] := by
  have hup : strapUp s = true := by
    simp only [hushAllowed, Bool.and_eq_true] at hmay
    exact strapUp_of_standActs hmay.2
  obtain ⟨hams, htxq, hstatus, hup', hpattern⟩ := amsStart_engine (p := p) (s := modCc p (fun c => { c with
    hushStatus := .pending, hushAsked := hushWindow c }) s) amsHush
  rw [hushSend, hidle, if_neg Bool.false_ne_true, hmay, if_pos rfl]
  dsimp only
  generalize amsStart p amsHush _ = x at hams htxq hstatus hup' hpattern
  obtain ⟨hams', htxq', hlines⟩ := pdSend_up (s := x) (p := p) (.hushReq (hushHeader x 0)
    (hushVdo ((portCc s p).hushReg.extractLsb' 16 8) (hushWindow (portCc s p)))) (hup'.trans hup)
  have hheader : hushHeader x 0 = hushHeader s 0 := by rw [hushHeader, hpattern]; rfl
  rw [hlines, hams', htxq', hstatus, hams, htxq, hheader]
  simp

theorem hushSend_refused (hidle : hushBusy (portCc s p) = false) (hmay : hushAllowed s p = false) :
    hushSend p s = modCc p (fun c => { c with hushStatus := .notAvailable }) s := by
  rw [hushSend, hidle, if_neg Bool.false_ne_true, hmay, if_neg Bool.false_ne_true]

/-- What HUSHCTL keeps of a written word gives the request's start and window. -/
theorem hushReg_reads (v : Word) : (v &&& 0x00FFFFFF).extractLsb' 16 8 = v.extractLsb' 16 8
    ∧ field (v &&& 0x00FFFFFF) 15 0 = field v 15 0 := by
  refine ⟨?_, field_and_cover v 0x00FFFFFF (by decide)⟩
  rw [BitVec.extractLsb'_and]
  have hmask : BitVec.extractLsb' 16 8 (0x00FFFFFF : Word) = BitVec.allOnes 8 := by decide
  rw [hmask, BitVec.and_allOnes]

/-- HUSHCTL as written. -/
def hushWritten (p : Fin 8) (v : Word) (s : State) : State := modCc p (fun c => { c with hushReg := v &&& 0x00FFFFFF }) s

theorem hushCtlWrite_requests {v : Word} (hgo : flag v 31 = true) : hushCtlWrite p v s = hushSend p (hushWritten p v s) := by
  rw [hushCtlWrite, if_pos hgo]
  rfl

theorem hushAllowed_written (v : Word) : hushAllowed (hushWritten p v s) p = hushAllowed s p := by
  have hcc : portCc (hushWritten p v s) p = { portCc s p with hushReg := v &&& 0x00FFFFFF } := portCc_modCc s p _
  have hpd : portPd (hushWritten p v s) p = portPd s p := portPd_modCc s p p _
  have hacts : standActs (hushWritten p v s) p = standActs s p := by
    rw [standActs, standActs, hcc]
    rfl
  rw [hushAllowed, hushAllowed, hpd, hacts]
  rfl

theorem hushRequest_sends (who : Requester) {v : Word} (hmay : maySet who (0x8118 + 0x400 * p.val) s)
    (hgo : flag v 31 = true) (hidle : hushBusy (portCc s p) = false) :
    ∃ t, exec (.hushRequest p (some (who, v))) s = .next t
      ∧ (hushAllowed s p = true → (portCc t p).hushStatus = .pending ∧ (portPd t p).ams = amsHush
          ∧ (portPd t p).txq = (portPd s p).txq ++ [TxMsg.mk .sop (.hushReq (hushHeader s 0)
              (hushVdo (v.extractLsb' 16 8) (BitVec.ofNat 16 (max 1 (min 5000 (field v 15 0))))))])
      ∧ (hushAllowed s p = false → (portCc t p).hushStatus = .notAvailable ∧ (portPd t p).txq = (portPd s p).txq) := by
  have hcc : portCc (hushWritten p v s) p = { portCc s p with hushReg := v &&& 0x00FFFFFF } := portCc_modCc s p _
  have hpd : portPd (hushWritten p v s) p = portPd s p := portPd_modCc s p p _
  have hidle' : hushBusy (portCc (hushWritten p v s) p) = false := by rw [hcc]; exact hidle
  obtain ⟨hstart, hwindow⟩ := hushReg_reads v
  have hallowed := hushAllowed_written (s := s) (p := p) v
  refine ⟨_, congrArg (complete s) ((guarded_allowed s hmay).trans (hushCtlWrite_requests hgo)), ?_⟩
  obtain ⟨c, hfinish⟩ := finish_portPd s (hushSend p (hushWritten p v s)) p
  rw [finish_portCc, hfinish]
  refine ⟨fun hallow => ?_, fun hdeny => ?_⟩
  · obtain ⟨hstatus, hams, htxq⟩ := hushSend_allowed hidle' (hallowed.trans hallow)
    rw [hcc, hpd] at htxq
    refine ⟨hstatus, hams, htxq.trans ?_⟩
    rw [hushWindow, hstart, hwindow]
    rfl
  · rw [hushSend_refused hidle' (hallowed.trans hdeny), portCc_modCc, portPd_modCc, hpd]
    exact ⟨rfl, rfl⟩

theorem hushAuto_off (hoff : flag (portCc s p).floodCfg 15 = false) : hushAuto p s = s := by
  rw [hushAuto, hoff]
  exact if_neg Bool.false_ne_true

theorem amsEnd_engine : (portPd (amsEnd p s) p).ams = 0
    ∧ (portCc (amsEnd p s) p).hushStatus = (portCc s p).hushStatus := by
  unfold amsEnd
  dsimp only
  split <;> simp

/-- The end of a Hush request ends its own AMS only. -/
theorem hushAmsEnd_engine : (portPd (hushAmsEnd p s) p).ams = (if (portPd s p).ams = amsHush then 0 else (portPd s p).ams)
    ∧ (portCc (hushAmsEnd p s) p).hushStatus = (portCc s p).hushStatus := by
  unfold hushAmsEnd
  split
  · exact amsEnd_engine
  · exact ⟨rfl, rfl⟩

theorem hushRefuse_refuses (c : HushRefusal) (hpending : (portCc s p).hushStatus = .pending) :
    (portCc (hushRefuse p c s) p).hushStatus = .refused
      ∧ (portPd (hushRefuse p c s) p).ams = (if (portPd s p).ams = amsHush then 0 else (portPd s p).ams) := by
  obtain ⟨hams, hstatus⟩ := hushAmsEnd_engine (p := p) (s := modCc p (fun c => { c with hushStatus := .refused }) s)
  rw [hushRefuse, if_pos hpending, portCc_evp, portPd_evp, hams, hstatus]
  simp

theorem hush_untimed (c : HushRefusal) (hidle : standTimes s p = false) (hraised : s.raised = []) :
    (∃ t, exec (.hushRefused p c) s = .next t ∧ portCc t p = portCc s p ∧ portPd t p = portPd s p)
      ∧ (∃ t, exec (.hushWindowOpen p) s = .next t ∧ portCc t p = portCc s p)
      ∧ (∃ t, exec (.hushWindowEnd p) s = .next t ∧ portCc t p = portCc s p) := by
  have hnot : ¬ standTimes s p = true := Bool.eq_false_iff.mp hidle
  exact ⟨⟨_, congrArg (complete s) (if_neg hnot), finish_portCc s s p, finish_portPd_quiet hraised p⟩,
    ⟨_, congrArg (complete s) (if_neg fun h => hnot h.1), finish_portCc s s p⟩,
    ⟨_, congrArg (complete s) (if_neg fun h => hnot h.1), finish_portCc s s p⟩⟩

end

/-- Settles O19: the flood flag, packets at Root and Hush requests. -/
theorem floodAndHush : Obligations.FloodAndHush := by
  refine ⟨fun p high bit s hon hnow => ?_, fun p high bit s hoff => ?_, fun p s hnow => ?_, fun p s hnow => ?_,
    fun p pkt s hon hbad => ?_, fun p pkt s hon hflood => ?_, fun p pkt s hon hcrc hflood hready hstand hmsg hraised => ?_,
    fun p pkt s hon hhold => ?_, fun p pkt s hoff hraised => ?_, fun who p v s => hushRequest_sends who,
    fun p s hoff => ⟨_, congrArg (complete s) (hushAuto_off hoff), finish_portCc s s p⟩, fun p c s htimes hpending => ?_,
    fun p c s => hush_untimed c, fun p s htimes hgranted => ?_, fun p s htimes hopened => ?_⟩
  · refine ⟨_, rfl, ?_⟩
    rw [finish_portCc, floodSet_sets bit hon hnow]
    exact ⟨rfl, rfl, rfl, rfl⟩
  · exact ⟨_, congrArg (complete s) (floodSet_off bit hoff), finish_portCc s s p⟩
  · refine ⟨_, rfl, ?_⟩
    rw [finish_portCc, floodClear_clears false hnow]
    rfl
  · refine ⟨_, rfl, ?_⟩
    rw [finish_portCc, floodClear_clears true hnow]
    refine ⟨rfl, ?_⟩
    cases (portCc s p).pktFlood <;> rfl
  · obtain ⟨c, hpd⟩ := finish_portPd s (packetRx p pkt s) p
    refine ⟨_, rfl, ?_⟩
    rw [hpd]
    exact packetRx_badCrc hon hbad
  · obtain ⟨c, hpd⟩ := finish_portPd s (packetRx p pkt s) p
    refine ⟨_, rfl, ?_⟩
    rw [hpd, finish_portCc]
    exact packetRx_flooded pkt hon hflood
  · obtain ⟨hcc, hquiet, hpd⟩ := packetRx_good hon hcrc hflood hready hstand hmsg
    refine ⟨_, rfl, ?_⟩
    rw [finish_portCc, finish_portPd_quiet (hquiet.trans hraised)]
    exact ⟨hcc, hpd⟩
  · obtain ⟨c, hpd⟩ := finish_portPd s (packetRx p pkt s) p
    have halone : rootAlone s p = true := by rw [rootAlone, hhold, Bool.or_true]
    refine ⟨_, rfl, ?_⟩
    rw [hpd]
    exact packetRx_line pkt hon (by simp [goodCrcFor, halone])
  · have hoff' := bmcOn_off hoff
    exact ⟨_, congrArg (complete s) (packetRx_off pkt hoff'), finish_portPd_quiet hraised p, finish_portCc s s p⟩
  · obtain ⟨d, hpd⟩ := finish_portPd s (hushRefuse p c s) p
    refine ⟨_, congrArg (complete s) (if_pos htimes), ?_⟩
    rw [finish_portCc, hpd]
    exact hushRefuse_refuses c hpending
  · exact ⟨_, congrArg (complete s) (if_pos ⟨htimes, hgranted⟩), by rw [finish_portCc, portCc_modCc]⟩
  · exact ⟨_, congrArg (complete s) (if_pos ⟨htimes, hopened⟩), by rw [finish_portCc, portCc_modCc]⟩

end Sys2Proof.Machine
end

section
/-! PROOFS. What a Strap frame, an acknowledgement and a loose frame leave at both ends (R199 to R203, R210). -/

namespace Sys2Proof.Machine

section
variable {s : State}

/-! ### An acknowledgement -/

/-- Root's acknowledgement of `q` at Crown. -/
theorem ackTake_crown (q : BitVec 4) (s : State) : ∃ due shown, ackTake true q s = { s with strap := { s.strap with
    crownTx := { s.strap.crownTx with unacked := (ackSplit q s.strap.crownTx.unacked).2 }
    fallbackDue := due, fallbackAck := shown } } := ⟨_, _, rfl⟩

/-- Crown's acknowledgement of `q` at Root. -/
theorem ackTake_root (q : BitVec 4) (s : State) : (ackTake false q s).strap = { s.strap with
    rootTx := { s.strap.rootTx with unacked := (ackSplit q s.strap.rootTx.unacked).2 } } := by
  unfold ackTake
  rw [if_neg Bool.false_ne_true]
  dsimp only
  split <;> rfl

theorem ackTakeOpt_atCrown (a : Option (BitVec 4)) (s : State) : ∃ unacked due shown, ackTakeOpt true a s =
    { s with strap := { s.strap with
      crownTx := { s.strap.crownTx with unacked := unacked }, fallbackDue := due, fallbackAck := shown } } := by
  cases a with
  | none => exact ⟨_, _, _, rfl⟩
  | some q =>
    obtain ⟨due, shown, htake⟩ := ackTake_crown q s
    exact ⟨_, due, shown, htake⟩

theorem ackTrue_strap (hheld : s.strap.crownTx.held = []) : ∃ t, exec (.ack true) s = .next t
    ∧ t.strap.crownTx.unacked = (ackSplit (s.strap.rootTx.rxNext - 1) s.strap.crownTx.unacked).2
    ∧ t.strap.rootTx = { s.strap.rootTx with ackDue := false } := by
  obtain ⟨due, shown, htake⟩ := ackTake_crown (s.strap.rootTx.rxNext - 1) (ackLaid (laneBegin s))
  refine ⟨_, ack_exec s, ?_⟩
  rw [finish_strap, htake, heldOut_idle (by exact hheld)]
  exact ⟨rfl, rfl⟩

/-- An ACK frame of Crown's on the lanes. -/
def crownAckLaid (s : State) : State :=
  lanePut false (frameHeader 2 0 0 (some (s.strap.crownTx.rxNext - 1))) (some []) (ackSent false s)

theorem ackFalse_strap (hheld : s.strap.rootTx.held = []) : ∃ t, exec (.ack false) s = .next t
    ∧ t.strap.rootTx.unacked = (ackSplit (s.strap.crownTx.rxNext - 1) s.strap.rootTx.unacked).2
    ∧ t.strap.crownTx = { s.strap.crownTx with ackDue := false } ∧ t.strap.fallbackAck = s.strap.fallbackAck := by
  have hexec : exec (.ack false) s = .next (finish s (heldOut true none
    (ackTake false (s.strap.crownTx.rxNext - 1) (crownAckLaid (laneBegin s))))) := rfl
  have htake := ackTake_root (s.strap.crownTx.rxNext - 1) (crownAckLaid (laneBegin s))
  have hidle : (strapEnd true (ackTake false (s.strap.crownTx.rxNext - 1) (crownAckLaid (laneBegin s)))).held = [] := by
    change (ackTake false _ _).strap.rootTx.held = []
    rw [htake]
    exact hheld
  refine ⟨_, hexec, ?_⟩
  rw [finish_strap, heldOut_idle hidle, htake]
  exact ⟨rfl, rfl, rfl⟩

/-! ### Frames that wait for room at Crown -/

theorem heldOut_step (up : Bool) (lost : Option StrapBody) (s : State) :
    heldOut up lost s = (List.range 8).foldl (fun x _ => heldStep up lost x) (heldStep up lost s) := by
  have hrange : List.range 9 = 0 :: (List.range 8).map Nat.succ := List.range_succ_eq_map
  change (List.range 9).foldl (fun x _ => heldStep up lost x) s = _
  rw [hrange, List.foldl_cons, List.foldl_map]

theorem heldOut_twice {up : Bool} {lost : Option StrapBody}
    (h : (strapEnd up (heldStep up lost (heldStep up lost s))).held = []) :
    heldOut up lost s = heldStep up lost (heldStep up lost s) := by
  have hrange : List.range 8 = 0 :: (List.range 7).map Nat.succ := List.range_succ_eq_map
  rw [heldOut_step, hrange, List.foldl_cons, List.foldl_map]
  exact List.foldl_fixed' (f := fun x (_ : Nat) => heldStep up lost x) (fun _ => heldStep_idle h) _

theorem heldStep_full {up : Bool} {lost : Option StrapBody} (h : 8 ≤ (strapEnd up s).unacked.length) :
    heldStep up lost s = s := by
  unfold heldStep
  split
  · rfl
  · rw [if_neg (by omega)]

theorem heldOut_full {up : Bool} {lost : Option StrapBody} (h : 8 ≤ (strapEnd up s).unacked.length) :
    heldOut up lost s = s :=
  List.foldl_fixed' (f := fun x (_ : Nat) => heldStep up lost x) (fun _ => heldStep_full h) _

/-- The first waiting frame goes out where there is room. -/
theorem heldStep_out {b : StrapBody × Option (List Byte)} {l : List (StrapBody × Option (List Byte))}
    (lost : Option StrapBody) (hheld : s.strap.crownTx.held = b :: l) (hroom : s.strap.crownTx.unacked.length < 8) :
    heldStep false lost s = frameOut b (decide (lost ≠ some b.1)) (withHeld l s) := by
  have hheld' : (strapEnd false s).held = b :: l := hheld
  unfold heldStep
  rw [hheld']
  exact if_pos hroom

theorem frameSend_down {b : StrapBody} (arrives : Bool) (hdown : towardCrown b = false) (hmay : frameMay b s = true)
    (hsent : frameSent b s = s) : frameSend b arrives s = heldOut true none (heldOut false
      (if arrives then none else some b) (withHeld (holdFrame (b, strapPayload b s) s.strap.crownTx.held) s)) := by
  unfold frameSend
  rw [hmay, hsent]
  simp only [hdown]
  rfl

/-! ### A FALLBACK_SET on its way to Root (R199, R202, R222) -/

section
variable (p : Fin 8) (off : Bool)

/-- A waiting FALLBACK_SET. -/
def fallbackHeld : StrapBody × Option (List Byte) := (.fallbackSet p off, some [BitVec.ofNat 8 (b2n off)])

/-- The FALLBACK_SET as Crown sends it from a window. -/
def fallbackFrame (w : Window) : SentFrame := sentFrame (.fallbackSet p off) (some [BitVec.ofNat 8 (b2n off)]) w

/-- What a FALLBACK_SET that arrives in order leaves. -/
structure FallbackPassed (a b : State) : Prop where
  crown : b.strap.crownTx = windowSent (fallbackFrame p off a.strap.crownTx) a.strap.crownTx
  next : b.strap.rootTx.rxNext = a.strap.rootTx.rxNext + 1
  due : b.strap.rootTx.ackDue = true
  held : b.strap.rootTx.held = a.strap.rootTx.held
  lanes : b.strap.lanes = laneInsert (onLane false (fallbackFrame p off a.strap.crownTx).hdr [BitVec.ofNat 8 (b2n off)])
    a.strap.lanes
  hold : b.strap.holds[p] = { a.strap.holds[p] with fallbackOff := off }
  seen : rootSeen b = rootSeen a

/-- Root takes a FALLBACK_SET whose SEQ is the next in order. -/
theorem fallbackArrives {f : SentFrame} {c r : Window} {l : List LaneFrame} {o : Option Nat}
    (hbody : f.body = .fallbackSet p off) (hseq : hdrSeq f.hdr = r.rxNext) (hseen : rootSeen s = true) :
    ∃ u o', frameArrives f (inTransit c r l o s) = setFallback r.rxNext p off
      (inTransit c { r with unacked := u, rxNext := r.rxNext + 1, ackDue := true } l o' s) := by
  obtain ⟨u, o', hack⟩ := ackTakeOpt_root (s := s) (c := c) (r := r) (l := l) (o := o) (hdrAck f.hdr)
  have hrx : (strapEnd true (inTransit c { r with unacked := u } l o' s)).rxNext = r.rxNext := rfl
  refine ⟨u, o', ?_⟩
  rw [frameArrives_root (by rw [hbody]; rfl), hack, rootTakes, hrx, if_pos hseq, hseq, hbody, frameEffect]
  exact if_pos hseen

theorem fallbackOut (hseq : s.strap.rootTx.rxNext = s.strap.crownTx.nextSeq) (hseen : rootSeen s = true) :
    FallbackPassed p off s (frameOut (fallbackHeld p off) true s) := by
  have hlaid : frameOut (fallbackHeld p off) true s = frameArrives (fallbackFrame p off s.strap.crownTx)
      (inTransit (windowSent (fallbackFrame p off s.strap.crownTx) s.strap.crownTx) s.strap.rootTx
        (laneInsert (onLane false (fallbackFrame p off s.strap.crownTx).hdr [BitVec.ofNat 8 (b2n off)]) s.strap.lanes)
        s.power.refoscReport s) := rfl
  obtain ⟨u, o, harrives⟩ := fallbackArrives p off (s := s)
    (c := windowSent (fallbackFrame p off s.strap.crownTx) s.strap.crownTx) (r := s.strap.rootTx)
    (l := laneInsert (onLane false (fallbackFrame p off s.strap.crownTx).hdr [BitVec.ofNat 8 (b2n off)]) s.strap.lanes)
    (o := s.power.refoscReport) (f := fallbackFrame p off s.strap.crownTx) rfl
    ((hdrSeq_frameHeader _ _ _ _).trans hseq.symm) hseen
  rw [hlaid, harrives]
  exact ⟨rfl, rfl, rfl, rfl, rfl, setFallback_hold _ p off _, rfl⟩

/-- A frame of Crown's that is lost. -/
theorem fallbackLost : frameOut (fallbackHeld p off) false s = inTransit
    (windowSent (fallbackFrame p off s.strap.crownTx) s.strap.crownTx) s.strap.rootTx
    (laneInsert (onLane false (fallbackFrame p off s.strap.crownTx).hdr [BitVec.ofNat 8 (b2n off)]) s.strap.lanes)
    s.power.refoscReport s := rfl

/-- The only waiting FALLBACK_SET goes out and arrives. -/
theorem fallbackAlone (hheld : s.strap.crownTx.held = [fallbackHeld p off])
    (hroom : s.strap.crownTx.unacked.length < 8) (hseq : s.strap.rootTx.rxNext = s.strap.crownTx.nextSeq)
    (hseen : rootSeen s = true) : FallbackPassed p off (withHeld [] s) (heldOut false none s) := by
  have hstep : heldStep false none s = frameOut (fallbackHeld p off) true (withHeld [] s) := heldStep_out none hheld hroom
  have hpassed := fallbackOut p off (s := withHeld [] s) hseq hseen
  rw [← hstep] at hpassed
  have hidle : (strapEnd false (heldStep false none s)).held = [] := congrArg Window.held hpassed.crown
  rw [heldOut_once hidle]
  exact hpassed

theorem fallbackSet_may (hmay : frameMay (.fallbackSet p off) s = true) : rootSeen s = true := by
  simp only [frameMay, Bool.and_eq_true] at hmay
  exact hmay.1

theorem fallbackSet_exec (hmay : frameMay (.fallbackSet p off) s = true) : exec (.fallbackSet p off) s =
    .next (finish s (heldOut true none (heldOut false none
      (withHeld (holdFrame (fallbackHeld p off) s.strap.crownTx.held) (laneBegin s))))) :=
  congrArg (complete s) (frameSend_down true rfl (s := laneBegin s) hmay rfl)

theorem fallbackSet_goes (hgoes : frameGoes (.fallbackSet p off) s) :
    ∃ t, exec (.fallbackSet p off) s = .next t
      ∧ t.strap.crownTx.nextSeq = s.strap.crownTx.nextSeq + 1
      ∧ t.strap.rootTx.rxNext = s.strap.rootTx.rxNext + 1 ∧ t.strap.rootTx.ackDue = true
      ∧ t.strap.crownTx.unacked = s.strap.crownTx.unacked ++
          [{ hdr := frameHeader 0xB p.val s.strap.crownTx.nextSeq (ackOwed s.strap.crownTx), body := .fallbackSet p off
             payload := some [BitVec.ofNat 8 (b2n off)] }]
      ∧ t.strap.lanes = [onLane false (frameHeader 0xB p.val s.strap.crownTx.nextSeq (ackOwed s.strap.crownTx))
          [BitVec.ofNat 8 (b2n off)]] := by
  obtain ⟨hmay, ⟨hheld, hroot⟩, hroom, hseq, -⟩ := hgoes
  have hone : holdFrame (fallbackHeld p off) s.strap.crownTx.held = [fallbackHeld p off] := by rw [hheld]; rfl
  have hpassed := fallbackAlone p off (s := withHeld [fallbackHeld p off] (laneBegin s)) rfl hroom
    (Eq.symm hseq) (fallbackSet_may p off hmay)
  refine ⟨_, fallbackSet_exec p off hmay, ?_⟩
  rw [finish_strap, hone]
  generalize heldOut false none _ = x at hpassed
  rw [heldOut_idle (up := true) (hpassed.held.trans hroot), hpassed.crown, hpassed.next, hpassed.due, hpassed.lanes]
  exact ⟨rfl, rfl, rfl, rfl, rfl⟩

/-- With eight unacknowledged a FALLBACK_SET waits (R200, R202). -/
theorem fallbackSet_waits (hmay : frameMay (.fallbackSet p off) s = true) (hfull : 8 ≤ s.strap.crownTx.unacked.length)
    (hroot : s.strap.rootTx.held = []) : ∃ t, exec (.fallbackSet p off) s = .next t
      ∧ t.strap = { s.strap with
          lanes := []
          crownTx := { s.strap.crownTx with
            held := holdFrame (.fallbackSet p off, some [BitVec.ofNat 8 (b2n off)]) s.strap.crownTx.held } } := by
  have hfull' : heldOut false none (withHeld (holdFrame (fallbackHeld p off) s.strap.crownTx.held) (laneBegin s)) =
      withHeld (holdFrame (fallbackHeld p off) s.strap.crownTx.held) (laneBegin s) := heldOut_full (up := false) hfull
  refine ⟨_, fallbackSet_exec p off hmay, ?_⟩
  rw [finish_strap, hfull', heldOut_idle (by exact hroot)]
  rfl

theorem laneInsert_length (f : LaneFrame) (l : List LaneFrame) : (laneInsert f l).length = l.length + 1 := by
  induction l with
  | nil => rfl
  | cons x l ih =>
    unfold laneInsert
    split
    · exact congrArg (· + 1) ih
    · rfl

/-- Two waiting FALLBACK_SETs go out in their order, and arrive. -/
theorem fallbackPair {k : Fin 8} {on : Bool} (hheld : s.strap.crownTx.held = [fallbackHeld k on, fallbackHeld p off])
    (hnone : s.strap.crownTx.unacked = []) (hseq : s.strap.rootTx.rxNext = s.strap.crownTx.nextSeq)
    (hseen : rootSeen s = true) : (heldOut false none s).strap.crownTx.held = []
      ∧ ((heldOut false none s).strap.crownTx.unacked.map SentFrame.body) = [.fallbackSet k on, .fallbackSet p off]
      ∧ (heldOut false none s).strap.lanes.length = s.strap.lanes.length + 2
      ∧ (heldOut false none s).strap.rootTx.rxNext = s.strap.rootTx.rxNext + 2
      ∧ (heldOut false none s).strap.rootTx.held = s.strap.rootTx.held := by
  have hfirst : heldStep false none s = frameOut (fallbackHeld k on) true (withHeld [fallbackHeld p off] s) :=
    heldStep_out none hheld (by rw [hnone]; decide)
  have hone := fallbackOut k on (s := withHeld [fallbackHeld p off] s) hseq hseen
  rw [← hfirst] at hone
  generalize hy : heldStep false none s = y at hone
  have hsent : y.strap.crownTx.unacked = s.strap.crownTx.unacked ++ [fallbackFrame k on s.strap.crownTx] :=
    congrArg Window.unacked hone.crown
  have hnext : y.strap.crownTx.nextSeq = s.strap.crownTx.nextSeq + 1 := congrArg Window.nextSeq hone.crown
  have hsecond : heldStep false none y = frameOut (fallbackHeld p off) true (withHeld [] y) :=
    heldStep_out none (congrArg Window.held hone.crown) (by simp [hsent, hnone])
  have htwo := fallbackOut p off (s := withHeld [] y) (hone.next.trans ((congrArg (· + 1) hseq).trans hnext.symm))
    (hone.seen.trans hseen)
  rw [← hsecond] at htwo
  have hidle : (strapEnd false (heldStep false none (heldStep false none s))).held = [] := by
    rw [hy]
    exact congrArg Window.held htwo.crown
  rw [heldOut_twice hidle, hy, htwo.crown, htwo.lanes, htwo.next, htwo.held, laneInsert_length]
  refine ⟨rfl, ?_, ?_, ?_, hone.held⟩
  · have hbodies : (windowSent (fallbackFrame p off (withHeld [] y).strap.crownTx) (withHeld [] y).strap.crownTx).unacked
        = y.strap.crownTx.unacked ++ [fallbackFrame p off (withHeld [] y).strap.crownTx] := rfl
    rw [hbodies, hsent, hnone]
    rfl
  · exact congrArg (· + 1) ((congrArg List.length hone.lanes).trans (laneInsert_length _ _))
  · exact (congrArg (· + 1) hone.next).trans (BitVec.add_assoc _ 1 1)

/-- A FALLBACK_SET that waited goes out before the later one. -/
theorem fallbackSet_behind {k : Fin 8} {on : Bool} (hmay : frameMay (.fallbackSet p off) s = true)
    (hroot : s.strap.rootTx.held = []) (hnone : s.strap.crownTx.unacked = [])
    (hseq : s.strap.crownTx.nextSeq = s.strap.rootTx.rxNext) (hheld : s.strap.crownTx.held = [fallbackHeld k on]) :
    ∃ t, exec (.fallbackSet p off) s = .next t ∧ t.strap.crownTx.held = []
      ∧ (t.strap.crownTx.unacked.map SentFrame.body) = [.fallbackSet k on, .fallbackSet p off]
      ∧ t.strap.lanes.length = 2 ∧ t.strap.rootTx.rxNext = s.strap.rootTx.rxNext + 2 := by
  have hwait : holdFrame (fallbackHeld p off) s.strap.crownTx.held = [fallbackHeld k on, fallbackHeld p off] := by
    rw [hheld]; rfl
  obtain ⟨hout, hbodies, hlanes, hnext, hroot'⟩ := fallbackPair p off (k := k) (on := on)
    (s := withHeld [fallbackHeld k on, fallbackHeld p off] (laneBegin s)) rfl hnone hseq.symm (fallbackSet_may p off hmay)
  refine ⟨_, fallbackSet_exec p off hmay, ?_⟩
  rw [finish_strap, hwait, heldOut_idle (up := true) (hroot'.trans hroot)]
  exact ⟨hout, hbodies, hlanes, hnext⟩

/-- The acknowledgement of the frame on its way makes room for the FALLBACK_SET that waited. -/
theorem ack_makesRoom {a : State} {f : SentFrame} {q : BitVec 4} (hheld : a.strap.crownTx.held = [fallbackHeld p off])
    (hsent : a.strap.crownTx.unacked = [f]) (hseq : hdrSeq f.hdr = q) (hnext : a.strap.crownTx.nextSeq = q + 1)
    (hrx : a.strap.rootTx.rxNext = q + 1) (hseen : rootSeen a = true) : ∃ t, exec (.ack true) a = .next t
      ∧ t.strap.crownTx.held = [] ∧ t.strap.holds[p].fallbackOff = off ∧ t.strap.rootTx.rxNext = q + 2
      ∧ (t.strap.crownTx.unacked.map SentFrame.body) = [.fallbackSet p off] := by
  have hlast : a.strap.rootTx.rxNext - 1 = q := by rw [hrx, BitVec.add_sub_cancel]
  obtain ⟨y, hy⟩ : ∃ y, y = ackLaid (laneBegin a) := ⟨_, rfl⟩
  have hstrap : y.strap.crownTx = a.strap.crownTx ∧ y.strap.rootTx.rxNext = q + 1 ∧ rootSeen y = true := by
    rw [hy]
    exact ⟨rfl, hrx, hseen⟩
  obtain ⟨hcrown, hrx', hseen'⟩ := hstrap
  obtain ⟨due, shown, htake⟩ := ackTake_crown q y
  have hthrough : (ackSplit q y.strap.crownTx.unacked).2 = [] := by rw [hcrown, hsent, ackSplit_single hseq]
  have hexec : exec (.ack true) a = .next (finish a (heldOut false none (ackTake true q y))) := by
    rw [ack_exec, hlast, hy]
  rw [hthrough] at htake
  rw [htake] at hexec
  obtain ⟨z, hz⟩ : ∃ z, z = { y with strap := { y.strap with
    crownTx := { y.strap.crownTx with unacked := [] }, fallbackDue := due, fallbackAck := shown } } := ⟨_, rfl⟩
  rw [← hz] at hexec
  have hzcrown : z.strap.crownTx = { a.strap.crownTx with unacked := [] } := by rw [hz, ← hcrown]
  have hzrx : z.strap.rootTx.rxNext = q + 1 := by rw [hz]; exact hrx'
  have hzseen : rootSeen z = true := by rw [hz]; exact hseen'
  have hpassed := fallbackAlone p off (s := z) (by rw [hzcrown]; exact hheld) (by rw [hzcrown]; exact Nat.zero_lt_succ 7)
    (by rw [hzrx, hzcrown]; exact hnext.symm) hzseen
  refine ⟨_, hexec, ?_⟩
  rw [finish_strap, hpassed.crown, hpassed.hold, hpassed.next]
  refine ⟨rfl, rfl, ?_, ?_⟩
  · exact (congrArg (· + 1) hzrx).trans (BitVec.add_assoc _ 1 1)
  · have hbodies : (withHeld [] z).strap.crownTx.unacked = [] := congrArg Window.unacked hzcrown
    simp only [windowSent, hbodies]
    rfl

/-! ### Frames that are discarded (R201) and sent again (R203) -/

theorem badFrame_lost {line : StrapLine} (hbad : frameBad false line = true)
    (hmay : frameMay (.fallbackSet p off) s = true) (hidle : noneHeld s) (hroom : s.strap.crownTx.unacked.length < 8) :
    ∃ t, exec (.strapFrameBad false line (some (.fallbackSet p off))) s = .next t
      ∧ t.strap.holds = s.strap.holds ∧ t.strap.rootTx = s.strap.rootTx ∧ t.strap.rootErrs = bump 12 s.strap.rootErrs
      ∧ t.strap.crownTx.unacked.length = s.strap.crownTx.unacked.length + 1 := by
  obtain ⟨hheld, hroot⟩ := hidle
  have hone : holdFrame (fallbackHeld p off) s.strap.crownTx.held = [fallbackHeld p off] := by rw [hheld]; rfl
  have hstep : heldStep false (some (.fallbackSet p off)) (withHeld [fallbackHeld p off] (laneBegin s)) =
      frameOut (fallbackHeld p off) false (withHeld [] (laneBegin s)) := by
    rw [heldStep_out (s := withHeld [fallbackHeld p off] (laneBegin s)) _ rfl hroom]
    exact congrArg (frameOut _ · _) (decide_eq_false fun h => h rfl)
  have hlost : heldOut false (some (.fallbackSet p off)) (withHeld [fallbackHeld p off] (laneBegin s)) =
      frameOut (fallbackHeld p off) false (withHeld [] (laneBegin s)) := by
    rw [heldOut_once (by rw [hstep]; rfl), hstep]
  have hsend : frameSend (.fallbackSet p off) false (laneBegin s) =
      frameOut (fallbackHeld p off) false (withHeld [] (laneBegin s)) := by
    rw [frameSend_down false rfl (s := laneBegin s) hmay rfl]
    exact (congrArg (fun l => heldOut true none (heldOut false _ (withHeld l _))) hone).trans <|
      (congrArg (heldOut true none) hlost).trans (heldOut_idle (up := true) hroot)
  have hexec : exec (.strapFrameBad false line (some (.fallbackSet p off))) s = .next (finish s
      { frameSend (.fallbackSet p off) false (laneBegin s) with strap :=
        { (frameSend (.fallbackSet p off) false (laneBegin s)).strap with
          rootErrs := bump 12 (frameSend (.fallbackSet p off) false (laneBegin s)).strap.rootErrs, goodHb := 0 } }) := by
    have hgo : ¬ (!frameBad false line) = true := by rw [hbad]; exact Bool.false_ne_true
    exact congrArg (complete s) (if_neg hgo)
  refine ⟨_, hexec, ?_⟩
  rw [finish_strap, hsend, fallbackLost]
  exact ⟨rfl, rfl, rfl, List.length_append⟩

theorem badFrame_good {atCrown : Bool} {line : StrapLine} (sent : Option StrapBody) (hgood : frameBad atCrown line = false) :
    ∃ t, exec (.strapFrameBad atCrown line sent) s = .next t ∧ t.strap = { s.strap with lanes := [] } := by
  have hgo : (!frameBad atCrown line) = true := by rw [hgood]; rfl
  exact ⟨_, congrArg (complete s) (if_pos hgo), finish_strap s _⟩

theorem badFrame_crown {line : StrapLine} (hbad : frameBad true line = true) (hruns : crownRuns s = true) :
    ∃ t, exec (.strapFrameBad true line none) s = .next t
      ∧ t.strap = { s.strap with rxCrown := bump 12 s.strap.rxCrown, lanes := [] } := by
  have hgo : ¬ (!frameBad true line) = true := by rw [hbad]; exact Bool.false_ne_true
  exact ⟨_, congrArg (complete s) ((if_neg hgo).trans (if_pos hruns)), finish_strap s _⟩

theorem badFrame_root {line : StrapLine} (hbad : frameBad false line = true) :
    ∃ t, exec (.strapFrameBad false line none) s = .next t
      ∧ t.strap = { s.strap with rootErrs := bump 12 s.strap.rootErrs, goodHb := 0, lanes := [] } := by
  have hgo : ¬ (!frameBad false line) = true := by rw [hbad]; exact Bool.false_ne_true
  exact ⟨_, congrArg (complete s) (if_neg hgo), finish_strap s _⟩

/-- A FALLBACK_SET that was lost takes effect once it is sent again. -/
theorem sendAgain_fallback {a : State} {f : SentFrame} (hsent : a.strap.crownTx.unacked = [f])
    (hbody : f.body = .fallbackSet p off) (hseq : hdrSeq f.hdr = a.strap.rootTx.rxNext) (hseen : rootSeen a = true) :
    ∃ t, exec (.strapRetransmit true) a = .next t
      ∧ t.strap.holds[p] = { a.strap.holds[p] with fallbackOff := off }
      ∧ t.strap.rootTx.rxNext = a.strap.rootTx.rxNext + 1 ∧ t.strap.rootTx.ackDue = true := by
  obtain ⟨y, hy⟩ : ∃ y, y = { laneBegin a with strap := { (laneBegin a).strap with
    retx := a.strap.crownTx.unacked.foldl (fun c _ => bump 16 c) a.strap.retx } } := ⟨_, rfl⟩
  have hexec : exec (.strapRetransmit true) a = .next (finish a (a.strap.crownTx.unacked.foldl
      (fun s f => frameArrives f (lanePut false f.hdr f.payload s)) y)) := by rw [hy]; rfl
  obtain ⟨u, o, harrives⟩ := fallbackArrives p off (s := y) (c := y.strap.crownTx) (r := y.strap.rootTx)
    (l := laneInsert { toCrown := false, hdr := f.hdr, chars := f.payload.map (frameChars f.hdr) } y.strap.lanes)
    (o := y.power.refoscReport) hbody (by rw [hy]; exact hseq) (by rw [hy]; exact hseen)
  rw [hsent, List.foldl_cons, List.foldl_nil] at hexec
  have hlaid : lanePut false f.hdr f.payload y = inTransit y.strap.crownTx y.strap.rootTx
      (laneInsert { toCrown := false, hdr := f.hdr, chars := f.payload.map (frameChars f.hdr) } y.strap.lanes)
      y.power.refoscReport y := rfl
  refine ⟨_, hexec, ?_⟩
  rw [finish_strap, hlaid, harrives, setFallback_hold]
  have hholds : y.strap.holds = a.strap.holds := by rw [hy]; rfl
  have hrx : y.strap.rootTx.rxNext = a.strap.rootTx.rxNext := by rw [hy]; rfl
  exact ⟨congrArg (fun v : Vector HoldPort 8 => { v[p] with fallbackOff := off }) hholds, congrArg (· + 1) hrx, rfl⟩

end

end

end Sys2Proof.Machine
end

section
/-! PROOFS. Root's loose frames and its report of an incomplete load (R200, R202, R210): what STATS, METRO and PORT_RSP leave. -/

namespace Sys2Proof.Machine

section
variable {s : State}

/-! ### METRO and STATS -/

/-- The frame of TYPE `ty` that Root puts on the lanes, with the acknowledgement that it owes. -/
def looseLane (ty : Nat) (s : State) : LaneFrame :=
  { toCrown := true, hdr := frameHeader ty 0 0 (ackOwed s.strap.rootTx), chars := none }

/-- That frame laid, its acknowledgement sent. -/
def looseLaid (ty : Nat) (s : State) : State :=
  { s with strap := { s.strap with lanes := [looseLane ty s], rootTx := { s.strap.rootTx with ackDue := false } } }

theorem looseFrame_eq (ty : Nat) (s : State) : looseFrame ty (laneBegin s) =
    beatFlush true (ackTakeOpt true (ackOwed s.strap.rootTx) (looseLaid ty s)) := rfl

theorem looseFrame_laid (ty : Nat) (hheld : s.strap.crownTx.held = []) : ∃ unacked due shown,
    looseFrame ty (laneBegin s) = { looseLaid ty s with strap := { (looseLaid ty s).strap with
      crownTx := { s.strap.crownTx with unacked := unacked }, fallbackDue := due, fallbackAck := shown } } := by
  obtain ⟨unacked, due, shown, htake⟩ := ackTakeOpt_atCrown (ackOwed s.strap.rootTx) (looseLaid ty s)
  refine ⟨unacked, due, shown, ?_⟩
  rw [looseFrame_eq, htake]
  exact beatFlush_idle hheld

theorem stats_exec (lane : Byte) (hseen : rootSeen s = true) : exec (.stats lane) s = .next (finish s
    { looseFrame 0xF (laneBegin s) with strap := { (looseFrame 0xF (laneBegin s)).strap with
      rxRoot := { n := (looseFrame 0xF (laneBegin s)).strap.rootErrs.n
                  sat := (looseFrame 0xF (laneBegin s)).strap.rxRoot.sat || (looseFrame 0xF (laneBegin s)).strap.rootErrs.sat }
      laneRate := lane.toNat } }) := congrArg (complete s) (if_pos hseen)

theorem stats_gives (lane : Byte) (hseen : rootSeen s = true) (hidle : noneHeld s) :
    ∃ t, exec (.stats lane) s = .next t ∧ t.strap.rootTx.ackDue = false ∧ t.strap.lanes = [looseLane 0xF s]
      ∧ t.strap.rxRoot.n = s.strap.rootErrs.n ∧ t.strap.laneRate = lane.toNat := by
  obtain ⟨unacked, due, shown, hlaid⟩ := looseFrame_laid 0xF hidle.1
  refine ⟨_, stats_exec lane hseen, ?_⟩
  rw [finish_strap, hlaid]
  exact ⟨rfl, rfl, rfl, rfl⟩

theorem stats_unseen (lane : Byte) (hseen : rootSeen s = false) :
    ∃ t, exec (.stats lane) s = .next t ∧ t.strap = { s.strap with lanes := [] } :=
  ⟨_, congrArg (complete s) (if_neg (Bool.eq_false_iff.mp hseen)), finish_strap s _⟩

/-- A port's reading as Root's last sample. -/
def sampled (p : Fin 8) (s : State) : State := modMetro p (fun m => { m with stale := false }) s

theorem onPorts_sampled (ports : List (Fin 8)) (s : State) (p : Fin 8) : portMetro (onPorts ports sampled s) p =
    if p ∈ ports then { portMetro s p with stale := false } else portMetro s p := by
  induction ports generalizing s with
  | nil => rfl
  | cons k ports ih =>
    have hstep : onPorts (k :: ports) sampled s = onPorts ports sampled (sampled k s) := rfl
    rw [hstep, ih]
    by_cases hk : p = k
    · subst hk
      have hown : portMetro (sampled p s) p = { portMetro s p with stale := false } := portMetro_modMetro s p _
      simp [hown]
    · have hother : portMetro (sampled k s) p = portMetro s p := (modMetro_onPort s k _).metro hk
      simp [hother, hk]

theorem metroSamples_metro (ports : List (Fin 8)) (s : State) (p : Fin 8) : portMetro (metroSamples ports s) p =
    if ports.length ≤ 9 ∧ p ∈ ports then { portMetro s p with stale := false } else portMetro s p := by
  unfold metroSamples
  by_cases hmany : 9 < ports.length
  · rw [if_pos hmany, if_neg fun h => absurd h.1 (by omega)]
  · have hfew : ports.length ≤ 9 := by omega
    simp only [if_neg hmany, hfew, true_and]
    exact onPorts_sampled ports s p

theorem metroSamples_strap (ports : List (Fin 8)) (s : State) : (metroSamples ports s).strap = s.strap := by
  unfold metroSamples
  split
  · rfl
  · exact onPorts_keeps (P := fun x => x.strap = s.strap) (f := sampled) (fun _ _ hx => hx) ports rfl

theorem metroFrame_gives (ports : List (Fin 8)) (p : Fin 8) (hseen : rootSeen s = true) (hidle : noneHeld s) :
    ∃ t, exec (.metroFrame ports) s = .next t ∧ t.strap.rootTx.ackDue = false ∧ t.strap.lanes = [looseLane 0xE s]
      ∧ portMetro t p = (if ports.length ≤ 9 ∧ p ∈ ports then { portMetro s p with stale := false } else portMetro s p) := by
  obtain ⟨unacked, due, shown, hlaid⟩ := looseFrame_laid 0xE hidle.1
  have hports : portMetro (looseFrame 0xE (laneBegin s)) p = portMetro s p := by rw [hlaid]; rfl
  refine ⟨_, congrArg (complete s) (if_pos hseen), ?_⟩
  rw [finish_strap, finish_portMetro, metroSamples_strap, metroSamples_metro, hports, hlaid]
  exact ⟨rfl, rfl, rfl⟩

theorem metroFrame_unseen (ports : List (Fin 8)) (p : Fin 8) (hseen : rootSeen s = false) :
    ∃ t, exec (.metroFrame ports) s = .next t ∧ portMetro t p = portMetro s p ∧ t.strap = { s.strap with lanes := [] } :=
  ⟨_, congrArg (complete s) (if_neg (Bool.eq_false_iff.mp hseen)), finish_portMetro s _ p, finish_strap s _⟩

/-! ### A frame on its way to Crown -/

/-- A state with other windows, other lanes and other fallbacks shown. -/
def atCrown (c r : Window) (l : List LaneFrame) (due : List (BitVec 4 × Fin 8 × Bool)) (shown : Byte) (s : State) : State :=
  { s with strap := { s.strap with crownTx := c, rootTx := r, lanes := l, fallbackDue := due, fallbackAck := shown } }

/-- The state is `s` with a frame that has reached Crown: nothing waits for room. -/
def ReachesCrown (s x : State) : Prop :=
  ∃ c r l due shown, x = atCrown c r l due shown s ∧ c.held = [] ∧ r.held = []

theorem ReachesCrown.idle {x : State} (h : ReachesCrown s x) : noneHeld x := by
  obtain ⟨c, r, l, due, shown, rfl, hcrown, hroot⟩ := h
  exact ⟨hcrown, hroot⟩

variable {b : StrapBody}

/-- Root's window with the one frame that waits there. -/
def rootHolds (l : List (StrapBody × Option (List Byte))) (s : State) : State :=
  setEnd true { s.strap.rootTx with held := l } s

/-- A frame toward Crown that is the next in order takes its effect there. -/
theorem frameOut_crown (payload : Option (List Byte)) (hup : towardCrown b = true) (hruns : crownUp s = true)
    (hidle : noneHeld s) (hseq : s.strap.rootTx.nextSeq = s.strap.crownTx.rxNext) :
    ∃ x, ReachesCrown s x ∧ frameOut (b, payload) true s = frameEffect s.strap.crownTx.rxNext b x := by
  obtain ⟨f, hf⟩ : ∃ f, f = sentFrame b payload s.strap.rootTx := ⟨_, rfl⟩
  have hhdr : hdrSeq f.hdr = s.strap.crownTx.rxNext := by
    rw [hf]
    exact (hdrSeq_frameHeader _ _ _ _).trans hseq
  obtain ⟨y, hy⟩ : ∃ y, y = lanePut true f.hdr payload (setEnd true (windowSent f s.strap.rootTx) s) := ⟨_, rfl⟩
  have hout : frameOut (b, payload) true s = frameArrives f y := by
    rw [hy, hf]
    unfold frameOut
    simp only [hup]
    rfl
  have hbody : f.body = b := by rw [hf]; rfl
  have hruns' : crownUp y = true := by rw [hy]; exact hruns
  obtain ⟨unacked, due, shown, htake⟩ := ackTakeOpt_atCrown (hdrAck f.hdr) y
  have harrives : frameArrives f y = frameEffect s.strap.crownTx.rxNext b (atCrown
      { s.strap.crownTx with unacked := unacked, rxNext := s.strap.crownTx.rxNext + 1, ackDue := true }
      (windowSent f s.strap.rootTx) y.strap.lanes due shown s) := by
    unfold frameArrives
    simp only [hbody, hup, hruns', Bool.not_true, Bool.and_false, Bool.false_eq_true, if_false, htake, hhdr]
    rw [hy]
    exact if_pos rfl
  refine ⟨_, ⟨_, _, y.strap.lanes, due, shown, rfl, ?_, ?_⟩, hout.trans harrives⟩
  · exact hidle.1
  · exact hidle.2

/-- A frame toward Crown that goes: its receiver's part, on a state whose windows, lanes and shown fallbacks alone are
others. -/
theorem frameSend_crown (hup : towardCrown b = true) (hmay : frameMay b s = true) (hsent : frameSent b s = s)
    (hidle : noneHeld s) (hroom : s.strap.rootTx.unacked.length < 8)
    (hseq : s.strap.rootTx.nextSeq = s.strap.crownTx.rxNext) (hruns : crownUp s = true)
    (heffect : ∀ x, ReachesCrown s x → noneHeld (frameEffect s.strap.crownTx.rxNext b x)) :
    ∃ x, ReachesCrown s x ∧ frameSend b true s = frameEffect s.strap.crownTx.rxNext b x := by
  have hsend : frameSend b true s = heldOut false none (heldOut true none (rootHolds
      (holdFrame (b, strapPayload b s) s.strap.rootTx.held) s)) := by
    unfold frameSend
    rw [hmay, hsent]
    simp only [hup]
    rfl
  have hone : holdFrame (b, strapPayload b s) s.strap.rootTx.held = [(b, strapPayload b s)] := by rw [hidle.2]; rfl
  have hnone : rootHolds [] s = s := by
    rw [rootHolds, ← hidle.2]
    rfl
  obtain ⟨x, hx, hout⟩ := frameOut_crown (strapPayload b s) hup hruns hidle hseq
  have hstep : heldStep true none (rootHolds [(b, strapPayload b s)] s) = frameEffect s.strap.crownTx.rxNext b x := by
    have hgo : heldStep true none (rootHolds [(b, strapPayload b s)] s) = if s.strap.rootTx.unacked.length < 8 then
        frameOut (b, strapPayload b s) true (rootHolds [] s) else rootHolds [(b, strapPayload b s)] s := rfl
    rw [hgo, if_pos hroom, hnone, hout]
  obtain ⟨hcrown, hroot⟩ := heffect x hx
  have hfirst : heldOut true none (rootHolds [(b, strapPayload b s)] s) = frameEffect s.strap.crownTx.rxNext b x := by
    rw [heldOut_once (by rw [hstep]; exact hroot), hstep]
  refine ⟨x, hx, ?_⟩
  rw [hsend, hone, hfirst]
  exact heldOut_idle (up := false) hcrown

/-! ### PORT_RSP of an incomplete load (R210) -/

/-- The one repeat of the load, told in its entry. -/
def loadRetried (off : Nat) (s : State) : State :=
  emit (devEv 0x0D06 4 (le 2 off)) { s with strap := { s.strap with loadFailed := none, retried := true } }

theorem portRsp_first {off : Nat} (hfailed : s.strap.loadFailed = some off) (hphase : s.boot.phase = .rootLoad)
    (hfirst : s.strap.retried = false) : portRsp s = loadRetried off s := by
  unfold portRsp
  rw [hfailed]
  simp [hphase, hfirst, loadRetried]

/-- A second incomplete load, before the slot is refused. -/
def loadGone (s : State) : State := { s with strap := { s.strap with loadFailed := none } }

theorem portRsp_second (hfailed : s.strap.loadFailed.isSome = true) (hphase : s.boot.phase = .rootLoad)
    (hsecond : s.strap.retried = true) : portRsp s = refuseRoot 7 (loadGone s) := by
  obtain ⟨off, hoff⟩ := Option.isSome_iff_exists.mp hfailed
  unfold portRsp
  rw [hoff]
  simp [hphase, hsecond, loadGone]

/-- A slot refused by its Root code: Strap's reason stands, and the windows as they are. -/
theorem refuseRoot_strap (k : Nat) (x : State) : (refuseRoot k x).strap.rootReason = BitVec.ofNat 4 k
    ∧ (refuseRoot k x).strap.crownTx = x.strap.crownTx ∧ (refuseRoot k x).strap.rootTx = x.strap.rootTx := by
  obtain ⟨y, hy⟩ : ∃ y, y = { x with strap := { x.strap with rootReason := BitVec.ofNat 4 k } } := ⟨_, rfl⟩
  have hrefuse : refuseRoot k x = refuseSlot 0x0E (rootFailFirst k) y := by rw [hy]; rfl
  rw [hrefuse]
  cases hboot : y.boot.second with
  | false =>
    obtain ⟨-, -, hstrap⟩ := refuseSlot_first y 0x0E (rootFailFirst k) hboot
    rw [hstrap, hy]
    exact ⟨rfl, rfl, rfl⟩
  | true =>
    obtain ⟨hkept, -, hstrap⟩ := slotDropped_keeps y 0x0E
    have hcore := (limpEnter_work (slotGone 0x0E (slotDropped 0x0E y)) 0x0E).strap
    rw [refuseSlot_eq, if_pos (by rw [hkept]; exact hboot)]
    generalize limpEnter 0x0E _ = t at hcore
    have hbegun : (limpBegun (slotGone 0x0E (slotDropped 0x0E y))).strap = { (slotDropped 0x0E y).strap with
      codeRunning := false, params := false, loadData := [], loadFailed := none } := rfl
    rw [hbegun, hstrap, hy] at hcore
    have hreason := congrArg Strap.rootReason hcore
    have hcrown := congrArg Strap.crownTx hcore
    have hroot := congrArg Strap.rootTx hcore
    exact ⟨hreason, hcrown, hroot⟩

theorem refuseRoot_boot (k : Nat) (x : State) : ((refuseRoot k x).boot.phase = .fetch ∨ (refuseRoot k x).boot.phase = .limp)
    ∧ (x.boot.second = false → (refuseRoot k x).boot.slot = 1 - x.boot.slot) := by
  obtain ⟨y, hy⟩ : ∃ y, y = { x with strap := { x.strap with rootReason := BitVec.ofNat 4 k } } := ⟨_, rfl⟩
  have hrefuse : refuseRoot k x = refuseSlot 0x0E (rootFailFirst k) y := by rw [hy]; rfl
  have hsame : y.boot = x.boot := by rw [hy]
  rw [hrefuse, ← hsame]
  cases hboot : y.boot.second with
  | false =>
    obtain ⟨hnext, -, -⟩ := refuseSlot_first y 0x0E (rootFailFirst k) hboot
    rw [hnext]
    exact ⟨.inl rfl, fun _ => rfl⟩
  | true =>
    obtain ⟨⟨now, hlimp⟩, -⟩ := refuseSlot_second y 0x0E (rootFailFirst k) hboot
    rw [hlimp]
    exact ⟨.inr rfl, fun h => Bool.noConfusion h⟩

theorem portRsp_idle {x : State} (h : noneHeld x) : noneHeld (portRsp x) := by
  unfold portRsp
  split
  · exact h
  · split
    · exact h
    · dsimp only
      split
      · obtain ⟨-, hcrown, hroot⟩ := refuseRoot_strap 7 (loadGone x)
        exact ⟨(congrArg Window.held hcrown).trans h.1, (congrArg Window.held hroot).trans h.2⟩
      · rw [noneHeld, emit_strap]
        exact h

/-- A PORT_RSP on its way: what it leads to at Crown. -/
theorem portRsp_sent {p : Fin 8} (hgoes : frameGoes (.portRsp p) s) :
    ∃ x, ReachesCrown (laneBegin s) x ∧ exec (.portRsp p) s = .next (finish s (portRsp x)) := by
  obtain ⟨hmay, hidle, hroom, hseq, hruns⟩ := hgoes
  have heffect : ∀ x, ReachesCrown (laneBegin s) x →
      frameEffect (laneBegin s).strap.crownTx.rxNext (.portRsp p) x = portRsp x := by
    rintro x ⟨c, r, l, due, shown, rfl, -, -⟩
    exact if_pos hmay
  obtain ⟨x, hx, hsend⟩ := frameSend_crown (s := laneBegin s) (b := .portRsp p) rfl hmay rfl hidle hroom hseq
    (hruns rfl) fun x hx => by rw [heffect x hx]; exact portRsp_idle hx.idle
  refine ⟨x, hx, ?_⟩
  have hexec : exec (.portRsp p) s = .next (finish s (frameSend (.portRsp p) true (laneBegin s))) := rfl
  rw [hexec, hsend, heffect x hx]

theorem portRsp_retries {p : Fin 8} {off : Nat} (hfailed : s.strap.loadFailed = some off)
    (hgoes : frameGoes (.portRsp p) s) (hphase : s.boot.phase = .rootLoad) (hfirst : s.strap.retried = false)
    (hraised : s.raised = []) : ∃ t, exec (.portRsp p) s = .next t ∧ t.strap.retried = true ∧ t.strap.loadFailed = none
      ∧ t.boot = s.boot ∧ logged (devEv 0x0D06 4 (le 2 off)) s t := by
  obtain ⟨x, ⟨c, r, l, due, shown, rfl, -, -⟩, hexec⟩ := portRsp_sent hgoes
  obtain ⟨x, hx⟩ : ∃ x, x = atCrown c r l due shown (laneBegin s) := ⟨_, rfl⟩
  have hkept : x.boot = s.boot ∧ x.time = s.time ∧ x.ring = s.ring ∧ x.raised = [] ∧ x.strap.loadFailed = some off
      ∧ x.strap.retried = false := by
    rw [hx]
    exact ⟨rfl, rfl, rfl, hraised, hfailed, hfirst⟩
  obtain ⟨hboot, htime, hring, hquiet, hfailed', hfirst'⟩ := hkept
  rw [← hx, portRsp_first hfailed' (by rw [hboot]; exact hphase) hfirst'] at hexec
  have hup : crownUp { x with strap := { x.strap with loadFailed := none, retried := true } } = true := by
    simp only [crownUp, hboot, hphase]
  have hone : (loadRetried off x).raised = [devEv 0x0D06 4 (le 2 off)] := by
    rw [loadRetried, emit, if_pos hup, hquiet]
    rfl
  refine ⟨_, hexec, ?_⟩
  rw [logged, finish_ring_one s _ hone, finish_strap, finish_boot, loadRetried, emit_strap, emit_boot, emit_time, emit_ring]
  exact ⟨rfl, rfl, hboot, by rw [htime, hring]⟩

theorem portRsp_refuses {p : Fin 8} (hfailed : s.strap.loadFailed.isSome = true) (hgoes : frameGoes (.portRsp p) s)
    (hphase : s.boot.phase = .rootLoad) (hsecond : s.strap.retried = true) : ∃ t, exec (.portRsp p) s = .next t
      ∧ t.strap.rootReason = 7 ∧ (t.boot.phase = .fetch ∨ t.boot.phase = .limp)
      ∧ (s.boot.second = false → t.boot.slot = 1 - s.boot.slot) := by
  obtain ⟨x, ⟨c, r, l, due, shown, rfl, -, -⟩, hexec⟩ := portRsp_sent hgoes
  obtain ⟨x, hx⟩ : ∃ x, x = atCrown c r l due shown (laneBegin s) := ⟨_, rfl⟩
  have hboot : x.boot = s.boot := by rw [hx]; rfl
  rw [← hx, portRsp_second (by rw [hx]; exact hfailed) (by rw [hboot]; exact hphase) (by rw [hx]; exact hsecond)] at hexec
  obtain ⟨hreason, -, -⟩ := refuseRoot_strap 7 (loadGone x)
  obtain ⟨hends, hslot⟩ := refuseRoot_boot 7 (loadGone x)
  have hgone : (loadGone x).boot = s.boot := hboot
  rw [hgone] at hslot
  refine ⟨_, hexec, ?_⟩
  rw [finish_strap, finish_boot]
  exact ⟨hreason, hends, hslot⟩

end

end Sys2Proof.Machine
end

section
/-! PROOFS. RETRANSMITS (R203): a frame sent again is counted, and no frame that takes effect moves the count. -/

namespace Sys2Proof.Machine

/-- From `a` to `b` no frame of Crown's was counted as sent again. -/
@[simp] abbrev RetxKept (a b : State) : Prop := b.strap.retx = a.strap.retx

theorem PortWork.retx {a b : State} (h : PortWork a b) : RetxKept a b := congrArg (fun x : Kept => x.strap.retx) h.same

section
variable (s : State) (p : Fin 8)

theorem ite_retx_of {c : Prop} [Decidable c] {a b : State} (ha : RetxKept s a) (hb : RetxKept s b) :
    RetxKept s (if c then a else b) := by
  split
  · exact ha
  · exact hb

@[simp] theorem ite_retx {c : Prop} [Decidable c] (a b : State) :
    (if c then a else b).strap.retx = if c then a.strap.retx else b.strap.retx :=
  apply_ite (fun x : State => x.strap.retx) c a b

theorem modCc_retx (f : CcPort → CcPort) : RetxKept s (modCc p f s) := rfl
@[simp] theorem modHold_retx (f : HoldPort → HoldPort) : RetxKept s (modHold p f s) := rfl

@[simp] theorem foldl_retx {α : Type} {f : State → α → State} (hf : ∀ x a, RetxKept x (f x a)) (l : List α) :
    RetxKept s (l.foldl f s) :=
  List.foldlRecOn (motive := RetxKept s) l f rfl fun x hx a _ => (hf x a).trans hx

/-! ### Events, ports and messages -/

@[simp] theorem park_retx (e : Event) : RetxKept s (park e s) := by
  unfold park
  (repeat' split) <;> simp
@[simp] theorem emitSap_retx (e : Event) : RetxKept s (emitSap e s) := by simp [emitSap]
@[simp] theorem onPorts_retx {f : Fin 8 → State → State} (hf : ∀ q x, RetxKept x (f q x))
    (ps : List (Fin 8)) : RetxKept s (onPorts ps f s) :=
  onPorts_keeps (P := RetxKept s) (fun q x hx => (hf q x).trans hx) ps rfl
@[simp] theorem rootEv_retx (e : Event) : RetxKept s (rootEv e s) := by simp [rootEv]
@[simp] theorem rootEvents_retx : RetxKept s (rootEvents s) := by simp [rootEvents]
@[simp] theorem present_retx (t : CcTerm) : RetxKept s (present p t s) := (present_work _ _ _).retx
@[simp] theorem pdSendOn_retx (on : Sop) (m : PdMsg) : RetxKept s (pdSendOn p on m s) := (pdSendOn_work _ _ _ _).retx
@[simp] theorem pdSend_retx (m : PdMsg) : RetxKept s (pdSend p m s) := by simp [pdSend]
@[simp] theorem amsStart_retx (k : Byte) : RetxKept s (amsStart p k s) := (amsStart_work _ _ _).retx
@[simp] theorem amsEnd_retx : RetxKept s (amsEnd p s) := by simp [amsEnd]
@[simp] theorem amsSend_retx (k : Byte) (m : PdMsg) : RetxKept s (amsSend p k m s) := by simp [amsSend]
@[simp] theorem flashProgram_retx (addr : Nat) (bs : List Byte) : RetxKept s (flashProgram addr bs s) := rfl

/-! ### Leases and the queue of the Awl -/

@[simp] theorem eraseItem_retx (i : Fin 20) : RetxKept s (eraseItem i s) := (eraseItem_work _ _).retx
@[simp] theorem unwant_retx : RetxKept s (unwant p s) := rfl
@[simp] theorem unwantAll_retx : RetxKept s (unwantAll p s) := rfl
@[simp] theorem authClear_retx (st : AuthState) : RetxKept s (authClear st p s) := (authClear_work _ _ _).retx
@[simp] theorem authEnd_retx : RetxKept s (authEnd p s) := (authEnd_work _ _).retx
@[simp] theorem authStop_retx (st : AuthState) (reason : BitVec 4) : RetxKept s (authStop st reason p s) := by
  simp [authStop]
@[simp] theorem awlJoin_retx (u : AwlUnit) : RetxKept s (awlJoin u s) := by
  unfold awlJoin
  split <;> simp
@[simp] theorem awlQueue_retx (use : AwlUse) (needs output : Option (Fin 20)) :
    RetxKept s (awlQueue use needs output s) := by simp [awlQueue]

/-! ### Comparators and pulse generators -/

@[simp] theorem sapWake_retx (src : Nat) : RetxKept s (sapWake src s) := by simp [sapWake]
@[simp] theorem countNow_retx (n : Fin 8) : RetxKept s (countNow n s).2 := by simp [countNow, apply_ite Prod.snd]
@[simp] theorem captureAt_retx (code : Nat) (v : Half) (n : Fin 8) : RetxKept s (captureAt code v n s) := by
  simp [captureAt]
@[simp] theorem capture_retx (code : Nat) (n : Fin 8) : RetxKept s (capture code n s) := by simp [capture]
@[simp] theorem captureAll_retx (code : Nat) : RetxKept s (captureAll code s) := by simp [captureAll]
@[simp] theorem pgStop_retx (n : Fin 8) : RetxKept s (pgStop n s) := (pgStop_work _ _).retx
@[simp] theorem pgTrip_retx (n : Fin 8) : RetxKept s (pgTrip n s) := by simp [pgTrip]
@[simp] theorem cmpReport_retx (n : Fin 8) : RetxKept s (cmpReport n s) := (cmpReport_work _ _).retx
@[simp] theorem cmpLevel_retx (n : Fin 8) : RetxKept s (cmpLevel n s) := by simp [cmpLevel, cmpLatchSet, cmpWake]
@[simp] theorem cmpDeferred_retx : RetxKept s (cmpDeferred s) := (cmpDeferred_work _).retx
@[simp] theorem pgBegin_retx (n : Fin 8) : RetxKept s (pgBegin n s) := by simp [pgBegin, cmpPeriod]

/-! ### The CC lines, the power path and the group -/

@[simp] theorem evp_retx (code sev : Nat) (data : List Byte) : RetxKept s (evp p code sev data s) :=
  (evp_work _ _ _ _ _).retx
@[simp] theorem vconnOff_retx : RetxKept s (vconnOff p s) := (vconnOff_work _ _).retx
@[simp] theorem vconnTurnOn_retx : RetxKept s (vconnTurnOn p s) := rfl
@[simp] theorem setCcState_retx (st : CcState) : RetxKept s (setCcState p st s) := (setCcState_work _ _ _).retx
@[simp] theorem ccEvaluate_retx : RetxKept s (ccEvaluate p s) := (ccEvaluate_work _ _).retx
@[simp] theorem gatesLow_retx : RetxKept s (gatesLow p s) := (gatesLow_work _ _).retx
@[simp] theorem dischargeOn_retx : RetxKept s (dischargeOn p s) := (dischargeOn_work _ _).retx
@[simp] theorem gatesOff_retx : RetxKept s (gatesOff p s) := (gatesOff_work _ _).retx
@[simp] theorem gatesDark_retx : RetxKept s (gatesDark p s) := (gatesDark_work _ _).retx
@[simp] theorem setTarget_retx (mv : Nat) : RetxKept s (setTarget p mv s) := (setTarget_work _ _ _).retx
@[simp] theorem contractOver_retx : RetxKept s (contractOver p s) := (contractOver_work _ _).retx
@[simp] theorem setCode_retx (v : Int) : RetxKept s (setCode p v s) := (setCode_work _ _ _).retx
@[simp] theorem gcutOpen_retx (g : Fin 2) (cause : Nat) : RetxKept s (gcutOpen g cause s) := (gcutOpen_work _ _ _).retx
@[simp] theorem backfeedEnd_retx (cause : Nat) : RetxKept s (backfeedEnd p cause s) := (backfeedEnd_work _ _ _).retx
@[simp] theorem portLeave_retx (cause : Nat) : RetxKept s (portLeave p cause s) := (portLeave_work _ _ _).retx
@[simp] theorem groupAfterBackfeed_retx (g : Fin 2) : RetxKept s (groupAfterBackfeed g s) :=
  (groupAfterBackfeed_work _ _).retx
@[simp] theorem errorRecovery_retx : RetxKept s (errorRecovery p s) := (errorRecovery_work _ _).retx
@[simp] theorem tripCount_retx (code : Nat) : RetxKept s (tripCount p code s) := by simp [tripCount]
@[simp] theorem afterTrip_retx (code : Nat) : RetxKept s (afterTrip p code s) := by simp [afterTrip]
@[simp] theorem inrushFail_retx (vbusMv : Nat) : RetxKept s (inrushFail p vbusMv s) := by simp [inrushFail]
@[simp] theorem turnOn_retx : RetxKept s (turnOn p s) := by simp [turnOn, pgOwn]

/-! ### The PD engine: offers, resets and violations -/

@[simp] theorem setStep_retx (st : PdStep) : RetxKept s (setStep p st s) := (setStep_work _ _ _).retx
@[simp] theorem hushAmsEnd_retx : RetxKept s (hushAmsEnd p s) := by simp [hushAmsEnd]
@[simp] theorem hushEnd_retx : RetxKept s (hushEnd p s) := by
  unfold hushEnd
  split <;> simp
@[simp] theorem sendOffer_retx (own : Bool) (pdos : List Word) : RetxKept s (sendOffer p own pdos s) :=
  (sendOffer_work _ _ _ _).retx
@[simp] theorem sendCapsAs_retx (own : Bool) : RetxKept s (sendCapsAs p own s) := by simp [sendCapsAs]
@[simp] theorem sendCaps_retx : RetxKept s (sendCaps p s) := (sendCaps_work _ _).retx
@[simp] theorem authDrop_retx : RetxKept s (authDrop p s) := (authDrop_work _ _).retx
@[simp] theorem authAbandon_retx : RetxKept s (authAbandon p s) := by simp [authAbandon]
@[simp] theorem softResetWith_retx {give : Fin 8 → State → State} (hgive : ∀ q x, RetxKept x (give q x))
    (sent : Bool) : RetxKept s (softResetWith give p sent s) := by simp [softResetWith, hgive]
@[simp] theorem softReset_retx (sent : Bool) : RetxKept s (softReset p sent s) := by simp [softReset]
@[simp] theorem hardReset_retx (sent : Bool) (cause : Nat) : RetxKept s (hardReset p sent cause s) := by
  simp [hardReset]
@[simp] theorem answerA1_retx (m : Option PdMsg) : RetxKept s (answerA1 p m s) := by
  unfold answerA1
  split <;> simp
@[simp] theorem answerA2_retx (k : Nat) (m : Option PdMsg) : RetxKept s (answerA2 p k m s) := by
  rcases m with - | m
  · exact answerA1_retx s p none
  · cases m with
    | request _ | eprRequest _ _ | prSwap | drSwap | vconnSwap | frSwap | eprModeEnter => exact pdSend_retx s p _
    | _ => exact answerA1_retx s p _
@[simp] theorem violate_retx (k : Fin 24) (on : Sop) (m : Option PdMsg) : RetxKept s (violate p k on m s) := by
  unfold violate
  dsimp only
  split <;> simp
@[simp] theorem unexpected_retx (on : Sop) (m : PdMsg) : RetxKept s (unexpected p on m s) := by simp [unexpected]

/-! ### Authentication -/

@[simp] theorem pocketShort_retx (i : Fin 20) (cause : Nat) : RetxKept s (pocketShort i cause s) := by
  simp [pocketShort]
@[simp] theorem unauthenticated_retx : RetxKept s (unauthenticated p s) := rfl
@[simp] theorem authAsk_retx (kind : Fin 3) (offset len : Nat) : RetxKept s (authAsk p kind offset len s) := by
  simp [authAsk]
@[simp] theorem authBegin_retx : RetxKept s (authBegin p s) := by simp [authBegin, authLease]
@[simp] theorem authFail_retx (reason : BitVec 4) : RetxKept s (authFail p reason s) := by simp [authFail]
@[simp] theorem authResponse_retx (phase : Fin 3) (data : List Byte) (certs largest : Nat) (last : Bool) :
    RetxKept s (authResponse p phase data certs largest last s) := by
  unfold authResponse
  dsimp only
  split <;> simp
@[simp] theorem authAnswer_retx (kind : Fin 3) (offset len : Nat) (digest : List Byte) :
    RetxKept s (authAnswer p kind offset len digest s) := by
  unfold authAnswer
  (repeat' split) <;> simp

/-! ### The PD engine: messages -/

@[simp] theorem contractMade_retx : RetxKept s (contractMade p s) := by simp [contractMade]
@[simp] theorem amsOver_retx : RetxKept s (amsOver p s) := by simp [amsOver]
@[simp] theorem negotiationOver_retx : RetxKept s (negotiationOver p s) := by simp [negotiationOver]
@[simp] theorem answerWait_retx (pol : PdPolicy) : RetxKept s (answerWait p pol s) := by simp [answerWait]
@[simp] theorem onRequest_retx (m : PdMsg) (epr : Bool) (rdo : Word) (pol : PdPolicy) :
    RetxKept s (onRequest p m epr rdo pol s) := by
  unfold onRequest
  dsimp only
  (repeat' split) <;> simp
@[simp] theorem roleSwapEvent_retx (kind : Nat) : RetxKept s (roleSwapEvent p kind s) := by simp [roleSwapEvent]
@[simp] theorem onPrSwap_retx (m : PdMsg) (pol : PdPolicy) : RetxKept s (onPrSwap p m pol s) := by
  unfold onPrSwap
  dsimp only
  (repeat' split) <;> simp
@[simp] theorem hushLeave_retx : RetxKept s (hushLeave p s) := by simp [hushLeave]
@[simp] theorem drSwapped_retx : RetxKept s (drSwapped p s) := by simp [drSwapped]
@[simp] theorem onDrSwap_retx (m : PdMsg) (pol : PdPolicy) : RetxKept s (onDrSwap p m pol s) := by
  unfold onDrSwap
  dsimp only
  (repeat' split) <;> simp
@[simp] theorem onVconnSwap_retx (m : PdMsg) (pol : PdPolicy) : RetxKept s (onVconnSwap p m pol s) := by
  unfold onVconnSwap
  dsimp only
  (repeat' split) <;> simp
@[simp] theorem eprLeave_retx : RetxKept s (eprLeave p s) := by simp [eprLeave]
@[simp] theorem onPsRdy_retx (m : PdMsg) : RetxKept s (onPsRdy p m s) := by
  unfold onPsRdy
  split <;> simp [backfeedStart]
@[simp] theorem authAgain_retx (pol : PdPolicy) : RetxKept s (authAgain p pol s) := by simp [authAgain]
@[simp] theorem onAccept_retx (m : PdMsg) (pol : PdPolicy) : RetxKept s (onAccept p m pol s) := by
  unfold onAccept
  dsimp only
  split <;> simp
@[simp] theorem onTurnedDown_retx (m : PdMsg) : RetxKept s (onTurnedDown p m s) := by
  unfold onTurnedDown
  split <;> simp
@[simp] theorem onGoodCrc_retx (ordered : Sop) : RetxKept s (onGoodCrc p ordered s) := by
  unfold onGoodCrc
  dsimp only
  (repeat' split) <;> simp
@[simp] theorem onEprExit_retx (m : PdMsg) : RetxKept s (onEprExit p m s) := by simp [onEprExit]
@[simp] theorem onCable_retx (ordered : Sop) (c : CableInfo) : RetxKept s (onCable p ordered c s) := by simp [onCable]
@[simp] theorem onHushAck_retx (m : PdMsg) (header vdo : Word) : RetxKept s (onHushAck p m header vdo s) := by
  simp [onHushAck]
@[simp] theorem hushRefuse_retx (c : HushRefusal) : RetxKept s (hushRefuse p c s) := by simp [hushRefuse]
@[simp] theorem onSoftReset_retx (pol : PdPolicy) : RetxKept s (onSoftReset p pol s) := by simp [onSoftReset]
@[simp] theorem onSinkCaps_retx (frs : BitVec 2) (pol : PdPolicy) : RetxKept s (onSinkCaps p frs pol s) := by
  simp [onSinkCaps]
@[simp] theorem extAnswer_retx (m : PdMsg) : RetxKept s (extAnswer p m s) := by simp [extAnswer]
@[simp] theorem vdmAnswer_retx (m : PdMsg) {f : State → State} (hf : ∀ x, RetxKept x (f x)) :
    RetxKept s (vdmAnswer p m f s) := by simp [vdmAnswer, hf]
@[simp] theorem bistCarrierStart_retx : RetxKept s (bistCarrierStart p s) := rfl
@[simp] theorem onMessage_retx (m : PdMsg) (pol : PdPolicy) : RetxKept s (onMessage p m pol s) := by
  unfold onMessage
  split <;> simp [onSourceCaps, onFrSwap, onEprEnter]
@[simp] theorem messageOrWait_retx (m : PdMsg) (pol : PdPolicy) : RetxKept s (messageOrWait p m pol s) := by
  simp [messageOrWait]
@[simp] theorem pdReceive_retx (k : RxPacket) : RetxKept s (pdReceive p k s) := by
  unfold pdReceive
  (repeat' split) <;> simp
@[simp] theorem rxDeliver_retx : RetxKept s (rxDeliver p s) := by
  unfold rxDeliver
  split <;> simp
@[simp] theorem pdTransmit_retx : RetxKept s (pdTransmit p s) := by
  unfold pdTransmit
  (repeat' split) <;> simp

/-! ### Root alone, and what Crown takes up -/

@[simp] theorem takeFallback_retx : RetxKept s (takeFallback p s) := (takeFallback_work _ _).retx
@[simp] theorem fastTripEvent_retx (code measured : Nat) : RetxKept s (fastTripEvent p code measured s) := by
  simp [fastTripEvent]
@[simp] theorem rearmDeferred_retx : RetxKept s (rearmDeferred s) := (rearmDeferred_work _).retx
@[simp] theorem droopDeferred_retx : RetxKept s (droopDeferred s) := (droopDeferred_work s).retx
@[simp] theorem ccEvent_retx : RetxKept s (ccEvent p s) := by
  unfold ccEvent
  split <;> simp

/-! ### The loader -/

@[simp] theorem graftAppend_retx (kind arg value : Nat) : RetxKept s (graftAppend kind arg value s) := by
  simp [graftAppend]
@[simp] theorem graftFellBack_retx (cause : Nat) : RetxKept s (graftFellBack cause s) := by simp [graftFellBack]
@[simp] theorem limpEnter_retx (reason : Nat) : RetxKept s (limpEnter reason s) := (limpEnter_work _ _).retx
@[simp] theorem refuseSlot_retx (reason failFirst : Nat) : RetxKept s (refuseSlot reason failFirst s) := by
  simp [refuseSlot]
@[simp] theorem refuseRoot_retx (strapReason : Nat) : RetxKept s (refuseRoot strapReason s) := by simp [refuseRoot]

/-! ### Acknowledgements -/

@[simp] theorem setEnd_retx (toCrown : Bool) (w : Window) : RetxKept s (setEnd toCrown w s) := by simp [setEnd]
@[simp] theorem ackTake_retx (toCrown : Bool) (seq : BitVec 4) : RetxKept s (ackTake toCrown seq s) := by
  simp [ackTake]
@[simp] theorem ackTakeOpt_retx (toCrown : Bool) (a : Option (BitVec 4)) : RetxKept s (ackTakeOpt toCrown a s) := by
  unfold ackTakeOpt
  split <;> simp

/-! ### Restore (R225) -/

@[simp] theorem outcomeEvent_retx : RetxKept s (outcomeEvent p s) := (outcomeEvent_work _ _).retx
@[simp] theorem holdClear_retx : RetxKept s (holdClear p s) := (holdClear_work _ _).retx
@[simp] theorem rootReports_retx : RetxKept s (rootReports p s) := (rootReports_work _ _).retx
@[simp] theorem portResume_retx (boot : Bool) : RetxKept s (portResume p boot s) := (portResume_work _ _ _).retx
@[simp] theorem rootThresholds_retx : RetxKept s (rootThresholds s) := (rootThresholds_work s).retx
@[simp] theorem resyncEnd_retx : RetxKept s (resyncEnd s) := by
  have hidle : ∀ x : State,
      (onPorts allPorts (fun p s => modCc p (fun c => { c with hushStatus := .idle }) s) x).strap.retx = x.strap.retx :=
    fun x => onPorts_retx x (fun q y => modCc_retx y q _) _
  unfold resyncEnd
  dsimp only
  generalize hevents : rootEvents _ = told
  have hkept : told.strap.retx = s.strap.retx := by
    rw [← hevents]
    simp
  refine ite_retx_of s ?_ (ite_retx_of s ?_ hkept)
  · simp [hkept, hidle]
  · simp [hkept]

/-! ### Frames that take effect -/

@[simp] theorem rootGiveUp_retx : RetxKept s (rootGiveUp s) := by simp [rootGiveUp]
@[simp] theorem setFallback_retx (seq : BitVec 4) (off : Bool) : RetxKept s (setFallback seq p off s) := rfl
@[simp] theorem loadReceive_retx (offset : Half) : RetxKept s (loadReceive offset s) := by simp [loadReceive, loadEnd]
@[simp] theorem portRsp_retx : RetxKept s (portRsp s) := by
  unfold portRsp
  split <;> simp
@[simp] theorem rootTripEvent_retx (kind value : Nat) : RetxKept s (rootTripEvent p kind value s) := by
  unfold rootTripEvent
  split <;> simp
@[simp] theorem tripReceive_retx : RetxKept s (tripReceive p s) := by
  unfold tripReceive
  split <;> simp
@[simp] theorem alarmReceive_retx : RetxKept s (alarmReceive s) := by
  unfold alarmReceive
  split <;> simp
@[simp] theorem portCmd_retx (op : PortOp) : RetxKept s (portCmd p op s) := by
  unfold portCmd
  (repeat' split) <;> simp
@[simp] theorem frameEffect_retx (seq : BitVec 4) (b : StrapBody) : RetxKept s (frameEffect seq b s) := by
  unfold frameEffect
  split <;> simp [resyncPort, paramsReceive]
@[simp] theorem frameArrives_retx (f : SentFrame) : RetxKept s (frameArrives f s) := by simp [frameArrives]

end

/-! ### Frames sent again -/

theorem retx_counts {α : Type} (l : List α) (c : EvCount) (h : c.n + l.length ≤ 65535) :
    l.foldl (fun c _ => bump 16 c) c = { c with n := c.n + l.length } := by
  induction l generalizing c with
  | nil => rfl
  | cons a l ih =>
    rw [List.length_cons] at h
    have hbump : bump 16 c = { c with n := c.n + 1 } := if_pos (by omega)
    rw [List.foldl_cons, hbump, ih _ (by simp only; omega), List.length_cons]
    simp only [Nat.add_assoc, Nat.add_comm 1]

theorem framesAgain_retx (up : Bool) (l : List SentFrame) (s : State) :
    RetxKept s (l.foldl (fun s f => frameArrives f (lanePut up f.hdr f.payload s)) s) :=
  foldl_retx s (f := fun s f => frameArrives f (lanePut up f.hdr f.payload s)) (fun _ f => frameArrives_retx _ f) l

theorem sendAgain_counted {s : State} (hroom : s.strap.retx.n + s.strap.crownTx.unacked.length ≤ 65535) :
    ∃ t, exec (.strapRetransmit true) s = .next t
      ∧ t.strap.retx = { s.strap.retx with n := s.strap.retx.n + s.strap.crownTx.unacked.length } := by
  refine ⟨_, rfl, ?_⟩
  rw [finish_strap, ← retx_counts s.strap.crownTx.unacked s.strap.retx hroom]
  exact framesAgain_retx false s.strap.crownTx.unacked _

theorem sendAgain_uncounted (s : State) :
    ∃ t, exec (.strapRetransmit false) s = .next t ∧ t.strap.retx = s.strap.retx := by
  refine ⟨_, rfl, ?_⟩
  rw [finish_strap]
  exact framesAgain_retx true s.strap.rootTx.unacked _

end Sys2Proof.Machine
end

section
/-! PROOFS. The Strap's frames and their counts: the statement of O12 from the lemmas above. -/

namespace Sys2Proof.Machine

/-- Settles O12: acknowledgements, frames that go, wait, are discarded and are sent again, and Root's reports. -/
theorem strapFrameCounts : Obligations.StrapFrameCounts :=
  ⟨fun _ => ackTrue_strap, fun _ => ackFalse_strap, fun p off _ => fallbackSet_goes p off,
    fun p off _ => fallbackSet_waits p off, fun p _ off _ _ => fallbackSet_behind p off,
    fun p off q _ _ hseen => ack_makesRoom p off rfl rfl (hdrSeq_frameHeader 0xB p.val q none) rfl rfl hseen,
    fun _ _ => badFrame_crown, fun _ _ => badFrame_root, fun p off _ _ => badFrame_lost p off,
    fun _ _ sent _ => badFrame_good sent, fun _ => sendAgain_counted, sendAgain_uncounted,
    fun p off q _ hseen => sendAgain_fallback p off rfl rfl (hdrSeq_frameHeader 0xB p.val q none) hseen,
    fun lane _ => stats_gives lane, fun lane _ => stats_unseen lane, fun ports p _ => metroFrame_gives ports p,
    fun ports p _ => metroFrame_unseen ports p, fun _ _ _ => portRsp_retries, fun _ _ => portRsp_refuses⟩

end Sys2Proof.Machine
end
